-- ==== Sys2Proof/Word.lean ====
section
/-! DEFINITION. The word types that software sees whole; everything the manual counts is a `Nat` or an `Int`. -/

namespace Sys2Proof

/-- One byte of a structure, a mailbox or a memory (R5). -/
abbrev Byte := BitVec 8

/-- A 32-bit register of BAR0 (R426). -/
abbrev Word := BitVec 32

end Sys2Proof
end

