-- ==== Sys2Proof/Syntax.lean ====
section
/-! DEFINITION. The commands of the block, one constructor per row of the table of operations and events, and the
operand types they carry. A request carries its header fields and its payload bytes; an event carries what the
outside world decides (a reading, a received frame, the bytes written). -/

namespace Sys2Proof

/-- A Vupor request (R421) as the control processor takes it from a session. The opcode is the row's. -/
structure Request where
  /-- system time in ps at which the control processor takes the request -/
  time : Nat := 0
  /-- the session that submitted it: 0 to 23 PCIe, 24 to 29 Ethernet, 30 and 31 SMBus (R416) -/
  sess : Nat := 0
  /-- header Length, offset 0x02 -/
  length : Nat := 32
  /-- header Tag, offset 0x04 -/
  tag : Nat := 0
  /-- header Session byte, offset 0x06 -/
  hsess : Nat := 0
  /-- the reserved header bytes 0x07 and 0x0A to 0x1F, read as one number -/
  resv : Nat := 0
  /-- header Generation, offset 0x08 -/
  gen : Nat := 0
  /-- source IPv4 address and UDP port of an Ethernet request (R434) -/
  peerIp : Nat := 0
  peerPort : Nat := 0
  /-- the bytes after the header -/
  payload : List Byte := []
deriving DecidableEq, Repr, Inhabited

/-- A write that reaches BAR0 or an SMBus mailbox block (R426, R437). `enables` are the byte enables, one per byte. -/
inductive RegWrite where
  | bar0 (offset : Nat) (bytes : List Byte) (enables : List Bool)
  | smbus (code offset : Nat) (bytes : List Byte) (pecGood : Bool)
deriving DecidableEq, Repr

/-- What the boot firmware finds in boot state 0 (R546). -/
inductive ImageCheck where
  | pass | digestFails | signatureFails
deriving DecidableEq, Repr

/-- One converted sample: the core's value before the gain and the offset of the weave, in 1/16 LSB, and whether the raw
conversion saturated, with its polarity (R113, R115). -/
structure Sample where
  value : Int
  satPos : Bool := false
  satNeg : Bool := false
deriving DecidableEq, Repr, Inhabited

/-- One input's frame as the clocked side deposits it: the woven samples, and in a seam frame the outgoing core's
samples at their places in the weave (R125, R126). -/
structure LaneFrame where
  samples : List Sample
  outgoing : List Sample := []
deriving DecidableEq, Repr, Inhabited

/-- What a rotation cycle or a foreground calibration measured on one core, numbered 3 n + c (R155):
the correction under which it goes live, the slices that fail their trim range or noise bound (R128), and the
figures it reports. -/
structure CoreTrim where
  core : Nat
  gain : Int := 0
  offset : Int := 0
  tap : Int := 0
  failing : List Nat := []
  trims : List (Int × Int) := []
  fromReference : Bool := false
  spur : Int := 0
  /-- input level in 1/16 LSB rms over the shadow interval of R120 step 2 -/
  level : Nat := 0
deriving DecidableEq, Repr, Inhabited

/-- What a fall of the rails leaves: memory, where its rails stayed in tolerance, and a torn record, where the store was
writing one (R70). -/
structure RailsLoss where
  memHeld : Bool
  torn : Bool := false
deriving DecidableEq, Repr, Inhabited

/-- The end of the start-up calibration: when, and the tables of the 18 interpolators, two to an edge source (R139). -/
structure StartupEnd where
  at_ : Nat
  tables : List (List Int) := []
deriving DecidableEq, Repr, Inhabited

/-- The raw readings of an interpolator for one edge (R237): two period measurements and the edge measurement. -/
structure EdgeReading where
  r1 : Nat
  r2 : Nat
  re : Nat
deriving DecidableEq, Repr, Inhabited

/-- A trigger frame on the trigger bus (R224, R478). -/
structure TrigMessage where
  module : Nat
  group : Nat
  index : Nat
  fraction : Nat
  code : Nat
  crc : Nat
deriving DecidableEq, Repr, Inhabited

/-- A slot frame of a Damux head (R309). `samples` is instant by instant, channel 0 first. -/
structure SlotFrame where
  position : Nat
  stream : Nat
  round : Nat
  firstTime : Nat
  count : Nat
  samples : List Int
  status : Nat
  ackSeq : Nat
  ackCode : Nat
  crcGood : Bool
  /-- the frame ends inside its window -/
  inWindow : Bool := true
deriving DecidableEq, Repr, Inhabited

/-- The descriptor of a discovery reply (R309). -/
structure HeadDescriptor where
  serial : Nat := 0
  model : Nat := 0
  channels : Nat := 0
  rates : Nat := 0
  alarmDelay : Nat := 0
  filterDelay : Nat := 0
  turnaround : Nat := 0
  firmware : Nat := 0
deriving DecidableEq, Repr, Inhabited

/-- A received PTP message (R382) with its hardware timestamp in TAI ns. -/
inductive PtpMessage where
  | announce (master : Nat) (quality : Nat)
  | sync (master : Nat) (seq : Nat) (twoStep : Bool) (origin arrival : Int)
  | followUp (master : Nat) (seq : Nat) (origin : Int)
  | delayResp (master : Nat) (seq : Nat) (received : Int)
deriving DecidableEq, Repr

/-- What a patrol-scrub read of the next line found (R394, R395). -/
inductive ScrubOutcome where
  | clean | corrected | uncorrectable
deriving DecidableEq, Repr

/-- The requester of a line that stays uncorrectable on the re-read (R396). -/
inductive Requester where
  | bar2 | engine (job : Nat) | drain (ph : Nat) | partialWrite | scrub | migration
deriving DecidableEq, Repr

/-- A sync frame as a member receives it (R474). -/
structure SyncFrame where
  crcGood : Bool
  markerInPlace : Bool
  flags : Nat
  leader : Nat
  count : Nat
  markerTick : Nat
  markerFrac : Nat
  epoch : Nat
  markerTime : Int
  coreRate : Nat
  members : Nat
  command : Nat
  groups : Nat
  checkSeq : Nat
  commandTick : Nat
  /-- (module ID, probe number, arrival in 1/16 tick) -/
  echoes : List (Nat × Nat × Nat)
deriving DecidableEq, Repr, Inhabited

/-- A report frame as the leader receives it (R478). -/
structure SyncReport where
  module : Nat
  checkSeq : Nat
  fwMajor : Nat
  fwMinor : Nat
  fwPatch : Nat
  boot : Nat
  bits : Nat
  epoch : Nat
  offset : Int
  delay : Nat
  digest : List Byte
  crcGood : Bool
deriving DecidableEq, Repr, Inhabited

/-- The commands: one constructor per row of the table of operations and events. A request row takes the request
as the control processor takes it (R420); every other row takes the system time, in ps, at which it happens. -/
inductive Instr where
  /-- SYS_OPEN_SESSION (R417). -/
  | sysOpenSession (q : Request)
  /-- SYS_CLOSE_SESSION (R418). -/
  | sysCloseSession (q : Request)
  /-- SYS_GET_IDENTITY (R451). -/
  | sysGetIdentity (q : Request)
  /-- SYS_GET_FABRIC (R35). -/
  | sysGetFabric (q : Request)
  /-- SYS_SET_MARGIN_FLOOR (R36). -/
  | sysSetMarginFloor (q : Request)
  /-- SYS_SET_VCORE_MODE (R63). -/
  | sysSetVcoreMode (q : Request)
  /-- SYS_GET_POWER (R454). -/
  | sysGetPower (q : Request)
  /-- SYS_SET_NETWORK (R432). -/
  | sysSetNetwork (q : Request)
  /-- SYS_CLEAR_FLAGS (R444). -/
  | sysClearFlags (q : Request)
  /-- SYS_RESTART (R536). -/
  | sysRestart (q : Request)
  /-- SYS_RESET_SUBSYSTEM (R539). -/
  | sysResetSubsystem (q : Request)
  /-- SYS_SET_POWER_STATE (R531). -/
  | sysSetPowerState (q : Request)
  /-- CLK_GET_STATUS (R108). -/
  | clkGetStatus (q : Request)
  /-- CLK_GET_OUTPUT (R445). -/
  | clkGetOutput (q : Request)
  /-- CLK_SET_OUTPUT (R91). -/
  | clkSetOutput (q : Request)
  /-- CLK_SET_REFERENCE (R81). -/
  | clkSetReference (q : Request)
  /-- CLK_SET_TIME_SOURCE (R85). -/
  | clkSetTimeSource (q : Request)
  /-- CLK_SET_TIME (R86). -/
  | clkSetTime (q : Request)
  /-- CLK_GET_PPS (R84). -/
  | clkGetPps (q : Request)
  /-- CLK_STEP_PHASE (R92). -/
  | clkStepPhase (q : Request)
  /-- CLK_SET_RAMP (R94). -/
  | clkSetRamp (q : Request)
  /-- CLK_SET_CORE_RATE (R102). -/
  | clkSetCoreRate (q : Request)
  /-- CLK_SET_CEILING (R103). -/
  | clkSetCeiling (q : Request)
  /-- INP_SET_ENABLE (R119). -/
  | inpSetEnable (q : Request)
  /-- INP_SET_PAIR (R117). -/
  | inpSetPair (q : Request)
  /-- INP_GET_STATUS (R137). -/
  | inpGetStatus (q : Request)
  /-- CAL_RUN_FOREGROUND (R141). -/
  | calRunForeground (q : Request)
  /-- CAL_SET_SCHEDULE (R144). -/
  | calSetSchedule (q : Request)
  /-- CAL_GET_QUALITY (R154). -/
  | calGetQuality (q : Request)
  /-- CAL_SAVE_IMAGE (R160). -/
  | calSaveImage (q : Request)
  /-- CAL_READ_IMAGE (R160). -/
  | calReadImage (q : Request)
  /-- CAL_WRITE_IMAGE (R160). -/
  | calWriteImage (q : Request)
  /-- CAL_RESTORE_IMAGE (R161). -/
  | calRestoreImage (q : Request)
  /-- FLT_CONFIGURE_CHAIN (R179). -/
  | fltConfigureChain (q : Request)
  /-- FLT_LOAD_FIR (R180). -/
  | fltLoadFir (q : Request)
  /-- FLT_SET_INPUT (R181). -/
  | fltSetInput (q : Request)
  /-- FLT_START (R177). -/
  | fltStart (q : Request)
  /-- FLT_STOP (R177). -/
  | fltStop (q : Request)
  /-- FLT_SYNC (R183). -/
  | fltSync (q : Request)
  /-- FLT_GET_STATUS (R189). -/
  | fltGetStatus (q : Request)
  /-- TRIG_SET_COMPARATOR (R192). -/
  | trigSetComparator (q : Request)
  /-- TRIG_SET_CONDITION (R195). -/
  | trigSetCondition (q : Request)
  /-- TRIG_SET_PATTERN (R201). -/
  | trigSetPattern (q : Request)
  /-- TRIG_SET_GROUP (R204). -/
  | trigSetGroup (q : Request)
  /-- TRIG_SET_BUS (R227). -/
  | trigSetBus (q : Request)
  /-- TRIG_SET_MARKER (R228). -/
  | trigSetMarker (q : Request)
  /-- TRIG_FORCE (R213). -/
  | trigForce (q : Request)
  /-- TRIG_GET_STATUS (R230). -/
  | trigGetStatus (q : Request)
  /-- EDGE_SET_INPUT (R232). -/
  | edgeSetInput (q : Request)
  /-- EDGE_SET_GATE (R241). -/
  | edgeSetGate (q : Request)
  /-- EDGE_SET_ANGLE (R246). -/
  | edgeSetAngle (q : Request)
  /-- EDGE_READ_STAMPS (R240). -/
  | edgeReadStamps (q : Request)
  /-- EDGE_GET_RESULTS (R244). -/
  | edgeGetResults (q : Request)
  /-- SEG_CONFIGURE (R253). -/
  | segConfigure (q : Request)
  /-- SEG_ARM (R262). -/
  | segArm (q : Request)
  /-- SEG_STOP (R265). -/
  | segStop (q : Request)
  /-- SEG_GET_STATUS (R278). -/
  | segGetStatus (q : Request)
  /-- HAM_CONFIGURE (R282). -/
  | hamConfigure (q : Request)
  /-- HAM_RELEASE (R284). -/
  | hamRelease (q : Request)
  /-- HAM_START (R285). -/
  | hamStart (q : Request)
  /-- HAM_STOP (R286). -/
  | hamStop (q : Request)
  /-- HAM_SPILL (R295). -/
  | hamSpill (q : Request)
  /-- HAM_GET_STATUS (R300). -/
  | hamGetStatus (q : Request)
  /-- DMX_SET_PORT (R314). -/
  | dmxSetPort (q : Request)
  /-- DMX_ENUMERATE (R318). -/
  | dmxEnumerate (q : Request)
  /-- DMX_ENROL (R317). -/
  | dmxEnrol (q : Request)
  /-- DMX_REMOVE_HEAD (R316). -/
  | dmxRemoveHead (q : Request)
  /-- DMX_SET_HEAD (R320). -/
  | dmxSetHead (q : Request)
  /-- DMX_HEAD_PARAM (R320). -/
  | dmxHeadParam (q : Request)
  /-- DMX_SET_ROUTE (R325). -/
  | dmxSetRoute (q : Request)
  /-- DMX_SET_ALARM_GROUP (R327). -/
  | dmxSetAlarmGroup (q : Request)
  /-- DMX_REJOIN (R322). -/
  | dmxRejoin (q : Request)
  /-- DMX_GET_STATUS (R328). -/
  | dmxGetStatus (q : Request)
  /-- DMX_GET_HEADS (R329). -/
  | dmxGetHeads (q : Request)
  /-- ENG_GET_CATALOGUE (R332). -/
  | engGetCatalogue (q : Request)
  /-- ENG_CREATE_JOB (R333). -/
  | engCreateJob (q : Request)
  /-- ENG_START_JOB (R336). -/
  | engStartJob (q : Request)
  /-- ENG_STOP_JOB (R336). -/
  | engStopJob (q : Request)
  /-- ENG_DELETE_JOB (R336). -/
  | engDeleteJob (q : Request)
  /-- ENG_GET_STATUS (R356). -/
  | engGetStatus (q : Request)
  /-- ENG_GET_JOB (R357). -/
  | engGetJob (q : Request)
  /-- PH_CONFIGURE (R359). -/
  | phConfigure (q : Request)
  /-- PH_SET_POLICY (R364). -/
  | phSetPolicy (q : Request)
  /-- PH_SET_DRAIN (R365). -/
  | phSetDrain (q : Request)
  /-- PH_FLUSH (R365). -/
  | phFlush (q : Request)
  /-- PH_RELEASE (R366). -/
  | phRelease (q : Request)
  /-- PH_READ (R367). -/
  | phRead (q : Request)
  /-- PH_BIND_EDGE (R368). -/
  | phBindEdge (q : Request)
  /-- PH_GET_STATUS (R385). -/
  | phGetStatus (q : Request)
  /-- PH_RING_CONFIGURE (R372). -/
  | phRingConfigure (q : Request)
  /-- PH_RING_START (R378). -/
  | phRingStart (q : Request)
  /-- PH_RING_STOP (R378). -/
  | phRingStop (q : Request)
  /-- PH_RING_STATUS (R386). -/
  | phRingStatus (q : Request)
  /-- PH_STREAM_CONFIGURE (R379). -/
  | phStreamConfigure (q : Request)
  /-- PH_STREAM_STATUS (R381). -/
  | phStreamStatus (q : Request)
  /-- PTP_CONFIGURE (R382). -/
  | ptpConfigure (q : Request)
  /-- PTP_GET_STATUS (R382). -/
  | ptpGetStatus (q : Request)
  /-- PCIE_SET_CLOCKING (R371). -/
  | pcieSetClocking (q : Request)
  /-- MEM_SET_RATE (R401). -/
  | memSetRate (q : Request)
  /-- MEM_RETIRE_RANK (R404). -/
  | memRetireRank (q : Request)
  /-- MEM_REMAP (R410). -/
  | memRemap (q : Request)
  /-- MEM_GET_STATUS (R415). -/
  | memGetStatus (q : Request)
  /-- SYNC_CONFIGURE (R460). -/
  | syncConfigure (q : Request)
  /-- SYNC_CALIBRATE_DELAY (R481). -/
  | syncCalibrateDelay (q : Request)
  /-- SYNC_CHECK (R486). -/
  | syncCheck (q : Request)
  /-- SYNC_LOCK (R488). -/
  | syncLock (q : Request)
  /-- SYNC_RESET_DOMAIN (R491). -/
  | syncResetDomain (q : Request)
  /-- SYNC_GET_STATUS (R462). -/
  | syncGetStatus (q : Request)
  /-- EVT_GET_STATUS (R463). -/
  | evtGetStatus (q : Request)
  /-- EVT_READ (R507). -/
  | evtRead (q : Request)
  /-- EVT_SET_COPY (R508). -/
  | evtSetCopy (q : Request)
  /-- EVT_CLEAR_RING (R514). -/
  | evtClearRing (q : Request)
  /-- KEY_ENROL (R468). -/
  | keyEnrol (q : Request)
  /-- KEY_REMOVE (R468). -/
  | keyRemove (q : Request)
  /-- KEY_LIST (R463). -/
  | keyList (q : Request)
  /-- PROT_PROPOSE (R465). -/
  | protPropose (q : Request)
  /-- PROT_COUNTERSIGN (R467). -/
  | protCountersign (q : Request)
  /-- PROT_SET_PROTECTED (R464). -/
  | protSetProtected (q : Request)
  /-- PROT_GET_PROTECTED (R450). -/
  | protGetProtected (q : Request)
  /-- FW_WRITE (R463). -/
  | fwWrite (q : Request)
  /-- FW_COMMIT (R463). -/
  | fwCommit (q : Request)
  /-- AUX_SET_SEQUENCE (R519). -/
  | auxSetSequence (q : Request)
  /-- AUX_INJECT (R521). -/
  | auxInject (q : Request)
  /-- AUX_SET_CAPTURE (R528). -/
  | auxSetCapture (q : Request)
  /-- AUX_GET_CAPTURE (R528). -/
  | auxGetCapture (q : Request)
  /-- AUX_GET_MONITORS (R523). -/
  | auxGetMonitors (q : Request)
  /-- MBX_DOORBELL_SUBMIT (R419). -/
  | mbxDoorbellSubmit (at_ : Nat) (n : Nat) (resv : Nat)
  /-- MBX_DOORBELL_OPEN (R417). -/
  | mbxDoorbellOpen (at_ : Nat) (n : Nat) (notify : Bool) (vector : Nat) (resv : Nat)
  /-- MBX_DOORBELL_CLOSE (R418). -/
  | mbxDoorbellClose (at_ : Nat) (n : Nat) (resv : Nat)
  /-- IRQ_STATUS_WRITE (R429). -/
  | irqStatusWrite (at_ : Nat) (v : Word)
  /-- BOOT_STATE_WRITE (R428). -/
  | bootStateWrite (at_ : Nat) (v : Word)
  /-- AUX_DATA_READ (R520). -/
  | auxDataRead (at_ : Nat)
  /-- AUX_STATUS_WRITE (R430). -/
  | auxStatusWrite (at_ : Nat) (v : Word)
  /-- REGISTER_WRITE (R426). -/
  | registerWrite (at_ : Nat) (w : RegWrite)
  /-- MSIX_UNMASK (R377). -/
  | msixUnmask (at_ : Nat) (vec : Nat)
  /-- BAR2_READ (R412). -/
  | bar2Read (at_ : Nat) (addr : Nat) (len : Nat) (corrected : List Nat)
  /-- BAR2_WRITE (R412). -/
  | bar2Write (at_ : Nat) (addr : Nat) (data : List Byte)
  /-- SESSION_DATAGRAM (R434). -/
  | sessionDatagram (at_ : Nat) (port : Nat) (opcode : Nat) (q : Request)
  /-- REASSEMBLY_TIMEOUT (R434). -/
  | reassemblyTimeout (at_ : Nat) (id : Nat)
  /-- SESSION_TIMEOUT (R433). -/
  | sessionTimeout (at_ : Nat) (n : Nat)
  /-- ARP_REQUEST (R432). -/
  | arpRequest (at_ : Nat) (port : Nat) (target : Nat) (senderIp : Nat) (senderMac : Nat)
  /-- ICMP_ECHO_REQUEST (R432). -/
  | icmpEchoRequest (at_ : Nat) (port : Nat) (target : Nat) (sender : Nat) (data : List Byte)
  /-- POWER_ON_RESET (R536). -/
  | powerOnReset (at_ : Nat)
  /-- VAUX_LEAVES_TOLERANCE (R531). -/
  | vauxLeavesTolerance (at_ : Nat)
  /-- RAILS_FALL (R70). -/
  | railsFall (at_ : Nat) (loss : RailsLoss)
  /-- POWER_DOWN (R69). -/
  | powerDown (at_ : Nat)
  /-- POWER_DOWN_DONE (R69). -/
  | powerDownDone (at_ : Nat)
  /-- POWERGOOD_RESTORED (R69). -/
  | powergoodRestored (at_ : Nat) (memHeld : Bool)
  /-- PIN_RESET (R537). -/
  | pinReset (at_ : Nat)
  /-- NRESET_RISE (R544). -/
  | nresetRise (at_ : Nat) (straps : Nat) (memHeld : Bool)
  /-- WAKE_EDGE (R535). -/
  | wakeEdge (at_ : Nat)
  /-- DEEP_STANDBY_ENTRY (R534). -/
  | deepStandbyEntry (at_ : Nat)
  /-- STANDBY_ENTRY_COMPLETE (R532). -/
  | standbyEntryComplete (at_ : Nat)
  /-- STANDBY_EXIT_COMPLETE (R533). -/
  | standbyExitComplete (at_ : Nat)
  /-- IMAGE_CHECK_DONE (R546). -/
  | imageCheckDone (at_ : Nat) (check : ImageCheck) (digest : List Byte)
  /-- FIRMWARE_STARTED (R544). -/
  | firmwareStarted (at_ : Nat)
  /-- MEMORY_INITIALISED (R545). -/
  | memoryInitialised (at_ : Nat) (locked : Bool)
  /-- CAL_STARTUP_STEP (R139). -/
  | calStartupStep (at_ : Nat) (step : Nat) (trims : List CoreTrim)
  /-- CAL_STARTUP_DONE (R139). -/
  | calStartupDone (ended : StartupEnd)
  /-- WATCHDOG_EXPIRY (R538). -/
  | watchdogExpiry (at_ : Nat)
  /-- PE_PERSTN_ASSERTED (R378). -/
  | pePerstnAsserted (at_ : Nat)
  /-- HOT_RESET (R378). -/
  | hotReset (at_ : Nat)
  /-- BUS_MASTER_ENABLE_CLEARED (R378). -/
  | busMasterEnableCleared (at_ : Nat)
  /-- PCIE_LINK_DOWN (R378). -/
  | pcieLinkDown (at_ : Nat)
  /-- TJ_READING (R77). -/
  | tjReading (at_ : Nat) (tj : Int)
  /-- MARGIN_WINDOW (R33). -/
  | marginWindow (at_ : Nat) (caps : List Nat) (sensed : Nat)
  /-- PMBUS_TRANSACTION (R62). -/
  | pmbusTransaction (at_ : Nat) (acked : Bool) (fault : Bool) (value : Nat)
  /-- OVEN_READY (R79). -/
  | ovenReady (at_ : Nat) (temp : Int)
  /-- OVEN_TIMEOUT (R79). -/
  | ovenTimeout (at_ : Nat) (temp : Int) (power : Nat)
  /-- OVEN_UNSETTLED (R79). -/
  | ovenUnsettled (at_ : Nat) (temp : Int)
  /-- OVEN_FAULT (R80). -/
  | ovenFault (at_ : Nat) (temp : Int)
  /-- SOURCE_ABSENT (R82). -/
  | sourceAbsent (at_ : Nat) (source : Nat)
  /-- SOURCE_PRESENT (R82). -/
  | sourcePresent (at_ : Nat) (source : Nat) (offset : Int)
  /-- REF_SWITCHED (R83). -/
  | refSwitched (at_ : Nat) (loop : Nat)
  /-- CLOCK_LOCK_LOST (R97). -/
  | clockLockLost (at_ : Nat) (loop : Nat) (frozen : Int)
  /-- CLOCK_RELOCKED (R100). -/
  | clockRelocked (at_ : Nat) (loop : Nat) (slip : Int)
  /-- CLK_RAMP_SEGMENT_END (R93). -/
  | clkRampSegmentEnd (at_ : Nat) (loop : Nat)
  /-- CORE_RATE_RAMP_END (R104). -/
  | coreRateRampEnd (at_ : Nat)
  /-- CLOCK_RATE_CHANGED (R104). -/
  | clockRateChanged (at_ : Nat)
  /-- CORE_RATE_LOCK_TIMEOUT (R104). -/
  | coreRateLockTimeout (at_ : Nat)
  /-- PHASE_STEP_DONE (R92). -/
  | phaseStepDone (at_ : Nat)
  /-- PPSIN_EDGE (R84). -/
  | ppsinEdge (at_ : Nat) (reading : EdgeReading)
  /-- PPS_LOST (R87). -/
  | ppsLost (at_ : Nat)
  /-- FRAME_DEPOSIT (R24). -/
  | frameDeposit (at_ : Nat) (lanes : List LaneFrame)
  /-- LANE_LIFTS_FRAME (R28). -/
  | laneLiftsFrame (at_ : Nat) (lane : Nat)
  /-- HEAD_LANE_LIFT (R31). -/
  | headLaneLift (at_ : Nat)
  /-- OVERDRIVE_DETECTED (R131). -/
  | overdriveDetected (at_ : Nat) (input : Nat) (negative : Bool) (first : Nat) (last : Nat) (excess : Bool)
  /-- ROTATION_SHADOW_START (R120). -/
  | rotationShadowStart (at_ : Nat) (core : Nat)
  /-- ROTATION_TRIM (R120). -/
  | rotationTrim (at_ : Nat) (trim : CoreTrim)
  /-- CORE_READY (R120). -/
  | coreReady (at_ : Nat) (core : Nat)
  /-- SEAM_START (R122). -/
  | seamStart (at_ : Nat) (input : Nat)
  /-- SEAM_TEST (R123). -/
  | seamTest (at_ : Nat) (input : Nat) (overlap : List (Int × Int))
  /-- SEAM_DONE (R122). -/
  | seamDone (at_ : Nat) (input : Nat)
  /-- SEAM_RETRY (R124). -/
  | seamRetry (at_ : Nat) (input : Nat)
  /-- TEMPERATURE_READING (R145). -/
  | temperatureReading (at_ : Nat) (input : Nat) (temp : Int)
  /-- CAL_MAX_INTERVAL (R145). -/
  | calMaxInterval (at_ : Nat) (input : Nat)
  /-- CAL_FOREGROUND_DONE (R143). -/
  | calForegroundDone (at_ : Nat) (trims : List CoreTrim)
  /-- INPUT_CALIBRATION_DONE (R119). -/
  | inputCalibrationDone (at_ : Nat) (trims : List CoreTrim)
  /-- CAL_RESTORED (R162). -/
  | calRestored (at_ : Nat)
  /-- FILTER_SYNC (R182). -/
  | filterSync (at_ : Nat)
  /-- TRIGGER_CLASSIFIED (R210). -/
  | triggerClassified (at_ : Nat) (group : Nat)
  /-- FILL_END (R207). -/
  | fillEnd (at_ : Nat) (group : Nat)
  /-- RE_ARM_END (R208). -/
  | reArmEnd (at_ : Nat) (group : Nat)
  /-- TOKEN_GAIN (R208). -/
  | tokenGain (at_ : Nat)
  /-- PRE_FILL_END (R209). -/
  | preFillEnd (at_ : Nat) (group : Nat)
  /-- HOLDOFF_END (R206). -/
  | holdoffEnd (at_ : Nat) (group : Nat)
  /-- SEQUENCE_WINDOW_CLOSE (R205). -/
  | sequenceWindowClose (at_ : Nat) (group : Nat)
  /-- TRIGIN_EDGE (R221). -/
  | triginEdge (at_ : Nat) (n : Nat) (rising : Bool) (tick : Nat)
  /-- TRIGBUS_MESSAGE_RECEIVED (R225). -/
  | trigbusMessageReceived (at_ : Nat) (m : TrigMessage)
  /-- MARKER_EDGE (R228). -/
  | markerEdge (at_ : Nat) (marker : Nat)
  /-- TACH_EDGE (R234). -/
  | tachEdge (at_ : Nat) (n : Nat) (rising : Bool) (reading : EdgeReading)
  /-- TACH_SETTING_TAKES_EFFECT (R233). -/
  | tachSettingTakesEffect (at_ : Nat) (n : Nat)
  /-- INTERPOLATOR_REFRESH (R238). -/
  | interpolatorRefresh (at_ : Nat) (source : Nat) (interp : Nat) (c1 : Nat) (c2 : Nat)
  /-- LINEARITY_TABLE_BUILT (R239). -/
  | linearityTableBuilt (at_ : Nat) (source : Nat) (interp : Nat) (table : List Int)
  /-- TDC_TABLE_STALE (R239). -/
  | tdcTableStale (at_ : Nat) (source : Nat) (interp : Nat)
  /-- GATE_START (R241). -/
  | gateStart (at_ : Nat) (n : Nat)
  /-- GATE_END (R243). -/
  | gateEnd (at_ : Nat) (n : Nat)
  /-- ARM_FRAME (R264). -/
  | armFrame (at_ : Nat) (group : Nat)
  /-- ARM_HOLD_TIMEOUT (R459). -/
  | armHoldTimeout (at_ : Nat) (group : Nat)
  /-- GROUP_DISARM (R265). -/
  | groupDisarm (at_ : Nat) (group : Nat)
  /-- POSTMARK_FILL (R275). -/
  | postmarkFill (at_ : Nat) (group : Nat)
  /-- STRAND_WRITTEN (R263). -/
  | strandWritten (at_ : Nat) (group : Nat) (input : Nat)
  /-- POSTMARK_WRITTEN (R274). -/
  | postmarkWritten (at_ : Nat) (group : Nat)
  /-- HAMPER_CLEARING_END (R285). -/
  | hamperClearingEnd (at_ : Nat) (acc : Nat)
  /-- SEGMENT_COMBINED (R290). -/
  | segmentCombined (at_ : Nat) (acc : Nat)
  /-- SPILL_DONE (R295). -/
  | spillDone (at_ : Nat)
  /-- ROUND_START (R307). -/
  | roundStart (at_ : Nat) (port : Nat)
  /-- SLOT_WINDOW_END (R323). -/
  | slotWindowEnd (at_ : Nat) (port : Nat) (position : Nat)
  /-- DAMUX_SLOT_RECEIVED (R323). -/
  | damuxSlotReceived (at_ : Nat) (port : Nat) (window : Nat) (arrival : Int) (frame : SlotFrame)
  /-- DISCOVERY_REPLY (R318). -/
  | discoveryReply (at_ : Nat) (port : Nat) (inWindow : Bool) (roundTrip : Nat) (head : HeadDescriptor) (crcGood : Bool)
  /-- BEACON_RETURNED (R318). -/
  | beaconReturned (at_ : Nat) (port : Nat)
  /-- REDISCOVERY (R318). -/
  | rediscovery (at_ : Nat) (port : Nat)
  /-- PORT_TRAINING_END (R313). -/
  | portTrainingEnd (at_ : Nat) (port : Nat) (forward : Bool) (back : Bool)
  /-- PORT_TRAINING_RETRY (R313). -/
  | portTrainingRetry (at_ : Nat) (port : Nat)
  /-- DAMUX_LANE_SIGNAL_LOST (R313). -/
  | damuxLaneSignalLost (at_ : Nat) (port : Nat) (returnEnd : Bool)
  /-- DAMUX_BREAK_REPAIRED (R322). -/
  | damuxBreakRepaired (at_ : Nat) (port : Nat)
  /-- BLOCK_RELEASE (R337). -/
  | blockRelease (at_ : Nat) (job : Nat)
  /-- CHUNK_ARRIVAL (R345). -/
  | chunkArrival (at_ : Nat) (job : Nat)
  /-- TASK_COMPLETE (R346). -/
  | taskComplete (at_ : Nat) (engine : Nat)
  /-- ENGINE_ABORT (R350). -/
  | engineAbort (at_ : Nat) (engine : Nat) (elapsed : Nat)
  /-- ENGINE_FAULT (R354). -/
  | engineFault (at_ : Nat) (engine : Nat)
  /-- BLOCKED_WRITER_RESUMES (R362). -/
  | blockedWriterResumes (at_ : Nat) (ph : Nat)
  /-- ENTRY_COMMITTED (R361). -/
  | entryCommitted (at_ : Nat) (ph : Nat)
  /-- DRAIN_DEADLINE_EVALUATION (R363). -/
  | drainDeadlineEvaluation (at_ : Nat)
  /-- HOST_RING_DELIVERY (R373). -/
  | hostRingDelivery (at_ : Nat) (ring : Nat)
  /-- CONSUMER_READ_COMPLETION (R374). -/
  | consumerReadCompletion (at_ : Nat) (ring : Nat) (success : Bool) (value : Nat)
  /-- CONSUMER_READ_TIMEOUT (R53). -/
  | consumerReadTimeout (at_ : Nat) (ring : Nat)
  /-- COALESCING_TIME (R377). -/
  | coalescingTime (at_ : Nat) (ring : Nat)
  /-- STAMP_BATCH_CLOSE (R368). -/
  | stampBatchClose (at_ : Nat) (source : Nat)
  /-- STREAM_DATAGRAM_SENT (R380). -/
  | streamDatagramSent (at_ : Nat) (stream : Nat)
  /-- PAUSE_FRAME (R381). -/
  | pauseFrame (at_ : Nat) (port : Nat) (quanta : Nat)
  /-- ETHERNET_LINK_DOWN (R381). -/
  | ethernetLinkDown (at_ : Nat) (port : Nat)
  /-- ETHERNET_LINK_UP (R381). -/
  | ethernetLinkUp (at_ : Nat) (port : Nat)
  /-- PTP_MESSAGE_RECEIVED (R382). -/
  | ptpMessageReceived (at_ : Nat) (port : Nat) (m : PtpMessage)
  /-- DELAY_REQ_INTERVAL (R382). -/
  | delayReqInterval (at_ : Nat)
  /-- PTP_LOST (R383). -/
  | ptpLost (at_ : Nat)
  /-- REFRESH (R398). -/
  | refresh (at_ : Nat) (channel : Nat) (bank : Nat)
  /-- PATROL_SCRUB (R395). -/
  | patrolScrub (at_ : Nat) (outcome : ScrubOutcome)
  /-- MEM_UNCORRECTABLE (R396). -/
  | memUncorrectable (at_ : Nat) (addr : Nat) (requester : Requester)
  /-- MEM_PRIVILEGED_ERROR (R397). -/
  | memPrivilegedError (at_ : Nat) (region : Nat) (page : Nat) (ph : Nat)
  /-- TRAINING_STEP (R399). -/
  | trainingStep (at_ : Nat)
  /-- EXTRA_TRAINING_STEP (R399). -/
  | extraTrainingStep (at_ : Nat) (channel : Nat)
  /-- TRAINING_PAUSE (R400). -/
  | trainingPause (at_ : Nat) (good : Bool) (width : Nat) (height : Nat) (temp : Int)
  /-- MEM_RATE_CHANGED (R403). -/
  | memRateChanged (at_ : Nat)
  /-- MEMORY_LOOP_LOCK_TIMEOUT (R403). -/
  | memoryLoopLockTimeout (at_ : Nat)
  /-- MIGRATION_UNIT_COPIED (R405). -/
  | migrationUnitCopied (at_ : Nat) (corrected : Nat) (poisoned : Nat)
  /-- RANK_RETIRED (R406). -/
  | rankRetired (at_ : Nat)
  /-- RECORD_WRITE (R501). -/
  | recordWrite (at_ : Nat) (good : Bool)
  /-- RECORDS_LOST (R502). -/
  | recordsLost (at_ : Nat)
  /-- RECORD_COPIED (R508). -/
  | recordCopied (at_ : Nat)
  /-- RING_CLEARED (R514). -/
  | ringCleared (at_ : Nat)
  /-- PROTECTED_EXPIRED (R512). -/
  | protectedExpired (at_ : Nat) (proposal : Nat)
  /-- SEQUENCE_CONVERSION_DUE (R519). -/
  | sequenceConversionDue (at_ : Nat)
  /-- HOUSEKEEPING_CONVERSION_DUE (R523). -/
  | housekeepingConversionDue (at_ : Nat)
  /-- CONVERSION_DONE (R520). -/
  | conversionDone (at_ : Nat) (code : Nat)
  /-- CALIBRATION_HOLD_END (R522). -/
  | calibrationHoldEnd (at_ : Nat)
  /-- SYNC_FRAME_SEND (R473). -/
  | syncFrameSend (at_ : Nat)
  /-- SYNC_FRAME_RECEIVED (R476). -/
  | syncFrameReceived (at_ : Nat) (marker : Nat) (f : SyncFrame)
  /-- SYNC_LOST (R476). -/
  | syncLost (at_ : Nat)
  /-- SYNC_REPORT_SLOT (R480). -/
  | syncReportSlot (at_ : Nat)
  /-- REPORT_BITS_CHANGED (R480). -/
  | reportBitsChanged (at_ : Nat)
  /-- TRIGBUS_REPORT_RECEIVED (R478). -/
  | trigbusReportReceived (at_ : Nat) (r : SyncReport)
  /-- PROBE_RECEIVED (R481). -/
  | probeReceived (at_ : Nat) (id : Nat) (number : Nat) (stamp : Nat) (crcGood : Bool)
  /-- CHECK_WAIT_END (R486). -/
  | checkWaitEnd (at_ : Nat)
  /-- SYNC_DOMAIN_RESET (R492). -/
  | syncDomainReset (at_ : Nat)
  /-- PCIE_LINK_TRAINING (R95). -/
  | pcieLinkTraining (at_ : Nat)
  /-- PE_PERSTN_RELEASED (R545). -/
  | pePerstnReleased (at_ : Nat)
  /-- BUS_MASTER_ENABLE_SET (R378). -/
  | busMasterEnableSet (at_ : Nat)
  /-- MSIX_MASK (R377). -/
  | msixMask (at_ : Nat) (vec : Nat)
  /-- UNALLOCATED_OPCODE_REQUEST (R438). -/
  | unallocatedOpcodeRequest (opcode : Nat) (q : Request)
  /-- IPV4_FRAGMENT_RECEIVED (R434). -/
  | ipv4FragmentReceived (at_ : Nat) (port : Nat) (id : Nat) (sender : Nat) (offset : Nat) (last : Bool) (data : List Byte)
  /-- SMBUS_TIMEOUT (R556). -/
  | smbusTimeout (at_ : Nat)
  /-- PAUSE_TIME_EXPIRY (R381). -/
  | pauseTimeExpiry (at_ : Nat) (port : Nat)
  /-- VOVEN_APPLIED (R79). -/
  | vovenApplied (at_ : Nat)
  /-- VOVEN_REMOVED (R80). -/
  | vovenRemoved (at_ : Nat)
  /-- RAILS_REMOVED (R534). -/
  | railsRemoved (at_ : Nat) (memory : Bool)
  /-- TRIGBUS_FRAME_SENT (R224). -/
  | trigbusFrameSent (at_ : Nat)
  /-- CONSUMER_WORD_REREAD (R374). -/
  | consumerWordReread (at_ : Nat) (ring : Nat)
  /-- JTAG_TCK_EDGE (R557). -/
  | jtagTckEdge (at_ : Nat) (rising : Bool) (tms : Bool) (tdi : Bool) (lands : List Bool)
  /-- TRSTN_ASSERTED (R557). -/
  | trstnAsserted (at_ : Nat)
deriving DecidableEq, Repr

end Sys2Proof
end

