-- ==== Sys2Proof/Decode.lean ====
section
/-! DEFINITION. The commands of the block come from outside it as operations and events; the table gives none of its
rows any bits, so no word spells a command. -/

namespace Sys2Proof

/-- The command that a word spells: the table spells none. DESIGN CHOICE (log entry 67). -/
def decodeTableWord (_nbits _w : Nat) : Option Instr := none

end Sys2Proof
end

