-- ==== Sys2Proof/Config.lean ====
section
/-! DEFINITION. What an implementation of the module fixes and the spec leaves open: identity values, values that the
factory stores, and the free values. Each constant here has no body, so that no proof can lean on a value of it. -/

namespace Sys2Proof.Config

/-- Logic-die stepping, PMS_ID [19:16], "Varies" (R427). -/
opaque stepping : BitVec 4
/-- Package assembly revision, PMS_ID [23:20], "Varies" (R427). -/
opaque assembly : BitVec 4
/-- The module's serial number (R451). -/
opaque serial : BitVec 64
/-- The part: 0 FLR-RS8-A, 1 FLR-RS8-X (R451). -/
opaque part : BitVec 1
/-- Minor version and patch level of a firmware image (R428, R451), by its digest. -/
opaque fwMinor : List Byte → BitVec 8
opaque fwPatch : List Byte → BitVec 16
/-- Version of the boot firmware (R451). -/
opaque bootMajor : BitVec 8
opaque bootMinor : BitVec 8
opaque bootPatch : BitVec 16
/-- SHA-256 of the firmware image that the factory stores (R451). -/
opaque imageDigest : Vector Byte 32
/-- What the identity reports as the digest while the boot firmware is in control (R431, R451): the manual gives none. -/
opaque bootDigest : Vector Byte 32
/-- The factory MAC address of an Ethernet port (R432). -/
opaque factoryMac : Nat → BitVec 48
/-- A free value: what the spec leaves open, applied to the count of free values taken so far. -/
opaque free : Nat → Nat
/-- A free signed value. -/
opaque freeInt : Nat → Int
/-- How far the root that the trigger advancer finds lies from the exact one, which R216 bounds by 2^-17 only: the four
samples and the threshold, modulo 16. -/
opaque rootError : List Int → Int → Nat
/-- Whether the signature of a firmware image verifies (R463): the image bytes. -/
opaque imageSigned : List Byte → Bool
/-- Coefficients of the half-band sections HB-A and HB-B in units of 2^-17 (R168): the manual gives only their
lengths. -/
opaque hbA : Nat → Int
opaque hbB : Nat → Int
/-- Coefficients of the preset FIR filters, scaled for the output period (R173): preset, output period, tap. -/
opaque presetFir : Nat → Nat → Nat → Int
/-- The shifts of a preset configuration (R173): preset, output period, which of the four. -/
opaque presetShift : Nat → Nat → Nat → Nat
/-- Per-bit delays and reference voltages that the factory gives a channel at a data rate (R403). Free (log entry 28). -/
opaque factoryTiming : Nat → Nat → Nat × Nat
/-- A free number for each word of a kernel's result: the result itself where the manual does not define it, else how far
it lies from its definition within the 10^-5 of R330. Kernel, word index, parameters, inputs. -/
opaque kernelWord : Nat → Nat → List Nat → List Int → Nat
/-- The version of a catalogue kernel (R332). -/
opaque kernelVersion : Nat → BitVec 8
/-- Drift of a core's interleave spur that the factory temperature coefficients predict, 1/16 dBc: core, temperature
change in 1/256 °C (R155). -/
opaque spurDrift : Nat → Int → Int
/-- Code of a kind of slot deviation in DAMUX_SLOT_ERROR, by its row in R323: the manual gives none. -/
opaque slotErrorKind : Nat → BitVec 8
/-- The factory alignment residual of an input, fs (R160). -/
opaque alignment : Nat → Int
/-- Codes of the JTAG instructions SAMPLE/PRELOAD, EXTEST and IDCODE, and the upper six bits that the instruction register captures:
the BSDL file gives them (R557). -/
opaque tapSample : BitVec 8
opaque tapExtest : BitVec 8
opaque tapIdcode : BitVec 8
opaque tapCapture : BitVec 6

end Sys2Proof.Config
end

