-- ==== Sys2Proof/Machine/Bytes.lean ====
section
/-! DEFINITION. Byte order of structures (R5, R6), the CRC-32C of R268 and SHA-256 (FIPS 180-4). -/

namespace Sys2Proof.Machine

/-- `n` little-endian bytes of `v` (R5). -/
def le : Nat → Nat → List Byte
  | 0, _ => []
  | n + 1, v => BitVec.ofNat 8 v :: le n (v / 256)

/-- The number that little-endian bytes hold (R5). -/
def ofLe : List Byte → Nat
  | [] => 0
  | b :: bs => b.toNat + 256 * ofLe bs

/-- Two's complement of a signed field of `n` bytes (R6). -/
def leInt (n : Nat) (v : Int) : List Byte := le n (v % (256 ^ n : Nat)).toNat

/-- The signed value of a field of `bits` bits (R6). -/
def signed (bits v : Nat) : Int :=
  if v % 2 ^ bits < 2 ^ (bits - 1) then (v % 2 ^ bits : Nat) else ((v % 2 ^ bits : Nat) : Int) - (2 ^ bits : Nat)

def u8 (v : Nat) : List Byte := le 1 v
def u16 (v : Nat) : List Byte := le 2 v
def u32 (v : Nat) : List Byte := le 4 v
def u64 (v : Nat) : List Byte := le 8 v
def i8 (v : Int) : List Byte := leInt 1 v
def i16 (v : Int) : List Byte := leInt 2 v
def i32 (v : Int) : List Byte := leInt 4 v
def i64 (v : Int) : List Byte := leInt 8 v
def zeros (n : Nat) : List Byte := List.replicate n 0

/-- `n` big-endian bytes of `v`: fields of published standards (R5). -/
def be (n v : Nat) : List Byte := (le n v).reverse
def ofBe (bs : List Byte) : Nat := ofLe bs.reverse

/-- Bytes `off` to `off + n - 1` of a structure; bytes past its end read 0. -/
def slice (bs : List Byte) (off n : Nat) : List Byte :=
  let t := (bs.drop off).take n
  t ++ zeros (n - t.length)

/-- The unsigned field of `n` bytes at `off`. -/
def field (bs : List Byte) (off n : Nat) : Nat := ofLe (slice bs off n)

/-- The signed field of `n` bytes at `off`. -/
def fieldInt (bs : List Byte) (off n : Nat) : Int := signed (8 * n) (field bs off n)

/-- `bs` cut or padded with 0 to `n` bytes. -/
def toLen (n : Nat) (bs : List Byte) : List Byte := slice bs 0 n

/-- The number whose bit `i` is the `i`th entry. -/
def ofBits : List Bool → Nat
  | [] => 0
  | b :: bs => b.toNat + 2 * ofBits bs

/-- Replace entry `i` of a list by its image under `f`; nothing past the end. -/
def updAt {α : Type} : List α → Nat → (α → α) → List α
  | [], _, _ => []
  | a :: l, 0, f => f a :: l
  | a :: l, i + 1, f => a :: updAt l i f

/-- Saturating counter of `bits` bits. -/
def satInc (bits v : Nat) (d : Nat := 1) : Nat := min (v + d) (2 ^ bits - 1)

/-- `v` kept within `lo` and `hi`. -/
def clampInt (lo hi v : Int) : Int := max lo (min hi v)

/-- Integer square root. -/
def isqrtAux : Nat → Nat → Nat → Nat
  | 0, _, r => r
  | k + 1, n, r => let c := r + 2 ^ k; isqrtAux k n (if c * c ≤ n then c else r)
def isqrt (n : Nat) : Nat := isqrtAux 64 n 0

/-- Rounding of a quotient to the nearest integer, halves away from zero. -/
def roundDiv (a b : Int) : Int :=
  if a < 0 then -((2 * -a + b) / (2 * b)) else (2 * a + b) / (2 * b)

/-! CRC-32C (R268). -/

def crcStep : Nat → BitVec 32 → BitVec 32
  | 0, c => c
  | n + 1, c => crcStep n (if c.getLsbD 0 then (c >>> 1) ^^^ 0x82F63B78#32 else c >>> 1)

def crcFold : List Byte → BitVec 32 → BitVec 32
  | [], c => c
  | b :: bs, c => crcFold bs (crcStep 8 (c ^^^ b.zeroExtend 32))

/-- The Castagnoli CRC of R268. -/
def crc32c (bs : List Byte) : Nat := (crcFold bs 0xFFFFFFFF#32 ^^^ 0xFFFFFFFF#32).toNat

/-! The hashes of FIPS 180-4 that the spec names (R5): SHA-256, and the SHA-512 of Ed25519. One definition serves both; what tells them
apart is `Hash`. The standard takes its constants from roots of the first primes, and so does this. -/

/-- The greatest r below `r + 2 ^ b` whose power `k` is at most `n`. -/
def rootBelow (k n : Nat) : Nat → Nat → Nat
  | 0, r => r
  | b + 1, r => rootBelow k n b (if (r + 2 ^ b) ^ k ≤ n then r + 2 ^ b else r)

/-- The primes below 410, which are 80. -/
def hashPrimes : List Nat := (List.range 410).filter fun p => 2 ≤ p ∧ (List.range 21).all fun d => d < 2 ∨ p < d * d ∨ p % d ≠ 0

/-- The first `w` bits of the fraction of the root `k` of a prime. -/
def rootFraction (k w p : Nat) : BitVec w := BitVec.ofNat w (rootBelow k (p * 2 ^ (k * w)) (w + 3) 0)

/-- A hash on words of `w` bits: its rounds, the rotations of the two sums, and those of the schedule, whose third is a shift. -/
structure Hash (w : Nat) where
  rounds : Nat
  upper : Nat × Nat × Nat
  lower : Nat × Nat × Nat
  older : Nat × Nat × Nat
  newer : Nat × Nat × Nat

/-- The last four words of one half of the state, newest first. -/
structure Quad (w : Nat) where
  w0 : BitVec w
  w1 : BitVec w
  w2 : BitVec w
  w3 : BitVec w

def Quad.push {w : Nat} (x : BitVec w) (q : Quad w) : Quad w := ⟨x, q.w0, q.w1, q.w2⟩
def Quad.plus {w : Nat} (p q : Quad w) : Quad w := ⟨p.w0 + q.w0, p.w1 + q.w1, p.w2 + q.w2, p.w3 + q.w3⟩
def Quad.bytes {w : Nat} (q : Quad w) : List Byte := [q.w0, q.w1, q.w2, q.w3].flatMap fun x => be (w / 8) x.toNat

def turns {w : Nat} (r : Nat × Nat × Nat) (x : BitVec w) : BitVec w := x.rotateRight r.1 ^^^ x.rotateRight r.2.1 ^^^ x.rotateRight r.2.2
def turnsShift {w : Nat} (r : Nat × Nat × Nat) (x : BitVec w) : BitVec w := x.rotateRight r.1 ^^^ x.rotateRight r.2.1 ^^^ (x >>> r.2.2)

/-- One round on the two halves of the state, with the sum of the round's constant and schedule word. -/
def Hash.round {w : Nat} (x : Hash w) (kw : BitVec w) (p q : Quad w) : Quad w × Quad w :=
  let chosen := q.w2 ^^^ (q.w0 &&& (q.w1 ^^^ q.w2))
  let shared := (p.w0 &&& p.w1) ||| (p.w2 &&& (p.w0 ||| p.w1))
  let mix := kw + q.w3 + chosen + turns x.lower q.w0
  (p.push (mix + shared + turns x.upper p.w0), q.push (mix + p.w3))

/-- The rounds over the constants that are left, with the last 16 words of the schedule, the oldest first. -/
def Hash.run {w : Nat} (x : Hash w) : List Nat → List (BitVec w) → Quad w × Quad w → Quad w × Quad w
  | [], _, s => s
  | _, [], s => s
  | c :: cs, v :: vs, s =>
    let next := v + vs.getD 8 0 + turnsShift x.older (vs.getD 0 0) + turnsShift x.newer (vs.getD 13 0)
    x.run cs (vs ++ [next]) (x.round (rootFraction 3 w c + v) s.1 s.2)

/-- The `n` words of a block. -/
def hashWords (w : Nat) : Nat → List Byte → List (BitVec w)
  | 0, _ => []
  | n + 1, bs => BitVec.ofNat w (ofBe (bs.take (w / 8))) :: hashWords w n (bs.drop (w / 8))

/-- The blocks of a padded message, from its first. -/
def Hash.blocks {w : Nat} (x : Hash w) : Nat → List Byte → Quad w × Quad w → Quad w × Quad w
  | 0, _, s => s
  | n + 1, bs, s =>
    let t := x.run (hashPrimes.take x.rounds) (hashWords w 16 bs) s
    x.blocks n (bs.drop (2 * w)) (s.1.plus t.1, s.2.plus t.2)

/-- The value a hash begins with: square roots of the first eight primes. -/
def hashStart (w : Nat) : Quad w × Quad w :=
  let r := rootFraction 2 w
  (⟨r 2, r 3, r 5, r 7⟩, ⟨r 11, r 13, r 17, r 19⟩)

/-- The digest of a message, which is padded to whole blocks of 16 words with a one bit, zeros and its length in bits. -/
def Hash.digest {w : Nat} (x : Hash w) (bs : List Byte) : List Byte :=
  let tail := w / 4 + 1
  let m := bs ++ 0x80 :: zeros ((4 * w - tail - bs.length % (2 * w)) % (2 * w)) ++ be (w / 4) (8 * bs.length)
  let s := x.blocks (m.length / (2 * w)) m (hashStart w)
  s.1.bytes ++ s.2.bytes

/-- SHA-256 of a byte string. -/
def sha256 (bs : List Byte) : List Byte :=
  Hash.digest (w := 32) { rounds := 64, upper := (2, 13, 22), lower := (6, 11, 25), older := (7, 18, 3), newer := (17, 19, 10) } bs

/-- SHA-512 of a byte string. -/
def sha512 (bs : List Byte) : List Byte :=
  Hash.digest (w := 64) { rounds := 80, upper := (28, 34, 39), lower := (14, 18, 41), older := (1, 8, 7), newer := (19, 61, 6) } bs

end Sys2Proof.Machine
end

