-- ==== Sys2Proof/Machine/PartsA.lean ====
section
/-! DEFINITION. The parts of the machine's state that the control processor owns: what the module sends, the time
base, boot and power, fabric margin and supplies, sessions, the event recorder, keys and network settings. -/

namespace Sys2Proof.Machine

/-- Where the module puts something out (the model's own log of its lands). -/
inductive Land where
  /-- an MSI-X message: [vector] -/
  | msix
  /-- a posted write into host memory: [address], data -/
  | hostWrite
  /-- a non-posted read of host memory: [address, length] -/
  | hostRead
  /-- completion of a read of BAR2: [status: 0 successful, 1 Unsupported Request, 2 Completer Abort], data -/
  | bar2
  /-- completion of a read of BAR0: [], data -/
  | bar0
  /-- PCIe advanced error reporting: [1 Completer Abort, 2 completion timeout, 3 Unsupported Request] -/
  | aer
  /-- a UDP datagram of a session or of a stream: [port, IPv4 address, UDP port], for a stream then [source UDP port,
  destination MAC address, DSCP, 802.1Q tag or 0], data -/
  | datagram
  /-- an ARP reply: [port, IPv4 address, MAC address] -/
  | arp
  /-- an ICMP echo reply: [port, IPv4 address], data -/
  | icmp
  /-- an IEEE 1588 Delay_Req: [port, sequence] -/
  | ptp
  /-- SMBus: a transaction acknowledged [1] or refused [0]; SMBDAT released [2] -/
  | smbus
  /-- a PMBus transaction of the VCORE controller: [code, value] -/
  | pmbus
  /-- a Damux beacon: [port, end: 0 forward, 1 return], its bytes -/
  | beacon
  /-- a frame on SYNCOUT: [frame count, marker tick, marker fraction, epoch, marker time, command, command tick], data -/
  | syncout
  /-- a frame on TRIGBUSOUT: [kind: 0 trigger, 1 report, 2 probe, ...], data -/
  | trigbus
  /-- an edge on MARKn: [marker, level] -/
  | mark
  /-- TDO of the boundary scan: [level] -/
  | tdo
  /-- boundary cells driving the lands, [in force], levels -/
  | extest
deriving DecidableEq, Repr, Inhabited

/-- One thing that the module put out. -/
structure Emission where
  land : Land
  args : List Nat
  data : List Byte := []
deriving DecidableEq, Repr, Inhabited

/-- What holds ALERTn low (R37, R66, R77, R79, R80, R97, R124, R130, R147, R313, R315, R321, R354, R378, R395, R404,
R409, R476, R502, R525, R526). -/
inductive AlertSource where
  | margin (lane : Nat) | vcore | tj | ovenTimeout | ovenFault | loop (l : Nat) | seam (input : Nat)
  | core (core : Nat) | tempSensor (input : Nat) | damuxFault (port : Nat) | damuxHead (port : Nat)
  | damuxBreak (port : Nat) | engine (e : Nat) | retire (rank : Nat) | spare (rank : Nat) | rankFailed (rank : Nat)
  | syncLost | recordsLost | hostRing (ring : Nat) | rail (source : Nat) | monitor (source : Nat)
deriving DecidableEq, Repr

/-- Who waits for the reply of a request: the session as it was when the request was taken, what the reply's header
echoes, and for the inner request of a countersign what PROTECTED_DONE records (R467, R511). -/
structure Waiter where
  sess : Nat
  gen : Nat
  opcode : Nat
  tag : Nat
  eventSeq : Nat := 0
  /-- a request that named no open session: its reply goes to this peer (R434) -/
  peerIp : Nat := 0
  peerPort : Nat := 0
  /-- (proposal, proposer's slot, proposer's interface, countersigner's slot, countersigner's interface) -/
  inner : Option (Nat × Nat × Nat × Nat × Nat) := none
deriving DecidableEq, Repr, Inhabited

/-- System time, the grid-tick count and wall time (R84, R214, R304). -/
structure TimeState where
  /-- system time in ps, as the latest command gave it -/
  ps : Nat := 0
  /-- the sample loop has locked, so that the grid-tick count runs (R545) -/
  gridOn : Bool := false
  /-- grid-tick count (R214) and its remainder in units of 1 / (5 * 10^20) tick -/
  tick : Nat := 0
  rem : Nat := 0
  /-- sample-loop frequency in 10^-9 MHz and its slope in 10^-9 MHz per µs, until a system time (R93, R104) -/
  freq : Int := 12800 * 10 ^ 9
  slope : Int := 0
  slopeEnd : Nat := 0
  /-- the latest stretches of that frequency, newest first: start in ps, frequency there, slope and its end; the first is the
  present one (R97) -/
  stretches : List (Nat × Int × Int × Nat) := []
  /-- system time at which head time was 0 (R304) -/
  headZero : Nat := 0
  /-- wall time in units of 10^-12 ns TAI, the epoch, the discipline source and its port (R84, R85) -/
  tai : Int := 0
  epoch : Nat := 0
  source : Nat := 0
  port : Nat := 0
  /-- rate steering in ppb, and the correction not yet slewed in units of 10^-12 ns (R86) -/
  steer : Int := 0
  slew : Int := 0
  /-- steps, newest first: grid tick, what the step added, and the epoch before it -/
  steps : List (Nat × Int × Nat) := []
  /-- the whole TAI second of the next valid PPSIN edge, in ns (CLK_SET_TIME flag [0]) -/
  nextSecond : Option Int := none
  /-- stamps of PPSIN, newest first, the latest valid edge, and PPS_LOST without PPS_RESTORED (R84, R87) -/
  pps : List (List Byte) := []
  ppsEdge : Option Nat := none
  ppsLost : Bool := false
deriving DecidableEq, Repr, Inhabited

inductive LoopState where
  | locked | relocking | coasting | ramping | gated
deriving DecidableEq, Repr, Inhabited

/-- One clock loop (R81, R83, R96, R97, R108). -/
structure Loop where
  source : Nat := 0
  fallBack : Bool := false
  fellBack : Bool := false
  fellFrom : Nat := 0
  st : LoopState := .gated
  /-- why lock was lost: 0 phase error, 1 source absent -/
  cause : Nat := 0
  frozen : Int := 0
  losses : Nat := 0
  coastPs : Nat := 0
  /-- the loss of lock has been reported (R97) -/
  reported : Bool := false
  /-- sample loop: the system loop has coasted while this loop was not locked (R101) -/
  coasted : Bool := false
deriving DecidableEq, Repr, Inhabited

/-- A segment of a ramp (R93). -/
structure RampSegment where
  slope : Int
  duration : Nat
  last : Bool
  repeats : Bool
deriving DecidableEq, Repr, Inhabited

/-- A ramp that is loaded (R93 to R95). -/
structure Ramp where
  segments : List RampSegment := []
  running : Bool := false
  current : Nat := 0
  /-- link loop: the ramp to run from the next PCIe link training, where one waits -/
  next : Option (List RampSegment) := none
deriving DecidableEq, Repr, Inhabited

/-- A change of the core rate under way (R104, R107). -/
structure RateChange where
  old : Nat
  slew : Nat
  accepted : Nat
  interrupted : Bool := false
  ramping : Bool := true
  waiter : Option Waiter := none
deriving DecidableEq, Repr, Inhabited

/-- The oven, the references and the four loops (R78 to R108). -/
structure ClockState where
  vaux : Bool := true
  voven : Bool := false
  heater : Bool := true
  ovenReady : Bool := false
  ovenFault : Bool := false
  ovenTimeout : Bool := false
  island : Int := 0
  heaterPower : Nat := 0
  /-- REFIN is 100 MHz (R82) -/
  refin100 : Bool := false
  /-- the measured offsets of REFIN and SYNCIN in ppb, where edges arrive, and whether each is present (R82) -/
  refin : Option Int := none
  syncin : Option Int := none
  refinPresent : Bool := false
  syncinPresent : Bool := false
  loops : List Loop := List.replicate 4 {}
  /-- control words of the 12 outputs, SMP0 first (R89, R90) -/
  outputs : List Word := []
  core : Nat := 12800
  ceiling : Nat := 12990
  change : Option RateChange := none
  /-- the core rate has changed without a lock so far: what follows a change waits for it (R104) -/
  unsettled : Bool := false
  smpRamp : Ramp := {}
  lnkRamp : Ramp := {}
  /-- a phase step under way: loop, steps, who waits (R92) -/
  step : Option (Nat × Int × Waiter) := none
  /-- phase shift applied to the sample and the system loop, steps of 1/4096 period -/
  phase : List Int := [0, 0]
deriving DecidableEq, Repr, Inhabited

/-- Boot and power states (R428, R431, R530 to R549). -/
structure BootState where
  /-- BOOT_STATE.STATE -/
  st : Nat := 0
  cause : Nat := 0
  cfgDefaulted : Bool := true
  memPreserved : Bool := false
  memReady : Bool := false
  irq : Word := 0
  off : Bool := false
  /-- deep standby entered by power-down (R69) -/
  powerDown : Bool := false
  /-- the steps of R69 under way: cause of POWER_DOWN -/
  downing : Option Nat := none
  /-- SYS_SET_POWER_STATE to deep standby accepted, flag [0] (R534) -/
  deepAfter : Option Bool := none
  /-- the module is held in reset: the land nRESET is low, or nPOWERGOOD acts as it (R537); level of the land itself; the
  memory rails have stayed within tolerance since -/
  nresetLow : Bool := false
  pinLow : Bool := true
  memHeld : Bool := false
  /-- groups armed or pending, and the epoch, at the latest reset (R550) -/
  armedBefore : Nat := 0
  epochBefore : Nat := 0
  powerGood : Bool := true
  straps : Nat := 0
  /-- a Standby transition under way: (exit, cause, who waits) and the requests for a power state that wait -/
  transition : Option (Bool × Nat × Option Waiter) := none
  queued : List (Nat × Bool × Waiter) := []
  wakeQueued : Bool := false
  haltCause : Nat := 0
  /-- system times of the latest watchdog restarts (R538) -/
  watchdog : List Nat := []
  /-- system time of the present boot state's start, and durations of boot states 0 to 3 in ms -/
  since : Nat := 0
  durations : List Nat := [0, 0, 0, 0]
  /-- digest of the image in control, where a commit gave it (R451, R463) -/
  control : Option (List Byte) := none
  /-- memory contents are not intact: they are to be initialised in boot state 2 -/
  initMemory : Bool := true
  /-- a subsystem reset under way -/
  subsystem : Option Nat := none
  /-- actions of a subsystem reset left for the next run: acquisition, memory controller (R539) -/
  owedCal : List Nat := []
  owedMem : Bool := false
deriving DecidableEq, Repr, Inhabited

/-- A fabric lane (R33 to R37). -/
structure LaneMargin where
  capacity : Nat := 0
  margin : Nat := 0xFFFF
  below : Bool := false
  lowOpen : Bool := false
  okCount : Nat := 0
  /-- highest letterbox occupancy in the present window, frames (R527) -/
  peak : Nat := 0
deriving DecidableEq, Repr, Inhabited

/-- Fabric margin, VCORE, junction temperature and the two alarm lands (R33 to R40, R62 to R66, R77). -/
structure PowerState where
  floor : Nat := 1100
  lanes : List LaneMargin := List.replicate 9 {}
  /-- VCORE mode: 0 Adaptive, 1 Fixed, 2 External (R63) -/
  mode : Nat := 0
  regulator : Nat := 0x40
  /-- the value of the Fixed mode, and the commanded VCORE, mV -/
  fixed : Nat := 750
  commanded : Nat := 750
  sensed : Nat := 750
  iout : Nat := 0
  steps : Nat := 0
  lost : Bool := false
  /-- adaptive control has begun: the start-up calibration has ended (R64) -/
  adaptive : Bool := false
  quiet : Nat := 0
  /-- windows of the last 10 s: (system time, VCORE, Tj, capacities) (R38) -/
  history : List (Nat × Nat × Int × List Nat) := []
  /-- what READ_VOUT and STATUS_WORD returned latest -/
  vout : Nat := 0
  vstatus : Nat := 0
  /-- PMBus transactions, code and value: the first has been sent and not yet answered, the others wait -/
  pmbus : List (Nat × Nat) := []
  tj : Int := 0
  hot : Bool := false
  halting : Nat := 0
  /-- what holds ALERTn; ALERTn is asserted while it is not empty -/
  alert : List AlertSource := []
  fault : Bool := false
deriving DecidableEq, Repr, Inhabited

inductive SessionState where
  | closed | idle | running | replyReady
deriving DecidableEq, Repr, Inhabited

/-- A session's copies of the "since last read" fields (R35, R108, R137, R189, R328). -/
structure SinceRead where
  minMargin : List Nat := List.replicate 9 0xFFFF
  peak : List Nat := List.replicate 9 0
  overflow : List Bool := List.replicate 9 false
  lockLost : List Bool := List.replicate 4 false
  overrange : List Bool := List.replicate 8 false
  excess : List Bool := List.replicate 8 false
  fltSat : List Bool := List.replicate 8 false
  fltSync : List Bool := List.replicate 8 false
  dmxFull : List Bool := List.replicate 16 false
deriving DecidableEq, Repr, Inhabited

/-- A session (R416, R417, R430, R434). -/
structure Session where
  st : SessionState := .closed
  gen : Nat := 0
  requests : Nat := 0
  notify : Bool := false
  vector : Nat := 0
  dbResult : Nat := 0
  /-- request mailbox: (offset, byte), offsets rising, no entry 0 -/
  mailbox : List (Nat × Byte) := []
  /-- reply mailbox from offset 0; what lies past the list reads 0 -/
  reply : List Byte := []
  /-- a submit taken that the control processor has not yet taken: opcode and request -/
  submitted : Option (Nat × Request) := none
  /-- opcode and tag of the latest request taken -/
  lastOp : Nat := 0
  lastTag : Option Nat := none
  peerIp : Nat := 0
  peerPort : Nat := 0
  peerEth : Nat := 0
  lastValid : Nat := 0
  takenAt : Nat := 0
  since : SinceRead := {}
  /-- calibration image buffer: bytes written, what lies past the list is 0 (R160) -/
  image : List Byte := []
deriving DecidableEq, Repr, Inhabited

/-- An event record as staged: header fields and body (R496). -/
structure Record where
  type : Nat
  seq : Nat
  epoch : Nat
  boot : Nat
  tick : Nat
  time : Int
  body : List Byte
deriving DecidableEq, Repr, Inhabited

/-- A part of the event store: the next page and offset, and the records held, each with its page (R494, R495). -/
structure StoreArea where
  page : Nat
  off : Nat := 0
  records : List (Nat × Record) := []
  full : Bool := false
deriving DecidableEq, Repr, Inhabited

/-- A flood of records without room (R502). -/
structure Loss where
  count : Nat
  first : Nat
  last : Nat
  firstTick : Nat
  firstTime : Int
  lastTick : Nat
  lastTime : Int
deriving DecidableEq, Repr, Inhabited

/-- The event recorder (R494 to R508, R514). -/
structure EventState where
  nextSeq : Nat := 0
  ceiling : Nat := 65536
  boots : Nat := 0
  /-- records waiting for the store, oldest first -/
  fifo : List Record := []
  /-- records of a start that wait for the firmware, unnumbered: MODULE_STARTED and any RECORDS_LOST before it come first -/
  opening : List Record := []
  /-- the control processor takes or carries out a request, so that the reserve may be used (R500) -/
  carrying : Bool := false
  bucket : Nat := 64000000
  bucketAt : Nat := 0
  first : StoreArea := { page := 256 }
  journal : StoreArea := { page := 3840 }
  ring : StoreArea := { page := 4096 }
  retired : List Nat := []
  attempts : Nat := 0
  lostTotal : Nat := 0
  loss : Option Loss := none
  /-- since when the FIFO has held less than 524,288 bytes -/
  lowSince : Option Nat := none
  /-- the copier: pigeonhole, sequence number of the next record (R508) -/
  copyTo : Option Nat := none
  copyNext : Nat := 0
  copyWaits : Bool := false
  /-- clears of the ring that wait for the store, oldest first: who waits, D, highest sequence before it -/
  clears : List (Waiter × List Byte × Nat) := []
  /-- latest system time of a rate-limited record: (type, index, time) -/
  limits : List (Nat × Nat × Nat) := []
deriving DecidableEq, Repr, Inhabited

/-- A key slot (R509). -/
structure KeySlot where
  key : List Byte
  label : List Byte
deriving DecidableEq, Repr, Inhabited

/-- An open proposal (R465 to R467). -/
structure Proposal where
  number : Nat
  record : Nat
  slot : Nat
  iface : Nat
  sess : Nat
  opcode : Nat
  inner : Request
  digest : List Byte
  repliedAt : Nat
deriving DecidableEq, Repr, Inhabited

/-- Network settings of an Ethernet port (R432, R455). -/
structure NetPort where
  mac : Nat := 0
  ip : Nat := 0
  prefixLen : Nat := 24
  gateway : Nat := 0
  udp : Nat := 5180
  timeout : Nat := 60
deriving DecidableEq, Repr, Inhabited

/-- A request under reassembly (R434): fragments by their offset in bytes. -/
structure Reassembly where
  id : Nat
  port : Nat
  sender : Nat
  since : Nat
  fragments : List (Nat × List Byte) := []
  total : Option Nat := none
deriving DecidableEq, Repr, Inhabited

/-- The PCIe function (R371, R377, R378). -/
structure PcieState where
  linkUp : Bool := false
  busMaster : Bool := false
  perst : Bool := false
  /-- vectors that your host has unmasked, and vectors whose pending bit is set -/
  unmasked : List Nat := []
  pending : List Nat := []
  /-- reference clock mode: in force, and the protected setting (0 common, 1 separate) -/
  clocking : Nat := 0
  clockingSet : Nat := 0
deriving DecidableEq, Repr, Inhabited

inductive TapState where
  | testLogicReset | runTestIdle
  | selectDr | captureDr | shiftDr | exit1Dr | pauseDr | exit2Dr | updateDr
  | selectIr | captureIr | shiftIr | exit1Ir | pauseIr | exit2Ir | updateIr
deriving DecidableEq, Repr, Inhabited

inductive TapInstruction where
  | bypass | sample | extest | idcode
deriving DecidableEq, Repr, Inhabited

/-- The test access port (R557): its state, the instruction in force, the shift register of the instruction and that of the
selected data register with the bit nearest TDO first, the update latches of the boundary cells, and whether they drive the lands. -/
structure TapPort where
  st : TapState := .testLogicReset
  instruction : TapInstruction := .idcode
  ir : List Bool := []
  dr : List Bool := []
  latches : List Bool := []
  driving : Bool := false
deriving DecidableEq, Repr, Inhabited

/-- Protected settings, keys, proposals and the firmware staging buffer (R432, R463 to R468, R509). -/
structure ProtectState where
  keys : List (Option KeySlot) := List.replicate 8 none
  added : List Nat := []
  proposals : List Proposal := []
  expired : List Nat := []
  nextProposal : Nat := 1
  /-- firmware staging buffer: (offset, byte) in canonical form; unlisted bytes are 0 -/
  staging : List (Nat × Byte) := []
  /-- the image that waits in the boot store: length and digest -/
  image : Option (Nat × List Byte) := none
  net : List NetPort := [{}, {}]
  reassembly : List Reassembly := []
  /-- opens over Ethernet that wait for the control processor, each with its port -/
  opens : List (Nat × Request) := []
deriving DecidableEq, Repr, Inhabited

end Sys2Proof.Machine
end

