-- ==== Sys2Proof/Machine/PartsB.lean ====
section
/-! DEFINITION. The parts of the state on a direct input's path: cores, the weave, letterboxes and calibration. -/

namespace Sys2Proof.Machine

inductive CoreState where
  | live | rotating | ready | faulty | down
deriving DecidableEq, Repr, Inhabited

/-- A converter core (R114 to R121, R128, R151, R155, R159). -/
structure Core where
  st : CoreState := .down
  phase : Nat := 0
  /-- order in which the live cores went live: the least has been live longest -/
  liveOrder : Nat := 0
  /-- step of the rotation cycle of R120: 1 reference, 2 shadowing, 3 trimmed -/
  step : Nat := 0
  /-- corrections in force: gain in 2^-16 from 1, offset in 1/64 LSB, timing tap in steps -/
  gain : Int := 0
  offset : Int := 0
  tap : Int := 0
  /-- corrections loaded for the next seam -/
  loaded : Option (Int × Int × Int) := none
  /-- slices in use, bit i for slice i; the 34 pairs of trims -/
  slices : Nat := 2 ^ 32 - 1
  sparesLeft : Nat := 2
  trims : List (Int × Int) := []
  trimTemp : Int := 0
  spur : Int := 0
  trimmed : Bool := false
  fromReference : Bool := false
  /-- CAL_QUALITY_LOW written since the latest seam (R157) -/
  qualityLow : Bool := false
  /-- the pass in progress: a cycle begun, a cycle completed (R146) -/
  passBegun : Bool := false
  passDone : Bool := false
deriving DecidableEq, Repr, Inhabited

/-- A seam in progress (R122). -/
structure Seam where
  incoming : Nat
  outgoing : Nat
  f0 : Nat
  passed : Bool := false
  rms : Nat := 0
  mean : Int := 0
deriving DecidableEq, Repr, Inhabited

/-- An overdrive interval, in grid ticks (R131, R133). -/
structure Overdrive where
  first : Nat
  last : Nat
  excess : Bool
deriving DecidableEq, Repr, Inhabited

/-- A frame as deposited (R24, R26). `suspect` lists the tick spans marked suspect; `outgoing` the corrected values of the
outgoing core in a seam frame, in 1/16 LSB, and which of them are overrange codes (R126). -/
structure Frame where
  index : Nat
  codes : List Int
  /-- corrected values in 1/16 LSB -/
  values : List Int := []
  seams : Nat := 0
  generation : Nat := 0
  coasting : Bool := false
  suspect : List (Nat × Nat) := []
  interrupted : Bool := false
  epoch : Nat := 0
  outgoing : List (Int × Bool) := []
deriving DecidableEq, Repr, Inhabited

/-- A pass of the background calibration (R146, R149). -/
structure Pass where
  start : Nat
  settling : Bool := false
  seams : Nat := 0
  /-- a condition arose during the pass: another follows at its end (R145) -/
  again : Bool := false
deriving DecidableEq, Repr, Inhabited

/-- A direct input (R24, R41, R42, R118 to R135, R145 to R149). -/
structure Input where
  enabled : Bool := true
  /-- 0 running, 1 stopped by a letterbox overflow, 2 stopped by core faults (R41, R130) -/
  stopped : Nat := 0
  discarded : Nat := 0
  letterbox : List Frame := []
  seams : Nat := 0
  /-- the seam frame of the latest completed seam, the phase handed over and the core that left it -/
  seamFrame : Nat := 0
  seamPhase : Nat := 0
  seamCore : Nat := 0
  failed : Nat := 0
  postponed : Nat := 0
  lastRms : Nat := 0
  lastMean : Int := 0
  lastBound : Nat := 0
  consecutive : Nat := 0
  stuck : Bool := false
  noRotation : Bool := false
  seam : Option Seam := none
  retry : Bool := false
  overdrives : List Overdrive := []
  /-- OVERRANGE written since the latest arm (R135) -/
  overranged : Bool := false
deriving DecidableEq, Repr, Inhabited

/-- An input's background calibration (R145 to R149). -/
structure InputCal where
  readings : List Int := []
  /-- the latest own reading that differed from the one before it, and when (R148) -/
  changedAt : Option (Nat × Int) := none
  /-- what the other sensors read over the latest 10 s, newest first: system time, sum and number (R148) -/
  others : List (Nat × Int × Nat) := []
  tRef : Int := 0
  lastStart : Nat := 0
  pass : Option Pass := none
  sensorFault : Bool := false
  passes : Nat := 0
  lastEnd : Option Nat := none
  /-- the input's path is continuous by schedule (R144, R162) -/
  continuous : Bool := false
deriving DecidableEq, Repr, Inhabited

/-- The converters, their letterboxes and the pair modes. -/
structure InputsState where
  inputs : List Input := List.replicate 8 {}
  cores : List Core := List.replicate 24 {}
  pairs : List Bool := List.replicate 4 false
  /-- the converters and lanes are up -/
  running : Bool := false
  /-- next frame to deposit -/
  nextFrame : Nat := 0
  /-- counter of cores gone live -/
  order : Nat := 0
deriving DecidableEq, Repr, Inhabited

/-- A foreground calibration under way: commanded (R141), on enabling or pairing (R119), or a restore (R162). -/
inductive ForegroundKind where
  | commanded | enable | restore
deriving DecidableEq, Repr, Inhabited

structure Foreground where
  kind : ForegroundKind
  inputs : List Nat
  waiter : Option Waiter
  deferred : Bool := false
  /-- it waited for an injected conversion (R141) -/
  wasDeferred : Bool := false
  /-- a reset of the acquisition subsystem asked for it (R539) -/
  subsystem : Bool := false
  first : Nat := 0
deriving DecidableEq, Repr, Inhabited

/-- Calibration (R138 to R162). -/
structure CalState where
  generation : Nat := 0
  /-- changes of the generation that frames still to be deposited do not all carry: the first frame that does, and the
  generation before it, oldest first (R153) -/
  changes : List (Nat × Nat) := []
  /-- step of the start-up foreground calibration under way; 0 none -/
  startup : Nat := 0
  /-- a settling pass waits for the end of the start-up calibration (R140) -/
  settleAfter : Bool := false
  /-- start-up calibration has ended since the reset: arming is admitted (R140) -/
  done : Bool := false
  continuous : Bool := false
  threshold : Nat := 20
  maxInterval : Nat := 3600
  inputs : List InputCal := List.replicate 8 {}
  foregrounds : List Foreground := []
  /-- interruptions: input, first frame, last frame where known (R142) -/
  interruptions : List (Nat × Nat × Option Nat) := []
  /-- the image under restore -/
  restoring : List Byte := []
  alignment : List Int := List.replicate 8 0
deriving DecidableEq, Repr, Inhabited

end Sys2Proof.Machine
end

