-- ==== Sys2Proof/Machine/PartsC.lean ====
section
/-! DEFINITION. The parts of the state of decimation, the trigger system and segmented capture. -/

namespace Sys2Proof.Machine

/-- One output of an input's decimated stream (R166, R250, R258): its index, its reference tick, its codes, and what
marks it. -/
structure Position where
  k : Int
  tick : Nat
  values : List Int
  suspect : Bool := false
  unsettled : Bool := false
  noData : Bool := false
  overrange : Bool := false
  seams : Nat := 0
  generation : Nat := 0
  coasting : Bool := false
  frame : Nat := 0
deriving DecidableEq, Repr, Inhabited

/-- A synchronising reset that a lane has not reached yet (R182): the tick from which it holds, the new anchor, the mode and
the factor from then on, and whether the chain starts with it (R177). -/
structure FilterReset where
  tick : Nat
  t0 : Nat
  mode : Nat
  factor : Nat
  starts : Bool := false
deriving DecidableEq, Repr, Inhabited

/-- An input's decimation and filter state (R165 to R188). -/
structure FilterInput where
  /-- the setting as accepted -/
  mode : Nat := 0
  factor : Nat := 1
  /-- mode and factor that the lane works under, and whether its samples enter the running chain -/
  laneMode : Nat := 0
  laneFactor : Nat := 1
  on : Bool := false
  /-- anchor tick of the grid of its outputs -/
  anchor : Nat := 0
  /-- synchronising resets to come, oldest first -/
  resets : List FilterReset := []
  /-- the next output to complete -/
  next : Int := 0
  /-- what numbers outputs on over a reset with a new anchor, so that positions rise (the model's own) -/
  kBase : Int := 0
  /-- the interval under way: codes so far, whether one of them is suspect or without data -/
  codes : List Int := []
  suspect : Bool := false
  noData : Bool := false
  /-- CIC integrators and comb delays, modulo 2^92 -/
  integrators : List Int := [0, 0, 0, 0, 0]
  combs : List Int := [0, 0, 0, 0, 0]
  /-- delay lines of HB-A, HB-B and the FIR, newest first -/
  hbA : List Int := []
  hbB : List Int := []
  fir : List Int := []
  /-- recent tick spans that make a filtered output suspect -/
  spans : List (Nat × Nat) := []
  unsettled : Nat := 0
  saturations : Nat := 0
deriving DecidableEq, Repr, Inhabited

/-- The filter chain (R165, R169, R175, R182, R183). -/
structure FilterState where
  inputs : List FilterInput := List.replicate 8 {}
  running : Bool := false
  config : Nat := 1
  stages : Nat := 1
  period : Nat := 1024
  /-- shifts of CIC, HB-A, HB-B and FIR for the Custom configuration -/
  shifts : List Nat := [0, 0, 0, 0]
  /-- the loaded coefficients; taps past the list are 0 -/
  coefs : List Int := []
  anchor : Nat := 0
  /-- a scheduled FLT_SYNC: tick, who waits -/
  scheduled : Option (Nat × Waiter) := none
  /-- a start-up reset is due at the first frame deposited (R182) -/
  startup : Bool := true
deriving DecidableEq, Repr, Inhabited

/-- A comparator as the lane of its input holds it (R192, R193). -/
structure Comparator where
  source : Nat := 0
  level : Int := 0
  hyst : Nat := 8
  /-- the tick from which the setting is in force -/
  from_ : Nat := 0
  /-- settings that take effect at a frame, oldest first: source, level, hysteresis, frame -/
  waits : List (Nat × Int × Nat × Nat) := []
  st : Option Bool := none
deriving DecidableEq, Repr, Inhabited

/-- The setting of a condition slot (R195). -/
structure SlotSetting where
  type : Nat := 0
  source : Nat := 0
  options : Nat := 0
  low : Nat := 0
  high : Nat := 0
  stretch : Nat := 0
deriving DecidableEq, Repr, Inhabited

/-- A condition slot at the first tick that has not been evaluated (R195 to R200). -/
structure Slot where
  set : SlotSetting := {}
  /-- settings that take effect at a frame, oldest first -/
  waits : List (SlotSetting × Nat) := []
  value : Bool := false
  /-- the tick at which the stretch under way ends -/
  until_ : Option Nat := none
  /-- tick at which the measurement under way began (R198) -/
  mark : Option Nat := none
  /-- the event that began the stretch came from a decimated stream -/
  decimated : Bool := false
deriving DecidableEq, Repr, Inhabited

/-- What a source of slots reports: a comparator's switch, its initial state, or that it holds none any more (R193, R199); an edge
on a tach or trigger input; the alarm bits of a head with its masks, whether they were cleared, and the head time that raised
them (R222). -/
inductive TrigSource where
  | switch (input comp : Nat) (rose : Bool)
  | initial (input comp : Nat) (high : Bool)
  | lost (input comp : Nat)
  | tach (n : Nat) (rising : Bool)
  | trigin (n : Nat) (high : Bool)
  | alarm (port position bits : Nat) (masks : List Nat) (cleared : Bool) (time : Nat)
deriving DecidableEq, Repr, Inhabited

/-- A report that waits until every source is known up to its tick (R190). The instant is in 1/65,536 tick (R214, R215). -/
structure TrigEvent where
  tick : Nat
  source : TrigSource
  instant : Nat
  timing : Nat := 3
  decimated : Bool := false
deriving DecidableEq, Repr, Inhabited

/-- A change of a slot at the tick under evaluation (R199, R203, R215). -/
structure SlotChange where
  slot : Nat
  value : Bool
  forced : Bool := false
  instant : Nat
  timing : Nat := 3
  decimated : Bool := false
  /-- alarm slots: port, position, beacon time -/
  alarm : Option (Nat × Nat × Nat) := none
deriving DecidableEq, Repr, Inhabited

/-- A qualifying transition of a pattern in sequence mode (R205): of B or of A, with its source code (R219). -/
structure Hit where
  instant : Nat
  second : Bool
  code : Nat
  alarm : Option (Nat × Nat × Nat) := none
deriving DecidableEq, Repr, Inhabited

/-- A pattern (R201). -/
structure Pattern where
  any_ : Bool := false
  care : Nat := 0
  value : Nat := 0
deriving DecidableEq, Repr, Inhabited

/-- A qualifying trigger (R210, R214, R219). `order` is 0 for pattern and sequence, 1 bus, 2 forced. -/
structure Trigger where
  instant : Nat
  order : Nat
  code : Nat
  alarm : Option (Nat × Nat × Nat) := none
  bus : Option (Nat × Nat) := none
  waiter : Option Waiter := none
deriving DecidableEq, Repr, Inhabited

inductive TrigState where
  | disarmed | prefill | ready | fill | rearm
deriving DecidableEq, Repr, Inhabited

/-- A segment from its accepted trigger to its postmark (R260, R267, R270). -/
structure Segment where
  sequence : Nat
  slot : Nat
  trigger : Trigger
  mask : Nat
  epoch : Nat
  time : Int
  unaligned : Bool
  /-- store's first position, first and last position of the segment, trigger position -/
  store : Int
  first : Int
  last : Int
  trigPos : Int
  short : Bool
  captured : Nat
  dead : Nat
  missedFill : Nat
  missedRearm : Nat
  missedPrefill : Nat
  wrapped : Bool
  /-- last tick of frame L -/
  fillEnd : Nat
  stepped : Bool := false
  underStop : Bool := false
  /-- inputs whose strands are in memory, and of each input the store strands that had reached memory when the fill ended -/
  written : List Nat := []
  landed : List Nat := []
  /-- the hamper has it -/
  handed : Bool := false
  armTick : Nat
  capture : Nat
  /-- the postmark of the slot has been filled with 0 where R275 asks for it -/
  filled : Bool := true
deriving DecidableEq, Repr, Inhabited

/-- A group's capture configuration (R253, R254). -/
structure SegConfig where
  layout : Nat := 0
  mask : Nat := 0
  copy : Bool := false
  span : Nat := 1
  post : Nat := 1
  strands : Nat := 4
  count : Nat := 0
  tableBase : Nat := 0
  tableSize : Nat := 0
  dataBase : Nat := 0
  dataSize : Nat := 0
  pigeonhole : Nat := 0
deriving DecidableEq, Repr, Inhabited

/-- Counts of a group's triggers since its latest arm (R230). -/
structure TrigCounts where
  accepted : Nat := 0
  rearm : Nat := 0
  fill : Nat := 0
  prefill : Nat := 0
  heldOff : Nat := 0
  timeouts : Nat := 0
  forced : Nat := 0
  busAccepted : Nat := 0
  busLate : Nat := 0
  busDropped : Nat := 0
deriving DecidableEq, Repr, Inhabited

/-- Whether a capture runs, and how it ends (R262 to R266, R489). -/
inductive CaptureState where
  /-- disarmed -/
  | disarmed
  /-- pending under a hold of the system (R459, R489) -/
  | pending
  /-- the arm frame has not come yet -/
  | scheduled
  | capturing
  | stopping
deriving DecidableEq, Repr, Inhabited

/-- A capture group's trigger (R201 to R213). -/
structure TrigGroup where
  flags : Nat := 0
  busGroups : Nat := 0
  window : Nat := 0
  holdoff : Nat := 0
  a : Pattern := {}
  b : Pattern := {}
  /-- pattern values at the tick before, none before the first evaluation after the arm -/
  prev : Option (Bool × Bool) := none
  /-- qualifying transitions of the patterns in sequence mode that an earlier instant may still precede -/
  hits : List Hit := []
  /-- end of the open sequence window, in 1/65,536 tick -/
  seqEnd : Option Nat := none
  /-- end of holdoff by time, in 1/65,536 tick; triggers left to hold off by count -/
  holdEnd : Option Nat := none
  holdLeft : Nat := 0
  queue : List Trigger := []
  counts : TrigCounts := {}
  /-- counts of the present span (R212) -/
  spanFill : Nat := 0
  spanRearm : Nat := 0
  spanPrefill : Nat := 0
  /-- dead time that a discarded segment's span leaves to the span after the last written segment (R266) -/
  spanDead : Nat := 0
  /-- instant of the latest accepted trigger; last tick of its frame L; tick at which Re-arm ended; Ready from this
  tick on -/
  accepted : Option Nat := none
  fillEnd : Nat := 0
  rearmEnd : Option Nat := none
  readyTick : Option Nat := none
  short : Bool := false
deriving DecidableEq, Repr, Inhabited

/-- What a group's status is read from: its trigger, whether it is watched from an arm frame on, and from when it stops (R230). -/
structure TrigView where
  group : TrigGroup
  watched : Bool
  armFrame : Nat
  stopTick : Option Nat
deriving DecidableEq, Repr, Inhabited

/-- A capture group's segments (R253 to R278). -/
structure SegGroup where
  config : SegConfig := {}
  state : CaptureState := .disarmed
  everArmed : Bool := false
  active : Nat := 0
  /-- inputs removed since the arm, each with the tick of its first discarded frame (R41, R130) -/
  removed : List (Nat × Nat) := []
  /-- the arm frame of the latest capture, and the one an arm is scheduled for (R264, R278) -/
  armFrame : Nat := 0
  armNext : Nat := 0
  /-- tick from which a stopping group counts triggers as in Fill, and of the first SEG_STOP with abort (R265) -/
  stopTick : Option Nat := none
  abortTick : Option Nat := none
  captures : Nat := 0
  firstSeq : Nat := 0
  nextSeq : Nat := 0
  written : Nat := 0
  lastWritten : Nat := 0
  discarded : Option Nat := none
  lastReason : Nat := 0
  reason : Nat := 0
  /-- first frame of the present store (R259) -/
  storeFrame : Nat := 0
  /-- what is added to an input's output numbers to give those of the lowest-numbered input of the mask -/
  shifts : List Int := List.replicate 8 0
  /-- outputs of each input that stores and segments in hand may need, oldest first -/
  positions : List (List Position) := List.replicate 8 []
  filling : Option Segment := none
  /-- segments whose fill has ended, oldest first -/
  writing : List Segment := []
  /-- store strands of each input of the present store that have reached memory -/
  landed : List Nat := List.replicate 8 0
  /-- the slot's postmark has been filled with 0 for the present store (R275) -/
  filled : Bool := false
  armWaiter : Option Waiter := none
  stopWaiters : List Waiter := []
deriving DecidableEq, Repr, Inhabited

/-- A marker (R228). -/
structure Marker where
  mode : Nat := 0
  select : Nat := 0
  width : Nat := 0
  delay : Nat := 0
  level : Bool := false
  /-- mode 6: the control word of SMP2 that the land follows, 0 while it rests low -/
  clock : Nat := 0
  /-- edges due: system time in ps, level -/
  due : List (Nat × Bool) := []
deriving DecidableEq, Repr, Inhabited

/-- A message that waits on TRIGBUSOUT: group, index, fraction, code. -/
structure TrigOut where
  group : Nat
  index : Nat
  fraction : Nat
  code : Nat
deriving DecidableEq, Repr, Inhabited

/-- A sample that the trigger stage of a lane still needs (R216): its code, its corrected value in 1/16 LSB for interpolation,
what degrades it, and in a seam frame the outgoing core's value and whether it is an overrange code (R126). -/
structure TailSample where
  tick : Nat
  code : Int
  value : Int
  clips : Bool := false
  suspect : Bool := false
  outgoing : Option (Int × Bool) := none
deriving DecidableEq, Repr, Inhabited

/-- The trigger system (R190 to R230). -/
structure TrigMachine where
  comparators : List Comparator := List.replicate 16 {}
  slots : List Slot := List.replicate 32 {}
  groups : List TrigGroup := List.replicate 4 {}
  /-- reports that wait for their tick, and the first grid tick that the patterns have not evaluated -/
  events : List TrigEvent := []
  horizon : Nat := 0
  /-- at that tick: the states of the comparators, the levels of TRIGIN0 to TRIGIN3, the alarm bits of heads (port, position,
  bits, masks) and the activity of the alarm groups -/
  seen : List (Option Bool) := List.replicate 16 none
  triginSeen : List Bool := List.replicate 4 false
  alarmBits : List (Nat × Nat × Nat × List Nat) := []
  alarms : List Bool := List.replicate 4 false
  /-- the next frame that each input's lane lifts, and the latest samples of each lane, newest first: the newest has not
  been evaluated yet -/
  lifted : List Nat := List.replicate 8 0
  tails : List (List TailSample) := List.replicate 8 []
  /-- ticks from which each lane's input gives no frames for a span, oldest first, that its lane has not reached -/
  gaps : List (List Nat) := List.replicate 8 []
  /-- tokens in the bucket just after a frame boundary, and that frame (R208) -/
  tokens : Nat := 8
  tokenFrame : Nat := 0
  /-- what stood before each later change, newest first, each with the tick of the change: a group's view, its sequence
  window and its timeouts, the slots' states, the bucket (R230) -/
  past : List (List (Nat × TrigView)) := List.replicate 4 []
  windowPast : List (List (Nat × Option Nat × Nat)) := List.replicate 4 []
  condPast : List (Nat × Nat) := []
  tokenPast : List (Nat × Nat × Nat) := []
  busWait : Nat := 20
  messages : Nat := 0
  crcErrors : Nat := 0
  out : List TrigOut := []
  markers : List Marker := List.replicate 4 {}
  /-- levels of TRIGIN0 to TRIGIN3 -/
  trigin : List Bool := List.replicate 4 false
deriving DecidableEq, Repr, Inhabited

end Sys2Proof.Machine
end

