-- ==== Sys2Proof/Machine/PartsD.lean ====
section
/-! DEFINITION. The parts of the state of edge timing and of the auxiliary converter. -/

namespace Sys2Proof.Machine

/-- An interpolator (R237 to R239): a fresh pair of period readings taken since its latest edge, since when it is ready,
its linearity table in fs. -/
structure Interpolator where
  pair : Option (Nat × Nat) := none
  readyAt : Nat := 0
  table : List Int := []
  builtAt : Nat := 0
  stale : Bool := false
  /-- its residual non-linearity in fs, rms and peak (R156) -/
  rms : Nat := 0
  peak : Nat := 0
deriving DecidableEq, Repr, Inhabited

/-- An edge source, TACH0 to TACH7 or PPSIN: its two interpolators and its stamps (R235, R238, R240). -/
structure EdgeSource where
  interps : List Interpolator := [{}, {}]
  turn : Nat := 0
  lost : Nat := 0
  lostFlag : Bool := false
  stamps : List (List Byte) := []
deriving DecidableEq, Repr, Inhabited

/-- The setting of a tach input (R232). -/
structure TachSetting where
  enable : Bool := false
  terminate : Bool := false
  threshold : Int := 0
  hysteresis : Nat := 20
deriving DecidableEq, Repr, Inhabited

/-- A frequency gate (R241 to R245). Stamps are in 1/16 tick. -/
structure Gate where
  mode : Nat := 0
  direction : Nat := 1
  lengthUs : Nat := 0
  stride : Nat := 1
  start : Nat := 0
  end_ : Nat := 0
  /-- the gate has been set and not yet begun; it runs -/
  waits : Bool := false
  running : Bool := false
  /-- the next edge of the direction, and the collected pairs, newest first -/
  index : Nat := 0
  pairs : List (Nat × Nat) := []
  lost : Nat := 0
  early : Bool := false
  inexact : Bool := false
  degraded : Bool := false
  /-- a collected stamp says that edges were lost before it -/
  lossy : Bool := false
  saturated : Bool := false
  /-- a continuous gate restarts once the sample loop locks (R245) -/
  restart : Bool := false
  results : List (List Byte) := []
deriving DecidableEq, Repr, Inhabited

/-- An angle reference (R246 to R248). -/
structure Angle where
  on : Bool := false
  direction : Nat := 1
  index : Nat := 0xFF
  indexDir : Nat := 1
  teeth : Nat := 1
  started : Bool := false
  revolution : Nat := 0
  tooth : Nat := 0
  aligned : Bool := false
  /-- tooth edges since the latest index edge, an index edge that awaits its tooth edge, and whether one has come at all -/
  since : Nat := 0
  indexed : Bool := false
  indexSeen : Bool := false
deriving DecidableEq, Repr, Inhabited

/-- A tach input (R231 to R248). -/
structure Tach where
  set : TachSetting := {}
  waits : Option TachSetting := none
  /-- direction of the latest edge under the setting in force -/
  level : Option Bool := none
  gate : Gate := {}
  angle : Angle := {}
deriving DecidableEq, Repr, Inhabited

structure EdgeState where
  tachs : List Tach := List.replicate 8 {}
  sources : List EdgeSource := List.replicate 9 {}
deriving DecidableEq, Repr, Inhabited

/-- A user of the auxiliary converter (R518). -/
inductive AuxUser where
  | inject | hold | housekeeping | sequence
deriving DecidableEq, Repr, Inhabited

/-- The host's sequence (R519). Times in ps. -/
structure AuxSequence where
  run : Bool := false
  sources : List Nat := [16]
  interval : Nat := 1000
  /-- scheduled time of the next conversion (R519) -/
  start : Nat := 0
  next : Nat := 0
deriving DecidableEq, Repr, Inhabited

/-- A capture (R527, R528). -/
structure Capture where
  quantity : Nat := 0
  low : Int := 0
  high : Int := 0
  run : Bool := false
  minimum : Int := 0x7FFFFFFF
  maximum : Int := -0x80000000
  count : Nat := 0
  bins : List Nat := List.replicate 64 0
deriving DecidableEq, Repr, Inhabited

/-- The auxiliary converter (R430, R515 to R529). -/
structure AuxState where
  running : Option (AuxUser × Nat) := none
  /-- the injected conversion that waits or runs: source, who waits -/
  inject : Option (Nat × Waiter) := none
  /-- a calibration hold waits -/
  holdWaits : Bool := false
  /-- the conversion aborted by an injection -/
  restart : Option (AuxUser × Nat) := none
  /-- housekeeping conversions due, oldest first, and the next source -/
  due : List Nat := []
  nextSource : Nat := 0
  /-- the sequence, its conversion that is due (source, scheduled time), and a new sequence that waits -/
  seq : AuxSequence := {}
  seqDue : Option (Nat × Nat) := none
  seqNew : Option AuxSequence := none
  code : Nat := 0
  source : Nat := 0
  injected : Bool := false
  valid : Bool := false
  overrun : Bool := false
  monitors : List Int := List.replicate 16 0
  /-- consecutive readings of sources 0 to 8 out of and in tolerance, and the rails reported -/
  railOut : List Nat := List.replicate 9 0
  railIn : List Nat := List.replicate 9 0
  railBad : List Bool := List.replicate 9 false
  /-- MONITOR_FAULT stands (source), and consecutive good readings of sources 14 and 15 -/
  monitorFault : List Bool := [false, false]
  monitorGood : List Nat := [0, 0]
  captures : List Capture := List.replicate 16 {}
deriving DecidableEq, Repr, Inhabited

end Sys2Proof.Machine
end

