-- ==== Sys2Proof/Machine/PartsE.lean ====
section
/-! DEFINITION. The parts of the state of acquisition memory, pigeonholes, host rings, Ethernet streams and PTP. -/

namespace Sys2Proof.Machine

/-- State of a rank, as MEM_GET_STATUS codes it (R415). -/
inductive RankState where
  | active | spare | migratingOut | migratingIn | retired | failed | removed
deriving DecidableEq, Repr, Inhabited

/-- A physical rank (R387, R415). -/
structure Rank where
  st : RankState := .active
  temp : Int := 0
  corrected : Nat := 0
  uncorrectable : Nat := 0
deriving DecidableEq, Repr, Inhabited

/-- A memory channel: its eye figures and trained values in force, and what its steps found (R138, R156, R399). -/
structure Channel where
  width : Nat := 0
  height : Nat := 0
  /-- per-bit delays and reference voltages; the manual gives them no format -/
  delays : Nat := 0
  refs : Nat := 0
  /-- the latest values trained at each rate, and those of the timing set that is not in use (R403) -/
  trained : List (Nat × Nat × Nat) := []
  shadow : Nat × Nat := (0, 0)
  failed : Nat := 0
  /-- die temperature at the latest completed step -/
  temp : Int := 0
  /-- the bank refreshed latest, and when -/
  bank : Nat := 0
  refreshed : Nat := 0
  /-- refresh rate as a multiple of the base rate (R398) -/
  refreshRate : Nat := 1
deriving DecidableEq, Repr, Inhabited

/-- A training step under way (R399, R400): pauses so far, good ones still wanted, consecutive failures, and what the
latest good measurement found. -/
structure TrainStep where
  channel : Nat
  pauses : Nat := 0
  wanted : Nat := 1
  failures : Nat := 0
  found : Option (Nat × Nat) := none
  temp : Int := 0
deriving DecidableEq, Repr, Inhabited

/-- The migration of a rank (R405 to R408). -/
structure Migration where
  from_ : Nat
  to_ : Nat
  slot : Nat
  units : Nat := 0
  poisoned : Nat := 0
deriving DecidableEq, Repr, Inhabited

/-- Acquisition memory (R387 to R415). -/
structure MemState where
  /-- bytes of the user region, addresses rising, no entry 0: an unlisted address reads 0 (R545) -/
  cells : List Host.Cell := []
  /-- poisoned 64-byte lines of the user region, by line number, rising (R396) -/
  poisoned : List Nat := []
  ranks : List Rank := (List.range 48).map fun k => { st := if 46 ≤ k then .spare else .active }
  /-- rank map: the rank that holds each slot (R390) -/
  map : List Nat := List.range 46
  rate : Nat := 0
  setB : Bool := false
  /-- a rate change under way: target, its waiter, deferred behind a training step -/
  change : Option (Nat × Option Waiter × Bool) := none
  /-- a rate change that waits for the training step under way -/
  waits : Option (Nat × Waiter) := none
  channels : List Channel := List.replicate 24 {}
  step : Option TrainStep := none
  nextChannel : Nat := 0
  /-- an extra step has run since the latest regular start -/
  extra : Bool := false
  migration : Option Migration := none
  /-- retirements that wait: the rank (R403, R407) -/
  due : List Nat := []
  /-- every channel is in self-refresh -/
  selfRefresh : Bool := true
  /-- flag [2] of MEM_GET_STATUS -/
  preserved : Bool := false
  /-- next line of the patrol scrub: rank and line in it -/
  scrubRank : Nat := 0
  scrubLine : Nat := 0
  /-- privileged pages that hold a poisoned line: region, page -/
  privileged : List (Nat × Nat) := []
deriving DecidableEq, Repr, Inhabited

/-- Who offers an entry to a pigeonhole (R360). -/
inductive PhWriter where
  | segment (g : Nat) | head (port position : Nat) | edge (source kind : Nat) | engine (e : Nat) | copier
deriving DecidableEq, Repr, Inhabited

/-- An entry held (R361). `cell` is its place in the storage area. -/
structure Entry where
  seq : Nat
  cell : Nat
  length : Nat
  committed : Option Nat := none
deriving DecidableEq, Repr, Inhabited

/-- Entries that a writer waits to place: a result's fragments are one unit (R361, R362). -/
structure Offer where
  writer : PhWriter
  entries : List (List Byte)
deriving DecidableEq, Repr, Inhabited

/-- A Configured pigeonhole (R358 to R367, R385). -/
structure Pigeonhole where
  policy : Nat := 0
  kind : Nat := 0
  entrySize : Nat := 64
  depth : Nat := 2
  base : Nat := 0
  size : Nat := 0
  deadline : Nat := 0
  target : Nat := 0
  nextSeq : Nat := 0
  entries : List Entry := []
  waiting : List Offer := []
  switched : Bool := false
  droppedNew : Nat := 0
  droppedOld : Nat := 0
  oversize : Nat := 0
  flushed : Nat := 0
  /-- sequence number of the latest delivered entry -/
  delivered : Option Nat := none
  /-- system time of the latest drop -/
  lastDrop : Option Nat := none
deriving DecidableEq, Repr, Inhabited

/-- An edge binding (R368): the pigeonhole, the open stamp batch and its first stamp's time, stamps dropped. -/
structure EdgeBind where
  ph : Nat
  batch : List (List Byte) := []
  opened : Nat := 0
  dropped : Nat := 0
deriving DecidableEq, Repr, Inhabited

inductive RingState where
  | unconfigured | stopped | running | faulted | linkStopped
deriving DecidableEq, Repr, Inhabited

/-- A host ring (R372 to R378, R386). -/
structure HostRing where
  st : RingState := .stopped
  notify : Bool := false
  relaxed : Bool := false
  slotSize : Nat := 64
  slots : Nat := 16
  vector : Nat := 0
  data : Nat := 0
  status : Nat := 0
  consumer : Nat := 0
  coalesceCount : Nat := 1
  coalesceUs : Nat := 1
  cause : Nat := 0
  produced : Nat := 0
  cached : Nat := 0
  /-- a read of the consumer word under way, with its retries; when the latest was sent -/
  reading : Option Nat := none
  readAt : Option Nat := none
  messages : Nat := 0
  uncovered : Nat := 0
  since : Nat := 0
  /-- pigeonhole served latest -/
  served : Option Nat := none
deriving DecidableEq, Repr, Inhabited

/-- An Ethernet stream (R379 to R381). -/
structure Stream where
  enabled : Bool := false
  port : Nat := 0
  tagged : Bool := false
  dscp : Nat := 0
  mac : List Byte := []
  tag : Nat := 0
  ip : Nat := 0
  destPort : Nat := 0
  sourcePort : Nat := 0
  mtu : Nat := 0
  rate : Nat := 1
  sent : Nat := 0
  bytes : Nat := 0
  paused : Nat := 0
  /-- from when the rate limit lets the next datagram go, in ps -/
  ready : Nat := 0
  served : Option Nat := none
deriving DecidableEq, Repr, Inhabited

/-- An Ethernet port's link (R381). -/
structure EthLink where
  up : Bool := false
  pausedSince : Option Nat := none
  pauseEnd : Nat := 0
  /-- stream served latest -/
  served : Option Nat := none
deriving DecidableEq, Repr, Inhabited

/-- The PTP clock of a port (R382, R383). Times in ns. -/
structure PtpPort where
  enabled : Bool := false
  domain : Nat := 0
  transport : Nat := 0
  logInterval : Int := 0
  /-- masters heard: identity, quality (lower is better) -/
  masters : List (Nat × Nat) := []
  master : Option Nat := none
  /-- the Sync that awaits its Follow_Up, and the latest (origin, arrival) -/
  twoStep : Option (Nat × Int) := none
  sync : Option (Int × Int) := none
  /-- the Delay_Req sent: sequence, TAI at sending -/
  request : Option (Nat × Int) := none
  sequence : Nat := 0
  delay : Int := 0
  measured : Bool := false
  offset : Int := 0
  syncs : Nat := 0
  lastPair : Option Nat := none
  lost : Bool := false
deriving DecidableEq, Repr, Inhabited

/-- Pigeonholes and delivery (R358 to R386). -/
structure TransferState where
  /-- Configured pigeonholes by number, rising -/
  phs : List (Nat × Pigeonhole) := []
  /-- edge bindings: source, kind (0 stamps, 1 gate results) -/
  edges : List (Nat × Nat × EdgeBind) := []
  rings : List (Nat × HostRing) := []
  streams : List (Nat × Stream) := []
  /-- ring served latest (R376) -/
  served : Option Nat := none
  links : List EthLink := [{}, {}]
  ptp : List PtpPort := [{}, {}]
  /-- system times of the PIGEONHOLE_DROPPING records of the latest second, and records suppressed -/
  dropRecords : List Nat := []
  suppressed : Nat := 0
deriving DecidableEq, Repr, Inhabited

end Sys2Proof.Machine
end

