-- ==== Sys2Proof/Machine/PartsF.lean ====
section
/-! DEFINITION. The parts of the state of the hamper and of the Damux ports. -/

namespace Sys2Proof.Machine

/-- A direct segment that waits to be combined (R288 to R290): values of each masked input in rank order. -/
structure HamSegment where
  sequence : Nat
  instant : Nat
  short : Bool := false
  noData : Bool := false
  suspect : Bool := false
  unsettled : Bool := false
  values : List (List (List Int)) := []
deriving DecidableEq, Repr, Inhabited

/-- The configuration of an accumulator (R282). -/
structure AccConfig where
  kind : Nat := 0
  group : Nat := 0
  kinds : Nat := 0
  options : Nat := 0
  chain : Nat := 0xFF
  count : Nat := 0
  port : Nat := 0
  position : Nat := 0
  channel : Nat := 0
  headSpan : Nat := 0
  headPre : Nat := 0
deriving DecidableEq, Repr, Inhabited

inductive AccState where
  | free | idle | ready | running
deriving DecidableEq, Repr, Inhabited

/-- An accumulator (R279 to R300). -/
structure Accumulator where
  st : AccState := .free
  config : AccConfig := {}
  /-- what fixes the meaning of a position (R284) -/
  snapshot : List Nat := []
  mask : Nat := 0
  /-- S or S_h, and the format: 0 12-bit codes, 1 containers, 2 head samples, 3 peak positions -/
  span : Nat := 0
  format : Nat := 0
  pages : Nat := 0
  segments : Nat := 0
  /-- sum cells, envelope cells; empty after a clearing: every cell as R285 clears it -/
  sums : List Int := []
  envelope : List (Int × Int) := []
  /-- bins that hold a count, by index, rising -/
  bins : List (Nat × Nat) := []
  firstSeq : Nat := 0
  lastSeq : Nat := 0
  /-- skipped: short, no data, suspect, unsettled, busy -/
  skipped : List Nat := [0, 0, 0, 0, 0]
  saturated : Nat := 0
  sumSaturated : Bool := false
  binSaturated : Bool := false
  /-- suspect and unsettled segments are among those taken (R297) -/
  suspectIn : Bool := false
  unsettledIn : Bool := false
  overrange : Bool := false
  byCount : Bool := false
  noSuccessor : Bool := false
  lastReason : Nat := 0
  /-- a clearing under way: standby, who waits (R285) -/
  clearing : Option (Bool × Waiter) := none
  /-- stop under way: the stop frame's tick, the successor, who waits (R286) -/
  stopping : Option (Nat × Option Nat × Waiter) := none
  /-- trigger instants from here on are this run's, in 1/65,536 tick -/
  from_ : Nat := 0
  waiting : List HamSegment := []
  /-- head channel: samples held (head time, value, fault), newest first, and the head segment under way:
  sequence, instant, anchor's head time -/
  held : List (Nat × Int × Bool) := []
  cut : Option (Nat × Nat × Nat) := none
deriving DecidableEq, Repr, Inhabited

/-- A spill under way (R295, R296). -/
structure Spill where
  acc : Nat
  sections : Nat
  dest : Nat
  size : Nat
  waiter : Waiter
deriving DecidableEq, Repr, Inhabited

structure HamState where
  accs : List Accumulator := List.replicate 64 {}
  spill : Option Spill := none
deriving DecidableEq, Repr, Inhabited

inductive HeadState where
  | absent | discovered | enrolled | streaming | unresponsive
deriving DecidableEq, Repr, Inhabited

/-- A roster entry or a discovered head (R315, R316, R329). -/
structure Head where
  position : Nat
  st : HeadState := .absent
  desc : HeadDescriptor := {}
  /-- the entry is in the roster: its serial and position are held -/
  inRoster : Bool := false
  k : Nat := 0
  channels : Nat := 1
  enable : Bool := false
  params : List Byte := []
  masks : List Nat := [0, 0, 0, 0]
  /-- masks that take effect at the next slot (R327) -/
  newMasks : Option (List Nat) := none
  routePh : Option Nat := none
  /-- memory ring: base, size, next cell -/
  routeRing : Option (Nat × Nat × Nat) := none
  pathDelay : Nat := 0
  hop : Nat := 0xFFFF
  /-- the end that serves it, the one that serves it from the next round start on, and the one that measured its path delay -/
  returnEnd : Bool := false
  nextEnd : Option Bool := none
  fromReturn : Bool := false
  /-- alarm bits of the latest accepted slot, and how far from its scheduled instant that came, in ps -/
  alarm : Nat := 0
  drift : Int := 0
  /-- slots received before this tick raise no alarm bits any more (R222) -/
  clearedAt : Nat := 0
  crcErrors : Nat := 0
  discards : Nat := 0
  missed : Nat := 0
  timeErrors : Nat := 0
  /-- consecutive rounds with no valid slot, and with a slot outside its scheduled instant -/
  silent : Nat := 0
  late : Nat := 0
  /-- head time of the latest sample -/
  lastTime : Option Nat := none
  /-- a valid slot has come in the present round; one has been discarded -/
  answered : Bool := false
  spoilt : Bool := false
  /-- state held before Unresponsive -/
  before : HeadState := .enrolled
deriving DecidableEq, Repr, Inhabited

/-- A beacon command that waits or awaits its acknowledgement (R308, R320). -/
structure HeadCommand where
  target : Nat
  opcode : Nat
  arg : List Byte
  sequence : Nat
  sent : Nat := 0
  /-- new stream of a STREAM command: k, channels, enable -/
  stream : Option (Nat × Nat × Bool) := none
  waiter : Option Waiter := none
deriving DecidableEq, Repr, Inhabited

/-- An enumeration under way (R318): the end it walks, rounds without reply. -/
structure Enumeration where
  fromReturn : Bool := false
  misses : Nat := 0
  waiter : Option Waiter := none
deriving DecidableEq, Repr, Inhabited

inductive PortState where
  | down | training | enumerating | running | faulted
deriving DecidableEq, Repr, Inhabited

/-- A slot in a port letterbox: the tick of its reception, the samples missing before it. -/
structure HeldSlot where
  frame : SlotFrame
  tick : Nat
  gap : Bool
  missing : Nat
  returnEnd : Bool
  /-- the head's alarm-group masks that it came under (R327) -/
  masks : List Nat
deriving DecidableEq, Repr, Inhabited

/-- A Damux port (R313 to R329). -/
structure DamuxPort where
  st : PortState := .down
  expectClosed : Bool := false
  auto : Bool := false
  period : Nat := 10
  picked : Bool := false
  /-- a period that takes effect at the next round start (R312) -/
  newPeriod : Option Nat := none
  /-- settings that take effect at the next round start: closed chain expected, automatic enrolment, period picked (R314) -/
  newFlags : Option (Bool × Bool × Bool) := none
  round : Nat := 0
  roundHead : Nat := 0
  roundAt : Nat := 0
  closed : Bool := false
  breakLink : Option Nat := none
  /-- every link that has been reported broken since the latest repair (R321) -/
  broken : List Nat := []
  heads : List Head := []
  commands : List HeadCommand := []
  nextSeq : Nat := 0
  /-- what the latest SCHEDULE told each position (R311) -/
  schedules : List (Nat × List Byte) := []
  enum : Option Enumeration := none
  /-- discovery is open in the present round and a reply has come; a rediscovery opens it in the next one -/
  discovery : Bool := false
  replied : Bool := false
  rediscover : Bool := false
  letterbox : List HeldSlot := []
  crcErrors : Nat := 0
  otherDiscards : Nat := 0
  letterboxDiscards : Nat := 0
  forwardSignal : Bool := false
  returnSignal : Bool := false
  /-- Standby took the port down (R532) -/
  marked : Bool := false
deriving DecidableEq, Repr, Inhabited

/-- What is in force at a Damux receiver (R138). -/
structure ReceiveLane where
  /-- equaliser setting, 0 to 31, and sampling phase -/
  equaliser : Nat := 0
  samplingPhase : Nat := 0
deriving DecidableEq, Repr, Inhabited

/-- The Damux ports and the map of head time onto the grid (R305). -/
structure DamuxState where
  ports : List DamuxPort := List.replicate 16 {}
  anchorHead : Nat := 0
  anchorTick : Nat := 0
  /-- core rate of the map, in MHz -/
  anchorCore : Nat := 12800
  /-- the port that the head lane serves next -/
  nextPort : Nat := 0
  /-- the 32 receive lanes, forward lane of each port first (R138, R156) -/
  lanes : List ReceiveLane := List.replicate 32 {}
deriving DecidableEq, Repr, Inhabited

end Sys2Proof.Machine
end

