-- ==== Sys2Proof/Machine/PartsG.lean ====
section
/-! DEFINITION. The parts of the state of the reduction engines and of a system of many modules. -/

namespace Sys2Proof.Machine

/-- A datum of a tap: the values of its channels at one instant, its tick, and what marks it (R337, R340). -/
structure Datum where
  values : List Int
  tick : Nat
  gap : Bool := false
  suspect : Bool := false
  unsettled : Bool := false
  overrange : Bool := false
  inexact : Bool := false
  degraded : Bool := false
  stopped : Bool := false
  /-- edges were lost before a stamp, or in a gate (R340) -/
  lossy : Bool := false
  /-- data that the full tap dropped just before this one -/
  missing : Nat := 0
  /-- the 24 bytes of an angle stamp (R247) -/
  angle : List Byte := []
deriving DecidableEq, Repr, Inhabited

/-- A tap queue of an engine (R331, R339, R340): what it holds, and the data dropped since the latest of them. -/
structure Tap where
  engine : Nat
  kind : Nat
  source : Nat
  data : List Datum := []
  dropped : Nat := 0
  /-- frames, slots or stamps that the tap has lost (R47, R240) -/
  lost : Nat := 0
deriving DecidableEq, Repr, Inhabited

/-- The start of a revolution on the grid, and what marks the one that ends there: inconsistent, mapping not exact, degraded, stamps
or edges lost (R248, R340). -/
structure Revolution where
  tick : Nat
  inconsistent : Bool := false
  inexact : Bool := false
  degraded : Bool := false
  lossy : Bool := false
deriving DecidableEq, Repr, Inhabited

/-- A block of a job, or what a result covers so far (R337, R338, R352). -/
structure Block where
  /-- values by channel, of the first and of the second source -/
  values : List (List Int) := []
  second : List (List Int) := []
  tick : Nat := 0
  fraction : Nat := 0
  gap : Bool := false
  suspect : Bool := false
  inexact : Bool := false
  inconsistent : Bool := false
  overrange : Bool := false
  degraded : Bool := false
  stopped : Bool := false
  lost : Nat := 0
  span : Nat := 0
  /-- wall time and epoch at the release -/
  time : Int := 0
  epoch : Nat := 0
deriving DecidableEq, Repr, Inhabited

/-- What one input gives to a segment: its values in order, values that a poisoned line spoilt, and what marks its strands (R337,
R340). -/
structure InputPart where
  input : Nat
  values : List Int
  lost : Nat := 0
  suspect : Bool := false
  unsettled : Bool := false
  overrange : Bool := false
deriving DecidableEq, Repr, Inhabited

/-- A task of an engine (R345). -/
structure Task where
  job : Nat
  chunk : Bool
  arrival : Nat
  deadline : Nat
  block : Block := {}
deriving DecidableEq, Repr, Inhabited

/-- What ENG_CREATE_JOB sets (R333). -/
structure JobConfig where
  kernel : Nat := 0
  kind : Nat := 0
  skipSuspect : Bool := false
  source : Nat := 0
  channels : Nat := 0
  kind2 : Nat := 0xFF
  source2 : Nat := 0
  ph : Nat := 0
  spacing : Nat := 0
  scratchBase : Nat := 0
  scratchSize : Nat := 0
  params : List Nat := []
deriving DecidableEq, Repr, Inhabited

/-- A band of BAND_ALARM: its level, and results in a row at or above the next level and below the present one. -/
structure Band where
  level : Nat := 0
  up : Nat := 0
  down : Nat := 0
deriving DecidableEq, Repr, Inhabited

/-- What admission uses (R343, R347, R348): costs in 1/24 ns, spacings in ns and the tap rate in B/s as quotients, sizes
in bytes. -/
structure Cost where
  w : Nat := 0
  t : Nat × Nat := (1, 1)
  wc : Nat := 0
  tc : Nat × Nat := (1, 1)
  memory : Nat := 0
  /-- its taps: kind, source, bytes, rate -/
  taps : List (Nat × Nat × Nat × Nat) := []
deriving DecidableEq, Repr, Inhabited

/-- A job (R333 to R357). -/
structure Job where
  config : JobConfig := {}
  engine : Nat := 0
  snapshot : List Nat := []
  cost : Cost := {}
  /-- channels, and teeth of its angle reference -/
  width : Nat := 1
  running : Bool := false
  stopReason : Nat := 0
  sequence : Nat := 0
  results : Nat := 0
  lost : Nat := 0
  busy : Nat := 0
  skSuspect : Nat := 0
  skUnsettled : Nat := 0
  skOther : Nat := 0
  late : Nat := 0
  aborts : Nat := 0
  /-- the block being collected: data of the first and the second source, oldest first; data still to pass before it
  starts; samples since the latest chunk, and chunks that have not arrived yet -/
  data : List Datum := []
  data2 : List Datum := []
  skip : Nat := 0
  skip2 : Nat := 0
  chunk : Nat := 0
  chunks : Nat := 0
  /-- blocks complete and not yet released -/
  ready : List Block := []
  /-- releases that the result under way has, and what it covers -/
  count : Nat := 0
  result : Block := {}
  inputs : List Int := []
  lastRelease : Option Nat := none
  /-- results dropped by the full link queue since the latest result, and an aborted chunk (R338, R350) -/
  dropped : Nat := 0
  chunkLost : Bool := false
  /-- bands by channel and band -/
  bands : List Band := []
  /-- angle reference: the angle stamps of the revolution under way, and the revolutions ahead of the data -/
  angles : List Datum := []
  revolutions : List Revolution := []
  stopping : Option Waiter := none
deriving DecidableEq, Repr, Inhabited

/-- An engine (R330, R346, R354, R356). -/
structure Engine where
  faulty : Bool := false
  current : Option Task := none
  started : Nat := 0
  /-- a result waits for space in a block-policy pigeonhole, since a system time (R346) -/
  holds : Option Nat := none
  tasks : List Task := []
  late : Nat := 0
  aborts : Nat := 0
deriving DecidableEq, Repr, Inhabited

structure EngineState where
  engines : List Engine := List.replicate 128 {}
  /-- jobs by number, rising -/
  jobs : List (Nat × Job) := []
  taps : List Tap := []
deriving DecidableEq, Repr, Inhabited

/-- A command of the sync stream that waits (R475): code, groups, check sequence, tick or module. -/
structure SyncCommand where
  code : Nat
  groups : Nat := 0
  check : Nat := 0
  tick : Nat := 0
  /-- the tick is the marker tick of the second frame after the command frame (R490, R491) -/
  second : Bool := false
deriving DecidableEq, Repr, Inhabited

/-- A check that the leader runs (R486). -/
structure SyncChecking where
  sequence : Nat
  frames : Nat := 0
  waiter : Waiter
deriving DecidableEq, Repr, Inhabited

/-- A delay calibration that a member runs (R481): the probe sent (number, frame count, t1), and the d_j so far. -/
structure DelayRun where
  waiter : Waiter
  number : Nat := 0
  sent : Option (Nat × Int) := none
  waited : Nat := 0
  ds : List Int := []
deriving DecidableEq, Repr, Inhabited

/-- The multi-module protocol (R470 to R493). -/
structure SyncState where
  id : Nat := 0
  role : Nat := 0
  members : Nat := 1
  bound : Nat := 100
  /-- 0 standalone, 1 joining, 2 joined, 3 refused -/
  st : Nat := 0
  /-- the leader's lock, a protected setting; a member's copy of the frame's flag -/
  lock : Bool := false
  frameLock : Bool := false
  /-- delay d in 1/16 tick and in ps, its compensation in ps, delta, and whether they are in force -/
  delayPs : Int := 0
  delta : Int := 0
  calibrated : Bool := false
  /-- steps of 1/4,096 period that step 2 of R482 has taken on the two loops -/
  stepped : List Int := [0, 0]
  delayRun : Option DelayRun := none
  /-- leader: frame count, check sequence, commands that wait, echoes for the next frame -/
  frame : Nat := 0
  checkSeq : Nat := 0
  commands : List SyncCommand := []
  echoes : List (Nat × Nat × Nat) := []
  check : Option SyncChecking := none
  reports : List SyncReport := []
  /-- the latest check found no disagreement, and has ended -/
  agreed : Bool := false
  /-- member: latest valid frame's time and count, frames discarded, tree lost, time offset, time-unaligned -/
  lastFrame : Option Nat := none
  frameCount : Nat := 0
  discarded : Nat := 0
  lost : Bool := false
  offset : Int := 0
  unaligned : Bool := false
  /-- the time-unaligned flag of segments before each change, newest first, with the tick of the change (R267, R487) -/
  alignPast : List (Nat × Bool) := []
  checkSeen : Nat := 0
  leader : Nat := 0
  /-- a check is in progress and its report is due at the slot -/
  reported : Bool := false
  /-- bits of the latest report -/
  bits : Nat := 0
  /-- a domain reset that is scheduled: system tick, and who waits (leader) -/
  reset : Option (Nat × Option Waiter) := none
  /-- a domain reset requested and not yet sent -/
  resetWaiter : Option Waiter := none
  /-- groups for which the leader has sent an arm command -/
  armSent : Nat := 0
  /-- ticks of requests of SEG_ARM with flag [0] that wait under the hold, by group -/
  armTicks : List Nat := [0, 0, 0, 0]
  /-- check under which the module was refused -/
  refusedAt : Option Nat := none
deriving DecidableEq, Repr, Inhabited

end Sys2Proof.Machine
end

