-- ==== Sys2Proof/Machine/State.lean ====
section
/-! DEFINITION. The machine's state as plain data, the machine right after a power-on reset, and the ways a step can
stop. -/

namespace Sys2Proof.Machine

/-- No command of the model stops with a fault: the spec gives every row of the table an effect, and what a request
asks wrongly is answered with a status. The constructor is the host interface's. -/
inductive Fault where
  /-- raised by nothing -/
  | none
deriving DecidableEq, Repr

/-- Refusals. -/
inductive Refusal where
  /-- a command whose meaning is not written: safe, since the machine stops where the module goes on -/
  | notModelled (mnemonic : String)
deriving DecidableEq, Repr

/-- The state of the module. -/
structure State where
  time : TimeState := {}
  clk : ClockState := {}
  boot : BootState := {}
  pwr : PowerState := {}
  pcie : PcieState := {}
  sess : List Session := List.replicate 32 {}
  /-- the session whose request the control processor took latest (R420) -/
  turn : Option Nat := none
  evt : EventState := {}
  prot : ProtectState := {}
  inp : InputsState := {}
  cal : CalState := {}
  flt : FilterState := {}
  trg : TrigMachine := {}
  seg : List SegGroup := List.replicate 4 {}
  edge : EdgeState := {}
  aux : AuxState := {}
  mem : MemState := {}
  xfer : TransferState := {}
  ham : HamState := {}
  dmx : DamuxState := {}
  eng : EngineState := {}
  sync : SyncState := {}
  jtag : TapPort := {}
  /-- what the module has put out, newest first: the model's own log -/
  sent : List Emission := []
  /-- free values taken so far: the model's own counter -/
  free : Nat := 0
  /-- the commands that wait, first in first out -/
  pending : List Instr := []
deriving DecidableEq, Repr, Inhabited

/-- Control words of the outputs after a power-on reset (R89, R90). -/
def resetOutputs : List Word :=
  [(1, true), (32, true), (128, false), (4, true), (32, true), (2, true), (1, true), (4, true), (25, true),
   (16, true), (8, true), (10, true)].map fun p => BitVec.ofNat 32 (p.1 + if p.2 then 2 ^ 27 else 0)

/-- The module right after a power-on reset (R15, R428, R536). DESIGN CHOICE (log entry 1). -/
def State.reset : State :=
  { clk := { outputs := resetOutputs }
    boot := { nresetLow := true }
    prot := { net := [{ mac := (Config.factoryMac 0).toNat }, { mac := (Config.factoryMac 1).toNat }] } }

end Sys2Proof.Machine
end

