-- ==== Sys2Proof/Machine/Ops.lean ====
section
/-! DEFINITION. The operations that every family shares: the passage of time, what the module puts out, ALERTn, event
records, and sessions with their replies. -/

namespace Sys2Proof.Machine

/-! ## Time -/

/-- Frequency deviation terms over `dt` ps in which the sample loop's frequency follows its slope: grid ticks in units
of 1 / (5 * 10^20) tick. DESIGN CHOICE (log entry 5). -/
def tickUnits (freq slope : Int) (dt : Nat) : Int := 2000000 * freq * dt + slope * dt * dt

/-- Those of a frequency that the hard ceiling `cap` clamps (R103): the stretch up to the crossing, and the rest. -/
def cappedUnits (cap freq slope : Int) (dt : Nat) : Int :=
  if 0 < slope then
    if cap ≤ freq then tickUnits cap 0 dt
    else
      let d := min dt ((cap - freq) * 1000000 / slope).toNat
      tickUnits freq slope d + tickUnits cap 0 (dt - d)
  else if slope < 0 ∧ cap < freq then
    let d := min dt (((freq - cap) * 1000000 - slope - 1) / -slope).toNat
    tickUnits cap 0 d + tickUnits (freq + slope * d / 1000000) slope (dt - d)
  else tickUnits (min cap freq) slope dt

/-- The grid-tick count after `dt` ps at a slope (R7, R103, R104: the counters count on through a change without a jump).
DESIGN CHOICE (log entry 5). -/
def runGrid (cap : Int) (t : TimeState) (slope : Int) (dt : Nat) : TimeState :=
  if t.gridOn then
    let n := t.rem + (cappedUnits cap t.freq slope dt).toNat
    { t with tick := t.tick + n / (5 * 10 ^ 20), rem := n % (5 * 10 ^ 20), freq := t.freq + slope * dt / 1000000 }
  else { t with freq := t.freq + slope * dt / 1000000 }

/-- Wall time after `dt` ps: system-loop time, steered and slewed together by at most 10 ppm (R84 to R86).
DESIGN CHOICE (log entry 5). -/
def runWall (t : TimeState) (dt : Nat) : TimeState :=
  let room : Int := dt * (10000 - t.steer.natAbs)
  let d := clampInt (-room) room t.slew
  { t with tai := t.tai + dt * (10 ^ 9 + t.steer) + d, slew := t.slew - d }

/-- System time moves on to `at_`; it never falls. DESIGN CHOICE (log entry 4). -/
def advanceTime (cap : Int) (t : TimeState) (at_ : Nat) : TimeState :=
  let sloped := min at_ t.slopeEnd - t.ps
  let rest := (at_ - t.ps) - sloped
  { runWall (runGrid cap (runGrid cap t t.slope sloped) 0 rest) (at_ - t.ps) with ps := max t.ps at_ }

/-- The ceiling of R103 in 10^-9 MHz. -/
def ClockState.cap (x : ClockState) : Int := x.ceiling * 10 ^ 9

/-- The sample loop's frequency in 10^-9 MHz, below the ceiling (R103). -/
def State.sampleFreq (s : State) : Int := min s.clk.cap s.time.freq

/-- Coasting time of a loop over `dt` ps (R108). -/
def Loop.pass (dt : Nat) (l : Loop) : Loop :=
  if l.st = .coasting then { l with coastPs := l.coastPs + dt } else l

/-- The passage of time up to a command: the clocks and counters that run by themselves. DESIGN CHOICE (log entry 4). -/
def advance (at_ : Nat) (s : State) : State :=
  let dt := at_ - s.time.ps
  { s with
    time := advanceTime s.clk.cap s.time at_
    clk := { s.clk with loops := s.clk.loops.map (Loop.pass dt) } }

/-- The integral of a stretch of the sample loop's frequency over system times `lo` to `hi`. -/
def stretchSum (x : Nat × Int × Int × Nat) (lo hi : Nat) : Int :=
  let m := min hi (max lo x.2.2.2)
  let f (p : Nat) : Int := x.2.1 + x.2.2.1 * ((min p x.2.2.2 : Nat) - x.1) / 1000000
  (f lo + f m) * (m - lo : Nat) / 2 + f m * (hi - m : Nat)

/-- The same over stretches, newest first; before the oldest the loop stood at `f0`. -/
def stretchesSum (f0 : Int) (lo : Nat) : Nat → List (Nat × Int × Int × Nat) → Int
  | hi, [] => f0 * (hi - lo : Nat)
  | hi, x :: l => if x.1 ≤ lo then stretchSum x lo hi else stretchSum x x.1 hi + stretchesSum x.2.1 lo x.1 l

/-- The control values of R97 span 1,024 updates of 100 ns. -/
def controlSpan : Nat := 102400000

/-- The average of the sample loop's frequency over those updates (R97). -/
def TimeState.average (t : TimeState) : Int :=
  stretchesSum t.freq (t.ps - controlSpan) t.ps t.stretches / (t.ps - (t.ps - controlSpan) : Nat)

/-- The stretches that reach into the span of R97. -/
def keepStretches (lo : Nat) : List (Nat × Int × Int × Nat) → List (Nat × Int × Int × Nat)
  | [] => []
  | x :: l => if x.1 ≤ lo then [x] else x :: keepStretches lo l

/-- The sample loop runs on from here at a frequency, with a slope up to a system time. -/
def driveSample (freq slope : Int) (until_ : Nat) (s : State) : State :=
  let t := s.time
  { s with time := { t with
      freq := freq, slope := slope, slopeEnd := until_
      stretches := (t.ps, freq, slope, until_) :: keepStretches (t.ps - controlSpan) t.stretches } }

def psPerMs : Nat := 10 ^ 9
def psPerS : Nat := 10 ^ 12

/-- Wall time in TAI ns. -/
def State.now (s : State) : Int := s.time.tai / 10 ^ 12

/-- Grid ticks in `us` microseconds at the present core rate: one tick is a quarter of the core period (R7). -/
def State.ticksOfUs (s : State) (us : Nat) : Nat := us * 4 * s.clk.core

/-- The frame of a grid tick (R7). -/
def frameOf (tick : Nat) : Nat := tick / 128

/-- Head time: counts of 1.25 ns * 15,625 / 32, 0 at the system loop's first lock (R304). -/
def State.headTime (s : State) : Nat := (s.time.ps - s.time.headZero) * 32 / (15625 * 1250)

/-! ## The firmware in control (R451) -/

def State.imageDigest (s : State) : List Byte := s.boot.control.getD Config.imageDigest.toList
def State.fwMinor (s : State) : Nat := (Config.fwMinor s.imageDigest).toNat
def State.fwPatch (s : State) : Nat := (Config.fwPatch s.imageDigest).toNat

/-! ## Free values -/

/-- Take a free value. DESIGN CHOICE (log entry 27). -/
def takeFree (s : State) : Nat × State := (Config.free s.free, { s with free := s.free + 1 })

/-! ## What the module puts out -/

/-- DESIGN CHOICE (log entry 29). -/
def emit (land : Land) (args : List Nat) (data : List Byte) (s : State) : State :=
  { s with sent := { land := land, args := args, data := data } :: s.sent }

/-- Send an MSI-X message; a masked vector holds its pending bit (R377). Nothing leaves while the link is down or Bus
Master Enable is clear. -/
def sendMsix (v : Nat) (s : State) : State :=
  if ¬ s.pcie.unmasked.contains v then
    { s with pcie := { s.pcie with pending := if s.pcie.pending.contains v then s.pcie.pending else v :: s.pcie.pending } }
  else if s.pcie.linkUp ∧ s.pcie.busMaster then emit .msix [v] [] s
  else s

/-- The first of a rising list above a number, cyclically: round-robin service (R376, R381, R420). -/
def nextAfter (served : Option Nat) (l : List Nat) : Option Nat :=
  match served with
  | none => l.head?
  | some n => match l.find? fun m => n < m with
    | some m => some m
    | none => l.head?

/-- Set a bit of IRQ_STATUS; bits [26:24] send vector 0 at the moment they set (R429). -/
def setIrq (bit : Nat) (s : State) : State :=
  let s' := { s with boot := { s.boot with irq := s.boot.irq ||| BitVec.ofNat 32 (2 ^ bit) } }
  if 24 ≤ bit ∧ ¬ s.boot.irq.getLsbD bit then sendMsix 0 s' else s'

/-- The module is supplied, out of reset and not in deep standby (R534, R537). -/
def State.awake (s : State) : Bool := ! s.boot.off && ! s.boot.nresetLow && s.boot.st != 8

/-- A source asserts ALERTn (R429 bit [24] at the assertion). -/
def assertAlert (a : AlertSource) (s : State) : State :=
  if s.pwr.alert.contains a ∨ ! s.awake then s
  else
    let s' := { s with pwr := { s.pwr with alert := a :: s.pwr.alert } }
    if s.pwr.alert.isEmpty then setIrq 24 s' else s'

/-- A source releases ALERTn; the land stays asserted while another source holds it. -/
def releaseAlert (a : AlertSource) (s : State) : State :=
  { s with pwr := { s.pwr with alert := s.pwr.alert.filter (· ≠ a) } }

def releaseAlerts (p : AlertSource → Bool) (s : State) : State :=
  { s with pwr := { s.pwr with alert := s.pwr.alert.filter fun a => ¬ p a } }

/-- BOOT_STATE.STATE changes (R429 bit [25]). -/
def setBootState (n : Nat) (s : State) : State :=
  if s.boot.st = n then s
  else setIrq 25 { s with boot := { s.boot with st := n, since := s.time.ps } }

/-! ## Event records -/

/-- Bytes of a record: header, body, trailer (R496). -/
def Record.size (r : Record) : Nat := 36 + r.body.length

/-- The bytes of a record as the store holds them (R496). -/
def Record.bytes (r : Record) : List Byte :=
  let b := u16 r.size ++ u16 r.type ++ u16 r.epoch ++ u16 r.boot ++ u64 r.seq ++ u64 r.tick ++ i64 r.time ++ r.body
  b ++ u32 (crc32c b)

/-- A field of a record's body: its alignment and its bytes (R497). -/
structure RecField where
  align : Nat
  bytes : List Byte
deriving DecidableEq, Repr

def r1 (v : Nat) : RecField := ⟨1, u8 v⟩
def r2 (v : Nat) : RecField := ⟨2, u16 v⟩
def r4 (v : Nat) : RecField := ⟨4, u32 v⟩
def r8 (v : Nat) : RecField := ⟨8, u64 v⟩
def ri2 (v : Int) : RecField := ⟨2, i16 v⟩
def ri4 (v : Int) : RecField := ⟨4, i32 v⟩
def ri8 (v : Int) : RecField := ⟨8, i64 v⟩
def rb (v : List Byte) : RecField := ⟨1, v⟩

/-- Fields in order, each aligned to its own size (R497). DEDUCED (log entry 21). -/
def layFields : List Byte → List RecField → List Byte
  | acc, [] => acc
  | acc, f :: fs => layFields (acc ++ zeros ((f.align - acc.length % f.align) % f.align) ++ f.bytes) fs

/-- A body padded with 0 to a multiple of 4 and to at least 16 bytes (R497). DEDUCED (log entry 21). -/
def padBody (b : List Byte) : List Byte :=
  let n := max 16 ((b.length + 3) / 4 * 4)
  b ++ zeros (n - b.length)

def bodyOf (fs : List RecField) : List Byte := padBody (layFields [] fs)

def fifoSize : Nat := 1048576
def fifoReserve : Nat := 65536

/-- Bytes that the staging FIFO holds. -/
def EventState.used (e : EventState) : Nat := (e.fifo.map Record.size).sum

/-- Since when the FIFO has held less than 524,288 bytes (R502). -/
def EventState.watch (ps : Nat) (e : EventState) : EventState :=
  { e with lowSince := if e.used < 524288 then some (e.lowSince.getD ps) else none }

/-- The ceiling rises by 65,536 before a number at or above the ceiling less 4,096 is staged (R505). -/
def raiseCeiling (seq ceiling : Nat) : Nat := if ceiling ≤ seq + 4096 then ceiling + 65536 else ceiling

/-- A record that finds no room: its number is used up, and the loss is counted (R502). -/
def dropRecord (r : Record) (s : State) : State :=
  let e := s.evt
  let loss : Loss := match e.loss with
    | none => { count := 1, first := r.seq, last := r.seq, firstTick := r.tick, firstTime := r.time, lastTick := r.tick,
                lastTime := r.time }
    | some l => { l with count := l.count + 1, last := r.seq, lastTick := r.tick, lastTime := r.time }
  assertAlert .recordsLost { s with evt := { e with loss := some loss, lostTotal := e.lostTotal + 1 } }

/-- Records are written from a start until the steps of R69 have flushed them (R69, R534, R550). -/
def State.records (s : State) : Bool := s.awake && s.boot.downing.isNone

/-- A record of this instant that has no number yet. -/
def State.newRecord (s : State) (type : Nat) (body : List Byte) : Record :=
  { type := type, seq := 0, epoch := s.time.epoch, boot := s.evt.boots % 65536, tick := s.time.tick, time := s.now
    body := body }

/-- Number a record and stage it. The reserve is for what the control processor writes while it takes or carries out a
request (R500). DEDUCED (log entry 44). -/
def stageRecord (r : Record) (s : State) : State :=
  let e := s.evt
  let r := { r with seq := e.nextSeq }
  let e := { e with nextSeq := e.nextSeq + 1, ceiling := raiseCeiling e.nextSeq e.ceiling }
  let limit := if e.carrying then fifoSize else fifoSize - fifoReserve
  if e.used + r.size ≤ limit then
    { s with evt := EventState.watch s.time.ps { e with fifo := e.fifo ++ [r] } }
  else dropRecord r { s with evt := e }

/-- A record that waits for the firmware to start. -/
def openRecord (type : Nat) (body : List Byte) (s : State) : State :=
  { s with evt := { s.evt with opening := s.evt.opening ++ [s.newRecord type body] } }

/-- Write a record with a body already laid out. MODULE_STARTED is the first of a start, and the firmware writes it: what
happens before then is recorded behind it. -/
def stageBody (type : Nat) (body : List Byte) (s : State) : State :=
  if ¬ s.records then s
  else if s.evt.opening.isEmpty then stageRecord (s.newRecord type body) s
  else openRecord type body s

/-- Write an event record whose body lists its fields (R497). -/
def record (type : Nat) (fs : List RecField) (s : State) : State := stageBody type (bodyOf fs) s

/-- Run `f` as part of what the control processor does for a request, so that its records may use the reserve. -/
def carrying (f : State → State) (s : State) : State :=
  let was := s.evt.carrying
  let s := f { s with evt := { s.evt with carrying := true } }
  { s with evt := { s.evt with carrying := was } }

/-- A rate limit: whether the latest record of this type and index is less than `gap` ps old. -/
def limited (type idx gap : Nat) (s : State) : Bool :=
  s.evt.limits.any fun l => l.1 = type ∧ l.2.1 = idx ∧ s.time.ps < l.2.2 + gap

/-- Write a record at most once per `gap` ps for its index. -/
def recordLimited (type idx gap : Nat) (fs : List RecField) (s : State) : State :=
  if limited type idx gap s then s
  else
    record type fs { s with evt := { s.evt with
      limits := (type, idx, s.time.ps) :: s.evt.limits.filter fun l => ¬ (l.1 = type ∧ l.2.1 = idx) } }

/-- A time step falls before the end of frame L of a segment (R270). -/
def Segment.noteStep (tick : Nat) (f : Segment) : Segment := { f with stepped := f.stepped || decide (tick ≤ f.fillEnd) }

/-- A time step marks the segments that it falls into. -/
def SegGroup.noteStep (tick : Nat) (x : SegGroup) : SegGroup :=
  { x with filling := x.filling.map (Segment.noteStep tick), writing := x.writing.map (Segment.noteStep tick) }

/-- The discipline source steers the rate of wall time; the spec gives a bound and no rate (R86).
DESIGN CHOICE (log entry 27). -/
def steerTime (s : State) : State :=
  let (v, s) := takeFree s
  { s with time := { s.time with steer := (v % 20001 : Nat) - 10000 } }

/-- A correction of wall time: 1 µs or less by slewing, more as a step, which raises the epoch and writes TIME_STEPPED
(R86). -/
def correctTime (target : Int) (s : State) : State :=
  let d := target * 10 ^ 12 - s.time.tai
  if d.natAbs ≤ 1000 * 10 ^ 12 then { s with time := { s.time with slew := d } }
  else
    let e := (s.time.epoch + 1) % 65536
    record 0x0108 [ri8 s.now, ri8 target, r2 e]
      { s with
        time := { s.time with tai := target * 10 ^ 12, slew := 0, epoch := e, steps := (s.time.tick, d, s.time.epoch) :: s.time.steps }
        seg := s.seg.map (SegGroup.noteStep s.time.tick) }

/-- What held at a tick, of a value with what stood before each of its later changes, newest first. -/
def pastAt {α : Type} (tick : Nat) (now : α) (l : List (Nat × α)) : α :=
  match (l.takeWhile fun e => decide (tick < e.1)).getLast? with
  | some e => e.2
  | none => now

/-- Wall time in ns and epoch at an earlier grid tick (R271): steps after it change neither. -/
def State.timeAt (s : State) (tick : Nat) : Int × Nat :=
  let back : Int := (s.time.tick - tick) * 10 ^ 15 / (4 * s.clk.core)
  let later := s.time.steps.takeWhile fun e => decide (tick < e.1)
  ((s.time.tai - (later.map fun e => e.2.1).sum - back) / 10 ^ 12, match later.getLast? with
    | some e => e.2.2
    | none => s.time.epoch)

/-! ## Captures of the auxiliary converter (R527, R528) -/

/-- One value enters a capture. -/
def Capture.take (v : Int) (x : Capture) : Capture :=
  let v := clampInt (-0x80000000) 0x7FFFFFFF v
  let b := (clampInt 0 63 ((v - x.low) * 64 / (x.high - x.low))).toNat
  { x with minimum := min x.minimum v, maximum := max x.maximum v, count := satInc 64 x.count
           bins := updAt x.bins b (satInc 32) }

/-- A value of a quantity reaches every capture that runs on it. -/
def capture (quantity : Nat) (v : Int) (s : State) : State :=
  { s with aux := { s.aux with captures := s.aux.captures.map fun x =>
      if x.run && x.quantity = quantity then x.take v else x } }

/-! ## Sessions and replies -/

def State.session (s : State) (n : Nat) : Session := s.sess.getD n {}

def updSession (n : Nat) (f : Session → Session) (s : State) : State := { s with sess := updAt s.sess n f }

/-- Every session's "since last read" copies take an update. -/
def updSince (f : SinceRead → SinceRead) (s : State) : State :=
  { s with sess := s.sess.map fun x => { x with since := f x.since } }

/-- Interface of a session: 0 PCIe, 1 Ethernet, 2 SMBus (R416). -/
def ifaceOf (n : Nat) : Nat := if n < 24 then 0 else if n < 30 then 1 else 2

/-- Module flags of a reply header (R423). -/
def State.moduleFlags (s : State) : Nat :=
  ofBits [s.boot.cfgDefaulted, s.boot.memPreserved, ¬ s.pwr.alert.isEmpty, s.pwr.fault]

/-- The bytes of a reply (R423). -/
def replyBytes (w : Waiter) (gen sess requests flags status : Nat) (payload : List Byte) : List Byte :=
  u16 w.opcode ++ u16 (32 + payload.length) ++ u16 w.tag ++ u16 status ++ u16 gen ++ u8 sess ++ u8 flags
    ++ u32 requests ++ u64 w.eventSeq ++ zeros 8 ++ payload

/-- The whole reply goes into the mailbox, then STATE becomes 3, then the reply bit sets, then the session's message
goes out (R430); over Ethernet it goes back to the session's peer (R434). -/
def deliver (w : Waiter) (status : Nat) (payload : List Byte) (s : State) : State :=
  let x := s.session w.sess
  let bytes := replyBytes w x.gen w.sess x.requests s.moduleFlags status payload
  let s := capture 0x28 ((s.time.ps - x.takenAt) / 1000000 : Nat) s
  let s := updSession w.sess (fun x => { x with reply := bytes ++ x.reply.drop bytes.length, st := .replyReady }) s
  if w.sess < 24 then
    let s := setIrq w.sess s
    if x.notify then sendMsix x.vector s else s
  else if w.sess < 30 then emit .datagram [x.peerEth, x.peerIp, x.peerPort] bytes s
  else s

/-- The record of a countersigned change carried out (R511 step 5). -/
def protectedDone (w : Waiter) (status : Nat) (s : State) : State :=
  match w.inner with
  | none => s
  | some (p, ps, pi, cs, ci) => carrying (record 0x0E07 [r4 p, r1 ps, r1 cs, r4 pi, r4 ci, r4 status]) s

/-- Answer a request. A reply whose session has closed since is discarded (R418). -/
def reply (w : Waiter) (status : Nat) (payload : List Byte) (s : State) : State :=
  let s := protectedDone w status s
  let x := s.session w.sess
  if x.st = .running ∧ x.gen = w.gen then deliver w status payload s else s

/-- A waiter, where there is one, gets its reply. -/
def replyOpt (w : Option Waiter) (status : Nat) (payload : List Byte) (s : State) : State :=
  match w with
  | none => s
  | some w => reply w status payload s

/-- Answer a datagram that named no open session, to the address it came from (R422 check 5, R432). -/
def replyPeer (w : Waiter) (status : Nat) (s : State) : State :=
  emit .datagram [0, w.peerIp, w.peerPort] (replyBytes w 0 w.sess 0 s.moduleFlags status []) s

end Sys2Proof.Machine
end

