-- ==== Sys2Proof/Machine/Operands.lean ====
section
/-! DEFINITION. Operand forms: the fields of a request's payload and the checks of R13 on them. Payload offsets are
from byte 0x20 of the request (R438). -/

namespace Sys2Proof

/-- Bytes after the header that the request's Length covers. -/
def Request.body (q : Request) : List Byte := Machine.toLen (q.length - 32) q.payload

/-- The unsigned payload fields at `off`, little-endian (R5). -/
def Request.u8 (q : Request) (off : Nat) : Nat := Machine.field q.payload off 1
def Request.u16 (q : Request) (off : Nat) : Nat := Machine.field q.payload off 2
def Request.u32 (q : Request) (off : Nat) : Nat := Machine.field q.payload off 4
def Request.u64 (q : Request) (off : Nat) : Nat := Machine.field q.payload off 8
/-- The signed payload fields at `off` (R6). -/
def Request.i8 (q : Request) (off : Nat) : Int := Machine.fieldInt q.payload off 1
def Request.i16 (q : Request) (off : Nat) : Int := Machine.fieldInt q.payload off 2
def Request.i32 (q : Request) (off : Nat) : Int := Machine.fieldInt q.payload off 4
def Request.i64 (q : Request) (off : Nat) : Int := Machine.fieldInt q.payload off 8
/-- `n` payload bytes at `off`. -/
def Request.bytes (q : Request) (off n : Nat) : List Byte := Machine.slice q.payload off n
/-- Bit `i` of the payload byte at `off`. -/
def Request.bit (q : Request) (off i : Nat) : Bool := (q.u8 off).testBit i

namespace Machine

/-! The shared status codes. -/
def OK : Nat := 0x0000
def ACCEPTED_DEFERRED : Nat := 0x0001
def BAD_OPCODE : Nat := 0x0010
def BAD_LENGTH : Nat := 0x0011
def ZERO_FIELD : Nat := 0x0012
def OUT_OF_RANGE : Nat := 0x0013
def RESERVED_NONZERO : Nat := 0x0014
def WRONG_STATE : Nat := 0x0020
def BUSY : Nat := 0x0021
def NOT_STOPPED : Nat := 0x0022
def NEEDS_COUNTERSIGN : Nat := 0x0030
def COUNTERSIGN_MISMATCH : Nat := 0x0031
def COUNTERSIGN_EXPIRED : Nat := 0x0032
def RESOURCE_EXHAUSTED : Nat := 0x0040
def HW_FAULT : Nat := 0x0041
def SYSTEM_DISAGREE : Nat := 0x0050
def SESSION_LIMIT : Nat := 0x0060

/-- A check: the status of the rule that a request breaks, where it breaks one. -/
abbrev Check := Option Nat

/-- Fails with `status` when `bad`. -/
def failWhen (bad : Bool) (status : Nat) : Check := if bad then some status else none

/-- `n` reserved bytes at `off` are 0 (R9). -/
def reserved (q : Request) (off n : Nat) : Check := failWhen ((q.bytes off n).any (· ≠ 0)) RESERVED_NONZERO

/-- The bits from `lo` up of the byte at `off` are reserved (R9). -/
def reservedBits (q : Request) (off lo : Nat) : Check := failWhen (2 ^ lo ≤ q.u8 off) RESERVED_NONZERO

/-- A field that must not be 0 (R11). -/
def notZero (v : Nat) : Check := failWhen (v = 0) ZERO_FIELD

/-- A field within its range (R10). -/
def within (lo hi v : Int) : Check := failWhen (v < lo ∨ hi < v) OUT_OF_RANGE

/-- A count or size with a range that starts at 1 (R10, R11). -/
def counted (hi v : Nat) : Check := if v = 0 then some ZERO_FIELD else failWhen (hi < v) OUT_OF_RANGE

/-- A condition that a field's description states as out of range. -/
def allowed (ok : Bool) : Check := failWhen (¬ ok) OUT_OF_RANGE

/-- The first check that fails. -/
def firstFailure : List Check → Check
  | [] => none
  | none :: cs => firstFailure cs
  | some st :: _ => some st

/-- A rejection by the command's own checks: its status and the payload of its reply (R440). -/
abbrev Rejection := Option (Nat × List Byte)

def rejectWhen (bad : Bool) (status : Nat) : Rejection := if bad then some (status, []) else none

def firstRejection : List Rejection → Rejection
  | [] => none
  | none :: cs => firstRejection cs
  | some r :: _ => some r

end Machine
end Sys2Proof
end

