-- ==== Sys2Proof/Machine/Scope.lean ====
section
/-! DEFINITION. The system-scope record (R485), the lock that protects it (R488) and what a change of it does (R486). -/

namespace Sys2Proof.Machine

/-- The 32 bytes of a group in the system-scope record. -/
def scopeGroup (t : TrigGroup) (c : SegConfig) : List Byte :=
  u8 (ofBits [t.flags.testBit 3, t.flags.testBit 4]) ++ u8 t.busGroups ++ u8 c.layout ++ u8 0 ++ u32 c.span ++ u32 c.post
    ++ u32 c.strands ++ u64 c.count ++ zeros 8

/-- The 536 bytes of R485. -/
def State.scopeRecord (s : State) : List Byte :=
  u16 s.clk.core ++ u8 (ofBits s.inp.pairs) ++ u8 s.flt.config ++ u8 s.flt.stages ++ zeros 3 ++ u32 s.flt.period
    ++ s.flt.shifts.flatMap u8
    ++ (List.range 96).flatMap (fun i => if s.flt.config = 4 then i32 (s.flt.coefs.getD i 0) else zeros 4)
    ++ u16 s.trg.busWait ++ zeros 6
    ++ (List.range 4).flatMap fun g => scopeGroup (s.trg.groups.getD g {}) (s.seg.getD g {}).config

/-- A joined module returns to joining when its record has changed (R486). -/
def noteScope (before s : State) : State :=
  if s.sync.st = 2 ∧ s.scopeRecord ≠ before.scopeRecord then { s with sync := { s.sync with st := 1 } } else s

/-- The lock is held and the module is joined, so that what would change the record is rejected (R488). -/
def State.lockHeld (s : State) : Bool :=
  s.sync.st = 2 && (if s.sync.role = 2 then s.sync.lock else s.sync.frameLock)

end Sys2Proof.Machine
end

