-- ==== Sys2Proof/Machine/Snapshots.lean ====
section
/-! DEFINITION. What fixes the meaning of a source for accumulators and jobs (R284, R353), and the stop of a job. -/

namespace Sys2Proof.Machine

/-- Spacing of woven samples (R114, R117). -/
def State.weave (s : State) (n : Nat) : Nat := if n % 2 = 0 ∧ s.inp.pairs.getD (n / 2) false then 1 else 2

/-- Decimation mode, factor, spacing and, in the filtered mode, P. -/
def State.inputFormat (s : State) (n : Nat) : List Nat :=
  let x := s.flt.inputs.getD n {}
  [x.mode, x.factor, s.weave n, if x.mode = 3 then s.flt.period else 0]

def State.port (s : State) (p : Nat) : DamuxPort := s.dmx.ports.getD p {}
def State.head (s : State) (p i : Nat) : Head := ((s.port p).heads.find? fun h => h.position = i).getD { position := i }

/-- A head's stream in force. -/
def Head.stream (h : Head) : List Nat := [h.k, h.channels, h.enable.toNat]

def SegConfig.fields (c : SegConfig) : List Nat :=
  [c.layout, c.mask, c.copy.toNat, c.span, c.post, c.strands, c.count, c.tableBase, c.tableSize, c.dataBase, c.dataSize,
    c.pigeonhole]

/-- What fixes the meaning of one source of a job (R353). -/
def State.sourceSnapshot (s : State) (kind source : Nat) : List Nat :=
  match kind with
  | 0 => s.inputFormat source
  | 1 => (s.seg.getD source {}).config.fields
  | 2 => (s.head (source / 256) (source % 256)).stream
  | 4 => match (s.eng.jobs.find? fun j => j.1 = source) with
    | some j => j.2.config.kernel :: j.2.config.params
    | none => []
  | _ => []

def State.jobSnapshot (s : State) (c : JobConfig) : List Nat :=
  s.sourceSnapshot c.kind c.source ++ (if c.kind2 = 0xFF then [] else s.sourceSnapshot c.kind2 c.source2)

/-- What fixes the meaning of an accumulator's positions (R284). -/
def State.accSnapshot (s : State) (c : AccConfig) : List Nat :=
  if c.kind = 0 then
    let g := (s.seg.getD c.group {}).config
    [g.mask, g.span, g.post, g.strands] ++ ((List.range 8).filter g.mask.testBit).flatMap s.inputFormat
  else [(s.head c.port c.position).k]

/-- The running job `j` of a state changes. -/
def mapJobs (f : Nat → Job → Job) (s : State) : State :=
  { s with eng := { s.eng with jobs := s.eng.jobs.map fun j => (j.1, f j.1 j.2) } }

/-- What a job has collected and not released goes. -/
def Job.fresh (j : Job) : Job :=
  { j with data := [], data2 := [], skip := 0, skip2 := 0, chunk := 0, chunks := 0, ready := [], lastRelease := none
           angles := [], revolutions := [] }

/-- A job stops: the block it collects is discarded; the block that computes is completed (R336, R353, R355). -/
def Job.halt (reason : Nat) (j : Job) : Job := { j.fresh with running := false, stopReason := reason }

/-- A job starts on a fresh block (R336, R354). -/
def Job.begin (j : Job) : Job :=
  { j.fresh with running := true, stopReason := 0, count := 0, result := {}, inputs := [], dropped := 0, chunkLost := false }

/-- Tasks of a job that have not begun go with it. -/
def dropTasks (job : Nat) (s : State) : State :=
  { s with eng := { s.eng with engines := s.eng.engines.map fun e =>
      { e with tasks := e.tasks.filter fun t => t.job ≠ job } } }

/-- A running job stops for a reason of its own (R353 to R355, R366); R353 alone names a record.
DEDUCED (log entry 56). -/
def stopJob (job reason : Nat) (s : State) : State :=
  match s.eng.jobs.find? fun j => j.1 = job with
  | some (_, j) =>
    if j.running then
      let s := dropTasks job (mapJobs (fun n j => if n = job then j.halt reason else j) s)
      if reason = 2 then record 0x0A04 [] s else s
    else s
  | none => s

/-- Running jobs whose snapshot no longer matches stop with reason 2 (R353). -/
def noteSnapshots (s : State) : State :=
  s.eng.jobs.foldl (fun t j => if j.2.running ∧ t.jobSnapshot j.2.config ≠ j.2.snapshot then stopJob j.1 2 t else t) s

end Sys2Proof.Machine
end

