-- ==== Sys2Proof/Machine/Requests.lean ====
section
/-! DEFINITION. How the control processor serves a request (R13, R419 to R424, R440, R441, R464, R500): one operation
that every request row calls with what its own rules say. -/

namespace Sys2Proof.Machine

/-- What the command reference and the command's own rules say of an opcode. -/
structure Cmd where
  opcode : Nat
  /-- class C: a setting changes or an action starts, and COMMAND_ACCEPTED is written (R441) -/
  classC : Bool
  /-- the permitted values of the header's Length (R439) -/
  lengths : Nat → Bool
  /-- the payload's field checks, in ascending offset order (R13) -/
  checks : State → Request → List Check
  /-- the command's own checks -/
  reject : State → Request → Rejection
  /-- what the accepted command does; it answers the waiter, at once or later -/
  act : Waiter → Request → State → State
  /-- payload bytes of a reply to a request that fails a field check, for the commands of R440 -/
  failLen : Nat := 0
  /-- that payload, 0 but where a field check reports a figure -/
  failBytes : State → Request → List Byte := fun _ _ => zeros failLen
  /-- the action needs a subsystem that Standby has stopped (R431) -/
  needsRun : Bool := false
  /-- a record that a rejection by the command's own checks writes: type, index, least gap in ps, fields (R317) -/
  notes : State → Request → Option (Nat × Nat × Nat × List RecField) := fun _ _ => none

/-- Opcodes that the command reference allocates: the numbers 1 to n of each group (R438, R444 to R450). -/
def opcodeCounts : List Nat := [12, 11, 3, 7, 7, 8, 5, 4, 6, 11, 7, 17, 4, 6, 13, 5]

def allocated (opcode : Nat) : Bool :=
  decide (opcode / 256 < 16 ∧ 1 ≤ opcode % 256 ∧ opcode % 256 ≤ opcodeCounts.getD (opcode / 256) 0)

/-- Whether the boot state admits an opcode (R431). -/
def admits (st opcode : Nat) : Bool :=
  match st with
  | 2 => [0x0, 0x1, 0xE, 0xF].contains (opcode / 256)
  | 3 | 4 | 5 => true
  | 6 => [0x0, 0xE].contains (opcode / 256)
  | 7 => opcode / 256 = 0 ∨ [0x0E01, 0x0E02, 0x0E05, 0x0E07, 0x0E08, 0x0E09, 0x0E0B, 0x0E0C, 0x0E0D].contains opcode
  | _ => false

/-- The control processor takes requests: it runs in boot states 2 to 7, outside nRESET (R431, R537). -/
def State.serves (s : State) : Bool :=
  decide (2 ≤ s.boot.st ∧ s.boot.st ≤ 7) && ! s.boot.nresetLow && ! s.boot.off && s.boot.downing.isNone

/-- Check 5 of R422 for a request of session `q.sess`. -/
def namesSession (opcode : Nat) (q : Request) (s : State) : Bool :=
  let x := s.session q.sess
  decide (opcode ≠ 0x0001 ∧ q.hsess = q.sess ∧ q.gen = x.gen ∧ x.st ≠ .closed)
    && (ifaceOf q.sess ≠ 1 || (x.peerIp = q.peerIp && x.peerPort = q.peerPort))

/-- The header checks of R422, in order. `named` is the outcome of check 5. -/
def headerChecks (opcode : Nat) (lengths : Nat → Bool) (named : Bool) (q : Request) (s : State) : Check :=
  firstFailure [
    failWhen (q.length < 32 ∨ 4096 < q.length) BAD_LENGTH,
    failWhen (¬ allocated opcode) BAD_OPCODE,
    failWhen (¬ lengths q.length) BAD_LENGTH,
    failWhen (q.resv ≠ 0) RESERVED_NONZERO,
    failWhen (¬ named) WRONG_STATE,
    failWhen (¬ admits s.boot.st opcode) WRONG_STATE]

/-- The body of COMMAND_ACCEPTED and REQUEST_REJECTED (R498). -/
def requestBody (opcode status : Nat) (q : Request) : List Byte :=
  let p := q.body
  let long : Bool := decide (4048 < p.length)
  padBody (u8 q.sess ++ u8 (ifaceOf q.sess) ++ u16 opcode ++ u16 q.tag ++ u16 status ++ u16 p.length ++ u8 long.toNat
    ++ u8 0 ++ if long then sha256 p ++ p.take 4016 else p)

/-- REQUEST_REJECTED, then the rejection's reply (R13, R441). DEDUCED (log entry 72). -/
def rejectRequest (w : Waiter) (status : Nat) (payload : List Byte) (q : Request) (s : State) : State :=
  let w := { w with eventSeq := s.evt.nextSeq }
  reply w status payload (carrying (stageBody 0x0004 (requestBody w.opcode status q)) s)

/-- Acceptance: COMMAND_ACCEPTED for class C, then the command (R420, R441). -/
def acceptRequest (c : Cmd) (w : Waiter) (q : Request) (s : State) : State :=
  if c.classC then
    let w := { w with eventSeq := s.evt.nextSeq }
    noteSnapshots (noteScope s (carrying (c.act w q) (carrying (stageBody 0x0003 (requestBody c.opcode OK q)) s)))
  else carrying (c.act w q) s

/-- The fixed protected set of R464. -/
def fixedProtected : List Nat := [0x0E0D, 0x0E05, 0x0E06, 0x0E04, 0x0E0A, 0x0D04]

/-- Keys enrolled. -/
def State.keyCount (s : State) : Nat := (s.prot.keys.filter Option.isSome).length

/-- An opcode of the protected set that may not run on its own; KEY_ENROL may while fewer than two keys are enrolled
(R464, R468). -/
def needsCountersign (opcode : Nat) (s : State) : Bool :=
  (fixedProtected.contains opcode || s.prot.added.contains opcode) && ! (opcode = 0x0E05 && s.keyCount < 2)

/-- The command's own checks; in Standby a command whose action needs a stopped subsystem fails first (R431). -/
def stateChecks (c : Cmd) (q : Request) (s : State) : Rejection :=
  if c.needsRun ∧ s.boot.st = 5 then some (WRONG_STATE, zeros c.failLen) else c.reject s q

/-- The record of a rejection by the command's own checks. -/
def noteRejection (c : Cmd) (q : Request) (s : State) : State :=
  match c.notes s q with
  | some (type, idx, gap, fs) => recordLimited type idx gap fs s
  | none => s

/-- The field checks, the protected set and the state checks of a request whose header has passed, and then its
acceptance (R13, R464). -/
def serveFields (c : Cmd) (w : Waiter) (q : Request) (s : State) : State :=
  match firstFailure (c.checks s q) with
  | some st => rejectRequest w st (c.failBytes s q) q s
  | none =>
    if needsCountersign c.opcode s then rejectRequest w NEEDS_COUNTERSIGN (zeros c.failLen) q s
    else match stateChecks c q s with
      | some (st, payload) => rejectRequest w st payload q (noteRejection c q s)
      | none => acceptRequest c w q s

/-- A request that a session took: header checks, then the rest. -/
def serve (c : Cmd) (q : Request) (s : State) : State :=
  let w : Waiter := { sess := q.sess, gen := (s.session q.sess).gen, opcode := c.opcode, tag := q.tag }
  match headerChecks c.opcode c.lengths (namesSession c.opcode q s) q s with
  | some st => rejectRequest w st [] q s
  | none => serveFields c w q (updSession q.sess (fun x => { x with lastValid := s.time.ps }) s)

/-- A datagram that names no session of its sender fails check 5 of R422 at the latest, and its reply goes back to
its sender (R432, R434). DESIGN CHOICE (log entry 18). -/
def serveStranger (c : Cmd) (q : Request) (s : State) : State :=
  match headerChecks c.opcode c.lengths false q s with
  | some st =>
    let w : Waiter := { sess := q.sess, gen := 0, opcode := c.opcode, tag := q.tag, eventSeq := s.evt.nextSeq,
                        peerIp := q.peerIp, peerPort := q.peerPort }
    replyPeer w st (carrying (stageBody 0x0004 (requestBody c.opcode st q)) s)
  | none => s

/-- A request without the time at which it is taken, and without bytes behind its Length. -/
def Request.plain (q : Request) : Request := { q with time := 0, payload := q.body }

/-- The same request, whatever the time at which it is taken. -/
def sameRequest (opcode : Nat) (q : Request) (r : Nat × Request) : Bool :=
  decide (r.1 = opcode ∧ Request.plain r.2 = Request.plain q)

/-- The reserve has the 8,192 bytes that taking a request needs (R500). DESIGN CHOICE (log entry 18). -/
def State.canTake (s : State) : Bool := s.evt.used + 8192 ≤ fifoSize

/-- A datagram of an open session of its sender. -/
def State.ofPeer (s : State) (q : Request) : Bool :=
  let x := s.session q.sess
  decide (x.st ≠ .closed ∧ x.peerIp = q.peerIp ∧ x.peerPort = q.peerPort)

/-- Among the sessions that have submitted a request it is the turn of session `n`, which submits or has submitted one
(R420). DESIGN CHOICE (log entry 18). -/
def State.turnOf (s : State) (n : Nat) : Bool :=
  nextAfter s.turn ((List.range 32).filter fun m =>
    decide (m = n) || (decide ((s.session m).st = .running) && (s.session m).submitted.isSome)) = some n

/-- The session hands the request over: it runs, and its request number rises (R420, R423).
DESIGN CHOICE (log entry 18). -/
def takeRequest (opcode : Nat) (q : Request) (s : State) : State :=
  { updSession q.sess (fun x => { x with st := .running, submitted := none, requests := (x.requests + 1) % 2 ^ 32,
                                         lastTag := some q.tag, lastOp := opcode, takenAt := s.time.ps }) s with
    turn := some q.sess }

/-- The session holds the submit until the control processor takes it (R419, R500). -/
def holdRequest (opcode : Nat) (q : Request) (s : State) : State :=
  updSession q.sess (fun x => { x with st := .running, submitted := some (opcode, q) }) s

/-- Resend the reply of the latest request, unchanged (R435). -/
def resendReply (n : Nat) (s : State) : State :=
  let x := s.session n
  emit .datagram [x.peerEth, x.peerIp, x.peerPort] (x.reply.take (field x.reply 2 2)) s

/-- The session is ready to hand a request over: none is under way, or this one waits for the control processor. -/
def readyFor (opcode : Nat) (q : Request) (s : State) : Bool :=
  let x := s.session q.sess
  match x.st with
  | .closed => false
  | .idle | .replyReady => true
  | .running => match x.submitted with
    | some r => sameRequest opcode q r
    | none => false

/-- A datagram that repeats the Tag of the latest request its session took is not taken again (R435). -/
def isRepeat (q : Request) (s : State) : Bool :=
  let x := s.session q.sess
  ifaceOf q.sess = 1 && x.lastTag = some q.tag && q.gen = x.gen && x.submitted.isNone

/-- The control processor takes the request `q` from its session and serves it (R419, R420). A session that is
Closed has none to take; a session that runs another request answers BUSY; one whose turn it is not yet, or comes while the
reserve is short, keeps its request. DESIGN CHOICE (log entry 18). -/
def runRequest (c : Cmd) (q : Request) (s : State) : State :=
  let s := advance q.time s
  if ¬ s.serves ∨ 32 ≤ q.sess then s
  else if ifaceOf q.sess = 1 ∧ ¬ s.ofPeer q then (if s.canTake then serveStranger c q s else s)
  else if isRepeat q s then
    (if (s.session q.sess).st = .replyReady then resendReply q.sess s else s)
  else if readyFor c.opcode q s then
    (if s.canTake && s.turnOf q.sess then serve c q (takeRequest c.opcode q s) else holdRequest c.opcode q s)
  else match (s.session q.sess).st with
    | .running =>
      if ifaceOf q.sess = 1 then
        replyPeer { sess := q.sess, gen := q.gen, opcode := c.opcode, tag := q.tag, peerIp := q.peerIp,
                    peerPort := q.peerPort } BUSY s
      else updSession q.sess (fun x => { x with dbResult := BUSY }) s
    | _ => s

/-- Lengths of a request of fixed size. -/
def lenIs (n : Nat) : Nat → Bool := fun l => l = n

/-- A class R command: its reply payload is what `read` answers. -/
def readCmd (opcode len : Nat) (checks : State → Request → List Check) (read : State → Request → List Byte) : Cmd :=
  { opcode := opcode, classC := false, lengths := lenIs len, checks := checks, reject := fun _ _ => none,
    act := fun w q s => reply w OK (read s q) s }

/-- A class R command whose read clears the session's copies of "since last read" fields, or takes free values. -/
def readClearCmd (opcode len : Nat) (checks : State → Request → List Check) (read : State → Request → List Byte)
    (clear : Request → State → State) : Cmd :=
  { opcode := opcode, classC := false, lengths := lenIs len, checks := checks, reject := fun _ _ => none,
    act := fun w q s => reply w OK (read s q) (clear q s) }

/-- A class C command that replies OK with no payload once its settings apply. -/
def setCmd (opcode len : Nat) (checks : State → Request → List Check) (reject : State → Request → Rejection)
    (apply : Request → State → State) (needsRun : Bool := false) : Cmd :=
  { opcode := opcode, classC := true, lengths := lenIs len, checks := checks, reject := reject,
    act := fun w q s => reply w OK [] (apply q s), needsRun := needsRun }

end Sys2Proof.Machine
end

