-- ==== Sys2Proof/Machine/Access.lean ====
section
/-! DEFINITION. Readers and writers of the numbered parts of the state, and what several families ask of them. -/

namespace Sys2Proof.Machine

abbrev Result := Host.Outcome State Fault Refusal

def State.input (s : State) (n : Nat) : Input := s.inp.inputs.getD n {}
def updInput (n : Nat) (f : Input → Input) (s : State) : State :=
  { s with inp := { s.inp with inputs := updAt s.inp.inputs n f } }
def State.core (s : State) (c : Nat) : Core := s.inp.cores.getD c {}
def updCore (c : Nat) (f : Core → Core) (s : State) : State :=
  { s with inp := { s.inp with cores := updAt s.inp.cores c f } }
def State.inCal (s : State) (n : Nat) : InputCal := s.cal.inputs.getD n {}
def updInCal (n : Nat) (f : InputCal → InputCal) (s : State) : State :=
  { s with cal := { s.cal with inputs := updAt s.cal.inputs n f } }
def State.fin (s : State) (n : Nat) : FilterInput := s.flt.inputs.getD n {}
def updFin (n : Nat) (f : FilterInput → FilterInput) (s : State) : State :=
  { s with flt := { s.flt with inputs := updAt s.flt.inputs n f } }
def State.tg (s : State) (g : Nat) : TrigGroup := s.trg.groups.getD g {}
def updTg (g : Nat) (f : TrigGroup → TrigGroup) (s : State) : State :=
  { s with trg := { s.trg with groups := updAt s.trg.groups g f } }
def State.sg (s : State) (g : Nat) : SegGroup := s.seg.getD g {}
def updSg (g : Nat) (f : SegGroup → SegGroup) (s : State) : State := { s with seg := updAt s.seg g f }
def State.slot (s : State) (i : Nat) : Slot := s.trg.slots.getD i {}
def updSlot (i : Nat) (f : Slot → Slot) (s : State) : State :=
  { s with trg := { s.trg with slots := updAt s.trg.slots i f } }
def State.comparator (s : State) (n c : Nat) : Comparator := s.trg.comparators.getD (2 * n + c) {}
def updComparator (n c : Nat) (f : Comparator → Comparator) (s : State) : State :=
  { s with trg := { s.trg with comparators := updAt s.trg.comparators (2 * n + c) f } }
def State.loop (s : State) (l : Nat) : Loop := s.clk.loops.getD l {}
def updLoop (l : Nat) (f : Loop → Loop) (s : State) : State :=
  { s with clk := { s.clk with loops := updAt s.clk.loops l f } }
def State.lane (s : State) (n : Nat) : LaneMargin := s.pwr.lanes.getD n {}

def updLane (n : Nat) (f : LaneMargin → LaneMargin) (s : State) : State :=
  { s with pwr := { s.pwr with lanes := updAt s.pwr.lanes n f } }

/-- Grid tick of a head time, by the map of R305, rounded down. -/
def State.headTick (s : State) (h : Nat) : Nat :=
  ((s.dmx.anchorTick : Int) + ((h : Int) - s.dmx.anchorHead) * (s.dmx.anchorCore * 15625 : Nat) / 6400).toNat

/-- Bytes of a slot in a letterbox. -/
def frameBytes (f : SlotFrame) : Nat := 32 + 3 * f.samples.length

/-- Bytes that the port letterboxes hold in all. -/
def State.headOccupancy (s : State) : Nat :=
  (s.dmx.ports.map fun x => (x.letterbox.map fun l => frameBytes l.frame).sum).sum

/-- What the letterboxes of the nine lanes hold: frames, for the head lane KiB, rounded down (R35).
DESIGN CHOICE (log entry 50). -/
def State.occupancies (s : State) : List Nat :=
  ((List.range 8).map fun n => (s.input n).letterbox.length) ++ [s.headOccupancy / 1024]

/-- The occupancy of a lane's letterbox reaches every session's "since last read" copy (R35). -/
def notePeak (n v : Nat) (s : State) : State := updSince (fun z => { z with peak := z.peak.set n (max (z.peak.getD n 0) v) }) s

/-- Apply `f` for each number below `n`, in ascending order. -/
def forEach (n : Nat) (f : Nat → State → State) (s : State) : State := (List.range n).foldl (fun t i => f i t) s

/-- Apply `f` for each entry of a list, in order. -/
def forAll {α : Type} (l : List α) (f : α → State → State) (s : State) : State := l.foldl (fun t a => f a t) s

/-! ## Inputs, pairs and groups -/

/-- Pair k is in pair mode (R117). -/
def State.paired (s : State) (k : Nat) : Bool := s.inp.pairs.getD k false

/-- IN(2k+1) of a pair in pair mode (R118). -/
def State.ganged (s : State) (n : Nat) : Bool := decide (n % 2 = 1) && s.paired (n / 2)

/-- IN(2k) of a pair in pair mode. -/
def State.owner (s : State) (n : Nat) : Bool := decide (n % 2 = 0) && s.paired (n / 2)

/-- Spacing of woven samples in grid ticks (R114, R117). -/
def State.spacing (s : State) (n : Nat) : Nat := if s.owner n then 1 else 2

/-- Samples of a frame (R24, R25). -/
def State.perFrame (s : State) (n : Nat) : Nat := 128 / s.spacing n

/-- The cores that an input weaves (R114, R117). -/
def State.coresOf (s : State) (n : Nat) : List Nat :=
  if s.ganged n then [] else (List.range (if s.owner n then 6 else 3)).map (3 * n + ·)

/-- The input that weaves a core. -/
def State.inputOf (s : State) (c : Nat) : Nat := if s.ganged (c / 3) then c / 3 - 1 else c / 3

/-- Phases of an input's weave. -/
def State.phases (s : State) (n : Nat) : Nat := if s.owner n then 4 else 2

/-- An input that delivers frames: enabled and not ganged (R34). -/
def State.enabled (s : State) (n : Nat) : Bool := (s.input n).enabled && ! s.ganged n

/-- The field check of a request's Input: 0 to 7, and not IN(2k+1) of a pair (R118). -/
def inputField (s : State) (n : Nat) : Check := allowed (n ≤ 7 ∧ ¬ s.ganged n)

/-- A group that is armed: from the acceptance of its arm to its disarm (R262, R265). -/
def SegGroup.armed (x : SegGroup) : Bool := decide (x.state ≠ .disarmed)

/-- A group that is armed and not held pending by the system. -/
def State.armed (s : State) (g : Nat) : Bool := (s.sg g).armed

def State.anyArmed (s : State) : Bool := s.seg.any SegGroup.armed

/-- An armed group's mask holds input `n` (R119, R178). -/
def State.armedHolds (s : State) (n : Nat) : Bool := s.seg.any fun x => x.armed && x.config.mask.testBit n

/-- Bitmap of the groups that are armed or pending. -/
def State.armedMap (s : State) : Nat := ofBits (s.seg.map SegGroup.armed)

/-- Adjacent inputs; a pair in pair mode counts as one input (R110, R118). -/
def State.adjacent (s : State) (n : Nat) : List Nat :=
  let low := if n = 0 then [] else [if s.ganged (n - 1) then n - 2 else n - 1]
  let next := if s.owner n then n + 2 else n + 1
  low ++ if next ≤ 7 then [next] else []

/-! ## Calibrated values that other families put in force -/

/-- The linearity table of an interpolator comes into force; the residual figures that it leaves are open (R156, R239). -/
def putTable (src i : Nat) (table : List Int) (s : State) : State :=
  let (rms, s) := takeFree s
  let (peak, s) := takeFree s
  { s with edge := { s.edge with sources := updAt s.edge.sources src fun x => { x with interps := updAt x.interps i fun y =>
      { y with table := table, builtAt := s.time.ps, stale := false, rms := rms % 65536, peak := peak % 65536 } } } }

/-- The equaliser setting and the sampling phase of a Damux receiver come into force; what the eye monitor asks for is open
(R138, R302). -/
def putLane (l : Nat) (s : State) : State :=
  let (eq, s) := takeFree s
  let (phase, s) := takeFree s
  { s with dmx := { s.dmx with lanes := updAt s.dmx.lanes l fun _ => { equaliser := eq % 32, samplingPhase := phase } } }

/-! ## What runs -/

/-- The sample loop is locked (R99). -/
def State.sampleLocked (s : State) : Bool := decide ((s.loop 0).st = .locked)

/-- A foreground calibration runs: start-up, commanded, of R119, or a restore (R119, R141). -/
def State.calibrating (s : State) : Bool := decide (s.cal.startup ≠ 0) || ! s.cal.foregrounds.isEmpty

/-- Demand of an input lane in thousands of frames per second (R34). DESIGN CHOICE (log entry 50). -/
def State.laneDemand (s : State) (n : Nat) : Nat := if s.enabled n then s.clk.core * 1000 / 32 else 0

end Sys2Proof.Machine
end

