-- ==== Sys2Proof/Machine/AuxOps.lean ====
section
/-! DEFINITION. Who gets the auxiliary converter next (R518, R519, R522). -/

namespace Sys2Proof.Machine

/-- The time between two conversions of the sequence, in ps (R519). -/
def AuxSequence.step (x : AuxSequence) : Nat := x.interval * 1000000

/-- A user starts on the converter. -/
def startConversion (u : AuxUser) (source : Nat) (s : State) : State :=
  { s with aux := { s.aux with running := some (u, source) } }

/-- The sequence conversion that is due starts within its interval, or is skipped (R519). DEDUCED (log entry 49). -/
def startSequence (source due : Nat) (s : State) : State :=
  let s' := { s with aux := { s.aux with seqDue := none } }
  if s.time.ps < due + s.aux.seq.step then startConversion .sequence source s' else s'

/-- Housekeeping that is due, oldest first, and then the sequence. -/
def nextRoutine (s : State) : State :=
  match s.aux.due with
  | src :: rest => startConversion .housekeeping src { s with aux := { s.aux with due := rest } }
  | [] => match s.aux.seqDue with
    | some (src, due) => startSequence src due s
    | none => s

/-- The converter, where it is free, takes the next conversion in the order of R518. -/
def auxNext (s : State) : State :=
  if s.aux.running.isSome ∨ ¬ s.awake then s
  else match s.aux.inject with
    | some (src, _) => startConversion .inject src s
    | none =>
      if s.aux.holdWaits then startConversion .hold 0 { s with aux := { s.aux with holdWaits := false } }
      else match s.aux.restart with
        | some (u, src) => startConversion u src { s with aux := { s.aux with restart := none } }
        | none => nextRoutine s

/-- A foreground calibration asks for its hold (R522). -/
def askHold (s : State) : State := auxNext { s with aux := { s.aux with holdWaits := true } }

end Sys2Proof.Machine
end

