-- ==== Sys2Proof/Machine/Kernels.lean ====
section
/-! DEFINITION. The values of kernel results (R330, R342, R344): what the manual defines of them, each free within the agreement
that R330 asks for. -/

namespace Sys2Proof.Machine

def JobConfig.p (c : JobConfig) (i : Nat) : Nat := c.params.getD i 0

/-! ### binary32 -/

/-- The magnitude of a binary32 word in units of 2^-149. -/
def floatUnits (w : Nat) : Nat :=
  let e := w / 2 ^ 23 % 256
  let m := w % 2 ^ 23
  if e = 0 then m else (2 ^ 23 + m) * 2 ^ (e - 1)

/-- A quotient rounded to the nearest integer, halves to even. -/
def roundEven (n d : Nat) : Nat :=
  let q := n / d
  let r := n % d
  if d < 2 * r ∨ (2 * r = d ∧ q % 2 = 1) then q + 1 else q

/-- Times 2^`e`, as numerator and denominator. -/
def scale2 (e : Int) (n d : Nat) : Nat × Nat := if e < 0 then (n, d * 2 ^ (-e).toNat) else (n * 2 ^ e.toNat, d)

/-- The binary32 word nearest to a quotient, round to nearest even, subnormal values kept (R330). -/
def floatWord (n : Int) (d : Nat) : Nat :=
  let a := n.natAbs
  let e0 : Int := (Nat.log2 a : Int) - Nat.log2 d
  let s := scale2 (-e0) a d
  let e : Int := max (-126) (if s.1 < s.2 then e0 - 1 else e0)
  let t := scale2 (23 - e) a d
  let w := if a = 0 then 0 else min 0x7F800000 ((e + 126).toNat * 2 ^ 23 + roundEven t.1 t.2)
  if n < 0 then 2 ^ 31 + w else w

/-! ### Moments of a block -/

/-- An integer square root. -/
def bigSqrt (n : Nat) : Nat := isqrtAux 384 n 0

def sumOf (l : List Int) (f : Int → Int) : Int := l.foldl (fun r x => r + f x) 0

/-- The root mean square of a block of values, each in 1/`unit`: as a quotient, true to 2^-40. -/
def rmsOf (unit : Nat) (l : List Int) : Int × Nat :=
  (bigSqrt ((sumOf l fun x => x * x).toNat * 2 ^ 80 / max 1 l.length), 2 ^ 40 * unit)

def smallest (l : List Int) : Int := l.foldl min (l.headD 0)
def largest (l : List Int) : Int := l.foldl max (l.headD 0)

/-- STATS (R342): mean, rms, minimum, maximum, peak, crest, kurtosis, skewness. -/
def statsOf (unit : Nat) (l : List Int) : List (Int × Nat) :=
  let n : Int := l.length
  let s := sumOf l id
  let y (k : Nat) : Int := sumOf l fun x => (n * x - s) ^ k
  let rms := rmsOf unit l
  let peak : Nat := (l.map Int.natAbs).foldl max 0
  let root := bigSqrt ((n * y 2).toNat * 2 ^ 80)
  let flat := decide (y 2 = 0)
  [(s, l.length * unit), rms, (smallest l, unit), (largest l, unit), (peak, unit),
    if flat then (0, 1) else (peak * 2 ^ 40, rms.1.toNat),
    if flat then (0, 1) else (n * y 4, (y 2 * y 2).toNat),
    if flat then (0, 1) else (n * y 3 * 2 ^ 40, (y 2).toNat * root)]

/-- FEATURE_EXPORT (R342): mean, minimum, maximum, rms. -/
def featuresOf (unit : Nat) (l : List Int) : List (Int × Nat) :=
  [(sumOf l id, max 1 l.length * unit), (smallest l, unit), (largest l, unit), rmsOf unit l]

/-! ### Spectra -/

/-- One unit of the fixed-point numbers of a spectrum. -/
def fixedOne : Int := 2 ^ 96

/-- Cosine and sine of 1 / 2^m of a turn. -/
def turnPart : Nat → Int × Int
  | 0 => (fixedOne, 0)
  | 1 => (-fixedOne, 0)
  | 2 => (0, fixedOne)
  | m + 3 =>
    let a := turnPart (m + 2)
    let c : Int := bigSqrt ((fixedOne + a.1) * fixedOne / 2).toNat
    (c, a.2 * fixedOne / (2 * c))

def rotate (a b : Int × Int) : Int × Int :=
  ((a.1 * b.1 - a.2 * b.2) / fixedOne, (a.1 * b.2 + a.2 * b.1) / fixedOne)

/-- The first `n` powers of a rotation. -/
def rotations (b : Int × Int) : Nat → Int × Int → List (Int × Int)
  | 0, _ => []
  | n + 1, a => a :: rotations b n (rotate a b)

/-- Terms of a cosine window in 1/100,000: rectangular, Hann, four-term Blackman-Harris. PRESUMED (log entry 75). -/
def windowTerms : Nat → List Int
  | 0 => [100000]
  | 1 => [50000, -50000]
  | _ => [35875, -48829, 14128, -1168]

/-- The window's value at each of the points `t` of a turn, in fixed point times 100,000. PRESUMED (log entry 75). -/
def windowOf (terms : List Int) (t : List (Int × Int)) : List Int :=
  (List.range t.length).map fun i =>
    ((List.range terms.length).map fun k => terms.getD k 0 * (t.getD (k * i % max 1 t.length) (0, 0)).1).sum

/-- The power of bin `k` of a block of 2^m values, each in 1/`unit` (R342): a sine at a bin centre reads its mean square.
PRESUMED (log entry 75). -/
def binPower (m unit window : Nat) (l : List Int) (k : Nat) : Int × Nat :=
  let n := 2 ^ m
  let t := rotations (turnPart m) n (fixedOne, 0)
  let terms := windowTerms window
  let v := (l.zip (windowOf terms t)).map fun p => p.1 * p.2
  let part (f : Int × Int → Int) : Int := ((v.zip (List.range n)).map fun p => p.1 * f (t.getD (k * p.2 % n) (0, 0)) / fixedOne).sum
  let re := part (·.1)
  let im := part (·.2)
  let both : Int := if k = 0 ∨ 2 * k = n then 1 else 2
  (both * (re * re + im * im), (n * (terms.headD 1).toNat * unit) ^ 2 * fixedOne.toNat ^ 2)

/-- A mean of quotients of one denominator. -/
def meanQ (l : List (Int × Nat)) : Int × Nat := ((l.map (·.1)).sum, max 1 l.length * (l.headD (0, 1)).2)

/-! ### Results -/

/-- The unit of a job's values: containers are in 1/16 LSB, gate results in 2^-39 Hz (R344). -/
def Job.unit (j : Job) : Nat :=
  match j.config.kind with
  | 0 => if j.snapshot.headD 0 = 0 then 1 else 16
  | 3 => 2 ^ 39
  | _ => 1

/-- The values of channel `c` in release `r`, where a release has `n` values of each channel. -/
def Job.piece (j : Job) (n r c : Nat) : List Int := (j.inputs.drop ((r * j.width + c) * n)).take n

/-- Values of one channel: each with the rms of its block. -/
def withRms (rms : Int × Nat) (l : List (Int × Nat)) : List ((Int × Nat) × (Int × Nat)) := l.map fun v => (v, rms)

/-- The bins of a producer's result in 2^-149, and the sums of the bands. -/
def bandSums (j : Job) (c : Nat) : List ((Int × Nat) × (Int × Nat)) :=
  let bins := (j.piece (j.inputs.length / max 1 j.width) 0 c).map fun w => ((floatUnits w.toNat : Nat) : Int)
  (List.range (j.config.p 0)).map fun b =>
    let first := j.config.p (3 + 4 * b)
    let last := j.config.p (4 + 4 * b)
    ((((bins.take (last + 1)).drop first).sum, 2 ^ 149), rmsOf (2 ^ 149) bins)

/-- The values that the manual defines, in the order of R344, each with the rms of its block. None for peak positions and for the
kernels whose filters and interpolation the manual leaves to the module. -/
def definedValues (j : Job) : Option (List ((Int × Nat) × (Int × Nat))) :=
  let c := j.config
  let channels := List.range j.width
  if c.kind = 0 ∧ j.snapshot.headD 0 = 1 then none
  else match c.kernel with
  | 1 => some (channels.flatMap fun i =>
      let l := j.piece (c.p 0) 0 i
      withRms (rmsOf j.unit l) (statsOf j.unit l))
  | 2 =>
    if c.kind = 4 ∨ c.p 1 = 2 then none
    else some (channels.flatMap fun i =>
      let blocks := (List.range (c.p 2)).map fun r => j.piece (2 ^ c.p 0) r i
      withRms (rmsOf j.unit blocks.flatten)
        ((List.range (2 ^ c.p 0 / 2 + 1)).map fun k => meanQ (blocks.map fun l => binPower (c.p 0) j.unit (c.p 1) l k)))
  | 6 => some (channels.flatMap (bandSums j))
  | 7 => some (channels.flatMap fun i => (List.range (c.p 1)).flatMap fun r =>
      let l := j.piece (c.p 0) r i
      withRms (rmsOf j.unit l) (featuresOf j.unit l))
  | _ => none

/-- A value of a result: within 10^-5 of the block's rms of what the manual defines (R330). -/
def nearWord (free : Nat) (v rms : Int × Nat) : Nat :=
  let k : Int := ((free % (2 ^ 21 + 1) : Nat) : Int) - 2 ^ 20
  let d : Nat := rms.2 * 10 ^ 5 * 2 ^ 20
  floatWord (v.1 * d + rms.1 * k * v.2) (v.2 * d)

/-- The binary32 words of a kernel's result. -/
def kernelWords (j : Job) (n : Nat) : List Nat :=
  let free (i : Nat) : Nat := Config.kernelWord j.config.kernel i j.config.params j.inputs
  match definedValues j with
  | some l => (l.zip (List.range l.length)).map fun p => nearWord (free p.2) p.1.1 p.1.2
  | none => (List.range n).map fun i => free i % 2 ^ 32

end Sys2Proof.Machine
end

