-- ==== Sys2Proof/Machine/MemOps.lean ====
section
/-! DEFINITION. Acquisition memory as the rest of the machine uses it: the place of an address, reads and writes of
the user region, and poisoned lines. -/

namespace Sys2Proof.Machine

/-! ### Cells -/

/-- The cells that `bs` leaves at address `a` and on: a byte of 0 lists nothing (R545). -/
def cellsOf : Nat → List Byte → List Host.Cell
  | _, [] => []
  | a, b :: bs => if b = 0 then cellsOf (a + 1) bs else (a, b) :: cellsOf (a + 1) bs

/-- Write bytes at an address. DESIGN CHOICE (log entry 3). -/
def writeCells (m : List Host.Cell) (a : Nat) (bs : List Byte) : List Host.Cell :=
  m.filter (fun c => c.1 < a) ++ cellsOf a bs ++ m.filter fun c => a + bs.length ≤ c.1

/-- The byte at an address. DESIGN CHOICE (log entry 3). -/
def readCell (m : List Host.Cell) (a : Nat) : Byte :=
  match m.find? fun c => c.1 = a with
  | some c => c.2
  | none => 0

/-- Cells with strictly rising addresses from `lo` up to `hi`, none of them 0. -/
def cellsWf (hi : Nat) : Nat → List Host.Cell → Bool
  | _, [] => true
  | lo, c :: m => decide (lo ≤ c.1 ∧ c.1 < hi ∧ c.2 ≠ 0) && cellsWf hi (c.1 + 1) m

/-- Addresses are 40 bits wide (R391). -/
def addressSpace : Nat := 2 ^ 40

/-- The canonical form of the memory. -/
def Memory.wf (m : List Host.Cell) : Bool := cellsWf addressSpace 0 m

/-! ### Layout (R389 to R391) -/

def slotBytes : Nat := 3840 * 1048576

def MemState.slots (m : MemState) : Nat := m.map.length
def State.userSize (s : State) : Nat := s.mem.slots * slotBytes

/-- The slot of a user address (R390). -/
def MemState.slotOf (m : MemState) (a : Nat) : Nat := (a / 256) % m.slots

/-- The rank that holds a user address. -/
def MemState.rankOf (m : MemState) (a : Nat) : Nat := m.map.getD (m.slotOf a) 0

def State.rank (s : State) (k : Nat) : Rank := s.mem.ranks.getD k {}
def updRank (k : Nat) (f : Rank → Rank) (s : State) : State :=
  { s with mem := { s.mem with ranks := updAt s.mem.ranks k f } }

/-- An area lies in the user region. -/
def State.inUser (s : State) (base size : Nat) : Bool := base + size ≤ s.userSize

/-- Areas overlap. -/
def overlaps (a m b n : Nat) : Bool := decide (a < b + n ∧ b < a + m)

/-! ### Reads and writes -/

/-- Lines that a range touches. -/
def linesOf (a n : Nat) : List Nat := if n = 0 then [] else (List.range ((a + n - 1) / 64 - a / 64 + 1)).map (a / 64 + ·)

/-- A write of a whole line ends its poison; a write of part of one leaves it (R396). -/
def unpoison (a n : Nat) (l : List Nat) : List Nat := l.filter fun k => ¬ (a ≤ 64 * k ∧ 64 * (k + 1) ≤ a + n)

/-- Bytes reach the user region; outside it there is nothing to reach. -/
def memWrite (a : Nat) (bs : List Byte) (s : State) : State :=
  let bs := bs.take (min s.userSize addressSpace - a)
  { s with mem := { s.mem with cells := writeCells s.mem.cells a bs, poisoned := unpoison a bs.length s.mem.poisoned } }

/-- Fill a range with 0. -/
def memZero (a n : Nat) (s : State) : State :=
  { s with mem := { s.mem with cells := s.mem.cells.filter fun c => ¬ (a ≤ c.1 ∧ c.1 < a + n)
                               poisoned := unpoison a n s.mem.poisoned } }

/-- `n` bytes at an address. -/
def State.memBytes (s : State) (a n : Nat) : List Byte :=
  let m := s.mem.cells.filter fun c => a ≤ c.1 ∧ c.1 < a + n
  (List.range n).map fun i => readCell m (a + i)

/-- A line of the range is poisoned. -/
def State.poisonedIn (s : State) (a n : Nat) : Bool := s.mem.poisoned.any fun k => overlaps a n (64 * k) 64

/-- Insert a number into a rising list. -/
def insertNat (n : Nat) : List Nat → List Nat
  | [] => [n]
  | m :: l => if n < m then n :: m :: l else if n = m then m :: l else m :: insertNat n l

/-- Insert or replace the entry of a key in a list with rising keys. -/
def insertKey {α : Type} (n : Nat) (a : α) : List (Nat × α) → List (Nat × α)
  | [] => [(n, a)]
  | m :: l => if n < m.1 then (n, a) :: m :: l else if n = m.1 then (n, a) :: l else m :: insertKey n a l

/-- The entry of a key. -/
def lookupKey {α : Type} (n : Nat) : List (Nat × α) → Option α
  | [] => none
  | m :: l => if m.1 = n then some m.2 else lookupKey n l

/-- Change the entry of a key, where there is one. -/
def updKey {α : Type} (n : Nat) (f : α → α) (l : List (Nat × α)) : List (Nat × α) :=
  l.map fun m => if m.1 = n then (m.1, f m.2) else m

def eraseKey {α : Type} (n : Nat) (l : List (Nat × α)) : List (Nat × α) := l.filter fun m => m.1 ≠ n

/-! ### Capture demand (R250, R401) -/

/-- Sustained bandwidth in MB/s for 46 slots (R388). -/
def sustained : Nat → Nat
  | 0 => 399000
  | 1 => 319000
  | _ => 239000

/-- The share of capture at a rate, in MB/s. -/
def State.share (s : State) (rate : Nat) : Nat := sustained rate * s.mem.slots / 46 - 8000

/-- Memory serves requests: it is initialised, and its channels run; in Standby it does not (R413, R431). -/
def State.memServes (s : State) : Bool := s.boot.memReady && ! s.mem.selfRefresh && s.boot.st != 5

end Sys2Proof.Machine
end

