-- ==== Sys2Proof/Machine/PhOps.lean ====
section
/-! DEFINITION. What the writers and the drains of pigeonholes share: offers, policies, bindings and the resumption of
a blocked writer; and how an engine picks its next task. -/

namespace Sys2Proof.Machine

/-! ### Engines (R345, R346) -/

def State.engine (s : State) (e : Nat) : Engine := s.eng.engines.getD e {}
def updEngine (e : Nat) (f : Engine → Engine) (s : State) : State :=
  { s with eng := { s.eng with engines := updAt s.eng.engines e f } }
def State.job (s : State) (j : Nat) : Option Job := lookupKey j s.eng.jobs
def updJob (j : Nat) (f : Job → Job) (s : State) : State := { s with eng := { s.eng with jobs := updKey j f s.eng.jobs } }

/-- Earliest deadline first; equal deadlines go to the lower job number (R345). -/
def Task.before (a b : Task) : Bool := decide (a.deadline < b.deadline ∨ (a.deadline = b.deadline ∧ a.job < b.job))

def earliest : List Task → Option Task
  | [] => none
  | t :: l => match earliest l with
    | none => some t
    | some u => if u.before t then some u else some t

/-- Take one task out of a list. -/
def removeTask (t : Task) : List Task → List Task
  | [] => []
  | u :: l => if u = t then l else u :: removeTask t l

/-- An idle engine takes its next task. -/
def startNext (e : Nat) (s : State) : State :=
  let x := s.engine e
  if x.faulty ∨ x.current.isSome ∨ x.holds.isSome then s
  else match earliest x.tasks with
    | none => s
    | some t => updEngine e (fun x => { x with current := some t, tasks := removeTask t x.tasks, started := s.time.ps }) s

/-- The job whose result waits for space while its engine is held. -/
def State.heldJob (s : State) (e : Nat) : Option Nat :=
  if (s.engine e).holds.isNone then none
  else
    let offers := s.xfer.phs.flatMap fun p => p.2.waiting.filter fun o => o.writer = .engine e
    offers.head?.map fun o => field (o.entries.headD []) 4 4

/-- An engine still computes or holds a block of a job. -/
def State.computes (s : State) (n : Nat) (j : Job) : Bool :=
  (match (s.engine j.engine).current with
    | some t => decide (t.job = n ∧ ¬ t.chunk)
    | none => false) || s.heldJob j.engine = some n

/-- A stop is answered once the result of the block that computed is delivered or dropped (R336). -/
def answerStops (s : State) : State :=
  forAll s.eng.jobs (fun j s => match j.2.stopping with
    | none => s
    | some w => if s.computes j.1 j.2 then s else reply w OK [] (updJob j.1 (fun j => { j with stopping := none }) s)) s

/-! ### Pigeonholes (R358 to R363) -/

def State.ph (s : State) (n : Nat) : Option Pigeonhole := lookupKey n s.xfer.phs
def updPh (n : Nat) (f : Pigeonhole → Pigeonhole) (s : State) : State :=
  { s with xfer := { s.xfer with phs := updKey n f s.xfer.phs } }

/-- Bindings of lanes (R49): groups that copy postmarks, head routes, edge bindings. -/
def State.laneBindings (s : State) (n : Nat) : Nat :=
  (s.seg.filter fun x => x.config.copy && x.config.pigeonhole = n).length
    + (s.dmx.ports.map fun p => (p.heads.filter fun h => h.routePh = some n).length).sum
    + (s.xfer.edges.filter fun b => b.2.2.ph = n).length

/-- Every binding in force: the lanes, the jobs and the event-record copier (R360, R385). -/
def State.bindings (s : State) (n : Nat) : Nat :=
  s.laneBindings n + (s.eng.jobs.filter fun j => j.2.config.ph = n).length + (if s.evt.copyTo = some n then 1 else 0)

/-- A pigeonhole that a lane may write to, with entries of at least `n` bytes (R49, R254); a Free one has none. -/
def State.laneTarget (s : State) (ph n : Nat) : Bool :=
  match s.ph ph with
  | none => false
  | some p => p.policy ≠ 0 && decide (n ≤ p.entrySize)

/-- The lowest storage cell that no entry uses. DEDUCED (log entry 57). -/
def freeCell (es : List Entry) : Nat → Nat → Nat
  | 0, c => c
  | fuel + 1, c => if es.any fun e => e.cell = c then freeCell es fuel (c + 1) else c

/-- Place one entry: its bytes go into storage, and it waits for its commit (R361). -/
def placeEntry (n : Nat) (bs : List Byte) (s : State) : State :=
  match s.ph n with
  | none => s
  | some p =>
    let c := freeCell p.entries p.entries.length 0
    updPh n (fun p => { p with entries := p.entries ++ [{ seq := p.nextSeq, cell := c, length := bs.length }]
                               nextSeq := p.nextSeq + 1 })
      (memWrite (p.base + c * p.entrySize) bs s)

/-- A PIGEONHOLE_DROPPING record of the latest second, at most 64 (R362). -/
def droppingRecord (n policy count : Nat) (s : State) : State :=
  let recent := s.xfer.dropRecords.filter fun t => decide (s.time.ps < t + psPerS)
  if 64 ≤ recent.length then { s with xfer := { s.xfer with dropRecords := recent, suppressed := s.xfer.suppressed + 1 } }
  else record 0x0B03 [r4 n, r4 policy, r4 count, r4 s.xfer.suppressed]
    { s with xfer := { s.xfer with dropRecords := s.time.ps :: recent, suppressed := 0 } }

/-- Drops are counted; the first after 1 s without any is recorded (R362). -/
def noteDrops (n new old : Nat) (s : State) : State :=
  match s.ph n with
  | none => s
  | some p =>
    let quiet := match p.lastDrop with
      | none => true
      | some t => decide (t + psPerS ≤ s.time.ps)
    let s := updPh n (fun p => { p with droppedNew := satInc 32 p.droppedNew new, droppedOld := satInc 32 p.droppedOld old
                                        lastDrop := some s.time.ps }) s
    if quiet then droppingRecord n p.policy (new + old) s else s

/-- The offer is dropped whole; its numbers are used up (R361, R362). -/
def dropOffer (n : Nat) (o : Offer) (s : State) : State :=
  noteDrops n o.entries.length 0 (updPh n (fun p => { p with nextSeq := p.nextSeq + o.entries.length }) s)

/-- Place the entries of an offer together. DEDUCED (log entry 57). -/
def placeOffer (n : Nat) (o : Offer) (s : State) : State := forAll o.entries (placeEntry n) s

/-- Room for `f` entries. -/
def Pigeonhole.fits (p : Pigeonhole) (f : Nat) : Bool := p.entries.length + f ≤ p.depth

/-- A unit that does not fit, under the policy in force (R362). An offer that follows a waiting one waits behind it. -/
def applyPolicy (n : Nat) (o : Offer) (p : Pigeonhole) (s : State) : State :=
  match p.policy with
  | 0 => updPh n (fun p => { p with waiting := p.waiting ++ [o] }) s
  | 1 =>
    let k := p.entries.length + o.entries.length - p.depth
    placeOffer n o (noteDrops n 0 k (updPh n (fun p => { p with entries := p.entries.drop k }) s))
  | _ => dropOffer n o s

/-- A writer offers entries as one unit (R361, R362). DEDUCED (log entry 57). -/
def offer (n : Nat) (o : Offer) (s : State) : State :=
  match s.ph n with
  | none => s
  | some p =>
    if p.depth < o.entries.length then
      recordLimited 0x0B02 n psPerS [r4 n]
        (updPh n (fun p => { p with nextSeq := p.nextSeq + o.entries.length, oversize := satInc 32 p.oversize }) s)
    else if p.fits o.entries.length && p.waiting.isEmpty then placeOffer n o s
    else applyPolicy n o p s

/-- The writer of an offer waits. -/
def State.waitsOn (s : State) (n : Nat) (w : PhWriter) : Bool :=
  match s.ph n with
  | none => false
  | some p => p.waiting.any fun o => o.writer = w

/-- A writer that no longer waits goes on: an engine takes its next task, the copier its next record (R346, R508). The
time held does not count toward the limit of R350, since the engine's task has ended. -/
def resumeWriter (w : PhWriter) (s : State) : State :=
  match w with
  | .engine e => startNext e (answerStops (updEngine e (fun x => { x with holds := none }) s))
  | .copier => { s with evt := { s.evt with copyWaits := false } }
  | _ => s

/-- Waiting offers go in order, as far as they fit; under another policy than block each is handled at once. -/
def retryWaiting (n : Nat) : Nat → State → State
  | 0, s => s
  | fuel + 1, s =>
    match s.ph n with
    | none => s
    | some p => match p.waiting with
      | [] => s
      | o :: rest =>
        if p.fits o.entries.length then
          retryWaiting n fuel (resumeWriter o.writer (placeOffer n o (updPh n (fun p => { p with waiting := rest }) s)))
        else if p.policy = 0 then s
        else
          retryWaiting n fuel
            (resumeWriter o.writer (applyPolicy n o p (updPh n (fun p => { p with waiting := rest }) s)))

/-- Writers that wait on a pigeonhole re-evaluate (R362 to R365). -/
def reviewWaiting (n : Nat) (s : State) : State :=
  match s.ph n with
  | none => s
  | some p => retryWaiting n p.waiting.length s

/-- Committed entries, oldest first: a commit comes in order, so that they are the first of the entries. -/
def Pigeonhole.committed (p : Pigeonhole) : List Entry := p.entries.takeWhile fun e => e.committed.isSome

/-- The bytes of an entry. -/
def State.entryBytes (s : State) (p : Pigeonhole) (e : Entry) : List Byte :=
  s.memBytes (p.base + e.cell * p.entrySize) e.length

/-- The entry holds a poisoned line (R396). -/
def State.entryPoisoned (s : State) (p : Pigeonhole) (e : Entry) : Bool :=
  s.poisonedIn (p.base + e.cell * p.entrySize) e.length

/-- Entries at the head of the queue whose data a poisoned line spoils are dropped and counted as flushed (R396). -/
def dropPoisoned (n : Nat) : Nat → State → State
  | 0, s => s
  | fuel + 1, s =>
    match s.ph n with
    | none => s
    | some p => match p.committed with
      | [] => s
      | e :: _ =>
        if s.entryPoisoned p e then
          dropPoisoned n fuel (updPh n (fun p => { p with entries := p.entries.drop 1, flushed := satInc 32 p.flushed }) s)
        else s

/-- The loss flag of a delivery (R373): the number is not one above that of the entry delivered before. -/
def Pigeonhole.lossAt (p : Pigeonhole) (e : Entry) : Bool :=
  match p.delivered with
  | none => decide (e.seq ≠ 0)
  | some q => decide (e.seq ≠ q + 1)

/-- The oldest entry has been delivered. -/
def entryDelivered (n : Nat) (e : Entry) (s : State) : State :=
  updPh n (fun p => { p with entries := p.entries.drop 1, delivered := some e.seq }) s

end Sys2Proof.Machine
end

