-- ==== Sys2Proof/Machine/EngOps.lean ====
section
/-! DEFINITION. The reduction engines as the lanes, capture and the tach inputs use them: the costs and the admission of
a job (R339, R343 to R348), taps and the collection of blocks (R337 to R340), releases, and the results (R351, R352). -/

namespace Sys2Proof.Machine

/-! ### Quotients -/

abbrev Quot2 := Nat × Nat

def reduceQ (q : Quot2) : Quot2 := let g := Nat.gcd q.1 q.2; if g = 0 then q else (q.1 / g, q.2 / g)
def addQ (a b : Quot2) : Quot2 := reduceQ (a.1 * b.2 + b.1 * a.2, a.2 * b.2)
def leQ (a b : Quot2) : Bool := decide (a.1 * b.2 ≤ b.1 * a.2)
def ltQ (a b : Quot2) : Bool := decide (a.1 * b.2 < b.1 * a.2)
def ceilQ (q : Quot2) : Nat := (q.1 + q.2 - 1) / q.2

/-! ### The catalogue (R332, R341, R343) -/

/-- Source kinds that a kernel takes. -/
def kernelKinds : Nat → List Nat
  | 1 | 3 | 9 => [0, 2]
  | 4 | 5 => [0, 2]
  | 2 => [0, 2, 4]
  | 6 => [4]
  | 7 => [0, 2, 3]
  | 8 => [1]
  | _ => []

/-- Second source kinds that a kernel takes. -/
def kernelSecond : Nat → List Nat
  | 4 | 5 => [5]
  | 9 => [0, 2]
  | _ => [0xFF]

def popcount (n : Nat) : Nat → Nat
  | 0 => 0
  | w + 1 => popcount n w + (if n.testBit w then 1 else 0)

/-- Sample rate of a source in Hz: direct input, head, tach gate. -/
def State.sourceRate (s : State) (kind source : Nat) : Quot2 :=
  match kind with
  | 0 => (4 * s.clk.core * 1000000, max 1
      (if (s.fin source).mode = 3 then s.flt.period else (s.fin source).factor * s.spacing source))
  | 2 => (1638400, 2 ^ (s.head (source / 256) (source % 256)).k)
  | 3 => (1000000, max 1 (s.edge.tachs.getD source {}).gate.lengthUs)
  | _ => (0, 1)

/-- Twice the bytes of one value (R339): 1.5, 3, 2 and 3 bytes; an angle stamp has 24. -/
def State.halfBytes (s : State) (kind source : Nat) : Nat :=
  match kind with
  | 0 => match (s.fin source).mode with | 0 => 3 | 1 => 6 | _ => 4
  | 5 => 48
  | _ => 6

/-- Channels of a job's source (R341). -/
def State.jobWidth (s : State) (c : JobConfig) : Nat :=
  match c.kind with
  | 1 => popcount c.channels 8
  | 2 => popcount c.channels 4
  | 4 => match lookupKey c.source s.eng.jobs with | some j => j.width | none => 1
  | _ => 1

/-- Bins of a producer's result. -/
def State.producerBins (s : State) (c : JobConfig) : Nat :=
  match lookupKey c.source s.eng.jobs with
  | some j => 2 ^ j.config.p 0 / 2 + 1
  | none => 0

def State.teeth (s : State) (c : JobConfig) : Nat := (s.edge.tachs.getD c.source2 {}).angle.teeth

/-- SPECTRUM above 16,384 points (R343). -/
def JobConfig.outOfCore (c : JobConfig) : Bool := decide (c.kernel = 2 ∧ 14 < c.p 0)

/-- Prefiltered samples of the slowest revolution (R343). -/
def slowest (rate : Quot2) (c : JobConfig) : Nat :=
  if c.p 4 = 0 ∨ c.p 2 = 0 then 2 ^ 32 else ceilQ (rate.1 * 1000, rate.2 * c.p 2 * c.p 4)

/-- Rate part, release part, memory traffic and job area of a kernel (R343): `w` channels. -/
def kernelCost (s : State) (c : JobConfig) (rate : Quot2) (w : Nat) : Nat × Nat × Nat × Nat :=
  let n := 2 ^ c.p 0
  let fft (k log : Nat) := 5 * k * log / 2 + 4 * k
  match c.kernel with
  | 1 => (8, 16 * w, 0, 64 * w)
  | 2 =>
    if c.outOfCore then (0, w * fft n (c.p 0), 24 * n * w, 1024)
    else (0, w * fft n (c.p 0), 0, w * (4 * n + if 1 < c.p 2 then 4 * (n / 2 + 1) else 0))
  | 3 => (2 * c.p 3 + 12, w * fft n (c.p 0), 0, w * (4 * n + 4 * (c.p 3 + 16) + if 1 < c.p 5 then 4 * (n / 2 + 1) else 0))
  | 4 => (if c.p 2 = 1 then 0 else 8, w * 40 * c.p 0 + 20 * s.teeth c, 0, w * 4 * (slowest rate c + 64 + c.p 0 * c.p 1))
  | 5 => (if c.p 2 = 1 then 0 else 8, w * 42 * c.p 0 + 20 * s.teeth c, 0, w * 4 * (slowest rate c + 64 + c.p 0))
  | 6 => (0, w * (s.producerBins c + 16 * c.p 0), 0, 32 * c.p 0 * w)
  | 7 => (6, 4 * w, 0, 32 * w)
  | 8 => (0, 18 * c.p 1 * w, 24 * (s.seg.getD c.source {}).config.strands * w + 192, 4 * c.p 1 * w)
  | _ => (0, 15 * n * c.p 0 / 2 + 8 * n, 0, 8 * n)

/-- Interval between block starts in source samples (R338). -/
def JobConfig.interval (c : JobConfig) : Nat :=
  match c.kernel with
  | 1 => c.p 1
  | 2 => c.p 3
  | 3 => c.p 6 * c.p 4
  | 7 => c.p 0
  | 9 => c.p 1
  | _ => 0

/-- Source samples of a block. -/
def JobConfig.blockSize (c : JobConfig) : Nat :=
  match c.kernel with
  | 1 => c.p 0
  | 2 => 2 ^ c.p 0
  | 3 => 2 ^ c.p 0 * c.p 4
  | 7 => c.p 0
  | 9 => 2 ^ c.p 0
  | _ => 0

/-- Spacing of releases in ns (R338, R343). -/
def JobConfig.spacingNs (c : JobConfig) (rate : Quot2) : Quot2 :=
  if c.kind = 1 ∨ c.kind = 4 then (c.spacing * 1000, 1)
  else if c.kernel = 4 ∨ c.kernel = 5 then (10 ^ 12, max 1 (c.p 3))
  else (c.interval * 10 ^ 9 * rate.2, max 1 rate.1)

/-- A tap's size and rate (R339). -/
def tapOf (s : State) (kind source w : Nat) : Nat × Nat × Nat × Nat :=
  let rate := s.sourceRate kind source
  let h := s.halfBytes kind source
  (kind, source, max 4096 (ceilQ (256 * w * h * rate.2 * 50000 + rate.1 * w * h, 100000 * rate.2)),
    ceilQ (rate.1 * w * h, 2 * rate.2))

def isTapKind (k : Nat) : Bool := decide (k = 0 ∨ k = 2 ∨ k = 3)

/-- What the admission of a job uses. -/
def State.jobCost (s : State) (c : JobConfig) : Cost :=
  let w := s.jobWidth c
  let rate := s.sourceRate c.kind c.source
  let (fr, fb, m, mem) := kernelCost s c rate w
  { w := 48000 + fb + 96 * m, t := c.spacingNs rate
    wc := if fr = 0 then 0 else 48000 + 128 * w * fr
    tc := (128 * 10 ^ 9 * rate.2, max 1 rate.1), memory := mem
    taps := (if isTapKind c.kind then [tapOf s c.kind c.source w] else [])
      ++ if isTapKind c.kind2 then [tapOf s c.kind2 c.source2 1] else [] }

/-- Utilisation of a job (R347). -/
def Cost.util (c : Cost) : Quot2 :=
  addQ (c.w * c.t.2, max 1 (24 * c.t.1)) (if c.wc = 0 then (0, 1) else (c.wc * c.tc.2, max 1 (24 * c.tc.1)))

/-! ### Admission (R348) -/

/-- The distinct taps of a list of jobs; a shared one has the largest size. -/
def mergeTaps (l : List (Nat × Nat × Nat × Nat)) : List (Nat × Nat × Nat × Nat) :=
  l.foldl (fun r t =>
    if r.any fun u => u.1 = t.1 ∧ u.2.1 = t.2.1 then
      r.map fun u => if u.1 = t.1 ∧ u.2.1 = t.2.1 then (u.1, u.2.1, max u.2.2.1 t.2.2.1, max u.2.2.2 t.2.2.2) else u
    else r ++ [t]) []

def State.jobsOn (s : State) (e : Nat) : List Job := (s.eng.jobs.filter fun j => j.2.engine = e).map (·.2)
def State.costsOn (s : State) (e : Nat) : List Cost := (s.jobsOn e).map Job.cost

def utilSum (l : List Cost) : Quot2 := l.foldl (fun u c => addQ u c.util) (0, 1)

def costMax (l : List Cost) : Nat := l.foldl (fun m c => max m (max c.w c.wc)) 0

/-- U + w_max / T does not pass 1. -/
def blockingOk (u : Quot2) (wmax : Nat) (t : Quot2) : Bool := leQ (addQ u (wmax * t.2, max 1 (24 * t.1))) (1, 1)

/-- The first limit that a list of jobs on an engine breaks, 0 for none. -/
def admission (l : List Cost) : Nat :=
  let taps := mergeTaps (l.flatMap Cost.taps)
  let u := utilSum l
  let m := costMax l
  if 128 < l.length then 1
  else if 16 < taps.length ∨ 65536 < (taps.map (·.2.2.1)).sum then 2
  else if (taps.any fun t => 10 ^ 9 < t.2.2.2) ∨ 16 * 10 ^ 8 < (taps.map (·.2.2.2)).sum then 3
  else if 458752 < (l.map Cost.memory).sum then 4
  else if ¬ leQ u (9, 10) then 5
  else if l.all fun c => blockingOk u m c.t && (decide (c.wc = 0) || blockingOk u m c.tc) then 0
  else 6

def State.inService (s : State) : List Nat := (List.range 128).filter fun e => ¬ (s.engine e).faulty

/-- The lowest-numbered engine in service that admits a cost. -/
def State.chooseEngine (s : State) (c : Cost) : Option Nat :=
  s.inService.find? fun e => admission (s.costsOn e ++ [c]) = 0

/-! ### Blocks and releases (R337, R338, R345) -/

/-- Microseconds of a spacing, rounded up, and the spacing in ps. -/
def spacingUs (t : Quot2) : Nat := ceilQ (t.1, 1000 * t.2)
def spacingPs (t : Quot2) : Nat := t.1 * 1000 / t.2

/-- Add a task to an engine; an idle engine takes it at once. -/
def addTask (e : Nat) (t : Task) (s : State) : State :=
  startNext e (updEngine e (fun x => { x with tasks := x.tasks ++ [t] }) s)

/-- Release a block of a job: its deadline is the release plus T (R337). -/
def releaseBlock (n : Nat) (b : Block) (s : State) : State :=
  match s.job n with
  | none => s
  | some j =>
    let b := { b with time := s.now, epoch := s.time.epoch }
    addTask j.engine { job := n, chunk := false, arrival := s.time.ps, deadline := s.time.ps + spacingPs j.cost.t, block := b }
      (updJob n (fun j => { j with lastRelease := some s.time.ps }) s)

/-- A release less than T after the latest one that the job took is skipped (R338). -/
def tooSoon (j : Job) (now : Nat) : Bool := match j.lastRelease with
  | some r => decide (now < r + spacingPs j.cost.t)
  | none => false

def noteBusy (n : Nat) (s : State) : State := updJob n (fun j => { j with busy := satInc 32 j.busy }) s

/-- Tasks of a job that wait. -/
def State.waitingTasks (s : State) (n : Nat) (j : Job) : Nat :=
  ((s.engine j.engine).tasks.filter fun t => t.job = n ∧ ¬ t.chunk).length

/-! ### Collection -/

/-- The channels that a job takes of a datum. -/
def Job.take (j : Job) (d : Datum) : Datum :=
  if j.config.kind = 2 then
    { d with values := (inputsOf j.config.channels).map fun i => d.values.getD i 0 }
  else d
where
  inputsOf (m : Nat) : List Nat := (List.range 4).filter m.testBit

/-- A block from its data. -/
def makeBlock (l l2 : List Datum) : Block :=
  let all := l ++ l2
  let chans (l : List Datum) : List (List Int) :=
    (List.range (l.headD { values := [], tick := 0 }).values.length).map fun i => l.map fun d => d.values.getD i 0
  { values := chans l, second := chans l2, tick := (l.headD { values := [], tick := 0 }).tick
    gap := all.any (fun d => d.gap || d.lossy), suspect := all.any (·.suspect), inexact := all.any (·.inexact)
    overrange := all.any (·.overrange), degraded := all.any (·.degraded), stopped := all.any (·.stopped)
    lost := ((all.filter (·.gap)).map fun d => d.values.length).sum, span := l.length }

/-- A block is complete: it waits for its release, unless it holds suspect data that the job skips (R340). -/
def Job.complete (b : Block) (j : Job) : Job :=
  if b.suspect ∧ j.config.skipSuspect then { j with skSuspect := satInc 32 j.skSuspect }
  else { j with ready := j.ready ++ [b] }

/-- A datum joins the collected ones; after an unsettled one collection restarts at the first settled one (R340). -/
def Job.append (d : Datum) (j : Job) : Job :=
  match j.data.head? with
  | some h =>
    if d.unsettled then { j with data := [d] }
    else if h.unsettled then { j with data := [d], skUnsettled := satInc 32 j.skUnsettled }
    else { j with data := j.data ++ [d] }
  | none => { j with data := [d] }

/-- A block of fixed length is complete once all its data are there. -/
def Job.cutBlock (j : Job) : Job :=
  let n := j.config.blockSize
  if j.data.length < n ∨ j.data.any (·.unsettled) ∨ (j.config.kind2 ≠ 0xFF ∧ j.data2.length < n) then j
  else
    let rest := j.config.interval - n
    ({ j with data := [], data2 := [], skip := rest, skip2 := rest } : Job).complete (makeBlock j.data j.data2)

/-- A revolution that the data have passed: skipped where it is too fast, too slow or inconsistent (R342, R343). -/
def Job.cutRevolution (core tick : Nat) (j : Job) : Job :=
  match j.revolutions with
  | first :: r :: rest =>
    let a := first.tick
    let b := r.tick
    if tick < b then j
    else
      let l := j.data.filter fun d => a ≤ d.tick ∧ d.tick < b
      let j := { j with revolutions := r :: rest, data := j.data.filter fun d => b ≤ d.tick }
      let unsettled := l.any (·.unsettled)
      -- revolutions per second, times 1,000, is 4e9 * core / (b - a)
      let fast := decide (4 * 10 ^ 9 * core > j.config.p 3 * (b - a))
      let slow := decide (4 * 10 ^ 9 * core < j.config.p 4 * (b - a))
      if unsettled then { j with skUnsettled := satInc 32 j.skUnsettled }
      else if fast then { j with busy := satInc 32 j.busy }
      else if slow ∨ (j.config.kernel = 5 ∧ r.inconsistent) then { j with skOther := satInc 32 j.skOther }
      else
        let k := makeBlock l []
        j.complete { k with tick := a, inconsistent := r.inconsistent, span := 1, inexact := k.inexact || r.inexact
                            degraded := k.degraded || r.degraded, gap := k.gap || r.lossy }
  | _ => j

/-- Chunks arrive every 128 source samples where the kernel has a rate part (R345). -/
def Job.countChunk (j : Job) : Job :=
  if j.cost.wc = 0 then j
  else if j.chunk + 1 = 128 then { j with chunk := 0, chunks := j.chunks + 1 } else { j with chunk := j.chunk + 1 }

/-- One datum of the first source. -/
def Job.collect (core : Nat) (d : Datum) (j : Job) : Job :=
  let j := j.countChunk
  let d := j.take d
  if j.config.kernel = 4 ∨ j.config.kernel = 5 then
    match j.revolutions with
    | first :: _ => if d.tick < first.tick then j else ({ j with data := j.data ++ [d] } : Job).cutRevolution core d.tick
    | [] => j
  else if 0 < j.skip then { j with skip := j.skip - 1 }
  else (j.append d).cutBlock

/-- One datum of the second source. -/
def Job.collect2 (d : Datum) (j : Job) : Job :=
  if 0 < j.skip2 then { j with skip2 := j.skip2 - 1 }
  else if j.data2.length < j.config.blockSize then ({ j with data2 := j.data2 ++ [d] } : Job).cutBlock
  else j

/-! ### Angle stamps (R247 to R249) -/

def Datum.revolution (d : Datum) : Nat := field d.angle 16 4
def Datum.tooth (d : Datum) : Nat := field d.angle 20 2
def Datum.flagged (d : Datum) (i : Nat) : Bool := (field d.angle 22 2).testBit i

/-- Where a revolution starts between two angle stamps, by the teeth that lie between them. DEDUCED (log entry 54). -/
def startBetween (teeth : Nat) (p d : Datum) : Nat :=
  let n := (d.revolution - p.revolution) * teeth + d.tooth - p.tooth
  if n = 0 then d.tick else d.tick - (d.tick - p.tick) * d.tooth / n

/-- An angle stamp reaches a job: it belongs to the revolution under way, or a new one starts. -/
def Job.collectAngle (teeth : Nat) (d : Datum) (j : Job) : Job :=
  let d := { d with lossy := d.lossy || decide (0 < d.missing) }
  match j.angles.getLast? with
  | none => { j with angles := [d], revolutions := if d.tooth = 0 then j.revolutions ++ [{ tick := d.tick }] else j.revolutions }
  | some p =>
    if p.revolution = d.revolution then { j with angles := j.angles ++ [d] }
    else
      let l := j.angles
      let r : Revolution :=
        { tick := startBetween teeth p d, inconsistent := l.any (·.flagged 1), inexact := l.any (·.inexact)
          degraded := l.any (·.degraded), lossy := l.any (·.lossy) || d.lossy }
      { j with angles := [d], revolutions := j.revolutions ++ [r] }

/-- The data that are missing before one come as 0, with the gap flag (R340); `step` is the spacing of the source in ticks. -/
def Datum.expand (step : Nat) (d : Datum) : List Datum :=
  ((List.range d.missing).map fun i => { d with
    values := d.values.map fun _ => 0, tick := d.tick - step * (d.missing - i), gap := true, missing := 0, overrange := false })
    ++ [{ d with missing := 0 }]

/-- The ingest mover hands data of a source to the collection buffers of an engine's running jobs (R331). -/
def feed (e kind source : Nat) (l : List Datum) (s : State) : State :=
  let core := s.clk.core
  let teeth := (s.edge.tachs.getD source {}).angle.teeth
  let stamps := l
  let rate := s.sourceRate kind source
  let l := l.flatMap (Datum.expand (4000000 * core * rate.2 / max 1 rate.1))
  mapJobs (fun _ j =>
    if j.running ∧ j.engine = e then
      let j := if j.config.kind = kind ∧ j.config.source = source then l.foldl (fun j d => j.collect core d) j else j
      if j.config.kind2 = kind ∧ j.config.source2 = source then
        if kind = 5 then stamps.foldl (fun j d => j.collectAngle teeth d) j else l.foldl (fun j d => j.collect2 d) j
      else j
    else j) s

/-- An engine whose running jobs read a source. -/
def State.readers (s : State) (kind source : Nat) : List Nat :=
  (List.range 128).filter fun e => s.eng.jobs.any fun j => decide (j.2.running ∧ j.2.engine = e ∧
    ((j.2.config.kind = kind ∧ j.2.config.source = source) ∨ (j.2.config.kind2 = kind ∧ j.2.config.source2 = source)))

def State.tap (s : State) (e kind source : Nat) : Tap :=
  (s.eng.taps.find? fun t => t.engine = e ∧ t.kind = kind ∧ t.source = source).getD
    { engine := e, kind := kind, source := source }

def setTap (t : Tap) (s : State) : State :=
  let rest := s.eng.taps.filter fun u => ¬ (u.engine = t.engine ∧ u.kind = t.kind ∧ u.source = t.source)
  { s with eng := { s.eng with taps := rest ++ [t] } }

/-- Data that a tap holds at most. -/
def State.tapRoom (s : State) (e kind source width : Nat) : Nat :=
  let size := ((mergeTaps ((s.costsOn e).flatMap Cost.taps)).find? fun t => t.1 = kind ∧ t.2.1 = source).map (·.2.2.1)
  2 * size.getD 4096 / max 1 (width * s.halfBytes kind source)

/-- The mover drains a tap; it waits while the vector unit is held for a pigeonhole (R346, R349). -/
def drainTap (e kind source : Nat) (s : State) : State :=
  let t := s.tap e kind source
  if t.data.isEmpty ∨ (s.engine e).holds.isSome then s
  else feed e kind source t.data (setTap { t with data := [] } s)

/-- The data of one frame, slot or stamp reach the tap of one engine: a full tap drops them all (R47, R340). -/
def tapData (kind source : Nat) (d : Datum) (l : List Datum) (e : Nat) (s : State) : State :=
  let s := drainTap e kind source s
  let t := s.tap e kind source
  if s.tapRoom e kind source d.values.length < t.data.length + l.length + 1 then
    setTap { t with dropped := t.dropped + l.length + 1, lost := satInc 32 t.lost } s
  else if (s.engine e).holds.isSome ∨ 0 < t.dropped then
    drainTap e kind source (setTap { t with data := t.data ++ { d with missing := d.missing + t.dropped } :: l, dropped := 0 } s)
  else feed e kind source (d :: l) s

/-- The data of one frame, slot or stamp reach every engine that reads their source. -/
def pushData (kind source : Nat) (l : List Datum) (s : State) : State :=
  match l with
  | [] => s
  | d :: l => forAll (s.readers kind source) (tapData kind source d l) s

/-- Flag [1] of an angle stamp of a revolution (R248). -/
def Datum.spoil (revolution : Nat) (d : Datum) : Datum :=
  if d.revolution = revolution ∧ ¬ d.flagged 1 then { d with angle := d.angle.set 22 (d.angle.getD 22 0 ||| 2) } else d

/-- The angle stamps of a revolution that no kernel has taken yet are flagged (R248). DEDUCED (log entry 54). -/
def spoilRevolution (n revolution : Nat) (s : State) : State :=
  let s := mapJobs (fun _ j => if j.config.kind2 = 5 ∧ j.config.source2 = n then { j with angles := j.angles.map (Datum.spoil revolution) }
    else j) s
  { s with eng := { s.eng with taps := s.eng.taps.map fun t =>
      if t.kind = 5 ∧ t.source = n then { t with data := t.data.map (Datum.spoil revolution) } else t } }

/-- A segment of a group is in memory: one release for each running job of the group (R337, R338). -/
def releaseSegment (g : Nat) (parts : List InputPart) (b : Block) (short noData : Bool) (s : State) : State :=
  forAll (s.eng.jobs.filter fun j => decide (j.2.running ∧ j.2.config.kind = 1 ∧ j.2.config.source = g)) (fun r s =>
    match s.job r.1 with
    | none => s
    | some j =>
      let l := parts.filter fun p => j.config.channels.testBit p.input
      let b : Block := { b with
        values := l.map (·.values), lost := (l.map (·.lost)).sum, gap := l.any fun p => decide (0 < p.lost)
        suspect := l.any (·.suspect), overrange := l.any (·.overrange), span := 1 }
      if tooSoon j s.time.ps then noteBusy r.1 s
      else if short ∨ noData then updJob r.1 (fun j => { j with skOther := satInc 32 j.skOther }) s
      else if b.suspect ∧ j.config.skipSuspect then updJob r.1 (fun j => { j with skSuspect := satInc 32 j.skSuspect }) s
      else if l.any (·.unsettled) then updJob r.1 (fun j => { j with skUnsettled := satInc 32 j.skUnsettled }) s
      else releaseBlock r.1 b s) s

/-! ### Results (R344, R351, R352) -/

/-- Payload words of a result, by its kernel (R344). DESIGN CHOICE (log entry 28). -/
def resultWords (j : Job) : Nat :=
  let c := j.config
  let w := j.width
  match c.kernel with
  | 1 => 8 * w
  | 2 | 3 => w * (2 ^ c.p 0 / 2 + 1)
  | 4 => w * c.p 0 * c.p 1
  | 5 => w * c.p 0
  | 6 => w * c.p 0 * 2
  | 7 => w * 4 * c.p 1
  | 8 => w * c.p 1
  | _ => 4

/-- Releases that make a result. -/
def JobConfig.releases (c : JobConfig) : Nat :=
  match c.kernel with
  | 2 => c.p 2
  | 3 => c.p 5
  | 4 | 5 => c.p 1
  | 7 => c.p 1
  | 8 => c.p 0
  | _ => 1

/-- The level of a band after one more result (R342): `warn` and `alarm` are the levels, `h` the hysteresis in 1/1,000. -/
def Band.next (sum warn alarm h persist : Nat) (x : Band) : Band :=
  let reached (l : Nat) : Bool := decide (floatUnits l ≤ floatUnits sum)
  let below (l : Nat) : Bool := decide (1000 * floatUnits sum < floatUnits l * (1000 - h))
  let up := match x.level with
    | 0 => reached warn
    | 1 => reached alarm
    | _ => false
  let down := match x.level with
    | 2 => below alarm
    | 1 => below warn
    | _ => false
  let nu := if up then x.up + 1 else 0
  let nd := if down then x.down + 1 else 0
  if persist ≤ nu then { level := x.level + 1 }
  else if persist ≤ nd then { level := x.level - 1 }
  else { x with up := nu, down := nd }

/-- The payload of BAND_ALARM, and the bands after it. -/
def bandPayload (j : Job) : List Byte × List Band :=
  let b := j.config.p 0
  let words := kernelWords j (j.width * b)
  let r := (List.range (j.width * b)).map fun i =>
    let sum := words.getD i 0
    let k := 3 + 4 * (i % max 1 b)
    let x := (j.bands.getD i {}).next sum (j.config.p (k + 2)) (j.config.p (k + 3)) (j.config.p 1) (j.config.p 2)
    (sum, x)
  (r.flatMap fun p => u32 p.1 ++ u8 p.2.level ++ zeros 3, r.map (·.2))

/-- The payload of a result. -/
def resultPayload (j : Job) : List Byte :=
  match j.config.kernel with
  | 6 => (bandPayload j).1
  | 9 => (kernelWords j 3).flatMap u32 ++ zeros 4
  | _ => (kernelWords j (resultWords j)).flatMap u32

/-- Flags of a result header. -/
def resultFlags (b : Block) (late abort : Bool) : Nat :=
  ofBits [b.gap, b.suspect, late, abort, b.inexact, b.inconsistent, b.overrange, b.degraded, b.stopped]

/-- One entry of a result: the 64-byte header and a fragment of the payload. -/
def resultEntry (n : Nat) (j : Job) (b : Block) (flags i count : Nat) (fragment : List Byte) : List Byte :=
  let h := u8 j.config.kernel ++ u8 j.engine ++ u16 flags ++ u32 n ++ u64 j.sequence ++ u64 b.tick ++ u16 b.fraction
    ++ u16 i ++ u16 count ++ zeros 2 ++ i64 b.time ++ u16 b.epoch ++ zeros 2 ++ u32 b.span ++ u32 b.lost
    ++ u32 fragment.length ++ zeros 4
  h ++ u32 (crc32c (h ++ fragment)) ++ fragment

/-- Fragments of a payload. -/
def fragments (size : Nat) : Nat → List Byte → List (List Byte)
  | 0, _ => []
  | k + 1, l => l.take size :: fragments size k (l.drop size)

def resultEntries (n : Nat) (j : Job) (b : Block) (flags entrySize : Nat) (payload : List Byte) : List (List Byte) :=
  let size := entrySize - 64
  let k := max 1 ((payload.length + size - 1) / max 1 size)
  ((List.range k).zip (fragments size k payload)).map fun f => resultEntry n j b flags f.1 k f.2

/-- Write a result's entries; where the pigeonhole makes the writer wait, the vector unit is held (R346). -/
def writeResult (n : Nat) (j : Job) (b : Block) (flags : Nat) (payload : List Byte) (s : State) : State :=
  match s.ph j.config.ph with
  | none => s
  | some p =>
    let s := offer j.config.ph { writer := .engine j.engine, entries := resultEntries n j b flags p.entrySize payload } s
    if s.waitsOn j.config.ph (.engine j.engine) then updEngine j.engine (fun x => { x with holds := some s.time.ps }) s else s

end Sys2Proof.Machine
end

