-- ==== Sys2Proof/Machine/LaneOps.lean ====
section
/-! DEFINITION. What inputs, calibration, decimation, the trigger and capture do to one another: slots forced false,
synchronising resets, and inputs that leave a group. -/

namespace Sys2Proof.Machine

/-- A slot that reads the comparators of input `n` (R196). -/
def SlotSetting.onInput (x : SlotSetting) (n : Nat) : Bool := decide (1 ≤ x.type ∧ x.type ≤ 6) && x.source = n

/-- Types that read both comparators of an input (R192). -/
def isWindowType (t : Nat) : Bool := decide (t = 3 ∨ t = 4 ∨ t = 6)

/-- The setting of a slot as last accepted. -/
def Slot.latest (x : Slot) : SlotSetting := match x.waits.getLast? with
  | some w => w.1
  | none => x.set

/-- Level and source of a comparator as last set. -/
def Comparator.latest (x : Comparator) : Int × Nat := match x.waits.getLast? with
  | some (src, lvl, _, _) => (lvl, src)
  | none => (x.level, x.source)

/-- The source of the comparators that a slot reads, as last set (R192). -/
def State.slotSource (s : State) (x : SlotSetting) : Nat :=
  (s.comparator x.source (if x.type = 3 ∨ x.type = 4 ∨ x.type = 6 then 0 else x.options % 2)).latest.2

/-- Bitmap of a list of inputs. -/
def maskOf (l : List Nat) : Nat := ofBits ((List.range 8).map fun n => l.contains n)

/-- A synchronising reset is due at a tick, with the settings accepted by now; a lane that lifts no frame keeps the latest
only. -/
def FilterInput.expect (live : Bool) (tick t0 : Nat) (starts : Bool) (x : FilterInput) : FilterInput :=
  { x with resets := (if live then x.resets else [])
      ++ [{ tick := tick, t0 := t0, mode := x.mode, factor := x.factor, starts := starts }] }

/-- The chain stops: the lane's samples no longer enter it (R177). -/
def FilterInput.stop (x : FilterInput) : FilterInput :=
  { x with on := false, resets := x.resets.map fun r => { r with starts := false } }

/-- A synchronising reset of inputs: their lanes reach it at `tick`, with the anchor `t0` (R182). -/
def syncInputs (inputs : List Nat) (cause tick t0 : Nat) (s : State) : State :=
  let s := forAll inputs (fun n => updFin n (FilterInput.expect (s.enabled n) tick t0 (decide (cause = 0)))) s
  let s := forAll inputs (fun n => updSince fun z => { z with fltSync := z.fltSync.set n true }) s
  record 0x0401 [r1 cause, r1 (maskOf inputs), r8 t0, r4 s.flt.config] s

/-- A chain-wide synchronising reset with a new anchor (R182). -/
def syncChain (cause t0 : Nat) (s : State) : State :=
  syncInputs (List.range 8) cause t0 t0 { s with flt := { s.flt with anchor := t0 } }

/-- The first frame after the present grid tick. -/
def State.nextBoundary (s : State) : Nat := frameOf s.time.tick + 1

/-- A single-input reset at the next frame, on the present grid (R182). -/
def syncInput (n cause : Nat) (s : State) : State := syncInputs [n] cause (128 * s.nextBoundary) s.flt.anchor s

/-- A group stops: from `tick` on it counts triggers as in Fill, and `reason` is its stop reason (R257, R265, R266). -/
def stopGroup (g reason tick : Nat) (s : State) : State :=
  updSg g (fun x => match x.state with
    | .capturing => { x with state := .stopping, reason := reason, stopTick := some tick }
    | _ => x) s

/-- An input leaves the mask of every later segment of its group; a group without an input stops at `tick` (R41,
R266). -/
def removeInput (n tick : Nat) (s : State) : State :=
  forEach 4 (fun g s =>
    let x := s.sg g
    if x.armed ∧ x.active.testBit n then
      let a := x.active - 2 ^ n
      let s := updSg g (fun x => { x with active := a, removed := (n, tick) :: x.removed }) s
      if a = 0 then stopGroup g 6 tick s else s
    else s) s

/-- Module figures that the records of R37 and R41 hold. -/
def State.vcoreField (s : State) : RecField := r2 s.pwr.sensed
def State.tjField (s : State) : RecField := ri2 s.pwr.tj

end Sys2Proof.Machine
end

