-- ==== Sys2Proof/Machine/Comparators.lean ====
section
/-! DEFINITION. Stage 1 of an input lane (R190 to R194, R214 to R218): the interpolated crossing, the comparators, and what they
report to the condition slots. -/

namespace Sys2Proof.Machine

/-! ### Polynomials with integer coefficients -/

/-- A polynomial, lowest power first. -/
abbrev Poly := List Int

/-- The value at `m / d`, times `d` to the power of the degree. -/
def Poly.at (m : Int) (d : Nat) : Poly → Int
  | [] => 0
  | a :: p => a * d ^ p.length + m * Poly.at m d p

def trimZeros (p : Poly) : Poly := (p.reverse.dropWhile (· = 0)).reverse

def Poly.derivative (p : Poly) : Poly := ((List.range p.length).zip p).tail.map fun c => (c.1 : Int) * c.2

/-- Quotient and remainder of `a ^ 2 * p + quot * q` by steps, up to a common positive factor, `q` without a zero leading
coefficient. -/
def Poly.divide : Nat → Poly → Poly → Poly → Poly × Poly
  | 0, quot, p, _ => (quot, p)
  | fuel + 1, quot, p, q =>
    if p.length < q.length then (quot, p)
    else
      let lp := p.getLastD 0
      let lq := q.getLastD 1
      let shift := p.length - q.length
      let r := (p.zip (List.replicate shift 0 ++ q)).map fun c => lq * lq * c.1 - lp * lq * c.2
      let quot := (quot.map (lq * lq * ·)).set shift (lq * lq * quot.getD shift 0 + lp * lq)
      Poly.divide fuel quot (trimZeros r.dropLast) q

def Poly.rem (p q : Poly) : Poly := (Poly.divide 8 [] p q).2
def Poly.quot (p q : Poly) : Poly := trimZeros (Poly.divide 8 (List.replicate p.length 0) p q).1

/-- The Sturm sequence of `p` and `q`; its last entry is their greatest common divisor. -/
def sturm : Nat → Poly → Poly → List Poly
  | 0, _, _ => []
  | fuel + 1, p, q => if q.isEmpty then [p] else p :: sturm fuel q ((Poly.rem p q).map fun a => -a)

/-- Sign changes of a sequence, zeros left out. -/
def signChanges (l : List Int) : Nat :=
  let l := l.filter (· ≠ 0)
  ((l.zip l.tail).filter fun p => p.1 * p.2 < 0).length

/-- What decides where the roots of a polynomial lie: the Sturm sequence of its square-free part, and its repeated factor. -/
structure RootFinder where
  chain : List Poly
  free_ : Poly
  repeated : Poly

def Poly.finder (p : Poly) : RootFinder :=
  let g := (sturm 5 p p.derivative).getLastD [1]
  let f := if g.length ≤ 1 then p else Poly.quot p g
  { chain := sturm 5 f f.derivative, free_ := f, repeated := g }

/-- Distinct roots at or below `m / d`. -/
def RootFinder.below (x : RootFinder) (m : Int) (d : Nat) : Nat :=
  let low := x.chain.map fun p => if p.length % 2 = 1 then p.getLastD 0 else - p.getLastD 0
  signChanges low - signChanges (x.chain.map (Poly.at m d))

/-- Distinct roots in [-1, m / d]. -/
def RootFinder.count (x : RootFinder) (m : Int) (d : Nat) : Nat :=
  if m < -d then 0
  else
    let m := min m 0
    x.below m d - x.below (-1) 1 + if Poly.at (-1) 1 x.free_ = 0 then 1 else 0

/-- The least step of 2^-20 in [-1, 0] at or above the k-th root there. -/
def RootFinder.step (x : RootFinder) (k : Nat) : Int :=
  let full : Int := 2 ^ 20
  if k ≤ x.count (-full) (2 ^ 20) then -full
  else
    ((List.range 20).reverse).foldl (fun lo i => if x.count (lo + 2 ^ i) (2 ^ 20) < k then lo + 2 ^ i else lo) (-full) + 1

/-! ### The interpolated crossing (R216, R218) -/

/-- Six times the cubic through `(u, y u)`, `u = -2, -1, 0, 1`, less `v`. -/
def cubic (y : List Int) (v : Int) : Poly :=
  let f0 := y.getD 0 0; let f1 := y.getD 1 0; let f2 := y.getD 2 0; let f3 := y.getD 3 0
  let e1 := f1 - f0
  let b := f2 - 2 * f1 + f0
  let a := f3 - 3 * f2 + 3 * f1 - f0
  trimZeros [6 * f0 + 12 * e1 + 6 * b - 6 * v, 6 * e1 + 9 * b + 2 * a, 3 * b + 3 * a, a]

/-- The linear crossing between y(-1) and y(0) as a fraction, kept within [-1, 0]. DESIGN CHOICE (log entry 17). -/
def linearCross (y1 y2 v : Int) : Int × Nat :=
  if y2 = y1 then (0, 1)
  else
    let d := (y2 - y1).natAbs
    (clampInt (-d) 0 ((v - y2) * (y2 - y1).sign), d)

/-- Of two neighbouring roots a < b, the numbers of which are given, with `m / d` between them: whether b is the nearer. Their
sum is known from the coefficients and the third root. -/
def upperNearer (p : Poly) (x : RootFinder) (a : Nat) (m : Int) (d : Nat) : Bool :=
  let c (i : Nat) : Int := p.getD i 0
  if p.length = 3 then
    -- a + b = -c1 / c2
    decide (- c 1 * d * (c 2).sign < 2 * m * (c 2).natAbs)
  else
    -- the third root lies above t = -c2 / c3 - 2 m / d
    let t := (- c 2 * d - 2 * m * c 3) * (c 3).sign
    let e := (c 3).natAbs * d
    let twice := if x.repeated.length = 2 ∧ - x.repeated.getD 0 0 * e * (x.repeated.getD 1 0).sign
        ≤ t * (x.repeated.getD 1 0).natAbs then 1 else 0
    let ours := (if a ≤ x.count t e then 1 else 0) + if a + 1 ≤ x.count t e then 1 else 0
    decide (x.below t e + twice ≤ ours)

/-- The number among the roots in [-1, 0] of the one nearest the linear estimate, the smaller of two equally near (R216). -/
def nearestRoot (p : Poly) (x : RootFinder) (lin : Int × Nat) : Option Nat :=
  let n := x.count 0 1
  let k := x.count lin.1 lin.2
  if n = 0 then none
  else if k = 0 then some 1
  else if k = n ∨ Poly.at lin.1 lin.2 x.free_ = 0 then some k
  else some (if upperNearer p x k lin.1 lin.2 then k + 1 else k)

/-- The root of R216 where the cubic has one in [-1, 0]: the least step of 2^-20 at or above it. -/
def cubicRoot (y : List Int) (v : Int) (lin : Int × Nat) : Option Int :=
  let p := cubic y v
  if p.isEmpty then some (lin.1 * 2 ^ 20 / lin.2)
  else if p.length = 1 then none
  else
    let x := p.finder
    (nearestRoot p x lin).map x.step

/-- What the module takes for a root that lies at most a step of 2^-20 below `u`: any value within 2^-17 of it (R216).
DESIGN CHOICE (log entry 16). -/
def foundRoot (y : List Int) (v u : Int) : Int := u + ((Config.rootError y v + 8) % 16 : Nat) - 8

/-- The value of a sample for interpolation: in a seam frame the outgoing core's or the incoming core's (R126). -/
def TailSample.y (old : Bool) (x : TailSample) : Int × Bool :=
  match x.outgoing with
  | some o => if old then o else (x.value, x.clips)
  | none => (x.value, x.clips)

/-- An instant in 1/65,536 tick and its timing code (R215, R218): `next` is the sample j + 1, `l` holds j, j - 1, j - 2.
DESIGN CHOICE (log entry 17). -/
def crossingOf (old : Bool) (next : Option TailSample) (l : List TailSample) (level : Int) (sp : Nat) : Nat × Nat :=
  match l with
  | c2 :: c1 :: rest =>
    let base : Int := c2.tick * 65536
    let y2 := c2.y old
    let y1 := c1.y old
    if y1.2 || y2.2 then (c2.tick * 65536, 2)
    else
      let v := 16 * level
      let lin := linearCross y1.1 y2.1 v
      let degraded := ((base + lin.1 * (65536 * sp) / lin.2).toNat, 2)
      match rest.head?, next with
      | some c0, some c3 =>
        let y0 := c0.y old
        let y3 := c3.y old
        if y0.2 || y3.2 || [c0, c1, c2, c3].any (·.suspect) then degraded
        else match cubicRoot [y0.1, y1.1, y2.1, y3.1] v lin with
          | some u => ((base + foundRoot [y0.1, y1.1, y2.1, y3.1] v u * sp / 16).toNat, 0)
          | none => degraded
      | _, _ => degraded
  | c2 :: [] => (c2.tick * 65536, 2)
  | [] => (0, 2)

/-- The instant of a switch: up to the end of a seam frame on the outgoing core's data, in later frames on the incoming core's
(R126). DESIGN CHOICE (log entry 17). -/
def crossing (next : Option TailSample) (l : List TailSample) (level : Int) (sp : Nat) : Nat × Nat :=
  match (next.toList ++ l).find? fun x => x.outgoing.isSome with
  | none => crossingOf false next l level sp
  | some x =>
    let r := crossingOf true next l level sp
    if frameOf x.tick < frameOf (r.1 / 65536) then crossingOf false next l level sp else r

/-! ### Reports to the slots -/

/-- Queue a report; one that comes after its tick has been evaluated counts at the first tick that has not. -/
def pushEvent (e : TrigEvent) (s : State) : State :=
  let e := if s.trg.horizon ≤ e.tick then e else { e with tick := s.trg.horizon, instant := s.trg.horizon * 65536 }
  { s with trg := { s.trg with events := s.trg.events ++ [e] } }

/-! ### Comparators (R193) -/

/-- A switch of a comparator: the new state, its instant and timing. -/
structure Switch where
  rose : Bool
  instant : Nat
  timing : Nat

/-- One value enters a comparator that holds a state: whether it switches, and at which threshold. -/
def Comparator.switches (x : Comparator) (high : Bool) (v : Int) : Option Int :=
  if high then if v < x.level - x.hyst then some (x.level - x.hyst) else none
  else if x.level ≤ v then some x.level else none

/-- A value of source `src` reaches a comparator of an input; `inst` gives the instant of a switch at a threshold. -/
def stepComparator (n c src : Nat) (v : Int) (tick : Nat) (inst : Int → Nat × Nat) (s : State) : State :=
  let x := s.comparator n c
  let take (high : Bool) (e : TrigEvent) : State := pushEvent e (updComparator n c (fun x => { x with st := some high }) s)
  if x.source ≠ src ∨ tick < x.from_ then s
  else match x.st with
    | none =>
      let high := decide (x.level ≤ v)
      take high { tick := tick, source := .initial n c high, instant := tick * 65536, decimated := decide (src = 1) }
    | some high => match x.switches high v with
      | none => s
      | some t =>
        let r := inst t
        take (! high) { tick := tick, source := .switch n c (! high), instant := r.1, timing := r.2, decimated := decide (src = 1) }

/-- A value reaches both comparators of an input. -/
def inputStep (n src : Nat) (v : Int) (tick : Nat) (inst : Int → Nat × Nat) (s : State) : State :=
  stepComparator n 1 src v tick inst (stepComparator n 0 src v tick inst s)

/-- Comparators of an input hold no state from a tick on, and their slots are forced false (R193, R199). -/
def loseComparators (n tick : Nat) (which : Comparator → Bool) (s : State) : State :=
  forEach 2 (fun c s =>
    let x := s.comparator n c
    if which x then
      pushEvent { tick := tick, source := .lost n c, instant := tick * 65536, decimated := decide (x.source = 1) }
        (updComparator n c (fun x => { x with st := none }) s)
    else s) s

/-! ### The samples of a lane -/

def State.tail (s : State) (n : Nat) : List TailSample := s.trg.tails.getD n []
def setTail (n : Nat) (l : List TailSample) (s : State) : State := { s with trg := { s.trg with tails := s.trg.tails.set n l } }

/-- The newest sample is evaluated, with its successor where there is one. -/
def stepTail (n sp : Nat) (next : Option TailSample) (s : State) : State :=
  match s.tail n with
  | [] => s
  | y :: _ => inputStep n 0 y.code y.tick (fun v => crossing next (s.tail n) v sp) s

/-- One more sample of a lane: the sample before it has its successor now. -/
def laneSample (n sp : Nat) (x : TailSample) (s : State) : State :=
  setTail n (x :: (s.tail n).take 2) (stepTail n sp (some x) s)

/-- A lane's samples end: the newest has no successor. -/
def flushTail (n : Nat) (s : State) : State := setTail n [] (stepTail n (s.spacing n) none s)

/-! ### Spans without frames (R41, R118, R119, R130) -/

def State.gapsOf (s : State) (n : Nat) : List Nat := s.trg.gaps.getD n []

/-- The lane passes the starts of such spans that lie before the oldest frame it still holds. -/
def passGaps (n : Nat) (s : State) : State :=
  let reached (t : Nat) : Bool := match (s.input n).letterbox with
    | [] => true
    | f :: _ => decide (t ≤ 128 * f.index)
  let l := (s.gapsOf n).takeWhile reached
  if l.isEmpty then s
  else
    let s := { s with trg := { s.trg with gaps := s.trg.gaps.set n ((s.gapsOf n).drop l.length) } }
    forAll l (fun t => loseComparators n t fun _ => true) (flushTail n s)

/-- An input gives no frames from a tick on: the conditions on it are forced false there, once its lane has drained what lies
before (R41 item 2, R199). -/
def forceInput (n tick : Nat) (s : State) : State :=
  passGaps n { s with trg := { s.trg with gaps := updAt s.trg.gaps n (· ++ [tick]) } }

/-- The first frame of an input that will not be deposited any more. -/
def State.endTick (s : State) : Nat := 128 * if s.inp.running then s.inp.nextFrame else s.nextBoundary

end Sys2Proof.Machine
end

