-- ==== Sys2Proof/Machine/Inputs.lean ====
section
/-! DEFINITION. Direct inputs and the woven converters: the commands of group 0x02, the letterbox deposit, overdrive,
rotation and seams. -/

namespace Sys2Proof.Machine

/-! ### Codes (R113) -/

/-- A core's value in 1/16 LSB under its gain and then its offset, in 2^-22 LSB (R115). DEDUCED (log entry 84). -/
def Core.correct (x : Core) (v : Int) : Int := 4 * v * (65536 + x.gain) + 65536 * x.offset

/-- The code of a corrected value in 2^-22 LSB; a saturated raw conversion yields the overrange code. -/
def weaveCode (x : Sample) (v : Int) : Int :=
  if x.satPos then 2047
  else if x.satNeg then -2048
  else if 4093 * 2 ^ 21 ≤ v then 2047
  else if v ≤ -4095 * 2 ^ 21 then -2048
  else roundDiv v (2 ^ 22)

def isOver (code : Int) : Bool := decide (code = 2047 ∨ code = -2048)

/-! ### Overdrive windows (R131 to R134) -/

/-- Recovery and crosstalk windows in grid ticks, rounded up (R132, R133). -/
def recoveryTicks (core : Nat) (excess : Bool) : Nat := if excess then 4 * core else (6 * core + 999) / 1000
def crosstalkTicks (core : Nat) (excess : Bool) : Nat := if excess then 4 * core else (12 * core + 999) / 1000

/-- Two intervals less than 64 ticks apart. -/
def Overdrive.near (o p : Overdrive) : Bool := decide (o.first < p.last + 64 ∧ p.first < o.last + 64)

def Overdrive.merge (o p : Overdrive) : Overdrive :=
  { first := min o.first p.first, last := max o.last p.last, excess := o.excess || p.excess }

/-- Add an interval; two less than 64 ticks apart count as one (R131). DEDUCED (log entry 63). -/
def addOverdrive (o : Overdrive) (l : List Overdrive) : List Overdrive :=
  (l.filter o.near).foldl Overdrive.merge o :: l.filter fun p => ! o.near p

/-- The intervals whose windows can still meet a frame to be deposited or a seam to come (R125, R134). -/
def State.liveOverdrives (s : State) (l : List Overdrive) : List Overdrive :=
  l.filter fun o => decide (128 * s.inp.nextFrame ≤ o.last + crosstalkTicks s.clk.core o.excess
    ∨ s.time.tick ≤ o.last + crosstalkTicks s.clk.core o.excess)

/-- Tick spans that mark input `n` suspect: its own intervals and windows, and those of adjacent inputs (R134).
DEDUCED (log entry 63). -/
def State.suspectSpans (s : State) (n : Nat) : List (Nat × Nat) :=
  ((s.input n).overdrives.map fun o => (o.first, o.last + recoveryTicks s.clk.core o.excess))
    ++ (s.adjacent n).flatMap fun m =>
      (s.input m).overdrives.map fun o => (o.first, o.last + crosstalkTicks s.clk.core o.excess)

/-- The spans that meet a frame. -/
def spansIn (frame : Nat) (l : List (Nat × Nat)) : List (Nat × Nat) :=
  l.filter fun p => decide (p.1 < 128 * (frame + 1) ∧ 128 * frame ≤ p.2)

/-- A seam waits: it is counted as postponed and retried 1 s later (R125). -/
def postponeSeam (n : Nat) (s : State) : State :=
  updInput n (fun x => { x with seam := none, postponed := x.postponed + 1, retry := true }) s

/-- A seam is abandoned by what holds from tick `first` to tick `last`, where that meets the span from the first tick of f0
to the last before the seam frame (R125). -/
def abandonSeam (m first last : Nat) (s : State) : State :=
  match (s.input m).seam with
  | some x => if 128 * x.f0 ≤ last ∧ first < 128 * (x.f0 + 132) then postponeSeam m s else s
  | none => s

/-- The windows of an interval abandon the seams of its input and of the adjacent ones (R125). -/
def abandonSeams (n : Nat) (o : Overdrive) (s : State) : State :=
  forAll (s.adjacent n) (fun m => abandonSeam m o.first (o.last + crosstalkTicks s.clk.core o.excess))
    (abandonSeam n o.first (o.last + recoveryTicks s.clk.core o.excess) s)

/-- DEDUCED (log entry 63). -/
def noteOverdrive (n : Nat) (o : Overdrive) (s : State) : State :=
  abandonSeams n o (updInput n (fun x => { x with overdrives := addOverdrive o (s.liveOverdrives x.overdrives) }) s)

/-- OVERDRIVE_DETECTED (R131, R133). DEDUCED (log entry 63). -/
def execOverdriveDetected (at_ input : Nat) (negative : Bool) (first last : Nat) (excess : Bool) (s : State) : Result :=
  let s := advance at_ s
  .next (
    if 8 ≤ input ∨ ¬ s.enabled input then s
    else
      let s := noteOverdrive input { first := first, last := last, excess := excess } s
      if excess then
        recordLimited 0x0207 input psPerMs [r1 input, r1 negative.toNat, r8 first]
          (updSince (fun z => { z with excess := z.excess.set input true }) s)
      else s)

/-! ### The letterbox deposit (R24, R26, R41, R135, R142) -/

/-- The interruption that covers a frame of an input (R142). -/
def State.interrupted (s : State) (n frame : Nat) : Bool :=
  s.cal.interruptions.any fun i => decide (i.1 = n ∧ i.2.1 ≤ frame) && match i.2.2 with
    | none => true
    | some l => decide (frame ≤ l)

/-- The core that holds a phase of an input at a frame: until the seam frame the outgoing core of the latest seam (R122). -/
def State.weaveCore (s : State) (n frame phase : Nat) : Core :=
  let x := s.input n
  if frame < x.seamFrame ∧ phase = x.seamPhase then s.core x.seamCore
  else match (s.coresOf n).find? fun c => (s.core c).st = .live && (s.core c).phase = phase with
    | some c => s.core c
    | none => {}

/-- The corrected values of a frame's samples, in 2^-22 LSB: each under the corrections of the core that made it (R113, R115). -/
def State.corrected (s : State) (n frame : Nat) (l : LaneFrame) : List Int :=
  (List.range (s.perFrame n)).map fun i => (s.weaveCore n frame (i % s.phases n)).correct (l.samples.getD i default).value

/-- The codes of a frame. -/
def State.codesOf (s : State) (n frame : Nat) (l : LaneFrame) : List Int :=
  ((List.range (s.perFrame n)).zip (s.corrected n frame l)).map fun p => weaveCode (l.samples.getD p.1 default) p.2

/-- The overrange codes of a frame: the ticks at which they stand, with their codes. -/
def overTicks (frame spacing : Nat) (codes : List Int) : List (Nat × Int) :=
  ((List.range codes.length).zip codes).filterMap fun p =>
    if isOver p.2 then some (128 * frame + spacing * p.1, p.2) else none

/-- A tick at which a group whose mask holds input `n` is armed: at or after its arm frame (R264). -/
def State.armedAt (s : State) (n tick : Nat) : Bool :=
  s.seg.any fun x => x.config.mask.testBit n && match x.state with
    | .disarmed | .pending => false
    | .scheduled => decide (128 * x.armNext ≤ tick)
    | .capturing | .stopping => decide (128 * x.armFrame ≤ tick)

/-- The first overrange code of an input after its group's arm is recorded, and every session's flag sets (R135, R137). -/
def noteOverrange (n : Nat) (l : List (Nat × Int)) (s : State) : State :=
  if l.isEmpty then s
  else
    let s := updSince (fun z => { z with overrange := z.overrange.set n true }) s
    let s := forAll l (fun p => noteOverdrive n { first := p.1, last := p.1, excess := false }) s
    match l.find? fun p => s.armedAt n p.1 with
    | some (t, c) =>
      if (s.input n).overranged then s
      else record 0x0208 [r1 n, r1 (if c < 0 then 1 else 0), r8 t] (updInput n (fun x => { x with overranged := true }) s)
    | none => s

/-- The seam count that a frame carries (R127). -/
def Input.seamsAt (x : Input) (frame : Nat) : Nat := if frame < x.seamFrame then x.seams - 1 else x.seams

/-- The generation that a frame carries: the changes whose first frame lies behind it count (R153). -/
def CalState.generationAt (x : CalState) (frame : Nat) : Nat :=
  match x.changes.find? fun c => decide (frame < c.1) with
  | some c => c.2
  | none => x.generation

/-- The frame that the clocked side deposits for an input. -/
def makeFrame (s : State) (n frame : Nat) (l : LaneFrame) : Frame :=
  let k := s.perFrame n
  let cut := s.interrupted n frame
  let former := s.core (s.input n).seamCore
  { index := frame
    codes := if cut then List.replicate k 0 else s.codesOf n frame l
    values := if cut then List.replicate k 0 else (s.corrected n frame l).map fun v => roundDiv v (2 ^ 18)
    outgoing := if cut then [] else l.outgoing.map fun x =>
      (roundDiv (former.correct x.value) (2 ^ 18), isOver (weaveCode x (former.correct x.value)))
    seams := (s.input n).seamsAt frame % 65536
    generation := s.cal.generationAt frame
    coasting := ! s.sampleLocked
    suspect := if cut then [(128 * frame, 128 * frame + 127)] else spansIn frame (s.suspectSpans n)
    interrupted := cut
    epoch := s.time.epoch }

/-- An input stops at a frame: items 1 to 5 of R41 without the record (R41, R130). -/
def stopInput (n cause frame : Nat) (s : State) : State :=
  let s := updInput n (fun x => { x with stopped := cause, discarded := if cause = 1 then 1 else x.discarded }) s
  let s := removeInput n (128 * frame) (forceInput n (128 * frame) s)
  updSince (fun z => { z with overflow := z.overflow.set n true }) s

/-- A full letterbox at a deposit (R41). -/
def overflow (n frame : Nat) (s : State) : State :=
  let s := stopInput n 1 frame s
  record 0x0007 [r1 n, r8 (128 * frame), r2 (s.lane n).margin, s.vcoreField, s.tjField] s

def letterboxDepth : Nat := 4096

/-- Deposit the frame of one input. -/
def depositInput (frame n : Nat) (l : LaneFrame) (s : State) : State :=
  let x := s.input n
  if ¬ s.enabled n ∨ x.stopped = 2 then s
  else if x.stopped = 1 then updInput n (fun x => { x with discarded := x.discarded + 1 }) s
  else if letterboxDepth ≤ x.letterbox.length then overflow n frame s
  else
    let f := makeFrame s n frame l
    let s := updInput n (fun x => { x with letterbox := x.letterbox ++ [f] }) s
    notePeak n (x.letterbox.length + 1) (updLane n (fun y => { y with peak := max y.peak (x.letterbox.length + 1) }) s)

/-- Overrange codes of every input come first: their windows mark the frames of adjacent inputs too (R26). -/
def scanInput (frame n : Nat) (l : LaneFrame) (s : State) : State :=
  if ¬ s.enabled n ∨ (s.input n).stopped = 2 ∨ s.interrupted n frame then s
  else noteOverrange n (overTicks frame (s.spacing n) (s.codesOf n frame l)) s

/-- A frame is due: its samples have reached the letterbox, 48 frames after the sample instants (R23).
DEDUCED (log entry 8). -/
def State.frameDue (s : State) : Bool :=
  s.inp.running && s.time.gridOn && decide (128 * (s.inp.nextFrame + 48) ≤ s.time.tick)

/-- Interruptions that lie behind the deposit are forgotten. -/
def pruneInterruptions (frame : Nat) (s : State) : State :=
  { s with cal := { s.cal with
      interruptions := s.cal.interruptions.filter fun i => match i.2.2 with | none => true | some l => decide (frame ≤ l)
      changes := s.cal.changes.filter fun c => decide (frame < c.1) } }

def execFrameDeposit (at_ : Nat) (lanes : List LaneFrame) (s : State) : Result :=
  let s := advance at_ s
  .next (
    if ¬ s.frameDue then s
    else
      let f := s.inp.nextFrame
      let s := if s.flt.startup then syncChain 6 (128 * f) { s with flt := { s.flt with startup := false } } else s
      let s := forEach 8 (fun n => scanInput f n (lanes.getD n default)) s
      let s := forEach 8 (fun n => depositInput f n (lanes.getD n default)) s
      pruneInterruptions (f + 1) { s with inp := { s.inp with nextFrame := f + 1 } })

/-! ### Cores (R120, R128 to R130) -/

/-- A core starts its rotation cycle (R120 step 1). -/
def rotateCore (c : Nat) (s : State) : State :=
  let inPass := (s.inCal (s.inputOf c)).pass.isSome
  updCore c (fun x => { x with st := .rotating, step := 1, loaded := none, passBegun := x.passBegun || inPass,
                               passDone := false }) s

/-- A core goes live on a phase. -/
def goLive (c phase : Nat) (s : State) : State :=
  let s := { s with inp := { s.inp with order := s.inp.order + 1 } }
  updCore c (fun x => { x with st := .live, phase := phase, liveOrder := s.inp.order, step := 0 }) s

/-- DESIGN CHOICE (log entry 9). -/
def State.goodCores (s : State) (n : Nat) : List Nat := (s.coresOf n).filter fun c => (s.core c).st ≠ .faulty

def State.liveCores (s : State) (n : Nat) : List Nat := (s.coresOf n).filter fun c => (s.core c).st = .live

/-- The live core that has been live longest (R120). -/
def longestLive (s : State) (n : Nat) : Option Nat :=
  (s.liveCores n).foldl (fun b c => match b with
    | none => some c
    | some d => if (s.core c).liveOrder < (s.core d).liveOrder then some c else some d) none

/-- The core that stays on each phase, and the next good one where none is live there. -/
def fillPhases : List (Option Nat) → List Nat → List Nat
  | [], _ => []
  | some c :: l, free => c :: fillPhases l free
  | none :: l, [] => 0 :: fillPhases l []
  | none :: l, c :: free => c :: fillPhases l free

/-- The cores that are live on phases 0, 1, ... from now on: those that are live there already stay.
DESIGN CHOICE (log entry 9). -/
def State.phaseCores (s : State) (n : Nat) : List Nat :=
  let good := s.goodCores n
  let kept := (List.range (s.phases n)).map fun i => good.find? fun c => (s.core c).st = .live && (s.core c).phase = i
  fillPhases kept (good.filter fun c => ! kept.contains (some c))

/-- The cores of an input power down (R119). -/
def powerCores (n : Nat) (s : State) : State :=
  forAll (s.coresOf n) (fun c => updCore c fun x => if x.st = .faulty then x else { x with st := .down, step := 0, loaded := none }) s

/-- Give every phase of an input a live core, and let the others rotate; too few good cores stop it (R129, R130, R143). The
cores of a disabled input power down (R119). DESIGN CHOICE (log entry 9). -/
def staffInput (n : Nat) (s : State) : State :=
  if ¬ s.enabled n then powerCores n s
  else
    let good := s.goodCores n
    let p := s.phases n
    let s := updInput n (fun x => { x with noRotation := decide (good.length = p) }) s
    if good.length < p then
      stopInput n 2 s.nextBoundary s
    else
      let l := s.phaseCores n
      let s := updInput n (fun x => { x with stopped := if x.stopped = 2 then 0 else x.stopped }) s
      let s := forEach p (fun i s =>
        let c := l.getD i 0
        if (s.core c).st = .live ∧ (s.core c).phase = i then s else goLive c i s) s
      forAll (good.filter fun c => ! l.contains c) rotateCore s

/-- Which correction of a trim lies outside the ranges of R115: 0 none, 1 gain, 2 offset, 3 timing tap. -/
def trimFault (t : CoreTrim) : Nat :=
  if t.gain < -1966 ∨ 1966 < t.gain then 1
  else if t.offset < -4096 ∨ 4096 < t.offset then 2
  else if t.tap < -4096 ∨ 4096 < t.tap then 3
  else 0

/-- A core is faulty: it leaves rotation for good (R129, R152). -/
def faultCore (c correction : Nat) (s : State) : State :=
  record 0x0206 [r1 c, r4 correction] (assertAlert (.core c) (updCore c (fun x => { x with st := .faulty }) s))

/-- A failing slice is replaced with a redundant slice of the same core (R128). -/
def spareSlice (c i : Nat) (s : State) : State :=
  let s := updCore c (fun x => { x with
    slices := x.slices - (if x.slices.testBit i then 2 ^ i else 0) + 2 ^ (34 - x.sparesLeft)
    sparesLeft := x.sparesLeft - 1 }) s
  record 0x0205 [] s

/-- Slices spared on some cores since the fault map was built. -/
def State.sparedOn (s : State) (cores : List Nat) : Nat := (cores.map fun c => 2 - (s.core c).sparesLeft).sum

/-- T(n): the average of the readings of the latest 100 ms (R145). -/
def InputCal.temperature (x : InputCal) : Int :=
  if x.readings.isEmpty then 0 else x.readings.sum / (x.readings.length : Int)

/-- The outcome of a measurement on one core: slices spared, figures kept, or the core faulty. -/
def trimCore (t : CoreTrim) (s : State) : State :=
  let x := s.core t.core
  if x.st = .faulty ∨ 24 ≤ t.core then s
  else if x.sparesLeft < t.failing.length then faultCore t.core 0 s
  else
    let s := forAll t.failing (spareSlice t.core) s
    if trimFault t ≠ 0 then faultCore t.core (trimFault t) s
    else
      let temp := (s.inCal (t.core / 3)).temperature
      updCore t.core (fun x => { x with
        loaded := some (t.gain, t.offset, t.tap), trims := t.trims, spur := t.spur, trimTemp := temp, trimmed := true,
        fromReference := t.fromReference || decide (t.level < 320) }) s

/-- Loaded corrections come into force (R116). -/
def loadCore (c : Nat) (s : State) : State :=
  updCore c (fun x => match x.loaded with
    | none => x
    | some (g, o, t) => { x with gain := g, offset := o, tap := t, loaded := none }) s

/-- Rotation measurements under way are discarded while the sample loop is not locked (R121), and a seam before its seam frame
is abandoned (R125). -/
def discardMeasurements (s : State) : State :=
  let s := forEach 8 (fun n => abandonSeam n s.time.tick (s.time.tick + 128 * 133)) s
  forEach 24 (fun c => updCore c fun x => if x.st = .rotating then { x with step := 1, loaded := none } else x) s

def execRotationShadowStart (at_ core : Nat) (s : State) : Result :=
  let s := advance at_ s
  .next (
    if (s.core core).st = .rotating ∧ (s.core core).step = 1 ∧ s.sampleLocked then
      updCore core (fun x => { x with step := 2 }) s
    else s)

/-! ### Passes (R146, R149) -/

/-- A pass ends: its record unless another pass replaces it (R146). -/
def endPass (n : Nat) (s : State) : State :=
  match (s.inCal n).pass with
  | none => s
  | some p =>
    let s := updInCal n (fun x => { x with pass := none, passes := x.passes + 1, lastEnd := some s.time.ps }) s
    let s := forAll (s.coresOf n) (fun c => updCore c fun x => { x with passBegun := false, passDone := false }) s
    record 0x0304 [r1 n, r2 (min 65535 ((s.time.ps - p.start) / psPerMs)), ri2 (s.inCal n).tRef, r4 p.seams] s

/-- A pass starts: every core in rotation or ready restarts its cycle, so that a seam in progress is abandoned (R146 step 1,
R149). DEDUCED (log entry 84). -/
def startPass (n : Nat) (settling : Bool) (s : State) : State :=
  let s := match (s.input n).seam with
    | some _ => updInput n (fun x => { x with seam := none, postponed := x.postponed + 1, retry := false }) s
    | none => s
  let s := updInCal n (fun x => { x with
    pass := some { start := s.time.ps, settling := settling }, lastStart := s.time.ps, tRef := x.temperature }) s
  forAll (s.coresOf n) (fun c s =>
    if (s.core c).st = .rotating ∨ (s.core c).st = .ready then
      updCore c (fun x => { x with passBegun := true, passDone := false }) (rotateCore c s)
    else updCore c (fun x => { x with passBegun := false, passDone := false }) s) s

/-- Path of an input's background calibration (R155). DEDUCED (log entry 52). -/
def State.calPath (s : State) (n : Nat) : Nat :=
  if (s.input n).noRotation then 3
  else if (s.inCal n).sensorFault then 2
  else if (s.inCal n).continuous then 1
  else 0

/-- Every core of the input has completed a cycle that began in the pass. DESIGN CHOICE (log entry 83). -/
def passComplete (s : State) (n : Nat) : Bool := (s.goodCores n).all fun c => (s.core c).passDone

def closePass (n : Nat) (s : State) : State :=
  match (s.inCal n).pass with
  | none => s
  | some p =>
    if passComplete s n then
      let s := endPass n s
      if p.again ∧ s.calPath n = 0 then startPass n false s else s
    else s

/-- A pass that a settling pass replaces ends with no record (R149). -/
def replacePass (n : Nat) (s : State) : State :=
  if (s.inCal n).pass.isSome then updInCal n (fun x => { x with pass := none, lastEnd := some s.time.ps }) s else s

/-- A settling pass replaces any pass, and abandons a seam in progress, which is not retried on its own (R149). -/
def startSettling (n : Nat) (s : State) : State :=
  if ¬ s.enabled n ∨ (s.input n).stopped = 2 then s
  else
    let s := forAll (s.coresOf n) (fun c => updCore c fun x => { x with trimmed := false }) s
    startPass n true (replacePass n s)

/-- The sparing and the corrections of step 3; a core found faulty may stop its input (R120, R128 to R130). -/
def execRotationTrim (at_ : Nat) (trim : CoreTrim) (s : State) : Result :=
  let s := advance at_ s
  let c := trim.core
  .next (
    if (s.core c).st = .rotating ∧ (s.core c).step = 2 ∧ s.sampleLocked then
      let s := trimCore trim s
      if (s.core c).st = .faulty then
        let n := s.inputOf c
        closePass n (updInput n (fun x => { x with noRotation := decide ((s.goodCores n).length ≤ s.phases n) }) s)
      else updCore c (fun x => { x with step := 3 }) s
    else s)

def execCoreReady (at_ core : Nat) (s : State) : Result :=
  let s := advance at_ s
  .next (
    if (s.core core).st = .rotating ∧ (s.core core).step = 3 then
      closePass (s.inputOf core)
        (updCore core (fun x => { x with st := .ready, step := 0, passDone := x.passBegun }) s)
    else s)

/-! ### Seams (R122 to R127) -/

/-- Whether a grid tick lies in a window that R125 names. -/
def State.inWindow (s : State) (n tick : Nat) : Bool :=
  (s.suspectSpans n).any fun p => decide (p.1 ≤ tick ∧ tick ≤ p.2)

/-- Ready cores of an input. DESIGN CHOICE (log entry 80). -/
def State.readyCore (s : State) (n : Nat) : Option Nat := (s.coresOf n).find? fun c => (s.core c).st = .ready

/-- Start a seam, or postpone it (R122, R125). -/
def beginSeam (n : Nat) (s : State) : State :=
  match s.readyCore n, longestLive s n with
  | some i, some o =>
    if ¬ s.sampleLocked ∨ s.inWindow n s.time.tick then postponeSeam n s
    else updInput n (fun x => { x with retry := false, seam := some {
      incoming := i, outgoing := o, f0 := s.nextBoundary } }) s
  | _, _ => s

/-- A pass still seams cores in: not every core has begun a cycle in it (R146 step 3). -/
def State.passSeams (s : State) (n : Nat) : Bool :=
  (s.inCal n).pass.isSome && (s.goodCores n).any fun c => ! (s.core c).passBegun

def execSeamStart (at_ input : Nat) (s : State) : Result :=
  let s := advance at_ s
  .next (
    if input < 8 ∧ s.enabled input ∧ (s.input input).seam.isNone ∧ ¬ (s.input input).retry
        ∧ (s.passSeams input ∨ s.calPath input = 1 ∨ s.calPath input = 2) then
      beginSeam input s
    else s)

def execSeamRetry (at_ input : Nat) (s : State) : Result :=
  let s := advance at_ s
  .next (
    if input < 8 ∧ s.enabled input ∧ (s.input input).seam.isNone ∧ (s.input input).retry then beginSeam input s
    else s)

/-- The overlap under the corrections loaded in the incoming core and those of the outgoing core, in 2^-22 LSB (R122, R123). -/
def State.overlap (s : State) (x : Seam) (l : List (Int × Int)) : List (Int × Int) :=
  let i := s.core x.incoming
  let i := match i.loaded with
    | none => i
    | some (g, o, _) => { i with gain := g, offset := o }
  l.map fun p => (i.correct p.1, (s.core x.outgoing).correct p.2)

/-- The sums of R123 over the overlap: count, sum of d, sum of d squared, sum of o squared. -/
def seamSums : List (Int × Int) → Nat × Int × Nat × Nat
  | [] => (0, 0, 0, 0)
  | (i, o) :: t =>
    let (n, d, dd, oo) := seamSums t
    (n + 1, d + (i - o), dd + ((i - o) * (i - o)).toNat, oo + (o * o).toNat)

/-- The agreement test of R123, decided exactly. -/
def seamPasses (l : List (Int × Int)) : Bool :=
  let (n, d, dd, oo) := seamSums l
  let v := n * dd - (d * d).toNat
  let e : Int := 4096 * (v : Int) - 121 * 1024 * 2 ^ 44 * (n * n : Nat) - (n * oo : Nat)
  decide (2 * d.natAbs ≤ 2 ^ 22 * n) && (decide (e ≤ 0) || decide ((e * e).toNat ≤ 704 * 704 * 2 ^ 44 * (n * n * n * oo)))

/-- A figure in 1/256 LSB; 0xFFFF above 255 LSB (R137). -/
def lsb256 (v : Nat) : Nat := if 65280 < v then 0xFFFF else v

/-- DESIGN CHOICE (log entry 81). -/
def seamRms (l : List (Int × Int)) : Nat :=
  let (n, d, dd, _) := seamSums l
  lsb256 (isqrt ((n * dd - (d * d).toNat) / (2 ^ 28 * n * n)))
/-- DESIGN CHOICE (log entry 81). -/
def seamMean (l : List (Int × Int)) : Int :=
  let (n, d, _, _) := seamSums l
  clampInt (-32768) 32767 (d / (2 ^ 14 * n : Int))
/-- DESIGN CHOICE (log entry 81). -/
def seamBound (l : List (Int × Int)) : Nat :=
  let (n, _, _, oo) := seamSums l
  lsb256 (1408 + isqrt (oo / (2 ^ 40 * n)))

/-- A failed test: the outgoing core stays live, the incoming core shadows again under its loaded corrections, and the seam is
retried 1 s after f0 (R124). -/
def failSeam (n : Nat) (x : Seam) (s : State) : State :=
  let s := updCore x.incoming (fun z => { z with st := .rotating, step := 2 }) s
  let s := updInput n (fun y => { y with seam := none, retry := true, failed := y.failed + 1,
                                         consecutive := y.consecutive + 1 }) s
  let y := s.input n
  let s := record 0x0202 [r1 n, r1 x.incoming, r1 x.outgoing, r8 (128 * x.f0), r2 y.lastRms, ri2 y.lastMean,
    r2 y.lastBound] s
  if 60 ≤ y.consecutive ∧ ¬ y.stuck then
    stageBody 0x0203 (u8 n ++ zeros 3 ++ u32 y.consecutive ++ u16 y.lastRms ++ i16 y.lastMean ++ u16 y.lastBound
        ++ zeros 2)
      (assertAlert (.seam n) (updInput n (fun y => { y with stuck := true }) s))
  else s

def execSeamTest (at_ input : Nat) (overlap : List (Int × Int)) (s : State) : Result :=
  let s := advance at_ s
  .next (match (s.input input).seam with
    | none => s
    | some x =>
      let overlap := s.overlap x overlap
      let s := updInput input (fun y => { y with
        lastRms := seamRms overlap, lastMean := seamMean overlap, lastBound := seamBound overlap }) s
      if seamPasses overlap then updInput input (fun y => { y with seam := some { x with passed := true } }) s
      else failSeam input x s)

/-- The seam frame has passed: the incoming core is live, the outgoing core rotates (R122 steps 3 and 4, R127). -/
def execSeamDone (at_ input : Nat) (s : State) : Result :=
  let s := advance at_ s
  .next (match (s.input input).seam with
    | none => s
    | some x =>
      if ¬ x.passed then s
      else
        let phase := (s.core x.outgoing).phase
        let y := s.input input
        let s := updInput input (fun y => { y with
          seam := none, seams := y.seams + 1, seamFrame := x.f0 + 132, seamPhase := phase, seamCore := x.outgoing
          consecutive := 0, stuck := false }) s
        let s := goLive x.incoming phase (loadCore x.incoming s)
        let s := updCore x.incoming (fun z => { z with qualityLow := false }) s
        let s := rotateCore x.outgoing s
        let s := updInCal input (fun z => { z with pass := z.pass.map fun p => { p with seams := p.seams + 1 } }) s
        let s := record 0x0201 [r1 input, r1 x.incoming, r1 x.outgoing, r4 phase, r8 (128 * (x.f0 + 132)),
          r4 (s.input input).seams, r2 y.lastRms, ri2 y.lastMean, r4 s.cal.generation] s
        let s := if y.stuck then releaseAlert (.seam input) (record 0x0204 [r4 y.consecutive] s) else s
        closePass input s)

/-! ### Commands of group 0x02 -/

/-- Start a foreground calibration of inputs (R119, R141, R142, R162). DEDUCED (log entry 26). -/
def startForeground (f : Foreground) (s : State) : State :=
  let first := s.nextBoundary
  let s := forAll f.inputs (fun n s => match (s.input n).seam with
    | some _ => postponeSeam n s
    | none => s) s
  { s with cal := { s.cal with
      foregrounds := s.cal.foregrounds ++ [{ f with first := first }]
      interruptions := s.cal.interruptions ++ f.inputs.map fun n => (n, first, none) } }

/-- The last frame of an interruption is known; the cores then take their corrections (R142, R143). -/
def endInterruption (inputs : List Nat) (s : State) : State :=
  let close (i : Nat × Nat × Option Nat) : Nat × Nat × Option Nat :=
    if inputs.contains i.1 ∧ i.2.2.isNone then (i.1, i.2.1, some (frameOf s.time.tick)) else i
  { s with cal := { s.cal with interruptions := s.cal.interruptions.map close } }

/-- A converter change needs its cores calibrated, which Standby cannot do (R119, R431). -/
def enableReject (s : State) (inputs : List Nat) (calibrates : Bool) : Rejection :=
  firstRejection [
    rejectWhen (s.boot.st = 5 ∧ calibrates) WRONG_STATE,
    rejectWhen (inputs.any s.armedHolds) WRONG_STATE]

/-- Switch an input on or off; switching on calibrates it (R119). DEDUCED (log entry 26). -/
def setEnable (w : Waiter) (n : Nat) (on : Bool) (s : State) : State :=
  if (s.input n).enabled = on then reply w OK [] s
  else
    let s := updInput n (fun x => { x with enabled := on }) s
    if on then
      startForeground { kind := .enable, inputs := [n], waiter := some w } (syncInput n 4 s)
    else
      let s := powerCores n s
      let s := updInput n (fun x => { x with seam := none, retry := false }) s
      reply w OK [] (forceInput n s.endTick s)

def inpSetEnableCmd : Cmd :=
  { opcode := 0x0201, classC := true, lengths := lenIs 40
    checks := fun s q => [inputField s (q.u8 0), within 0 1 (q.u8 1), reserved q 2 6]
    reject := fun s q => firstRejection [
      rejectWhen ((s.input (q.u8 0)).stopped = 2) HW_FAULT,
      enableReject s [q.u8 0] (q.u8 1 = 1 ∧ ¬ (s.input (q.u8 0)).enabled)]
    act := fun w q s => setEnable w (q.u8 0) (q.u8 1 = 1) s }
def execInpSetEnable (q : Request) (s : State) : Result := .next (runRequest inpSetEnableCmd q s)

/-- Enter or leave pair mode: the inputs of the pair are calibrated (R117, R119). DEDUCED (log entry 26). -/
def setPair (w : Waiter) (k : Nat) (on : Bool) (s : State) : State :=
  if s.paired k = on then reply w OK [] s
  else
    let s := { s with inp := { s.inp with pairs := s.inp.pairs.set k on } }
    let s := if on then forceInput (2 * k + 1) s.endTick s else s
    let both := [2 * k, 2 * k + 1]
    let f : Foreground := { kind := .enable, inputs := both, waiter := some w }
    startForeground f (syncInputs both 4 (128 * s.nextBoundary) s.flt.anchor s)

def inpSetPairCmd : Cmd :=
  { opcode := 0x0202, classC := true, lengths := lenIs 40
    checks := fun _ q => [within 0 3 (q.u8 0), within 0 1 (q.u8 1), reserved q 2 6]
    reject := fun s q => firstRejection [
      rejectWhen (((s.input (2 * q.u8 0)).stopped = 2 ∨ (s.input (2 * q.u8 0 + 1)).stopped = 2)
        ∧ ¬ (s.paired (q.u8 0) ∧ q.u8 1 = 0)) HW_FAULT,
      rejectWhen s.lockHeld WRONG_STATE,
      enableReject s [2 * q.u8 0, 2 * q.u8 0 + 1] (s.paired (q.u8 0) ≠ (q.u8 1 = 1))]
    act := fun w q s => setPair w (q.u8 0) (q.u8 1 = 1) s }
def execInpSetPair (q : Request) (s : State) : Result := .next (runRequest inpSetPairCmd q s)

/-- The state code of R137. -/
def State.inputCode (s : State) (n : Nat) : Nat :=
  if s.ganged n then 3
  else if ¬ (s.input n).enabled then 0
  else if (s.input n).stopped ≠ 0 then 4
  else if s.owner n then 2
  else 1

/-- Bitmap of the cores of an input whose state satisfies `p`. -/
def coreMap (s : State) (n : Nat) (p : CoreState → Bool) : Nat := ofBits ((s.coresOf n).map fun c => p (s.core c).st)

/-- The record of R137. -/
def inputRecord (s : State) (sess n : Nat) : List Byte :=
  let x := s.input n
  let since := (s.session sess).since
  let counts := u32 x.seams ++ u32 x.failed ++ u32 x.postponed
  if ¬ x.enabled ∧ ¬ s.ganged n then u8 0 ++ zeros 3 ++ counts ++ zeros 16
  else
    let driven := x.overdrives.any fun o => decide (o.first ≤ s.time.tick ∧ s.time.tick ≤ o.last)
    u8 (s.inputCode n) ++ u8 (coreMap s n (· = .live)) ++ u8 (coreMap s n fun c => c = .rotating ∨ c = .ready)
      ++ u8 (coreMap s n (· = .faulty)) ++ counts
      ++ u16 x.lastRms ++ i16 x.lastMean ++ u16 x.lastBound ++ u16 (min 65535 x.consecutive)
      ++ u8 (ofBits [driven, since.overrange.getD n false, since.excess.getD n false, x.stuck, x.noRotation,
          x.seam.isSome])
      ++ u8 0
      ++ u16 (((s.coresOf n).map fun c => (s.core c).sparesLeft).foldr (fun v a => v + 4 * a) 0)
      ++ zeros 4

def inpGetStatusCmd : Cmd :=
  readClearCmd 0x0203 32 (fun _ _ => []) (fun s q => (List.range 8).flatMap (inputRecord s q.sess))
    fun q s => updSession q.sess (fun x => { x with since := { x.since with
      overrange := List.replicate 8 false, excess := List.replicate 8 false } }) s
def execInpGetStatus (q : Request) (s : State) : Result := .next (runRequest inpGetStatusCmd q s)

end Sys2Proof.Machine
end

