-- ==== Sys2Proof/Machine/Filter.lean ====
section
/-! DEFINITION. Decimation modes and the filter chain: the commands of group 0x04, and stage 2 of an input lane. -/

namespace Sys2Proof.Machine

/-! ### The chain's figures (R169, R173, R176) -/

/-- CIC factor of an input (R169). -/
def State.cicFactor (s : State) (n : Nat) : Nat := s.flt.period / (s.spacing n * 2 ^ s.flt.stages)

/-- FIR taps in use by a preset (R173). -/
def presetTaps : Nat → Nat
  | 0 => 16
  | 1 => 48
  | _ => 96

/-- An 18-bit signed coefficient of a raw number. -/
def coef18 (v : Int) : Int := (v + 131072) % 262144 - 131072

/-- Coefficient `i` of a half-band section of `2 * c + 1` taps: symmetric, with a gain of 2^17; the manual gives no more
(R173, R175). DESIGN CHOICE (log entry 28). -/
def halfBand (raw : Nat → Int) (c i : Nat) : Int :=
  let side (j : Nat) : Int := coef18 (raw j)
  if 2 * c < i then 0
  else if i < c then side i
  else if c < i then side (2 * c - i)
  else 2 ^ 17 - 2 * ((List.range c).map side).sum

def hbACoef : Nat → Int := halfBand Config.hbA 9
def hbBCoef : Nat → Int := halfBand Config.hbB 19

/-- The sum of a half-band section's magnitudes, in units of its gain and rounded up: how far it can lift a full-scale
stream. -/
def lift (coef : Nat → Int) (taps : Nat) : Nat := (((List.range taps).map fun i => (coef i).natAbs).sum + 2 ^ 17 - 1) / 2 ^ 17

/-- The CIC shift of a preset at a CIC factor: no stage of 24 bits saturates on 12-bit codes (R175, R187).
DESIGN CHOICE (log entry 28). -/
def presetCicShift (preset period rc : Nat) : Nat :=
  let room := rc ^ 5 * (if preset = 0 then 1 else lift hbBCoef 39 * if preset = 1 then 1 else lift hbACoef 19)
  Nat.log2 (room / 2 ^ 12) + 1 + Config.presetShift preset period 0 % 4

/-- FIR shift and coefficient sum of a preset: the chain's DC gain is 16 container units per LSB, to within 2^-15 (R173).
DESIGN CHOICE (log entry 28). -/
def presetFirShift (preset period : Nat) : Nat :=
  let rc := period / (2 * 2 ^ (if preset = 0 then 0 else if preset = 1 then 1 else 2))
  Nat.log2 (2 ^ 12 * rc ^ 5 / 2 ^ presetCicShift preset period rc) + Config.presetShift preset period 3 % 2

def presetFirSum (preset period : Nat) : Int :=
  let rc := period / (2 * 2 ^ (if preset = 0 then 0 else if preset = 1 then 1 else 2))
  2 * roundDiv (2 ^ (3 + presetFirShift preset period + presetCicShift preset period rc)) (rc ^ 5)

/-- Coefficient `i` of a preset's FIR: symmetric, with that sum; the manual gives no more (R173).
DESIGN CHOICE (log entry 28). -/
def presetCoef (preset period i : Nat) : Int :=
  let half := presetTaps preset / 2
  let side (j : Nat) : Int := coef18 (Config.presetFir preset period j)
  let j := if i < half then i else presetTaps preset - 1 - i
  if presetTaps preset ≤ i then 0
  else if j + 1 = half then presetFirSum preset period / 2 - ((List.range j).map side).sum
  else side j

/-- A FIR coefficient in force (R173, R176). DESIGN CHOICE (log entry 28). -/
def State.firCoef (s : State) (i : Nat) : Int :=
  if s.flt.config = 4 then s.flt.coefs.getD i 0 else presetCoef s.flt.config s.flt.period i

/-- A shift in force at a CIC factor: CIC, HB-A, HB-B, FIR. DESIGN CHOICE (log entry 28). -/
def State.shift (s : State) (rc i : Nat) : Nat :=
  if s.flt.config = 4 then s.flt.shifts.getD i 0
  else match i with
    | 0 => presetCicShift s.flt.config s.flt.period rc
    | 3 => presetFirShift s.flt.config s.flt.period
    | _ => 17

/-- Index of the last nonzero FIR tap (R176). -/
def State.lastTap (s : State) : Nat :=
  if s.flt.config = 4 then ((List.range 96).filter fun i => s.flt.coefs.getD i 0 ≠ 0).getLastD 0
  else presetTaps s.flt.config - 1

/-- The span of R176 in output periods, as a fraction. -/
def State.chainSpan (s : State) (rc : Nat) : Nat × Nat :=
  let h := 2 ^ s.flt.stages
  (20 * (rc - 1) + rc * h * ((if s.flt.stages = 2 then 18 else 0) + (if 1 ≤ s.flt.stages then 76 else 0) + 4 * s.lastTap),
    4 * rc * h)

/-- The settling count L (R173, R176). -/
def State.settling (s : State) (n : Nat) : Nat :=
  let (num, den) := s.chainSpan (s.cicFactor n)
  (num + den - 1) / den

/-- The coefficients of a custom chain are symmetric about their centre: twice the centre, where they are. -/
def State.centre2 (s : State) : Option Nat :=
  if s.flt.config ≠ 4 then some (presetTaps s.flt.config - 1)
  else match (List.range 96).filter fun i => s.flt.coefs.getD i 0 ≠ 0 with
    | [] => none
    | f :: rest =>
      let t := (f :: rest).getLastD f
      if (List.range (t - f + 1)).all fun i => s.flt.coefs.getD (f + i) 0 = s.flt.coefs.getD (t - i) 0 then some (f + t)
      else none

/-- The group delay in 1/1,024 output period (R176, R189). DEDUCED (log entry 32). -/
def State.groupDelay (s : State) : Nat :=
  match s.centre2 with
  | none => 0xFFFFFFFF
  | some c2 =>
    let rc := s.flt.period / (2 * 2 ^ s.flt.stages)
    let h := 2 ^ s.flt.stages
    (1024 * (10 * (rc - 1) + rc * h * ((if s.flt.stages = 2 then 9 else 0) + (if 1 ≤ s.flt.stages then 38 else 0)
      + 2 * c2))) / (4 * rc * h)

/-- The largest of 65,536 values from −32,768 on that satisfies a condition which holds up to some value. -/
def bisect16 (p : Int → Bool) : Int :=
  ((List.range 16).reverse).foldl (fun lo i => if p (lo + 2 ^ i) then lo + 2 ^ i else lo) (-32768)

/-- The DC gain that the shifts and the coefficients give in normal mode, as a fraction, 1 for 16 container units per LSB
(R175). -/
def State.dcGain (s : State) : Nat × Nat :=
  let rc := s.flt.period / (2 * 2 ^ s.flt.stages)
  let sum := ((List.range 96).map s.firCoef).sum.natAbs
  (rc ^ 5 * 2 ^ (17 * s.flt.stages) * sum,
    2 ^ (s.shift rc 0 + (if s.flt.stages = 2 then s.shift rc 1 else 0) + (if 1 ≤ s.flt.stages then s.shift rc 2 else 0)
      + s.shift rc 3 + 4))

/-- Its deviation from unity in 0.001 dB, to the nearest: 20,000 * log10 of the gain, within the field (R175, R189).
DEDUCED (log entry 73). -/
def State.dcGainDb (s : State) : Int :=
  let (a, b) := s.dcGain
  bisect16 fun m =>
    if 0 < 2 * m - 1 then decide (10 ^ (2 * m - 1).toNat * b ^ 40000 ≤ a ^ 40000)
    else decide (b ^ 40000 ≤ 10 ^ (1 - 2 * m).toNat * a ^ 40000)

/-! ### Commands -/

def presetStages : Nat → Nat
  | 0 => 0
  | 1 => 1
  | _ => 2

def fltConfigureChainCmd : Cmd :=
  let only (q : Request) (off hi : Nat) : Check := allowed (q.u8 off ≤ if q.u8 0 = 4 then hi else 0)
  setCmd 0x0401 48
    (fun _ q => [within 0 4 (q.u8 0), only q 1 2, reserved q 2 2, notZero (q.u32 4),
      allowed (64 ≤ q.u32 4 ∧ q.u32 4 ≤ 65536 ∧ q.u32 4 % 16 = 0),
      only q 8 80, only q 9 23, only q 10 23, only q 11 31, reserved q 12 4])
    (fun s _ => rejectWhen (s.flt.running ∨ s.lockHeld) NOT_STOPPED)
    (fun q s => { s with flt := { s.flt with
      config := q.u8 0, period := q.u32 4, stages := if q.u8 0 = 4 then q.u8 1 else presetStages (q.u8 0)
      shifts := [q.u8 8, q.u8 9, q.u8 10, q.u8 11] } })
def execFltConfigureChain (q : Request) (s : State) : Result := .next (runRequest fltConfigureChainCmd q s)

def fltLoadFirCmd : Cmd :=
  setCmd 0x0402 416
    (fun _ q => (List.range 96).map fun i => within (-131072) 131071 (q.i32 (4 * i)))
    (fun s _ => rejectWhen (s.flt.running ∨ s.lockHeld) NOT_STOPPED)
    (fun q s => { s with flt := { s.flt with coefs := (List.range 96).map fun i => q.i32 (4 * i) } })
def execFltLoadFir (q : Request) (s : State) : Result := .next (runRequest fltLoadFirCmd q s)

/-- The slot, as last set, reads a decimated stream of input `n` (R192, R194). -/
def State.slotDecimated (s : State) (i n : Nat) : Bool :=
  let x := (s.slot i).latest
  x.onInput n && s.slotSource x = 1

/-- A group cares about a slot in pattern A or B (R200, R230). -/
def TrigGroup.cares (x : TrigGroup) (i : Nat) : Bool := x.a.care.testBit i || x.b.care.testBit i

/-- An armed group cares about a slot. -/
def State.slotLocked (s : State) (i : Nat) : Bool := (List.range 4).any fun g => s.armed g && (s.tg g).cares i

/-- Range of the factor of a mode (R166, R181). -/
def factorOk (mode d : Nat) : Bool :=
  match mode with
  | 0 => d ≤ 65536
  | 3 => d = 1
  | _ => 2 ≤ d && d ≤ 65536

def fltSetInputCmd : Cmd :=
  setCmd 0x0403 40
    (fun s q => [inputField s (q.u8 0), within 0 3 (q.u8 1), reserved q 2 2, notZero (q.u32 4),
      allowed (factorOk (q.u8 1) (q.u32 4))])
    (fun s q =>
      let n := q.u8 0
      firstRejection [
        rejectWhen (s.flt.running ∧ (q.u8 1 = 3 ∨ (s.fin n).mode = 3)) NOT_STOPPED,
        rejectWhen (s.armedHolds n) WRONG_STATE,
        rejectWhen (q.u8 1 < 2 ∧ 2 ≤ (s.fin n).mode
          ∧ (List.range 32).any fun i => s.slotDecimated i n && s.slotLocked i) WRONG_STATE])
    (fun q s => syncInput (q.u8 0) 3 (updFin (q.u8 0) (fun x => { x with mode := q.u8 1, factor := q.u32 4 }) s))
def execFltSetInput (q : Request) (s : State) : Result := .next (runRequest fltSetInputCmd q s)

def fltStartCmd : Cmd :=
  setCmd 0x0404 32 (fun _ _ => [])
    (fun s _ => firstRejection [rejectWhen (s.flt.config = 4 ∧ s.flt.coefs.all (· = 0)) OUT_OF_RANGE,
      rejectWhen s.flt.running WRONG_STATE])
    (fun _ s => syncChain 0 (128 * s.nextBoundary) { s with flt := { s.flt with running := true } })
    (needsRun := true)
def execFltStart (q : Request) (s : State) : Result := .next (runRequest fltStartCmd q s)

/-- An armed group holds an input in the filtered mode (R178). -/
def State.filteredArmed (s : State) : Bool := (List.range 8).any fun n => (s.fin n).mode = 3 && s.armedHolds n

def fltStopCmd : Cmd :=
  setCmd 0x0405 32 (fun _ _ => [])
    (fun s _ => rejectWhen (¬ s.flt.running ∨ s.filteredArmed ∨ s.lockHeld) WRONG_STATE)
    (fun _ s => { s with flt := { s.flt with running := false, inputs := s.flt.inputs.map FilterInput.stop } })
def execFltStop (q : Request) (s : State) : Result := .next (runRequest fltStopCmd q s)

/-- The bounds on a tick given in advance (R183): 64 frames to 2^40 ticks ahead. -/
def tickAhead (s : State) (t : Nat) : Check :=
  allowed (s.time.tick + 64 * 128 ≤ t ∧ t ≤ s.time.tick + 2 ^ 40)

/-- The frame boundary at or after a tick. -/
def boundaryAt (t : Nat) : Nat := (t + 127) / 128 * 128

/-- The checks of FLT_SYNC's layout (R183). -/
def syncFields (s : State) (q : Request) : List Check :=
  [reservedBits q 0 1, reserved q 1 7, if q.bit 0 0 then reserved q 8 8 else tickAhead s (q.u64 8)]

def syncTick (s : State) (q : Request) : Nat :=
  if q.bit 0 0 then 128 * s.nextBoundary else boundaryAt (q.u64 8)

def fltSyncCmd : Cmd :=
  { opcode := 0x0406, classC := true, lengths := lenIs 48, checks := syncFields, needsRun := true
    reject := fun s _ => firstRejection [
      rejectWhen (¬ s.flt.running ∧ (List.range 8).any fun n => (s.fin n).mode = 3) WRONG_STATE,
      rejectWhen s.flt.scheduled.isSome BUSY]
    act := fun w q s => { s with flt := { s.flt with scheduled := some (syncTick s q, w) } } }
def execFltSync (q : Request) (s : State) : Result := .next (runRequest fltSyncCmd q s)

/-- A scheduled reset takes place (R182, R183). -/
def execFilterSync (at_ : Nat) (s : State) : Result :=
  let s := advance at_ s
  .next (match s.flt.scheduled with
    | none => s
    | some (t, w) =>
      if s.time.tick < t then s
      else reply w OK [] (syncChain 1 t { s with flt := { s.flt with scheduled := none } }))

def filterRecord (s : State) (sess n : Nat) : List Byte :=
  let x := s.fin n
  let since := (s.session sess).since
  let factor := if x.mode = 3 then s.cicFactor n else x.factor
  if ¬ s.enabled n then u8 x.mode ++ zeros 3 ++ u32 factor ++ zeros 8
  else
    u8 x.mode ++ u8 (ofBits [decide (0 < x.unsettled), since.fltSat.getD n false, since.fltSync.getD n false])
      ++ u16 x.unsettled ++ u32 factor ++ u32 (if x.mode = 3 then n * s.flt.period / 8 else 0) ++ u32 x.saturations

/-- The status of R189; the measured capacity is a free value. -/
def filterPayload (s : State) (q : Request) : List Byte :=
  let users := ((List.range 8).filter fun n => s.enabled n && (s.fin n).mode = 3).length
  u8 s.flt.running.toNat ++ u8 s.flt.config ++ u8 s.flt.stages ++ u8 0 ++ u32 s.flt.period ++ u32 s.groupDelay
    ++ u16 (s.settling 0) ++ i16 s.dcGainDb ++ u64 s.flt.anchor ++ u32 (Config.free s.free)
    ++ u32 (users * 4 * s.clk.core / s.flt.period)
    ++ (List.range 8).flatMap (filterRecord s q.sess)

def fltGetStatusCmd : Cmd :=
  readClearCmd 0x0407 32 (fun _ _ => []) filterPayload
    fun q s => updSession q.sess (fun x => { x with since := { x.since with
      fltSat := List.replicate 8 false, fltSync := List.replicate 8 false } }) { s with free := s.free + 1 }
def execFltGetStatus (q : Request) (s : State) : Result := .next (runRequest fltGetStatusCmd q s)

/-! ### Stage 2 of a lane (R166 to R188) -/

/-- Reference tick of output `k` (R166, R170, R171). -/
def State.refTick (s : State) (n : Nat) (k : Int) : Int :=
  let x := s.fin n
  if x.mode = 3 then x.anchor + k * s.flt.period + (n * s.flt.period / 8 : Nat)
  else x.anchor + k * (x.factor * s.spacing n : Nat)

/-- Ticks between outputs. -/
def State.positionSpacing (s : State) (n : Nat) : Nat :=
  if (s.fin n).mode = 3 then s.flt.period else (s.fin n).factor * s.spacing n

/-- The first output whose reference tick lies at or after a tick (R182, R259). -/
def State.firstOutput (s : State) (n : Nat) (t : Int) : Int :=
  let d : Int := s.positionSpacing n
  (t - s.refTick n 0 + d - 1) / d

/-- The output whose span holds a tick (R251, R260). -/
def State.outputAt (s : State) (n : Nat) (t : Int) : Int := (t - s.refTick n 0) / (s.positionSpacing n : Int)

/-- Tick of the start of position `k`'s span, and the positions that start at or after a tick and that hold one: the
numbering of the segments (R251, R259, R260). -/
def State.posTick (s : State) (n : Nat) (k : Int) : Int := s.refTick n (k - (s.fin n).kBase)
/-- DEDUCED (log entry 71). -/
def State.posFrom (s : State) (n : Nat) (t : Int) : Int := s.firstOutput n t + (s.fin n).kBase
/-- DEDUCED (log entry 71). -/
def State.posAt (s : State) (n : Nat) (t : Int) : Int := s.outputAt n t + (s.fin n).kBase

/-- The lane takes a synchronising reset: the decimation state is cleared, and the outputs go on from the first whose span
begins at or after the reset, in the filtered mode from the first that is decimated a frame later (R182, R184). -/
def takeReset (n : Nat) (r : FilterReset) (s : State) : State :=
  let x := s.fin n
  let d : Int := s.positionSpacing n
  let moved := decide (x.anchor ≠ r.t0)
  let s := updFin n (fun x => { x with
    kBase := if moved then x.kBase + (r.t0 - x.anchor + d - 1) / d else x.kBase
    laneMode := r.mode, laneFactor := r.factor, on := x.on || r.starts, anchor := r.t0, codes := [], suspect := false
    noData := false, integrators := [0, 0, 0, 0, 0], combs := [0, 0, 0, 0, 0], hbA := [], hbB := [], fir := []
    spans := x.spans.filter fun p => decide (r.tick ≤ p.2) }) s
  let first := if r.t0 = r.tick then 0
    else s.firstOutput n (r.tick + if r.mode = 3 then 128 else 0 : Nat)
  updFin n (fun x => { x with next := first, unsettled := if r.mode = 3 then s.settling n else 0 }) s

/-- The lane reaches a tick: the resets that hold from then on. DEDUCED (log entry 71). -/
def reachReset (n tick : Nat) (s : State) : State :=
  let l := (s.fin n).resets.takeWhile fun r => decide (r.tick ≤ tick)
  if l.isEmpty then s
  else forAll l (takeReset n) (updFin n (fun x => { x with resets := x.resets.drop l.length }) s)

/-- The value of an interval of modes 0 to 2, from its codes in order (R166, R168). -/
def intervalValues (mode : Nat) (codes : List Int) : List Int :=
  match mode with
  | 0 => [codes.headD 0]
  | 1 => [codes.foldl min (codes.headD 0), codes.foldl max (codes.headD 0)]
  | _ =>
    match codes.find? isOver with
    | some c => [if c = 2047 then 32767 else -32768]
    | none => [roundDiv (16 * codes.sum) codes.length]

/-- Overrange codes of an output (R186). -/
def valuesOver (mode : Nat) (l : List Int) : Bool :=
  if mode < 2 then l.any isOver else l.any fun v => v = 32767 ∨ v = -32768

/-- A value after a right shift, rounded, and whether it was saturated to `bits` (R175, R187). -/
def shiftSat (v : Int) (sh : Nat) (lo hi : Int) : Int × Bool :=
  let r := roundDiv v (2 ^ sh)
  (clampInt lo hi r, decide (r < lo ∨ hi < r))

/-- Signed value modulo 2^92 (R175). -/
def wrap92 (v : Int) : Int :=
  let m := v % 2 ^ 92
  if m < 2 ^ 91 then m else m - 2 ^ 92

/-- The five integrators take a sample. -/
def integrate (v : Int) : List Int → List Int
  | [] => []
  | a :: t => let a' := wrap92 (a + v); a' :: integrate a' t

/-- The five combs take a decimated value: the new delays and the result. -/
def comb (v : Int) : List Int → List Int × Int
  | [] => ([], v)
  | d :: t => let r := comb (wrap92 (v - d)) t; (v :: r.1, r.2)

/-- A sum of products of a delay line, newest first. -/
def dot (coef : Nat → Int) : Nat → List Int → Int
  | _, [] => 0
  | i, v :: t => coef i * v + dot coef (i + 1) t

/-- What one lane pass carries: the state, the outputs so far in reverse order. -/
structure LiftAcc where
  st : State
  out : List Position := []

/-- A stage of the chain saturated (R187). -/
def noteSaturation (n stage : Nat) (tick : Nat) (s : State) : State :=
  let s := updFin n (fun x => { x with saturations := satInc 32 x.saturations }) s
  let s := updSince (fun z => { z with fltSat := z.fltSat.set n true }) s
  recordLimited 0x0402 n psPerMs [r1 n, r4 stage, r8 tick] s

/-- Reference tick of the first output that a tick contributes to (R170, R171). -/
def State.outputTick (s : State) (n tick : Nat) : Nat :=
  let d := (s.fin n).anchor + n * s.flt.period / 8
  if tick ≤ d then d else d + (tick - d + s.flt.period - 1) / s.flt.period * s.flt.period

/-- Finish a stage: its value, with saturation noted under the output that it goes into. -/
def finishStage (n stage tick : Nat) (r : Int × Bool) (s : State) : Int × State :=
  (r.1, if r.2 then noteSaturation n stage (s.outputTick n tick) s else s)

/-- Emit output `k` of an input. -/
def emitOutput (n : Nat) (f : Frame) (k : Int) (tick : Nat) (values : List Int) (suspect noData : Bool) (a : LiftAcc) :
    LiftAcc :=
  let x := a.st.fin n
  let p : Position :=
    { k := k + x.kBase, tick := tick, values := values, suspect := suspect, noData := noData
      unsettled := decide (x.laneMode = 3 ∧ 0 < x.unsettled), overrange := valuesOver x.laneMode values
      seams := f.seams, generation := f.generation, coasting := f.coasting, frame := f.index }
  { st := updFin n (fun x => { x with next := k + 1, unsettled := x.unsettled - 1 }) a.st, out := p :: a.out }

/-- The FIR and the container (R175, R187). -/
def firStage (n : Nat) (f : Frame) (k : Int) (tick : Nat) (v : Int) (a : LiftAcc) : LiftAcc :=
  let s := updFin n (fun x => { x with fir := (v :: x.fir).take 96 }) a.st
  let r := roundDiv (dot s.firCoef 0 (s.fin n).fir) (2 ^ s.shift (s.cicFactor n) 3)
  let bad := decide (r < -32767 ∨ 32766 < r)
  let c : Int := if 32766 < r then 32767 else if r < -32767 then -32768 else r
  let s := if bad then noteSaturation n 3 tick s else s
  let x := s.fin n
  let span := s.chainSpan (s.cicFactor n)
  let from_ := tick - span.1 * s.flt.period / span.2
  let suspect := x.spans.any fun p => decide (p.1 ≤ tick ∧ from_ ≤ p.2)
  let s := updFin n (fun x => { x with spans := x.spans.filter fun p => decide (from_ ≤ p.2) }) s
  if k < x.next then { a with st := s } else emitOutput n f k tick [c] suspect f.interrupted { a with st := s }

/-- HB-B, in use with one or two half-band stages (R169, R175). `m` counts its inputs. -/
def hbBStage (n : Nat) (f : Frame) (m : Int) (tick : Nat) (v : Int) (a : LiftAcc) : LiftAcc :=
  let s := updFin n (fun x => { x with hbB := (v :: x.hbB).take 39 }) a.st
  if m % 2 ≠ 0 then { a with st := s }
  else
    let (v, s) := finishStage n 2 tick
      (shiftSat (dot hbBCoef 0 (s.fin n).hbB) (s.shift (s.cicFactor n) 2) (-8388608) 8388607) s
    firStage n f (m / 2) tick v { a with st := s }

/-- HB-A, in use with two half-band stages. -/
def hbAStage (n : Nat) (f : Frame) (m : Int) (tick : Nat) (v : Int) (a : LiftAcc) : LiftAcc :=
  let s := updFin n (fun x => { x with hbA := (v :: x.hbA).take 19 }) a.st
  if m % 2 ≠ 0 then { a with st := s }
  else
    let (v, s) := finishStage n 1 tick
      (shiftSat (dot hbACoef 0 (s.fin n).hbA) (s.shift (s.cicFactor n) 1) (-8388608) 8388607) s
    hbBStage n f (m / 2) tick v { a with st := s }

/-- A raw sample enters the chain; the last one up to a decimation instant of the CIC goes on to the half-bands and the
FIR. -/
def chainSample (n : Nat) (f : Frame) (tick spacing : Nat) (code : Int) (a : LiftAcc) : LiftAcc :=
  let s := updFin n (fun x => { x with integrators := integrate code x.integrators
                                       spans := if isOver code then (tick, tick) :: x.spans else x.spans }) a.st
  let step : Int := s.flt.period / 2 ^ s.flt.stages
  let off : Int := tick + spacing - 1 - ((s.fin n).anchor + n * s.flt.period / 8 : Nat)
  if (spacing : Int) ≤ off % step then { a with st := s }
  else
    let x := s.fin n
    let (delays, v) := comb (x.integrators.getLastD 0) x.combs
    let s := updFin n (fun x => { x with combs := delays }) s
    let (v, s) := finishStage n 0 tick (shiftSat v (s.shift (s.cicFactor n) 0) (-8388608) 8388607) s
    let m := off / step
    match s.flt.stages with
    | 0 => firStage n f m tick v { a with st := s }
    | 1 => hbBStage n f m tick v { a with st := s }
    | _ => hbAStage n f m tick v { a with st := s }

/-- A raw sample of an input in modes 0 to 2 (R166). In the sample mode a window on any grid tick up to the next sample marks
it, else one on its own tick (R134, R188). -/
def intervalSample (n : Nat) (f : Frame) (tick spacing : Nat) (code : Int) (a : LiftAcc) : LiftAcc :=
  let x := a.st.fin n
  let span : Int := (x.laneFactor * spacing : Nat)
  let off : Int := tick - x.anchor
  let k := off / span
  if k < x.next then a
  else
    let last := if x.laneMode = 0 then tick + spacing - 1 else tick
    let bad := f.interrupted || f.suspect.any fun p => decide (p.1 ≤ last ∧ tick ≤ p.2)
    let fresh := decide (off % span < spacing)
    let codes := if fresh then [code] else x.codes ++ [code]
    let suspect := (! fresh && x.suspect) || bad
    let noData := (! fresh && x.noData) || f.interrupted
    let s := updFin n (fun x => { x with codes := codes, suspect := suspect, noData := noData }) a.st
    if span - spacing ≤ off % span then
      emitOutput n f k (x.anchor + k * span).toNat (intervalValues x.laneMode codes) suspect noData { a with st := s }
    else { a with st := s }

/-- A raw sample in stage 2. -/
def stageTwoSample (n : Nat) (f : Frame) (spacing : Nat) (p : Nat × Int) (a : LiftAcc) : LiftAcc :=
  let a := { a with st := reachReset n p.1 a.st }
  let x := a.st.fin n
  if x.laneMode ≠ 3 then intervalSample n f p.1 spacing p.2 a
  else if x.on then chainSample n f p.1 spacing p.2 a
  else a

/-- Ticks of a frame's samples. -/
def Frame.ticks (f : Frame) : List (Nat × Int) :=
  let sp := 128 / f.codes.length
  ((List.range f.codes.length).map fun i => 128 * f.index + sp * i).zip f.codes

/-- The suspect spans of a frame that hold one of its samples (R188). -/
def Frame.sampleSpans (f : Frame) (spacing : Nat) : List (Nat × Nat) :=
  f.suspect.filter fun p => decide ((p.1 + spacing - 1) / spacing * spacing ≤ p.2)

/-- Stage 2 of a lane on one frame: the new state, and the outputs in order. -/
def decimateFrame (n : Nat) (f : Frame) (s : State) : State × List Position :=
  let sp := 128 / f.codes.length
  let x := s.fin n
  let s := if x.on || ! x.resets.isEmpty then updFin n (fun x => { x with spans := f.sampleSpans sp ++ x.spans }) s else s
  let a := f.ticks.foldl (fun a p => stageTwoSample n f sp p a) { st := s }
  (a.st, a.out.reverse)

end Sys2Proof.Machine
end

