-- ==== Sys2Proof/Machine/MarkOps.lean ====
section
/-! DEFINITION. Markers: their edges, pulses and what drives them (R228, R229). -/

namespace Sys2Proof.Machine

/-! ### Ticks and system time -/

/-- System time in ps of a grid tick, at the present core rate. -/
def State.psOf (s : State) (tick : Nat) : Nat :=
  ((s.time.ps : Int) + ((tick : Int) - s.time.tick) * 250000 / s.clk.core).toNat

/-! ### Markers (R228, R229) -/

/-- The enable of an output's control word (R90). -/
def outEn (w : Word) : Bool := w.getLsbD 27

def State.marker (s : State) (m : Nat) : Marker := s.trg.markers.getD m {}
def updMarker (m : Nat) (f : Marker → Marker) (s : State) : State :=
  { s with trg := { s.trg with markers := updAt s.trg.markers m f } }

/-- A marker's level changes, which shows on MARKn. -/
def driveMarker (m : Nat) (level : Bool) (s : State) : State :=
  if (s.marker m).level = level then s
  else emit .mark [m, level.toNat] [] (updMarker m (fun x => { x with level := level }) s)

/-- A marker in mode 6 follows SMP2: its control word shows on MARKn after level code 2, and a disabled SMP2 lets it rest low.
DESIGN CHOICE (log entry 85). -/
def followClock (m : Nat) (s : State) : State :=
  let word := s.clk.outputs.getD 2 0
  let now := if (s.marker m).mode = 6 ∧ outEn word then word.toNat else 0
  if (s.marker m).clock = now then s
  else emit .mark (if now = 0 then [m, 0] else [m, 2, now]) [] (updMarker m (fun x => { x with clock := now }) s)

/-- Insert an edge in order of time. -/
def insertEdge (e : Nat × Bool) : List (Nat × Bool) → List (Nat × Bool)
  | [] => [e]
  | f :: l => if e.1 < f.1 then e :: f :: l else f :: insertEdge e l

/-- An edge falls due at a system time; an aligned edge that was due before is driven at once (R229). -/
def scheduleEdge (m ps : Nat) (level aligned : Bool) (s : State) : State :=
  if aligned ∧ ps < s.time.ps then
    recordLimited 0x0504 m psPerMs [] (driveMarker m level s)
  else updMarker m (fun x => { x with due := insertEdge (ps, level) x.due }) s

/-- A pulse of the marker's width; one due while the previous is high extends it. -/
def schedulePulse (m ps : Nat) (aligned : Bool) (s : State) : State :=
  let w := (s.marker m).width * 1000
  let s := updMarker m (fun x => { x with due := x.due.filter fun e => ¬ (¬ e.2 ∧ ps ≤ e.1 ∧ e.1 < ps + w) }) s
  let covered := (s.marker m).due.any fun e => ! e.2 && decide (ps + w ≤ e.1)
  let s := scheduleEdge m ps true aligned s
  if covered then s else scheduleEdge m (ps + w) false aligned s

/-- The instant plus the delay, rounded to the nearest core period (R228): 250 MHz · ps are a tick. -/
def State.alignedPs (s : State) (m instant : Nat) : Nat :=
  let due := 250 * instant + (s.marker m).delay * s.clk.core * 65536
  s.psOf ((due + 500 * 65536) / (1000 * 65536) * 4)

/-- 20 to 30 ns after the classification (R223): a free value within the bounds. -/
def classifiedPs (s : State) : Nat × State :=
  let r := takeFree s
  (s.time.ps + 20000 + r.1 % 10001, r.2)

/-- What an accepted trigger of a group does on the markers. -/
def markAccepted (g instant fillEnd : Nat) (s : State) : State :=
  forEach 4 (fun m s =>
    let x := s.marker m
    if x.select ≠ g then s
    else match x.mode with
      | 1 => let r := classifiedPs s; schedulePulse m r.1 false r.2
      | 2 => schedulePulse m (s.alignedPs m instant) true s
      | 3 => scheduleEdge m (s.alignedPs m ((fillEnd + 1) * 65536)) false true
               (scheduleEdge m (s.alignedPs m instant) true true s)
      | 4 => let r := classifiedPs s; scheduleEdge m r.1 false false r.2
      | _ => s) s

/-- The ready level of mode 4 follows a group that is Ready. -/
def markReady (g : Nat) (level : Bool) (s : State) : State :=
  forEach 4 (fun m s =>
    if (s.marker m).mode = 4 ∧ (s.marker m).select = g then
      let r := classifiedPs s; scheduleEdge m r.1 level false r.2
    else s) s

/-- The slot state of mode 5, aligned. -/
def markSlot (slot tick : Nat) (level : Bool) (s : State) : State :=
  forEach 4 (fun m s =>
    if (s.marker m).mode = 5 ∧ (s.marker m).select = slot then
      scheduleEdge m (s.alignedPs m (tick * 65536)) level true s
    else s) s

end Sys2Proof.Machine
end

