-- ==== Sys2Proof/Machine/TrigEval.lean ====
section
/-! DEFINITION. Stage 1 of a lane on its frames and outputs (R185, R193, R194), and the evaluation of slots, patterns and sequences
over grid ticks (R190, R195 to R205, R214, R215). -/

namespace Sys2Proof.Machine

/-! ### Stage 1 of a lane -/

/-- The settings of an input's comparators that come into force at a frame (R193). One that turns to a decimated stream which the
input does not give is forced (R194). -/
def takeSettings (n frame : Nat) (s : State) : State :=
  forEach 2 (fun c s =>
    let x := s.comparator n c
    match (x.waits.takeWhile fun w => decide (w.2.2.2 ≤ frame)).getLast? with
    | none => s
    | some (src, lvl, h, f) =>
      let s := updComparator n c (fun x => { x with
        source := src, level := lvl, hyst := h, from_ := 128 * f, st := none
        waits := x.waits.dropWhile fun w => decide (w.2.2.2 ≤ frame) }) s
      if src = 1 ∧ (s.fin n).laneMode < 2 then
        pushEvent { tick := 128 * f, source := .lost n c, instant := 128 * f * 65536, decimated := true } s
      else s) s

/-- The strand of a sample is suspect (R134, R218): strands are 16 samples of the grid. -/
def strandSuspect (f : Frame) (anchor tick sp : Nat) : Bool :=
  let w := 16 * sp
  let lo := tick - (tick + w - anchor % w) % w
  f.suspect.any fun p => decide (p.1 < lo + w ∧ lo ≤ p.2)

/-- The samples of a frame as stage 1 sees them. -/
def frameSamples (s : State) (n : Nat) (f : Frame) : List TailSample :=
  let sp := 128 / f.codes.length
  let anchor := (s.fin n).anchor
  (List.range f.codes.length).map fun i =>
    let code := f.codes.getD i 0
    let t := 128 * f.index + sp * i
    { tick := t, code := code, value := f.values.getD i (16 * code), clips := isOver code
      suspect := strandSuspect f anchor t sp, outgoing := f.outgoing[i]? }

/-- The comparators of an input lose their states at a frame that an interruption covers, unless they hold none (R142, R193,
R199). -/
def interruptLane (n frame : Nat) (s : State) : State :=
  loseComparators n (128 * frame) (fun x => x.st.isSome) (flushTail n s)

/-- Stage 1 on a frame. Code 0 of an interruption enters no comparator (R193). -/
def stageOne (n : Nat) (f : Frame) (s : State) : State :=
  let s := takeSettings n f.index (passGaps n s)
  let s := { s with trg := { s.trg with lifted := s.trg.lifted.set n (f.index + 1) } }
  if f.interrupted then interruptLane n f.index s
  else (frameSamples s n f).foldl (fun s x => laneSample n (128 / f.codes.length) x s) s

/-- A comparator reads the decimated stream. -/
def Comparator.decimated (x : Comparator) : Bool := decide (x.source = 1)

/-- The decimated stream reaches the comparators of source 1 (R185, R194): they hold no state through unsettled outputs. -/
def stageOneDecimated (n : Nat) (out : List Position) (s : State) : State :=
  out.foldl (fun s p =>
    if (s.fin n).laneMode < 2 ∨ p.noData then s
    else if p.unsettled then loseComparators n p.tick (fun x => x.decimated && decide (x.from_ ≤ p.tick)) s
    else inputStep n 1 (p.values.headD 0) p.tick (fun _ => (p.tick * 65536, 3)) s) s

/-- A lane that leaves modes 2 and 3 forces the slots of its comparators of source 1 (R194). -/
def leaveDecimated (n before frame : Nat) (s : State) : State :=
  if 2 ≤ before ∧ (s.fin n).laneMode < 2 then loseComparators n (128 * frame) Comparator.decimated s else s

/-! ### What is known (R190) -/

/-- The next output of a lane falls on this tick at the earliest (R166, R170). -/
def State.nextOutput (s : State) (n : Nat) : Nat :=
  let x := s.fin n
  (if x.laneMode = 3 then x.anchor + x.next * s.flt.period + (n * s.flt.period / 8 : Nat)
    else x.anchor + x.next * (x.laneFactor * s.spacing n : Nat) : Int).toNat

/-- The first tick of an input that its lane has not evaluated: none where it holds no frame and is given none. -/
def State.laneKnown (s : State) (n : Nat) : Option Nat :=
  let x := s.input n
  let next := match s.tail n, x.letterbox with
    | y :: _, _ => some y.tick
    | [], f :: _ => some (128 * f.index)
    | [], [] => if s.inp.running ∧ s.enabled n ∧ x.stopped = 0 then some (128 * s.inp.nextFrame) else none
  let y := s.fin n
  let outputs := decide (y.laneMode = 2 ∨ y.laneMode = 3 ∧ y.on = true)
  if outputs && (List.range 2).any fun c =>
      (s.comparator n c).source = 1 || (s.comparator n c).waits.any fun w => w.1 = 1 then
    next.map (min (s.nextOutput n))
  else next

/-- The slots of heads that the head lane has not lifted yet. -/
def State.headKnown (s : State) : List Nat := s.dmx.ports.flatMap fun x => x.letterbox.map (·.tick)

/-- The first tick that is not yet known on every source: 48 frames behind the clock, behind what each lane still has to
evaluate, and behind the slots that wait in the port letterboxes (R190, R223). -/
def State.knownTo (s : State) : Nat :=
  ((List.range 8).filterMap s.laneKnown ++ s.headKnown).foldl min (s.time.tick - 48 * 128)

/-! ### Slots at a tick (R195 to R200) -/

/-- A qualifier of types 5 and 6 (R197). -/
def qualifies (x : SlotSetting) (w : Nat) : Bool :=
  let w := min w 4294967295
  match (x.options / 4) % 4 with
  | 0 => w < x.high
  | 1 => x.low < w
  | 2 => x.low ≤ w && w ≤ x.high
  | _ => w < x.low || x.high < w

/-- A direction field (R196): 1 rising, 2 falling, 3 either. -/
def inDirection (options : Nat) (rose : Bool) : Bool := if rose then options.testBit 1 else options.testBit 2

/-- A type that is true for a stretch from each event (R196). -/
def isPulse (t : Nat) : Bool := decide (t = 2 ∨ t = 4 ∨ t = 5 ∨ t = 6 ∨ t = 7 ∨ t = 9 ∨ t = 11)

/-- What one tick has done to the slots so far: the state, and the changes, newest first. -/
structure TickAcc where
  st : State
  changes : List SlotChange := []

/-- A slot takes a value, by a change where it had the other one. -/
def TickAcc.put (c : SlotChange) (a : TickAcc) : TickAcc :=
  if (a.st.slot c.slot).value = c.value then a
  else { st := updSlot c.slot (fun x => { x with value := c.value }) a.st, changes := c :: a.changes }

/-- An event of a pulse type: its stretch starts, or starts again (R197). -/
def TickAcc.pulse (tick : Nat) (c : SlotChange) (a : TickAcc) : TickAcc :=
  let a := a.put { c with value := true }
  { a with st := updSlot c.slot (fun x => { x with until_ := some (tick + x.set.stretch), decimated := c.decimated }) a.st }

/-- A slot is forced false: what it measures and its stretch end (R199, R200). -/
def TickAcc.force (tick slot : Nat) (decimated : Bool) (a : TickAcc) : TickAcc :=
  let a := a.put { slot := slot, value := false, forced := true, instant := tick * 65536, decimated := decimated }
  { a with st := updSlot slot (fun x => { x with until_ := none, mark := none }) a.st }

/-- What the reports of one tick did to one comparator: its state before and after, and its switch. -/
structure CompStep where
  before : Option Bool
  after : Option Bool
  switch : Option Switch := none
  decimated : Bool := false

def CompStep.take (r : CompStep) (e : TrigEvent) : CompStep :=
  match e.source with
  | .switch _ _ rose => { before := some (! rose), after := some rose, decimated := e.decimated
                          switch := some { rose := rose, instant := e.instant, timing := e.timing } }
  | .initial _ _ high => { before := none, after := some high, decimated := e.decimated }
  | _ => { before := r.before, after := none, decimated := e.decimated }

/-- The comparator that a report is of. -/
def TrigEvent.comparator (e : TrigEvent) : Option (Nat × Nat) :=
  match e.source with
  | .switch n c _ | .initial n c _ | .lost n c => some (n, c)
  | _ => none

def State.seenAt (s : State) (n c : Nat) : Option Bool := s.trg.seen.getD (2 * n + c) none

/-- The steps of one comparator at a tick, none where no report is of it. -/
def compSteps (s : State) (l : List TrigEvent) (n c : Nat) : Option CompStep :=
  match l.filter fun e => e.comparator = some (n, c) with
  | [] => none
  | l => some (l.foldl CompStep.take { before := s.seenAt n c, after := s.seenAt n c })

/-- The inside state of a window, where both comparators hold a state (R196). -/
def insideOf (c0 c1 : Option Bool) : Option Bool :=
  match c0, c1 with
  | some a, some b => some (b && ! a)
  | _, _ => none

/-- The state that a state slot has at the tick under evaluation: false where its source holds none (R196, R199). -/
def State.standing (s : State) (x : SlotSetting) : Bool :=
  let as (v : Option Bool) : Bool := match v with | some b => b != x.options.testBit 1 | none => false
  match x.type with
  | 1 => as (s.seenAt x.source (x.options % 2))
  | 3 => as (insideOf (s.seenAt x.source 0) (s.seenAt x.source 1))
  | 8 => as (s.trg.triginSeen[x.source]?)
  | 10 => as (s.trg.alarms[x.source]?)
  | _ => false

/-- The pulse or transition that a slot measures begins at a tick, or is over (R198). -/
def TickAcc.setMark (slot : Nat) (t : Option Nat) (a : TickAcc) : TickAcc :=
  { a with st := updSlot slot (fun x => { x with mark := t }) a.st }

/-- A slot on an input follows its comparators (R196, R198, R199). -/
def slotStep (tick i : Nat) (c0 c1 : CompStep) (a : TickAcc) : TickAcc :=
  let x := (a.st.slot i).set
  let c := if x.options.testBit 0 then c1 else c0
  let was := insideOf c0.before c1.before
  let now := insideOf c0.after c1.after
  let sw := if c1.switch.isSome then c1.switch else c0.switch
  let by_ (v : Bool) (w : Switch) (d : Bool) : SlotChange :=
    { slot := i, value := v, instant := w.instant, timing := w.timing, decimated := d }
  let forced (v : Bool) (d : Bool) : SlotChange := { slot := i, value := v, forced := true, instant := tick * 65536, decimated := d }
  let d := c0.decimated || c1.decimated
  match x.type with
  | 1 => match c.after with
    | none => a.force tick i c.decimated
    | some v => match c.before, c.switch with
      | some _, some w => a.put (by_ (v != x.options.testBit 1) w c.decimated)
      | _, _ => a.put (forced (v != x.options.testBit 1) c.decimated)
  | 3 => match now with
    | none => a.force tick i d
    | some v => match was, sw with
      | some _, some w => a.put (by_ (v != x.options.testBit 1) w d)
      | _, _ => a.put (forced (v != x.options.testBit 1) d)
  | 2 => match c.after, c.switch with
    | none, _ => a.force tick i c.decimated
    | some _, some w => if inDirection x.options w.rose then a.pulse tick (by_ true w c.decimated) else a
    | some _, none => a
  | 4 => match now with
    | none => a.force tick i d
    | some v => match was, sw with
      | some u, some w => if u ≠ v ∧ inDirection x.options v then a.pulse tick (by_ true w d) else a
      | _, _ => a
  | 5 => match c.after, c.switch with
    | none, _ => a.force tick i c.decimated
    | some _, none => if c.before.isNone then a.setMark i none else a
    | some _, some w =>
      if w.rose != x.options.testBit 1 then a.setMark i (some tick)
      else
        let a' := a.setMark i none
        match (a.st.slot i).mark with
        | some t => if qualifies x (tick - t) then a'.pulse tick (by_ true w c.decimated) else a'
        | none => a'
  | 6 => match now with
    | none => a.force tick i d
    | some _ =>
      let falling := x.options.testBit 1
      let first := if falling then c0 else c1
      let second := if falling then c1 else c0
      let a := if c0.before.isNone ∨ c1.before.isNone then a.setMark i none else a
      let a := match first.switch with
        | some w => a.setMark i (if w.rose != falling then some tick else none)
        | none => a
      match second.switch with
      | some w =>
        if w.rose != falling then
          let a' := a.setMark i none
          match (a.st.slot i).mark with
          | some t => if qualifies x (tick - t) then a'.pulse tick (by_ true w d) else a'
          | none => a
        else a
      | none => a
  | _ => a

/-- The slots on an input follow the reports of its comparators; `skip` names slots whose setting is new at this tick. -/
def inputSlots (tick : Nat) (skip : Nat → Bool) (l : List TrigEvent) (n : Nat) (a : TickAcc) : TickAcc :=
  let r0 := compSteps a.st l n 0
  let r1 := compSteps a.st l n 1
  if r0.isNone ∧ r1.isNone then a
  else
    let c0 := r0.getD { before := a.st.seenAt n 0, after := a.st.seenAt n 0 }
    let c1 := r1.getD { before := a.st.seenAt n 1, after := a.st.seenAt n 1 }
    let s := { a.st with trg := { a.st.trg with seen := (a.st.trg.seen.set (2 * n) c0.after).set (2 * n + 1) c1.after } }
    (List.range 32).foldl (fun a i =>
      let x := (a.st.slot i).set
      let touched := if isWindowType x.type then r0.isSome || r1.isSome else if x.options.testBit 0 then r1.isSome else r0.isSome
      if x.onInput n && touched && ! skip i then slotStep tick i c0 c1 a else a) { a with st := s }

/-- A source of its own changes: its state slots follow, its edge slots pulse (R196). -/
def sourceSlots (tick : Nat) (skip : Nat → Bool) (level edge src : Nat) (high forced : Bool) (c : SlotChange) (a : TickAcc) :
    TickAcc :=
  (List.range 32).foldl (fun a i =>
    let x := (a.st.slot i).set
    if x.source ≠ src ∨ skip i then a
    else if x.type = level then a.put { c with slot := i, value := high != x.options.testBit 1, forced := forced }
    else if x.type = edge ∧ ¬ forced ∧ (if edge = 11 then high else inDirection x.options high) then
      a.pulse tick { c with slot := i }
    else a) a

/-- Groups with an active member among heads' bits and masks (R222, R327). -/
def activeOf (l : List (Nat × Nat × Nat × List Nat)) : List Bool :=
  (List.range 4).map fun g => l.any fun x => (x.2.2.1 &&& x.2.2.2.getD g 0) ≠ 0

/-- The bits of a head, and the groups that they change (R222). -/
def alarmSlots (tick : Nat) (skip : Nat → Bool) (p i bits : Nat) (masks : List Nat) (cleared : Bool) (c : SlotChange) (a : TickAcc) :
    TickAcc :=
  let x := a.st.trg
  let rest := x.alarmBits.filter fun y => ¬ (y.1 = p ∧ y.2.1 = i)
  let l := if bits = 0 then rest else (p, i, bits, masks) :: rest
  let now := activeOf l
  let a := { a with st := { a.st with trg := { x with alarmBits := l, alarms := now } } }
  (List.range 4).foldl (fun a g =>
    if x.alarms.getD g false = now.getD g false then a
    else sourceSlots tick skip 10 11 g (now.getD g false) cleared c a) a

/-- One report of a source that is no comparator. -/
def applyEvent (tick : Nat) (skip : Nat → Bool) (a : TickAcc) (e : TrigEvent) : TickAcc :=
  let c : SlotChange := { slot := 0, value := true, instant := e.instant, timing := e.timing }
  match e.source with
  | .tach n rising => sourceSlots tick skip 255 7 n rising false c a
  | .trigin n high =>
    sourceSlots tick skip 8 9 n high false c
      { a with st := { a.st with trg := { a.st.trg with triginSeen := a.st.trg.triginSeen.set n high } } }
  | .alarm p i bits masks cleared time =>
    alarmSlots tick skip p i bits masks cleared { c with alarm := if cleared then none else some (p, i, time) } a
  | _ => a

/-- Stretches that end at a tick (R215 last row). -/
def endStretches (tick : Nat) (a : TickAcc) : TickAcc :=
  (List.range 32).foldl (fun a i =>
    let x := a.st.slot i
    if x.until_ = some tick then
      let a := a.put { slot := i, value := false, instant := tick * 65536, decimated := x.decimated }
      { a with st := updSlot i (fun x => { x with until_ := none }) a.st }
    else a) a

/-- Slots whose settings come into force at a tick. -/
def State.freshSlots (s : State) (tick : Nat) : List Nat :=
  (List.range 32).filter fun i => (s.slot i).waits.any fun w => decide (128 * w.2 ≤ tick)

/-- A new setting comes into force, with everything cleared (R200). -/
def takeSlot (tick : Nat) (a : TickAcc) (i : Nat) : TickAcc :=
  let new := ((a.st.slot i).waits.takeWhile fun w => decide (128 * w.2 ≤ tick)).getLast?
  let a := a.force tick i false
  match new with
  | none => a
  | some w => { a with st := updSlot i (fun x => { x with
      set := w.1, decimated := false, waits := x.waits.dropWhile fun w => decide (128 * w.2 ≤ tick) }) a.st }

/-- A state slot under a new setting takes the state of its source: a forced change (R199). -/
def standSlot (tick : Nat) (a : TickAcc) (i : Nat) : TickAcc :=
  if isPulse (a.st.slot i).set.type then a
  else a.put { slot := i, value := a.st.standing (a.st.slot i).set, forced := true, instant := tick * 65536 }

/-- Everything that happens to the slots at one tick: stretches end, settings come into force, the sources report. -/
def slotsTick (tick : Nat) (l : List TrigEvent) (s : State) : TickAcc :=
  let fresh := s.freshSlots tick
  let skip (s : State) (i : Nat) : Bool := fresh.contains i && ! isPulse (s.slot i).set.type
  let a := fresh.foldl (takeSlot tick) (endStretches tick { st := s })
  let a := (List.range 8).foldl (fun a n => inputSlots tick (skip a.st) l n a) a
  let a := l.foldl (fun a e => applyEvent tick (skip a.st) a e) a
  fresh.foldl (standSlot tick) a

/-! ### Patterns (R202, R203) -/

def Pattern.eval (p : Pattern) (cond : Nat) : Bool :=
  let hit := (List.range 32).filter fun i => p.care.testBit i && cond.testBit i = p.value.testBit i
  if p.care = 0 then false
  else if p.any_ then ! hit.isEmpty
  else hit.length = ((List.range 32).filter fun i => p.care.testBit i).length

/-- The completing change of a pattern (R203), among the changes of the slots that differ from the tick before. -/
def completing (p : Pattern) (l : List SlotChange) : Option SlotChange :=
  (List.range 32).foldl (fun r i => match r with
    | some c => some c
    | none =>
      if p.care.testBit i then l.find? fun c => c.slot = i && ! c.forced && c.value = p.value.testBit i else none)
    none

def State.cond (s : State) : Nat := ofBits (s.trg.slots.map Slot.value)

/-- A seam frame of an input (R122, R219). -/
def State.seamFrame (s : State) (n frame : Nat) : Bool :=
  let x := s.input n
  decide (0 < x.seams ∧ x.seamFrame = frame) || match x.seam with
    | some y => y.passed && decide (y.f0 + 132 = frame)
    | none => false

/-- The source code of a completing change (R219). -/
def State.sourceCode (s : State) (c : SlotChange) : Nat :=
  let x := (s.slot c.slot).set
  let seam := decide (1 ≤ x.type ∧ x.type ≤ 6) && s.seamFrame x.source (frameOf (c.instant / 65536))
  c.slot + 256 * c.timing + (if seam then 2048 else 0) + (if c.decimated then 4096 else 0)

/-! ### Groups: triggers and sequences (R205, R210) -/

/-- Insert a trigger in order of instant, then of origin (R210). -/
def insertTrigger (q : Trigger) : List Trigger → List Trigger
  | [] => [q]
  | r :: l => if q.instant < r.instant ∨ (q.instant = r.instant ∧ q.order < r.order) then q :: r :: l
              else r :: insertTrigger q l

def queueTrigger (g : Nat) (q : Trigger) (s : State) : State := updTg g (fun x => { x with queue := insertTrigger q x.queue }) s

/-- Insert a transition in order of instant, B before A (R205). -/
def insertHit (h : Hit) : List Hit → List Hit
  | [] => [h]
  | k :: l => if h.instant < k.instant ∨ (h.instant = k.instant ∧ h.second ∧ ¬ k.second) then h :: k :: l else k :: insertHit h l

/-- A group watches its patterns from its arm tick to its disarm. -/
def State.watches (s : State) (g tick : Nat) : Bool :=
  let x := s.sg g
  match x.state with
  | .capturing | .stopping => decide (128 * x.armFrame ≤ tick)
  | _ => false

/-- What a group's status is read from now. -/
def State.view (s : State) (g : Nat) : TrigView :=
  { group := s.tg g, watched := (match (s.sg g).state with | .capturing | .stopping => true | _ => false)
    armFrame := (s.sg g).armFrame, stopTick := (s.sg g).stopTick }

/-- A group changes at a tick: what stood before is kept for a status as of an earlier tick (R230). -/
def keepView (g tick : Nat) (s : State) : State :=
  { s with trg := { s.trg with past := updAt s.trg.past g fun l => (tick, s.view g) :: l } }

/-- A group's sequence window changes at a tick. -/
def keepWindow (g tick : Nat) (s : State) : State :=
  { s with trg := { s.trg with windowPast := updAt s.trg.windowPast g fun l =>
      (tick, (s.tg g).seqEnd, (s.tg g).counts.timeouts) :: l } }

/-- A count of a group that belongs to a tick which every later status covers. -/
def countPast (g : Nat) (f : TrigCounts → TrigCounts) (s : State) : State :=
  let up (t : TrigGroup) : TrigGroup := { t with counts := f t.counts }
  let s := updTg g up s
  { s with trg := { s.trg with past := updAt s.trg.past g fun l => l.map fun e => (e.1, { e.2 with group := up e.2.group }) } }

/-- An instant before which no qualifying transition can come any more: the tick of a switch lies at most one sample after its
instant. DEDUCED (log entry 12). -/
def State.settledTo (s : State) : Nat := s.trg.horizon - 3

/-- A sequence window that has run out before an instant counts as a timeout (R205). -/
def expireWindow (g instant : Nat) (s : State) : State :=
  match (s.tg g).seqEnd with
  | some e =>
    if e < instant then
      updTg g (fun x => { x with seqEnd := none, counts := { x.counts with timeouts := satInc 32 x.counts.timeouts } })
        (keepWindow g (e / 65536 + 1) s)
    else s
  | none => s

/-- One qualifying transition in sequence mode: B within the open window completes it, A opens a new one (R205). -/
def takeHit (g : Nat) (h : Hit) (s : State) : State :=
  let s := keepWindow g (h.instant / 65536) (expireWindow g h.instant s)
  let span := 128 * 65536 * (s.tg g).window
  if ¬ h.second then updTg g (fun x => { x with seqEnd := some (h.instant + span) }) s
  else match (s.tg g).seqEnd with
    | some e =>
      if e < h.instant + span then
        queueTrigger g { instant := h.instant, order := 0, code := h.code + 1024, alarm := h.alarm }
          (updTg g (fun x => { x with seqEnd := none }) s)
      else s
    | none => s

/-- The transitions that no earlier one can precede any more, and the windows that have run out by then. -/
def settleHits (g : Nat) (s : State) : State :=
  let t := 65536 * s.settledTo
  let l := (s.tg g).hits.takeWhile fun h => decide (h.instant < t)
  let s := forAll l (takeHit g) (updTg g (fun x => { x with hits := x.hits.drop l.length }) s)
  expireWindow g t s

/-- One group's patterns at a tick. -/
def groupTick (tick : Nat) (l : List SlotChange) (g : Nat) (s : State) : State :=
  if ¬ s.watches g tick then s
  else
    let x := s.tg g
    let a := x.a.eval s.cond
    let b := x.b.eval s.cond
    let (pa, pb) := x.prev.getD (true, true)
    let sequence := x.flags.testBit 0
    let hitA := if a && ! pa then completing x.a l else none
    let hitB := if b && ! pb && sequence then completing x.b l else none
    let s := updTg g (fun x => { x with prev := some (a, b) }) s
    let hit (second : Bool) (c : SlotChange) (s : State) : State :=
      let h : Hit := { instant := c.instant, second := second, code := s.sourceCode c, alarm := c.alarm }
      if sequence then updTg g (fun x => { x with hits := insertHit h x.hits }) s
      else queueTrigger g { instant := h.instant, order := 0, code := h.code, alarm := h.alarm } s
    let s := match hitB with | some c => hit true c s | none => s
    match hitA with | some c => hit false c s | none => s

/-! ### Evaluation over ticks (R190) -/

/-- The next tick below `h` at which something happens to a slot or a group arms. -/
def State.nextTick (s : State) (h : Nat) : Option Nat :=
  let l := (s.trg.events.map (·.tick)) ++ (s.trg.slots.filterMap Slot.until_)
    ++ (s.trg.slots.flatMap fun x => x.waits.map fun w => max (128 * w.2) s.trg.horizon)
    ++ ((List.range 4).filterMap fun g =>
      if (s.tg g).prev.isNone ∧ s.watches g (128 * (s.sg g).armFrame) then
        some (max (128 * (s.sg g).armFrame) s.trg.horizon) else none)
  (l.filter (· < h)).min?

/-- Everything that happens at one tick. -/
def evalTick (tick : Nat) (s : State) : State :=
  let before := s.cond
  let here := s.trg.events.filter fun e => decide (e.tick ≤ tick)
  let s := { s with trg := { s.trg with events := s.trg.events.filter fun e => ! decide (e.tick ≤ tick) } }
  let a := slotsTick tick here s
  let changed := (List.range 32).filter fun i => a.st.cond.testBit i ≠ before.testBit i
  let l := changed.filterMap fun i => a.changes.find? fun c => c.slot = i
  let s := if changed.isEmpty then a.st
    else { a.st with trg := { a.st.trg with condPast := (tick, before) :: a.st.trg.condPast } }
  let s := forAll l (fun c => markSlot c.slot tick c.value) s
  forEach 4 (groupTick tick l) { s with trg := { s.trg with horizon := tick + 1 } }

def evalTo (h : Nat) : Nat → State → State
  | 0, s => s
  | fuel + 1, s => match s.nextTick h with
    | none => { s with trg := { s.trg with horizon := max s.trg.horizon h } }
    | some t => evalTo h fuel (evalTick t s)

/-- Room for every tick that `evalTo` can meet. -/
def State.evalFuel (s : State) : Nat :=
  s.trg.events.length * 2 + (s.trg.slots.map fun x => x.waits.length).sum + 64

/-! ### What is classified (R210, R226, R230) -/

/-- The first tick of a group with triggers that are still to be classified: none can come before it any more. A group with
bus in waits for messages besides. DEDUCED (log entry 12). -/
def State.classifiedBefore (s : State) (g : Nat) : Nat :=
  let t := s.tg g
  let limit := match t.queue with
    | q :: _ => min s.settledTo (q.instant / 65536)
    | [] => s.settledTo
  if s.watches g limit ∧ t.flags.testBit 3 then
    min limit (max (128 * (s.sg g).armFrame) (s.time.tick - s.ticksOfUs s.trg.busWait))
  else limit

/-- The latest tick that every group has classified. -/
def State.classifiedTo (s : State) : Nat := ((List.range 4).map s.classifiedBefore).foldl min s.settledTo - 1

/-- A status is never as of an earlier tick than the latest classified one: what stood before it is let go. -/
def prunePast (s : State) : State :=
  let t := s.classifiedTo
  { s with trg := { s.trg with
      past := s.trg.past.map fun l => l.filter fun e => decide (t < e.1)
      windowPast := s.trg.windowPast.map fun l => l.filter fun e => decide (t < e.1)
      condPast := s.trg.condPast.filter fun e => decide (t < e.1)
      tokenPast := s.trg.tokenPast.filter fun e => decide (t < e.1) } }

/-- Evaluate every tick that is known on every source. -/
def evaluate (s : State) : State := prunePast (forEach 4 settleHits (evalTo s.knownTo s.evalFuel s))

end Sys2Proof.Machine
end

