-- ==== Sys2Proof/Machine/SegOps.lean ====
section
/-! DEFINITION. Segmented capture: the geometry of blocks and segments (R250 to R263), the stop of a capture (R265, R266),
markers and the acceptance of a trigger (R206 to R212, R260). -/

namespace Sys2Proof.Machine

/-! ### Geometry -/

/-- Positions per strand (R250). -/
def perStrand : Nat → Nat
  | 0 => 16
  | 1 => 8
  | _ => 12

/-- Inputs of a mask, lowest first. -/
def inputsIn (mask : Nat) : List Nat := (List.range 8).filter mask.testBit

def lowestIn (mask : Nat) : Nat := (inputsIn mask).headD 0

/-- Rank of an input in a mask (R255). -/
def rankIn (mask n : Nat) : Nat := ((inputsIn mask).filter (· < n)).length

def roundUp (a n : Nat) : Nat := (n + a - 1) / a * a

/-- Offset A of the side bits, size Bs of an input's side bits, and block size B (R255). -/
def SegConfig.sideBase (c : SegConfig) : Nat := roundUp 64 (24 * c.strands * (inputsIn c.mask).length)
def SegConfig.sideSize (c : SegConfig) : Nat := roundUp 64 ((c.strands + 1) / 2)
def SegConfig.block (c : SegConfig) : Nat := c.sideBase + (inputsIn c.mask).length * c.sideSize + 128

/-- Slots K of a group (R256). -/
def SegConfig.slots (c : SegConfig) : Nat := min (c.tableSize / 64) (c.dataSize / c.block)

/-- The power-on configuration (R254). -/
def SegConfig.unset (c : SegConfig) : Bool := c.mask = 0

def SegConfig.slotOf (c : SegConfig) (i : Nat) : Nat := if c.slots = 0 then 0 else i % c.slots
def SegConfig.blockAt (c : SegConfig) (slot : Nat) : Nat := c.dataBase + c.block * slot
def SegConfig.postmarkAt (c : SegConfig) (slot : Nat) : Nat := c.tableBase + 64 * slot

/-- Positions per strand of a group. -/
def State.groupQ (s : State) (g : Nat) : Nat := perStrand (s.fin (lowestIn (s.sg g).config.mask)).mode

/-- The lowest-numbered input of a group's mask: its outputs number the positions. -/
def State.groupLow (s : State) (g : Nat) : Nat := lowestIn (s.sg g).config.mask

/-- Frames by which Pre-fill follows a store that starts at frame `f` (R209, R261). DEDUCED (log entry 10). -/
def State.preFill (s : State) (g f : Nat) : Nat :=
  let c := (s.sg g).config
  let n := s.groupLow g
  let pre := c.span - c.post
  if c.unset ∨ pre = 0 then 0
  else ((s.posTick n (s.posFrom n (128 * f : Nat) + pre) - (128 * f : Nat) + 127) / 128).toNat

/-- The hold of R263 in ns, rounded up. -/
def State.hold (s : State) (g : Nat) : Nat :=
  let c := (s.sg g).config
  let r := 4 * s.clk.core
  let wait := 10230 + if (s.tg g).flags.testBit 3 then 1000 * s.trg.busWait else 0
  (wait * r - c.post * s.positionSpacing (s.groupLow g) * 1000 + r - 1) / r

/-- The hold in grid ticks, rounded up. -/
def State.holdTicks (s : State) (g : Nat) : Nat := (s.hold g * 4 * s.clk.core + 999) / 1000

/-- Capture demand of the armed groups in MB/s (R401). -/
def State.demand (s : State) : Nat :=
  ((List.range 4).map fun g =>
    let x := s.sg g
    if x.armed then
      ((inputsIn x.config.mask).map fun n =>
        24 * 4 * s.clk.core * 1000 / (perStrand (s.fin n).mode * s.positionSpacing n)).sum
    else 0).sum / 1000

/-! ### Group states (R207 to R209) -/

/-- State of a group at a tick, as a view has it. -/
def TrigView.state (x : TrigView) (tick : Nat) : TrigState :=
  let t := x.group
  let after (r : Option Nat) : Bool := match r with | some r => decide (r ≤ tick) | none => false
  if ¬ (x.watched ∧ 128 * x.armFrame ≤ tick) then .disarmed
  else if t.accepted.isSome ∧ tick ≤ t.fillEnd then .fill
  else if after x.stopTick then .fill
  else if after t.readyTick then .ready
  else if after t.rearmEnd then .prefill
  else .rearm

/-- DEDUCED (log entry 12). -/
def State.groupState (s : State) (g tick : Nat) : TrigState := (s.view g).state tick

def TrigState.code : TrigState → Nat
  | .disarmed => 0
  | .prefill => 1
  | .ready => 2
  | .fill => 3
  | .rearm => 4

/-! ### The end of Fill, Re-arm and Pre-fill -/

/-- The segment in Fill is complete once frame L lies behind `tick`: it waits to be written, and the next store starts
(R209, R253, R275). -/
def endFill (g tick : Nat) (s : State) : State :=
  match (s.sg g).filling with
  | none => s
  | some f =>
    if tick ≤ f.fillEnd then s
    else
      let next := (s.sg g).nextSeq - (s.sg g).firstSeq
      updSg g (fun x => { x with filling := none, writing := x.writing ++ [{ f with filled := x.filled, landed := x.landed }]
                                 landed := List.replicate 8 0
                                 storeFrame := frameOf (f.fillEnd + 1), filled := decide (next < x.config.slots) }) s

/-- Tokens in the bucket just after a frame's boundary, with no group taking one (R208). -/
def State.tokensAt (s : State) (frame : Nat) : Nat := min 8 (s.trg.tokens + (frame / 8 - s.trg.tokenFrame / 8))

/-- The bucket changes at the boundary of a frame. -/
def setTokens (tokens frame : Nat) (s : State) : State :=
  { s with trg := { s.trg with
      tokens := tokens, tokenFrame := frame
      tokenPast := (128 * frame, s.trg.tokens, s.trg.tokenFrame) :: s.trg.tokenPast } }

/-- The frame at whose boundary a group in Re-arm takes its token, if no other group takes one before: the boundary of frame
L + 5, or the first later one at which there is a token. None while it does not wait, or stops before.
DEDUCED (log entry 74). -/
def State.takesAt (s : State) (g : Nat) : Option Nat :=
  let t := s.tg g
  let x := s.sg g
  let due := max (frameOf t.fillEnd + 5) s.trg.tokenFrame
  let at_ := if 0 < s.tokensAt due then due else s.trg.tokenFrame / 8 * 8 + 8
  let stopped := match x.stopTick with | some a => decide (a ≤ 128 * at_) | none => false
  if t.accepted.isNone ∨ t.rearmEnd.isSome ∨ ¬ s.watches g (128 * at_) ∨ stopped = true then none else some at_

/-- The last frame for which it is known which groups take tokens: a group can wait for one again 5 frames after a trigger that
is still to be classified, at the earliest. DEDUCED (log entry 74). -/
def State.tokensKnown (s : State) : Nat :=
  (List.range 4).foldl (fun m g =>
    if ¬ (s.view g).watched then m
    else min m (frameOf (s.classifiedBefore g) + if (s.takesAt g).isSome then 0 else 4)) (frameOf s.time.tick)

/-- The group that takes the next token, the lowest-numbered of those at one boundary, and the frame. -/
def State.nextTake (s : State) : Option (Nat × Nat) :=
  (List.range 4).foldl (fun m g => match s.takesAt g, m with
    | some f, some b => if f < b.2 then some (g, f) else m
    | some f, none => some (g, f)
    | none, _ => m) none

/-- A group leaves Re-arm at a frame's boundary with a token (R208). -/
def takeToken (g frame : Nat) (s : State) : State :=
  let t := s.tg g
  let store := frameOf (t.fillEnd + 1)
  let ready := if t.flags.testBit 1 then max frame (store + s.preFill g store) else frame
  let s := setTokens (s.tokensAt frame - 1) frame (keepView g (128 * frame) s)
  let s := updTg g (fun t => { t with rearmEnd := some (128 * frame), readyTick := some (128 * ready) }) s
  if ready = frame then markReady g true s else s

def takeTokens : Nat → State → State
  | 0, s => s
  | fuel + 1, s => match s.nextTake with
    | some (g, f) => if f ≤ s.tokensKnown then takeTokens fuel (takeToken g f s) else s
    | none => s

/-- Every token whose taker is known is taken: at most one by each group. -/
def settleTokens (s : State) : State := takeTokens 4 s

/-- Bring a group's cycle up to a tick. -/
def settleGroup (g tick : Nat) (s : State) : State := settleTokens (endFill g tick s)

/-! ### Acceptance (R206, R210, R212, R260) -/

/-- The configured mask less the inputs removed up to a tick. -/
def SegGroup.maskAt (x : SegGroup) (tick : Nat) : Nat :=
  (inputsIn x.config.mask).foldl (fun m n =>
    if x.removed.any fun r => r.1 = n ∧ r.2 ≤ tick then m else m + 2 ^ n) 0

/-- The time-unaligned flag at a tick (R267, R487). -/
def State.unalignedAt (s : State) (tick : Nat) : Bool := pastAt tick (s.sync.unaligned || s.sync.lost) s.sync.alignPast

/-- The segment that a trigger starts. -/
def makeSegment (g : Nat) (q : Trigger) (s : State) : Segment :=
  let x := s.sg g
  let t := s.tg g
  let c := x.config
  let n := s.groupLow g
  let idx := q.instant / 65536
  let store := s.posFrom n (128 * x.storeFrame : Nat)
  let trig := s.posAt n idx
  let wanted := trig - (c.span - c.post : Nat)
  let first := max wanted store
  let last := max (trig + c.post - 1) store
  let endTick := ((inputsIn c.mask).map fun m => (s.posTick m (last + 1 - x.shifts.getD m 0) - 1).toNat).foldl max 0
  let ready := match t.readyTick with | some r => frameOf r | none => x.storeFrame
  let time := s.timeAt idx
  { sequence := x.nextSeq, slot := c.slotOf (x.nextSeq - x.firstSeq), trigger := q, mask := x.maskAt idx
    epoch := time.2, time := time.1, unaligned := s.unalignedAt idx
    store := store, first := first, last := last, trigPos := trig, short := decide (wanted < store)
    captured := (if trig < store then 0 else trig - first).toNat
    dead := ready - x.storeFrame, missedFill := t.spanFill, missedRearm := t.spanRearm, missedPrefill := t.spanPrefill
    wrapped := decide (c.slots ≤ x.nextSeq - x.firstSeq)
    stepped := s.time.steps.any fun e => decide (idx < e.1 ∧ e.1 ≤ 128 * frameOf endTick + 127)
    fillEnd := 128 * (frameOf endTick) + 127, armTick := 128 * x.armFrame, capture := x.captures }

/-- The stop reason that the segment numbered `i` of the capture brings, 0 for none (R257). -/
def SegConfig.stopAfter (c : SegConfig) (i : Nat) : Nat :=
  if c.count ≠ 0 ∧ i + 1 = c.count then 3 else if c.layout = 0 ∧ i + 1 = c.slots then 4 else 0

/-- The sequence number rises; multiples of 2^32 are recorded (R272). -/
def raiseSequence (g : Nat) (s : State) : State :=
  let q := (s.sg g).nextSeq + 1
  let s := updSg g (fun x => { x with nextSeq := q }) s
  if q % 2 ^ 32 = 0 then record 0x0703 [r1 g, r8 q] s else s

/-- An accepted trigger goes out on the trigger bus (R224). -/
def sendTrigger (g : Nat) (q : Trigger) (s : State) : State :=
  if ¬ (s.tg g).flags.testBit 4 ∨ q.order = 1 then s
  else if 64 ≤ s.trg.out.length then
    recordLimited 0x0501 0 psPerMs []
      (updTg g (fun t => { t with counts := { t.counts with busDropped := satInc 32 t.counts.busDropped } }) s)
  else { s with trg := { s.trg with out := s.trg.out ++ [{
      group := g, index := ((q.instant / 65536 : Nat) + s.sync.delta).toNat, fraction := q.instant % 65536, code := q.code }] } }

/-- The stop frame of a stopping accumulator lies after an instant (R286). -/
def Accumulator.takes (a : Accumulator) (instant : Nat) : Bool :=
  decide (a.st = .running ∧ a.from_ ≤ instant) && match a.stopping with
    | some x => decide (instant < x.1 * 65536)
    | none => true

/-- Ready or Running (R284, R299). -/
def Accumulator.active (x : Accumulator) : Bool := decide (x.st = .ready ∨ x.st = .running)

/-- The head segment of an accumulator from its anchor: values by position, `none` where a sample is missing. -/
def headSpan (x : Accumulator) (k anchor : Nat) : List (Option (Nat × Int × Bool)) :=
  (List.range x.config.headSpan).map fun (i : Nat) =>
    let t : Int := (anchor : Int) + ((i : Int) - x.config.headPre) * (2 ^ k : Nat)
    x.held.find? fun h => (h.1 : Int) = t

/-- A head segment whose last sample has come, or can come no more. -/
def finishCut (k sequence instant : Nat) (anchor : Option Nat) (x : Accumulator) : Accumulator :=
  let l := match anchor with
    | some a => headSpan x k a
    | none => [none]
  let f : HamSegment :=
    { sequence := sequence, instant := instant, noData := l.any Option.isNone
      suspect := l.any fun h => match h with | some h => h.2.2 | none => false
      values := [l.map fun h => match h with | some h => [h.2.1] | none => [0]] }
  { x with cut := none, waiting := x.waiting ++ [f] }

/-- The head segment under way: its anchor is the first sample held whose place on the grid lies at or after the trigger instant,
and it is complete once its last sample has come (R291). `place` gives the grid tick of a head time. -/
def settleCut (k : Nat) (place : Nat → Nat) (x : Accumulator) : Accumulator :=
  match x.cut with
  | none => x
  | some (sequence, instant, anchor) =>
    let found := if anchor ≠ 0 then anchor
      else match (x.held.takeWhile fun h => decide (instant ≤ place h.1 * 65536)).getLast? with
        | some h => h.1 + 1
        | none => 0
    let x := { x with cut := some (sequence, instant, found) }
    let newest := match x.held with | h :: _ => h.1 | [] => 0
    if 0 < found ∧ found - 1 + (x.config.headSpan - x.config.headPre - 1) * 2 ^ k ≤ newest then
      finishCut k sequence instant (some (found - 1)) x
    else x

/-- A running head accumulator of the group starts a head segment, unless one is under way. -/
def cutHead (g sequence instant : Nat) (a : Accumulator) : Accumulator :=
  if a.config.kind = 1 ∧ a.config.group = g ∧ a.takes instant then
    match a.cut with
    | some _ => { a with skipped := a.skipped.set 4 (satInc 32 (a.skipped.getD 4 0)) }
    | none => { a with cut := some (sequence, instant, 0) }
  else a

/-- Head accumulators of the group cut a segment at an accepted trigger (R291). -/
def cutHeads (g sequence instant : Nat) (s : State) : State :=
  { s with ham := { s.ham with accs := s.ham.accs.map fun a =>
      (settleCut (s.head a.config.port a.config.position).k s.headTick (cutHead g sequence instant a)) } }

/-- A segment of a group goes to the accumulator whose run it belongs to (R286 to R288). -/
def handSegment (g : Nat) (f : HamSegment) (s : State) : State :=
  { s with ham := { s.ham with accs := s.ham.accs.map fun x =>
      if x.config.kind = 0 ∧ x.config.group = g ∧ x.takes f.instant then { x with waiting := x.waiting ++ [f] } else x } }

/-- The segment in Fill is discarded; its number is used up (R265). The counts and the dead time of its span are those of the
span after the last written segment (R266).
The hamper counts it as skipped for want of data (R288). -/
def discardFill (g : Nat) (s : State) : State :=
  match (s.sg g).filling with
  | none => s
  | some f =>
    handSegment g { sequence := f.sequence, instant := f.trigger.instant, short := f.short, noData := true, values := [] } <|
    updTg g (fun t => { t with
      spanFill := min 0xFFFFFFFF (t.spanFill + f.missedFill), spanRearm := min 0xFFFFFFFF (t.spanRearm + f.missedRearm)
      spanPrefill := min 0xFFFFFFFF (t.spanPrefill + f.missedPrefill), spanDead := f.dead })
      (updSg g (fun x => { x with filling := none, discarded := some f.sequence }) s)

/-- A trigger that ends the capture by itself stops the group (R257). A trigger that is classified only after a
SEG_STOP was accepted, and whose segment was in Fill then, meets that stop (R265): an abort discards the segment, a stop
without abort lets it be completed, and a capture that the segment itself ends keeps its own reason.
DEDUCED (log entry 12). DEDUCED (log entry 14). -/
def meetStop (g stop tick fillEnd : Nat) (s : State) : State :=
  let late := (s.sg g).stopTick.any fun a => decide (a ≤ fillEnd)
  if (s.sg g).abortTick.any (fun a => decide (a ≤ fillEnd)) then
    discardFill g (updSg g (fun x => { x with
      state := .stopping, reason := if x.reason = 5 then 5 else 2, stopTick := x.abortTick }) s)
  else if stop ≠ 0 then
    updSg g (fun x => { x with state := .stopping, reason := stop, stopTick := some tick }) s
  else if late = true ∧ (s.sg g).reason = 1 then
    updSg g (fun x => { x with filling := x.filling.map fun f => { f with underStop := true } }) s
  else s

/-- A trigger is accepted: a segment starts, holdoff restarts, counts of the span restart. -/
def acceptTrigger (g : Nat) (q : Trigger) (s : State) : State :=
  let s := endFill g (q.instant / 65536) s
  let x := s.sg g
  let f := makeSegment g q s
  let t := s.tg g
  let h := t.holdoff
  let stop := x.config.stopAfter (x.nextSeq - x.firstSeq)
  let s := updTg g (fun t => { t with
    accepted := some q.instant, fillEnd := f.fillEnd, rearmEnd := none, readyTick := none, short := f.short
    holdEnd := if t.flags.testBit 2 ∨ h = 0 then none else some (q.instant + 128 * h * 65536)
    holdLeft := if t.flags.testBit 2 then h else 0
    spanFill := 0, spanRearm := 0, spanPrefill := 0, spanDead := 0
    counts := { t.counts with
      accepted := satInc 64 t.counts.accepted
      forced := if q.order = 2 then satInc 32 t.counts.forced else t.counts.forced
      busAccepted := if q.order = 1 then satInc 32 t.counts.busAccepted else t.counts.busAccepted } }) s
  let s := updSg g (fun x => { x with filling := some f }) s
  let s := raiseSequence g s
  let s := sendTrigger g q s
  let s := markAccepted g q.instant f.fillEnd s
  let s := cutHeads g f.sequence q.instant s
  let s := meetStop g stop (q.instant / 65536) f.fillEnd s
  let s := capture (0x20 + g) (((s.time.ps : Int) - s.psOf (q.instant / 65536)) / 1000) s
  replyOpt q.waiter OK [] s

/-- Holdoff is active for a trigger (R206): a forced trigger bypasses it. -/
def heldOff (t : TrigGroup) (q : Trigger) : Bool :=
  q.order ≠ 2 && ((match t.holdEnd with | some e => decide (q.instant < e) | none => false) || decide (0 < t.holdLeft))

/-- Classify one qualifying trigger (R210, R213). -/
def classify (g : Nat) (q : Trigger) (s : State) : State :=
  let tick := q.instant / 65536
  let s := keepView g tick (settleGroup g tick s)
  let count (f : TrigCounts → TrigCounts) (s : State) : State := updTg g (fun t => { t with counts := f t.counts }) s
  let st := s.groupState g tick
  if st = .disarmed then replyOpt q.waiter WRONG_STATE [] s
  else if (s.sg g).reason = 6 ∧ (s.sg g).stopTick.isSome ∧ (s.sg g).stopTick.getD 0 ≤ tick then replyOpt q.waiter BUSY [] s
  else if heldOff (s.tg g) q then
    count (fun c => { c with heldOff := satInc 32 c.heldOff }) (updTg g (fun t => { t with holdLeft := t.holdLeft - 1 }) s)
  else if st = .ready then acceptTrigger g q s
  else if q.order = 2 then replyOpt q.waiter BUSY [] s
  else match st with
    | .fill => count (fun c => { c with fill := satInc 32 c.fill })
        (updTg g (fun t => { t with spanFill := satInc 32 t.spanFill }) s)
    | .rearm => count (fun c => { c with rearm := satInc 32 c.rearm })
        (updTg g (fun t => { t with spanRearm := satInc 32 t.spanRearm }) s)
    | _ => count (fun c => { c with prefill := satInc 32 c.prefill })
        (updTg g (fun t => { t with spanPrefill := satInc 32 t.spanPrefill }) s)

/-! ### The end of a capture (R265, R266) -/

/-- Dead time of the span after the last segment, in frames, up to the stop frame. -/
def State.lastDead (s : State) (g stopFrame : Nat) : Nat :=
  let t := s.tg g
  let start := if t.accepted.isSome then frameOf (t.fillEnd + 1) else (s.sg g).armFrame
  let ready := match t.readyTick with | some r => frameOf r | none => stopFrame
  min ready stopFrame - start

/-- CAPTURE_STOPPED, and the group is disarmed; those who wait get their replies. DEDUCED (log entry 66). -/
def endCapture (g stopFrame : Nat) (s : State) : State :=
  let s := keepWindow g (128 * stopFrame) (keepView g (128 * stopFrame) s)
  let x := s.sg g
  let t := s.tg g
  let s := record 0x0702 [r1 g, r4 x.captures, r4 x.reason, r8 x.firstSeq, r8 x.lastWritten, r4 x.written,
    r4 x.discarded.isSome.toNat, r8 (x.discarded.getD 0), r8 (128 * stopFrame), r4 t.spanFill, r4 t.spanRearm,
    r4 t.spanPrefill, r4 (t.spanDead + s.lastDead g stopFrame)] s
  let forced := t.queue.filterMap (·.waiter)
  let s := updSg g (fun x => { x with
    state := .disarmed, lastReason := x.reason, filling := none, writing := [], stopTick := none, abortTick := none
    stopWaiters := [], positions := List.replicate 8 [] }) s
  let s := updTg g (fun t => { t with queue := [], hits := [], seqEnd := none }) s
  let s := markReady g false s
  let s := forAll forced (fun w => reply w WRONG_STATE []) s
  forAll x.stopWaiters (fun w => reply w OK []) s

/-- A reset of the sync domain stops a group at its tick, as under abort (R492). DEDUCED (log entry 13). -/
def resetCapture (g tick : Nat) (s : State) : State :=
  let s := endFill g tick s
  match (s.sg g).state with
  | .capturing | .stopping =>
    discardFill g (updSg g (fun x => { x with
      state := .stopping, reason := 5, stopTick := some tick, abortTick := some (x.abortTick.getD tick) }) s)
  | _ => s

/-- A capture ends at once with a reason, as a halt ends it (R266, R548). -/
def abortCapture (g reason : Nat) (s : State) : State :=
  let x := s.sg g
  match x.state with
  | .capturing | .stopping => endCapture g s.nextBoundary (updSg g (fun x => { x with reason := reason }) (discardFill g s))
  | _ => s

end Sys2Proof.Machine
end

