-- ==== Sys2Proof/Machine/Trigger.lean ====
section
/-! DEFINITION. The trigger system: the commands of group 0x05, classification, the group cycle, trigger inputs, the
trigger bus and the markers. -/

namespace Sys2Proof.Machine

/-! ### Commands -/

/-- Slots of types 3, 4 and 6 on an input need comparator 0 above comparator 1 on one source (R192, R197). -/
def windowOk (c0 c1 : Int × Nat) : Bool := decide (c1.1 < c0.1 ∧ c0.2 = c1.2)

def State.windowUsers (s : State) (n : Nat) : Bool :=
  s.trg.slots.any fun x => isWindowType x.latest.type && x.latest.source = n

/-- The request would break the condition of R192 for a slot of type 3, 4 or 6. -/
def comparatorOk (s : State) (q : Request) : Bool :=
  let n := q.u8 0
  let new := (q.i16 4, q.u8 2)
  let other := (s.comparator n (1 - q.u8 1)).latest
  ! s.windowUsers n || (if q.u8 1 = 0 then windowOk new other else windowOk other new)

def trigSetComparatorCmd : Cmd :=
  setCmd 0x0501 40
    (fun s q =>
      let wide := q.u8 2 = 1
      [inputField s (q.u8 0), within 0 1 (q.u8 1), within 0 1 (q.u8 2), reserved q 3 1,
        if wide then within (-32768) 32767 (q.i16 4) else within (-2048) 2047 (q.i16 4),
        allowed (comparatorOk s q),
        within 0 (if wide then 16383 else 1023) (q.u16 6)])
    (fun _ _ => none)
    (fun q s => updComparator (q.u8 0) (q.u8 1)
      (fun x => { x with waits := x.waits ++ [(q.u8 2, q.i16 4, q.u16 6, s.nextBoundary)] }) s)
def execTrigSetComparator (q : Request) (s : State) : Result := .next (runRequest trigSetComparatorCmd q s)

/-- Option bits that a slot type uses (R196). -/
def optionMask : Nat → Nat
  | 1 => 3
  | 2 => 7
  | 3 => 2
  | 4 => 6
  | 5 => 15
  | 6 => 14
  | 7 => 6
  | 8 => 2
  | 9 => 6
  | 10 => 2
  | _ => 0

def hasDirection (t : Nat) : Bool := decide (t = 2 ∨ t = 4 ∨ t = 7 ∨ t = 9)

/-- The source of a slot type (R196): an input, which may be IN(2k+1) of a pair (R118), a tach input, a trigger input, an
alarm group. -/
def sourceOk (t src : Nat) : Bool := if t ≤ 7 then src ≤ 7 else src ≤ 3

/-- The comparators of the input meet the condition of R192. -/
def State.windowReady (s : State) (n : Nat) : Bool := windowOk (s.comparator n 0).latest (s.comparator n 1).latest

/-- The field checks of R195 and R197, in ascending offset order. -/
def conditionFields (s : State) (q : Request) : List Check :=
  let t := q.u8 1
  let opt := q.u8 3
  let timed := decide (t = 5 ∨ t = 6)
  let qual := opt / 4 % 4
  let usesLow := timed && qual != 0
  let usesHigh := timed && qual != 1
  [within 0 31 (q.u8 0), within 0 11 t,
    if t = 0 then reserved q 2 1 else allowed (sourceOk t (q.u8 2) ∧ (isWindowType t → s.windowReady (q.u8 2))),
    failWhen (opt &&& optionMask t ≠ opt) RESERVED_NONZERO,
    failWhen (hasDirection t ∧ opt / 2 % 4 = 0) OUT_OF_RANGE,
    if usesLow then notZero (q.u32 4) else reserved q 4 4,
    if usesLow && usesHigh then allowed (q.u32 4 ≤ q.u32 8 ∨ q.u32 8 = 0) else none,
    if usesHigh then notZero (q.u32 8) else reserved q 8 4,
    if isPulse t then notZero (q.u16 12) else reserved q 12 2,
    reserved q 14 2]

def trigSetConditionCmd : Cmd :=
  setCmd 0x0502 48 conditionFields
    (fun s q => rejectWhen (s.slotLocked (q.u8 0)) WRONG_STATE)
    (fun q s => updSlot (q.u8 0) (fun x => { x with waits := x.waits ++ [(
      { type := q.u8 1, source := q.u8 2, options := q.u8 3, low := q.u32 4, high := q.u32 8, stretch := q.u16 12 },
      s.nextBoundary)] }) s)
def execTrigSetCondition (q : Request) (s : State) : Result := .next (runRequest trigSetConditionCmd q s)

def trigSetPatternCmd : Cmd :=
  setCmd 0x0503 48
    (fun _ q => [within 0 3 (q.u8 0), within 0 1 (q.u8 1), within 0 1 (q.u8 2), reserved q 3 1,
      failWhen (q.u32 8 &&& q.u32 4 ≠ q.u32 8) RESERVED_NONZERO, reserved q 12 4])
    (fun s q => rejectWhen (s.armed (q.u8 0)) WRONG_STATE)
    (fun q s =>
      let p : Pattern := { any_ := q.u8 2 = 1, care := q.u32 4, value := q.u32 8 }
      updTg (q.u8 0) (fun t => if q.u8 1 = 0 then { t with a := p } else { t with b := p }) s)
def execTrigSetPattern (q : Request) (s : State) : Result := .next (runRequest trigSetPatternCmd q s)

def trigSetGroupCmd : Cmd :=
  setCmd 0x0504 48
    (fun _ q => [within 0 3 (q.u8 0), reservedBits q 1 5,
      if q.bit 1 3 then reservedBits q 2 4 else reserved q 2 1,
      failWhen (q.bit 1 3 ∧ q.u8 2 = 0) OUT_OF_RANGE, reserved q 3 1,
      if q.bit 1 0 then notZero (q.u32 4) else reserved q 4 4, reserved q 12 4])
    (fun s q => rejectWhen (s.armed (q.u8 0) ∨ s.lockHeld) WRONG_STATE)
    (fun q s => updTg (q.u8 0)
      (fun t => { t with flags := q.u8 1, busGroups := q.u8 2, window := q.u32 4, holdoff := q.u32 8 }) s)
def execTrigSetGroup (q : Request) (s : State) : Result := .next (runRequest trigSetGroupCmd q s)

/-- A group with bus in is armed (R227). -/
def State.busArmed (s : State) : Bool := (List.range 4).any fun g => s.armed g && (s.tg g).flags.testBit 3

def trigSetBusCmd : Cmd :=
  setCmd 0x0505 40 (fun _ q => [counted 100 (q.u16 0), reserved q 2 6])
    (fun s _ => rejectWhen (s.busArmed ∨ s.lockHeld) WRONG_STATE)
    (fun q s => { s with trg := { s.trg with busWait := q.u16 0 } })
def execTrigSetBus (q : Request) (s : State) : Result := .next (runRequest trigSetBusCmd q s)

def trigSetMarkerCmd : Cmd :=
  setCmd 0x0506 44
    (fun _ q =>
      let m := q.u8 1
      [within 0 3 (q.u8 0), within 0 6 m,
        if 1 ≤ m ∧ m ≤ 4 then within 0 3 (q.u8 2) else if m = 5 then within 0 31 (q.u8 2) else reserved q 2 1,
        reserved q 3 1,
        if m = 1 ∨ m = 2 then firstFailure [notZero (q.u32 4), within 4 65535 (q.u32 4)] else reserved q 4 4,
        if m = 2 ∨ m = 3 ∨ m = 5 then within 11000 1000000 (q.u32 8) else reserved q 8 4])
    (fun _ _ => none)
    (fun q s =>
      let m := q.u8 0
      let s := followClock m (updMarker m (fun x => { x with
        mode := q.u8 1, select := q.u8 2, width := q.u32 4, delay := q.u32 8, due := [] }) s)
      driveMarker m (if q.u8 1 = 4 then s.groupState (q.u8 2) s.classifiedTo = .ready
                     else if q.u8 1 = 5 then (s.slot (q.u8 2)).value else false) s)
def execTrigSetMarker (q : Request) (s : State) : Result := .next (runRequest trigSetMarkerCmd q s)

/-- DEDUCED (log entry 8). -/
def trigForceCmd : Cmd :=
  { opcode := 0x0507, classC := true, lengths := lenIs 40, needsRun := true
    checks := fun _ q => [within 0 3 (q.u8 0), reserved q 1 7]
    reject := fun s q =>
      rejectWhen (¬ s.watches (q.u8 0) (128 * s.inp.nextFrame)) WRONG_STATE
    act := fun w q s =>
      queueTrigger (q.u8 0) { instant := 128 * s.inp.nextFrame * 65536, order := 2, code := 0x0340, waiter := some w } s }
def execTrigForce (q : Request) (s : State) : Result := .next (runRequest trigForceCmd q s)

/-- A group as of a tick (R230). -/
def State.viewAt (s : State) (g tick : Nat) : TrigView := pastAt tick (s.view g) (s.trg.past.getD g [])

/-- A group's sequence window and its timeouts as of a tick. -/
def State.windowAt (s : State) (g tick : Nat) : Option Nat × Nat :=
  pastAt tick ((s.tg g).seqEnd, (s.tg g).counts.timeouts) (s.trg.windowPast.getD g [])

/-- The slots' states as of a tick. -/
def State.condAt (s : State) (tick : Nat) : Nat := pastAt tick s.cond s.trg.condPast

/-- The bucket as of a tick. -/
def State.tokensOf (s : State) (tick : Nat) : Nat :=
  let b := pastAt tick (s.trg.tokens, s.trg.tokenFrame) s.trg.tokenPast
  min 8 (b.1 + (frameOf tick / 8 - b.2 / 8))

def trigGroupRecord (s : State) (tick g : Nat) : List Byte :=
  let v := s.viewAt g tick
  let t := v.group
  let x := s.sg g
  let c := t.counts
  let w := s.windowAt g tick
  let left := match t.holdEnd with
    | some e => if tick * 65536 < e then (e - tick * 65536 + 128 * 65536 - 1) / (128 * 65536) else 0
    | none => t.holdLeft
  let window := match w.1 with | some e => decide (tick * 65536 ≤ e) | none => false
  u8 (v.state tick).code ++ u8 (ofBits [decide (0 < left), window, t.short]) ++ u16 0 ++ u32 left
    ++ u64 (if x.everArmed then 128 * x.armFrame else 0) ++ u64 c.accepted ++ u32 c.rearm ++ u32 c.fill ++ u32 c.prefill
    ++ u32 c.heldOff ++ u32 w.2 ++ u32 c.forced ++ u32 c.busAccepted ++ u32 c.busLate ++ u32 c.busDropped ++ u32 0

/-- As of the latest tick that every group has classified (R230). -/
def trigPayload (s : State) (_ : Request) : List Byte :=
  let s := settleTokens s
  let tick := s.classifiedTo
  u32 (s.condAt tick) ++ u32 (ofBits ((List.range 32).map s.slotLocked)) ++ u32 s.trg.messages ++ u16 s.trg.crcErrors
    ++ u8 s.trg.busWait ++ u8 (s.tokensOf tick) ++ (List.range 4).flatMap (trigGroupRecord s tick)

def trigGetStatusCmd : Cmd := readCmd 0x0508 32 (fun _ _ => []) trigPayload
def execTrigGetStatus (q : Request) (s : State) : Result := .next (runRequest trigGetStatusCmd q s)

/-! ### Classification and the group cycle -/

/-- A trigger may be classified: no earlier one can come any more (R210), with bus in the bus wait has passed since its instant
(R226), and where the group waits for a token, it is known which groups have taken one by then. -/
def State.mayClassify (s : State) (g : Nat) (q : Trigger) : Bool :=
  let tick := q.instant / 65536
  decide (tick < s.settledTo)
    && (! (s.tg g).flags.testBit 3 || decide (tick + s.ticksOfUs s.trg.busWait < s.time.tick))
    && match s.takesAt g with
      | some f => decide (frameOf tick < f ∨ frameOf tick ≤ s.tokensKnown)
      | none => true

/-- TRIGGER_CLASSIFIED (R210): the earliest trigger that waits. -/
def execTriggerClassified (at_ group : Nat) (s : State) : Result :=
  let s := settleTokens (evaluate (advance at_ s))
  .next (match (s.tg group).queue with
    | [] => s
    | q :: rest =>
      if s.mayClassify group q then
        settleTokens (classify group q (updTg group (fun t => { t with queue := rest }) s))
      else s)

/-- FILL_END (R207). -/
def execFillEnd (at_ group : Nat) (s : State) : Result := let s := advance at_ s; .next (endFill group s.time.tick s)

/-- RE_ARM_END (R208). -/
def execReArmEnd (at_ group : Nat) (s : State) : Result := let s := advance at_ s; .next (settleGroup group s.time.tick s)

/-- TOKEN_GAIN (R208): one token at the next frame whose index is a multiple of 8, once it is known which tokens are taken before
it. DEDUCED (log entry 74). -/
def execTokenGain (at_ : Nat) (s : State) : Result :=
  let s := settleTokens (advance at_ s)
  let f := s.trg.tokenFrame / 8 * 8 + 8
  .next (if s.tokensKnown < f then s else setTokens (s.tokensAt f) f s)

/-- PRE_FILL_END (R209): a gated group becomes Ready; its ready tick was fixed when Pre-fill began. -/
def execPreFillEnd (at_ group : Nat) (s : State) : Result :=
  let s := advance at_ s
  .next (match (s.tg group).readyTick with
    | some r => if (s.tg group).flags.testBit 1 ∧ r ≤ s.time.tick then markReady group true s else s
    | none => s)

/-- HOLDOFF_END (R206). -/
def execHoldoffEnd (at_ group : Nat) (s : State) : Result :=
  let s := advance at_ s
  .next (match (s.tg group).holdEnd with
    | some e =>
      if e ≤ s.classifiedTo * 65536 then updTg group (fun t => { t with holdEnd := none }) s else s
    | none => s)

/-- SEQUENCE_WINDOW_CLOSE (R205). -/
def execSequenceWindowClose (at_ group : Nat) (s : State) : Result :=
  let s := evaluate (advance at_ s)
  .next (settleHits group s)

/-! ### Trigger inputs and alarm groups (R221, R222) -/

/-- TRIGIN_EDGE (R221): an edge as sampled, at its tick. -/
def execTriginEdge (at_ n : Nat) (rising : Bool) (tick : Nat) (s : State) : Result :=
  let s := advance at_ s
  .next (
    if 4 ≤ n ∨ s.trg.trigin.getD n false = rising then s
    else
      pushEvent { tick := tick, source := .trigin n rising, instant := tick * 65536 }
        { s with trg := { s.trg with trigin := s.trg.trigin.set n rising } })

/-! ### The trigger bus (R224 to R226, R478, R479) -/

/-- The bytes of a trigger frame after its type byte (R478). -/
def triggerFrame (module group index fraction code : Nat) : List Byte :=
  let b := u16 (module % 4096 + group % 4 * 4096) ++ u64 index ++ u16 fraction ++ u16 code
  b ++ u32 (crc32c b)

/-- TRIGBUS_FRAME_SENT: the oldest message of the queue has gone out (R224). -/
def execTrigbusFrameSent (at_ : Nat) (s : State) : Result :=
  let s := advance at_ s
  .next (match s.trg.out with
    | [] => s
    | m :: rest => emit .trigbus [0x01] (triggerFrame s.sync.id m.group m.index m.fraction m.code)
        { s with trg := { s.trg with out := rest } })

/-- A message qualifies in one group, or is late (R225, R226). -/
def busTrigger (m : TrigMessage) (g : Nat) (s : State) : State :=
  let t := s.tg g
  let idx : Int := (m.index : Int) - s.sync.delta
  if ¬ s.armed g ∨ ¬ t.flags.testBit 3 ∨ ¬ t.busGroups.testBit m.group ∨ ¬ s.watches g idx.toNat then s
  else if idx.toNat + s.ticksOfUs s.trg.busWait < s.time.tick then
    recordLimited 0x0502 g psPerMs [] (countPast g (fun c => { c with busLate := satInc 32 c.busLate }) s)
  else queueTrigger g { instant := idx.toNat * 65536 + m.fraction, order := 1, code := 0x41 + m.code / 256 * 256,
                        bus := some (m.module, m.group) } s

/-- TRIGBUS_MESSAGE_RECEIVED (R225): the leader also resends every good frame (R479). -/
def execTrigbusMessageReceived (at_ : Nat) (m : TrigMessage) (s : State) : Result :=
  let s := advance at_ s
  let bytes := triggerFrame m.module m.group m.index m.fraction m.code
  .next (
    if crc32c (bytes.take 14) ≠ m.crc then
      recordLimited 0x0503 0 psPerMs [] { s with trg := { s.trg with crcErrors := satInc 16 s.trg.crcErrors } }
    else
      let s := { s with trg := { s.trg with messages := satInc 32 s.trg.messages } }
      let s := if s.sync.role = 2 then emit .trigbus [0x01] bytes s else s
      if m.module = s.sync.id then s else forEach 4 (busTrigger m) s)

/-! ### Markers -/

/-- MARKER_EDGE (R228): the edge that is due first. -/
def execMarkerEdge (at_ marker : Nat) (s : State) : Result :=
  let s := advance at_ s
  .next (match (s.marker marker).due with
    | [] => s
    | e :: rest =>
      if s.time.ps < e.1 then s
      else driveMarker marker e.2 (updMarker marker (fun x => { x with due := rest }) s))

end Sys2Proof.Machine
end

