-- ==== Sys2Proof/Machine/Edge.lean ====
section
/-! DEFINITION. Edge timing: the commands of group 0x06, stamps, gates and angle references, PPSIN (R84, R231 to R249). -/

namespace Sys2Proof.Machine

def State.tach (s : State) (n : Nat) : Tach := s.edge.tachs.getD n {}
def updTach (n : Nat) (f : Tach → Tach) (s : State) : State :=
  { s with edge := { s.edge with tachs := updAt s.edge.tachs n f } }
def State.edgeSource (s : State) (n : Nat) : EdgeSource := s.edge.sources.getD n {}
def updSource (n : Nat) (f : EdgeSource → EdgeSource) (s : State) : State :=
  { s with edge := { s.edge with sources := updAt s.edge.sources n f } }

/-! ### Stamps (R234 to R238) -/

def EdgeSource.interp (x : EdgeSource) (i : Nat) : Interpolator := x.interps.getD i {}
def EdgeSource.upd (i : Nat) (f : Interpolator → Interpolator) (x : EdgeSource) : EdgeSource :=
  { x with interps := updAt x.interps i f }

/-- A raw reading corrected by the linearity table, in 1/1,000 fs: w0 is 1,220.703 fs. -/
def Interpolator.corrected (x : Interpolator) (r : Nat) : Int := r * 1220703 + 1000 * x.table.getD (r % 256) 0

/-- Periods from the edge to the second SYS0 edge after it as a quotient, and whether it is degraded (R237). -/
def Interpolator.periods (x : Interpolator) (r : EdgeReading) : (Int × Int) × Bool :=
  let pair := x.pair.getD (r.r1, r.r2)
  let c1 := x.corrected pair.1
  let g := x.corrected pair.2 - c1
  let y := x.corrected r.re - (c1 - g)
  if g ≤ 0 then ((if 0 < y then 2 else 1, 1), true)
  else
    let bad := decide (100 * y < 98 * g ∨ 202 * g < 100 * y)
    if bad then (if y < g then ((1, 1), true) else if 2 * g < y then ((2, 1), true) else ((y, g), true))
    else ((y, g), false)

/-- Both loops are locked to the same source, so that the mapping is exact (R234). -/
def State.mappingExact (s : State) : Bool :=
  decide ((s.loop 0).st = .locked ∧ (s.loop 1).st = .locked ∧ (s.loop 0).source = (s.loop 1).source)

/-- An edge before system time `ps` as measured, in 1/16 tick: halves rounded up. The second SYS0 edge after it lies at
the second multiple of 1,250 ps after the present one. -/
def State.stamp16 (s : State) (x : Int × Int) : Nat :=
  let edge : Int := 1250 * (s.time.ps / 1250 + 2 : Nat)
  -- the grid-tick count there, in units of 1 / (5 * 10^20)
  let at_ : Int := s.time.tick * (5 * 10 ^ 20) + s.time.rem + 2000000 * s.sampleFreq * (edge - s.time.ps)
  let den : Int := 5 * 10 ^ 20 * 200 * x.2
  let num : Int := 16 * (at_ * (200 * x.2) - x.1 * s.clk.core * (5 * 10 ^ 20))
  ((2 * num + den) / (2 * den)).toNat

/-- An edge with its stamp: in 1/16 tick, its direction and its flags. -/
structure Stamp where
  at16 : Nat
  source : Nat
  rising : Bool
  interp : Nat := 0
  inexact : Bool := false
  degraded : Bool := false
  lost : Nat := 0

/-- The 16 bytes of a stamp (R235). -/
def Stamp.bytes (x : Stamp) : List Byte :=
  u64 (x.at16 / 16) ++ u16 (x.at16 % 16 * 4096) ++ u8 x.source
    ++ u8 (ofBits [x.rising, decide (x.interp = 1), x.inexact, x.degraded, decide (0 < x.lost)]) ++ u16 x.lost ++ zeros 2

/-- The interpolator that takes an edge at a system time, where one is ready (R238). DEDUCED (log entry 54). -/
def EdgeSource.ready (x : EdgeSource) (ps : Nat) : Option Nat :=
  if (x.interp x.turn).readyAt ≤ ps then some x.turn
  else if (x.interp (1 - x.turn)).readyAt ≤ ps then some (1 - x.turn)
  else none

/-- An edge of a source: stamped, or lost where no interpolator is ready. -/
def takeEdge (n : Nat) (rising : Bool) (r : EdgeReading) (s : State) : Option Stamp × State :=
  let x := s.edgeSource n
  match x.ready s.time.ps with
  | some i =>
    let (q, degraded) := (x.interp i).periods r
    let st : Stamp := { at16 := s.stamp16 q, source := n, rising := rising, interp := i, inexact := ! s.mappingExact
                        degraded := degraded, lost := x.lost }
    (some st, updSource n (fun x =>
      { x.upd i (fun y => { y with pair := none, readyAt := s.time.ps + 40000 }) with
        turn := 1 - i, lost := 0, stamps := (st.bytes :: x.stamps).take 16 }) s)
  | none =>
    let lost := satInc 16 x.lost
    (none, recordLimited 0x0601 n psPerMs [r4 n, r4 lost] (updSource n (fun x => { x with lost := lost }) s))

/-! ### Bindings (R240, R368) -/

def State.edgeBind (s : State) (source kind : Nat) : Option EdgeBind :=
  (s.xfer.edges.find? fun b => b.1 = source ∧ b.2.1 = kind).map (·.2.2)
def updBind (source kind : Nat) (f : EdgeBind → EdgeBind) (s : State) : State :=
  { s with xfer := { s.xfer with edges := s.xfer.edges.map fun b =>
      if b.1 = source ∧ b.2.1 = kind then (b.1, b.2.1, f b.2.2) else b } }

/-- Offer an entry of a binding; what the pigeonhole drops of it counts for the binding. -/
def offerBound (source kind count : Nat) (ph : Nat) (entry : List Byte) (s : State) : State :=
  let drops (s : State) : Nat := match s.ph ph with | some p => p.droppedNew + p.oversize | none => 0
  let t := offer ph { writer := .edge source kind, entries := [entry] } s
  if drops s < drops t then updBind source kind (fun b => { b with dropped := b.dropped + count }) t else t

/-- A stamp batch closes (R368). -/
def closeBatch (source : Nat) (s : State) : State :=
  match s.edgeBind source 0 with
  | none => s
  | some b =>
    if b.batch.isEmpty then s
    else
      let entry := u8 source ++ u8 0 ++ u16 b.batch.length ++ u32 b.dropped ++ zeros 8 ++ b.batch.flatten
      offerBound source 0 b.batch.length b.ph entry (updBind source 0 (fun b => { b with batch := [], dropped := 0 }) s)

/-- A stamp joins the open batch of its source. -/
def batchStamp (source : Nat) (bytes : List Byte) (s : State) : State :=
  match s.edgeBind source 0 with
  | none => s
  | some b =>
    let room := match s.ph b.ph with | some p => (p.entrySize - 16) / 16 | none => 1
    let s := updBind source 0 (fun b => { b with
      batch := b.batch ++ [bytes], opened := if b.batch.isEmpty then s.time.ps else b.opened }) s
    if room ≤ b.batch.length + 1 then closeBatch source s else s

/-! ### Gates (R241 to R245) -/

def Gate.length (g : Gate) (core : Nat) : Nat := g.lengthUs * 4 * core

/-- A gate is empty from a tick on. -/
def Gate.open_ (start core : Nat) (g : Gate) : Gate :=
  { g with start := start, end_ := start + g.length core, waits := false, running := true, index := 0, pairs := [], lost := 0
           early := false, inexact := false, degraded := false, lossy := false, saturated := false, restart := false }

/-- Edge `i` of the direction in a gate. A single gate that has collected all it can closes after that stamp (R242). -/
def Gate.edge (st : Option Stamp) (g : Gate) : Gate :=
  match st with
  | none => { g with index := g.index + 1, lost := g.lost + 1 }
  | some st =>
    if g.index % g.stride = 0 ∧ ¬ g.early then
      { g with index := g.index + 1, pairs := (g.index, st.at16) :: g.pairs, inexact := g.inexact || st.inexact
               degraded := g.degraded || st.degraded, lossy := g.lossy || decide (0 < st.lost)
               early := decide (1048576 ≤ g.pairs.length + 1)
               end_ := if 1048576 ≤ g.pairs.length + 1 ∧ g.mode = 1 then min g.end_ (st.at16 / 16 + 1) else g.end_ }
    else { g with index := g.index + 1 }

/-- The sums of a fit (R243). -/
structure FitSums where
  n : Int
  i : Int
  t : Int
  ii : Int
  it : Int
  tt : Int

def Gate.sums (g : Gate) : FitSums :=
  let t0 : Int := match g.pairs.getLast? with
    | some p => p.2
    | none => 0
  g.pairs.foldl (fun r p =>
    let i : Int := p.1
    let t : Int := p.2 - t0
    { n := r.n + 1, i := r.i + i, t := r.t + t, ii := r.ii + i * i, it := r.it + i * t, tt := r.tt + t * t })
    { n := 0, i := 0, t := 0, ii := 0, it := 0, tt := 0 }

/-- Slope as a quotient of 1/16 tick per edge, and the intercept. -/
def FitSums.slope (r : FitSums) : Int × Int := (r.n * r.it - r.i * r.t, r.n * r.ii - r.i * r.i)
def FitSums.icpt (r : FitSums) : Int × Int := (r.t * r.slope.2 - r.slope.1 * r.i, r.n * r.slope.2)

/-- The frequency in 2^-39 Hz; the manual gives none where the slope is 0. DEDUCED (log entry 54). -/
def FitSums.freq (core : Nat) (free : Nat) (r : FitSums) : Nat :=
  if r.slope.1 ≤ 0 then free else (roundDiv (64 * core * 1000000 * 2 ^ 39 * r.slope.2) r.slope.1).toNat

/-- The residual in fs: 1/16 tick is 15,625,000 fs over the core rate in MHz. -/
def FitSums.residual (core : Nat) (r : FitSums) : Nat :=
  if r.n < 3 then 0xFFFFFFFF
  else
    -- the sum of squares over n * (n * sii - si * si)
    let d := r.n * r.slope.2
    let sq := r.tt * d - r.t * r.icpt.1 - r.it * r.slope.1 * r.n
    let q := 4 * sq.toNat * 15625000 ^ 2 / ((d * (r.n - 2)).toNat * core ^ 2)
    min 0xFFFFFFFE ((isqrt q + 1) / 2)

/-- The 64 bytes of a gate result (R244); `free` stands where the manual gives no frequency or no fit.
DEDUCED (log entry 54). -/
def gateResult (s : State) (g : Gate) (aborted : Bool) (free : Nat) : List Byte :=
  let r := g.sums
  let valid := decide (2 ≤ r.n) && ! g.saturated && ! aborted
  let t0 : Int := match g.pairs.getLast? with
    | some p => p.2
    | none => 0
  let fit : Int := if 2 ≤ r.n then roundDiv (4096 * (t0 * r.icpt.2 + r.icpt.1)) (max 1 r.icpt.2) else free
  let last := s.timeAt (g.end_ - 1)
  u64 g.start ++ u64 g.end_ ++ u64 (if valid then r.freq s.clk.core free else 0) ++ u64 (fit / 65536).toNat
    ++ u16 (fit % 65536).toNat
    ++ u16 (ofBits [valid, g.early, decide (0 < g.lost), g.inexact, aborted, g.saturated, g.degraded])
    ++ u32 r.n.toNat ++ u32 (r.residual s.clk.core) ++ u32 g.lost ++ i64 last.1
    ++ u16 last.2 ++ zeros 6

/-- A gate yields its result, which reaches what is bound to it. DEDUCED (log entry 54). -/
def deliverGate (n : Nat) (aborted : Bool) (s : State) : State :=
  let g := (s.tach n).gate
  let (free, s) := takeFree s
  let bytes := gateResult s g aborted free
  let s := updTach n (fun x => { x with gate := { x.gate with results := (bytes :: x.gate.results).take 16 } }) s
  let s := match s.edgeBind n 1 with
    | some b => offerBound n 1 1 b.ph bytes s
    | none => s
  pushData 3 n [{ values := [field bytes 16 8], tick := g.start, inexact := g.inexact, degraded := g.degraded, lossy := g.lossy }] s

/-- The gate ends at its scheduled end; a continuous one goes on there (R242). -/
def endGate (n : Nat) (s : State) : State :=
  let s := deliverGate n false s
  updTach n (fun x => { x with gate :=
    if x.gate.mode = 2 then x.gate.open_ x.gate.end_ s.clk.core else { x.gate with running := false } }) s

/-- Bring an input's gate up to a tick: it begins, and ends where an end lies at or before the tick. -/
def settleGate (n tick : Nat) : Nat → State → State
  | 0, s => s
  | fuel + 1, s =>
    let g := (s.tach n).gate
    if g.waits ∧ g.start ≤ tick then
      settleGate n tick fuel (updTach n (fun x => { x with gate := x.gate.open_ x.gate.start s.clk.core }) s)
    else if g.running ∧ g.end_ ≤ tick then settleGate n tick fuel (endGate n s)
    else s

/-- Ends of a gate that may lie before a tick. -/
def gateFuel (s : State) (n tick : Nat) : Nat :=
  let g := (s.tach n).gate
  (tick - g.start) / max 1 (g.length s.clk.core) + 2

/-- The module aborts a gate (R245): the aborted result is written now. -/
def abortGate (n : Nat) (s : State) : State :=
  let g := (s.tach n).gate
  if g.running then
    let s := deliverGate n true (updTach n (fun x => { x with gate := { x.gate with end_ := min x.gate.end_ s.time.tick } }) s)
    updTach n (fun x => { x with gate := { x.gate with running := false } }) s
  else s

/-- A core-rate change aborts every running gate; continuous ones restart once the sample loop locks (R245). -/
def abortGates (s : State) : State :=
  forEach 8 (fun n s =>
    let again := (s.tach n).gate.running && (s.tach n).gate.mode = 2
    updTach n (fun x => { x with gate := { x.gate with restart := x.gate.restart || again } }) (abortGate n s)) s

/-- Continuous gates that an abort left to restart begin at a tick. -/
def restartGates (tick : Nat) (s : State) : State :=
  forEach 8 (fun n s =>
    updTach n (fun x => { x with gate :=
      if x.gate.restart then { x.gate.open_ tick s.clk.core with restart := false } else x.gate }) s) s

/-- A domain reset aborts every running gate; continuous ones restart at its tick (R492). -/
def resetGates (tick : Nat) (s : State) : State := restartGates tick (abortGates s)

/-- An edge of a direction enters the gate of its input; a lost one counts at the present tick. -/
def gateEdge (n : Nat) (rising : Bool) (st : Option Stamp) (s : State) : State :=
  let tick := match st with | some st => st.at16 / 16 | none => s.time.tick
  let s := settleGate n tick (gateFuel s n tick) s
  let full := match st with | some st => decide (st.lost = 65535) | none => false
  let s := updTach n (fun x =>
    let g := x.gate
    if g.running ∧ g.start ≤ tick then
      let g := { g with saturated := g.saturated || full }
      { x with gate := if (if rising then g.direction = 1 else g.direction = 2) then g.edge st else g }
    else x) s
  if (s.tach n).gate.early ∧ (s.tach n).gate.mode = 1 then settleGate n (tick + 1) 1 s else s

/-! ### Angle references (R246 to R248) -/

/-- A tooth edge advances the angle: tooth 0 is the first one at or after each index edge, without an index input the first of
all (R248). -/
def Angle.advance (a : Angle) : Angle :=
  let b := { a with started := true, since := a.since + 1, indexed := false }
  let next := (a.revolution + 1) % 2 ^ 32
  if ¬ a.started then { b with tooth := 0, aligned := a.indexed }
  else if a.indexed then { b with tooth := 0, revolution := next, aligned := true }
  else if a.tooth + 1 < a.teeth then { b with tooth := a.tooth + 1 }
  else if a.aligned then { b with tooth := 0 }
  else { b with tooth := 0, revolution := next }

/-- The 24 bytes of an angle stamp (R247). -/
def Angle.stamp (a : Angle) (st : Stamp) : List Byte :=
  st.bytes ++ u32 a.revolution ++ u16 a.tooth ++ u16 (ofBits [a.aligned])

/-- A tooth edge of reference `n`: a stamped one reaches the engines that are bound to it. -/
def toothEdge (n : Nat) (st : Option Stamp) (s : State) : State :=
  let a := (s.tach n).angle.advance
  let s := updTach n (fun x => { x with angle := a }) s
  match st with
  | none => s
  | some st => pushData 5 n [{ values := [a.tooth], tick := st.at16 / 16, inexact := st.inexact, degraded := st.degraded
                               lossy := decide (0 < st.lost), angle := a.stamp st }] s

/-- An index edge of reference `n`: a new revolution begins, and the tooth count since the previous one is checked. -/
def indexEdge (n : Nat) (st : Option Stamp) (s : State) : State :=
  let a := (s.tach n).angle
  let s := updTach n (fun x => { x with angle := { x.angle with indexed := true, indexSeen := true, since := 0 } }) s
  if a.indexSeen && decide (a.since ≠ a.teeth) then
    recordLimited 0x0603 n psPerS [r1 n, r4 a.since, rb (match st with | some st => st.bytes | none => zeros 16)]
      (spoilRevolution n a.revolution s)
  else s

/-- An edge of input `i` reaches the references that use it. -/
def angleEdge (i : Nat) (rising : Bool) (st : Option Stamp) (s : State) : State :=
  let dir := if rising then 1 else 2
  forEach 8 (fun n s =>
    let a := (s.tach n).angle
    if ¬ a.on then s
    else
      let s := if a.index = i ∧ a.indexDir = dir then indexEdge n st s else s
      if n = i ∧ a.direction = dir then toothEdge n st s else s) s

/-! ### Edges -/

/-- A stamped edge triggers the type 7 slots of its input (R220). -/
def slotEdge (n : Nat) (st : Stamp) (s : State) : State :=
  pushEvent { tick := st.at16 / 16, source := .tach n st.rising, instant := st.at16 * 4096, timing := 1 } s

/-- TACH_EDGE (R234, R240). -/
def execTachEdge (at_ n : Nat) (rising : Bool) (r : EdgeReading) (s : State) : Result :=
  let s := advance at_ s
  .next (
    if 8 ≤ n ∨ ¬ (s.tach n).set.enable ∨ (s.tach n).level = some rising then s
    else
      let (st, s) := takeEdge n rising r (updTach n (fun x => { x with level := some rising }) s)
      let s := angleEdge n rising st (gateEdge n rising st s)
      match st with
      | some st => slotEdge n st (batchStamp n st.bytes s)
      | none => s)

/-- The stamp of a PPSIN edge. -/
def stampPps (r : EdgeReading) (s : State) : State :=
  let (st, s) := takeEdge 8 true r s
  match st with
  | some st => batchStamp 8 st.bytes { s with time := { s.time with pps := (st.bytes :: s.time.pps).take 16 } }
  | none => s

/-- A PPSIN edge is valid 1 s ± 100 µs after the valid edge before it, and where 2 s or more have passed since. -/
def State.ppsValid (s : State) : Bool :=
  match s.time.ppsEdge with
  | none => true
  | some p => decide (2 * psPerS ≤ s.time.ps - p) || decide ((((s.time.ps : Int) - p) - psPerS).natAbs ≤ 100000000)

/-- A valid edge disciplines wall time where PPSIN is the source. -/
def takePps (s : State) : State :=
  let s := { s with time := { s.time with ppsEdge := some s.time.ps } }
  if s.time.source ≠ 1 then s
  else
    let s := if s.time.ppsLost then record 0x010A [] { s with time := { s.time with ppsLost := false } } else s
    let second := s.time.nextSecond.getD ((s.now + 500000000) / 1000000000 * 1000000000)
    correctTime second (steerTime { s with time := { s.time with nextSecond := none } })

/-- PPSIN_EDGE (R84 to R87): a rising edge is stamped; a valid one disciplines wall time where PPSIN is the source. -/
def execPpsinEdge (at_ : Nat) (r : EdgeReading) (s : State) : Result :=
  let s := stampPps r (advance at_ s)
  .next (if s.ppsValid then takePps s else s)

/-- TACH_SETTING_TAKES_EFFECT (R233). -/
def execTachSettingTakesEffect (at_ n : Nat) (s : State) : Result :=
  let s := advance at_ s
  .next (match (s.tach n).waits with
    | none => s
    | some set => updSource n (fun x => { x with lost := 0 })
        (updTach n (fun x => { x with set := set, waits := none, level := none }) s))

/-- INTERPOLATOR_REFRESH (R238): a ready interpolator takes a fresh pair while the other is ready too. -/
def execInterpolatorRefresh (at_ source interp c1 c2 : Nat) (s : State) : Result :=
  let s := advance at_ s
  let x := s.edgeSource source
  .next (
    if interp ≤ 1 ∧ (x.interp 0).readyAt ≤ s.time.ps ∧ (x.interp 1).readyAt ≤ s.time.ps then
      updSource source (EdgeSource.upd interp fun y => { y with pair := some (c1, c2) }) s
    else s)

/-- LINEARITY_TABLE_BUILT (R239). -/
def execLinearityTableBuilt (at_ source interp : Nat) (table : List Int) (s : State) : Result :=
  let s := advance at_ s
  .next (putTable source interp table s)

/-- TDC_TABLE_STALE (R239): once per table. -/
def execTdcTableStale (at_ source interp : Nat) (s : State) : Result :=
  let s := advance at_ s
  let y := (s.edgeSource source).interp interp
  .next (
    if source ≤ 8 ∧ interp ≤ 1 ∧ ¬ y.stale ∧ y.builtAt + 600 * psPerS < s.time.ps then
      record 0x0602 [] (updSource source (EdgeSource.upd interp fun y => { y with stale := true }) s)
    else s)

/-- GATE_START (R241) and GATE_END (R243). -/
def execGateStart (at_ n : Nat) (s : State) : Result :=
  let s := advance at_ s
  .next (settleGate n s.time.tick (gateFuel s n s.time.tick) s)
def execGateEnd (at_ n : Nat) (s : State) : Result :=
  let s := advance at_ s
  .next (settleGate n s.time.tick (gateFuel s n s.time.tick) s)

/-! ### Commands -/

/-- An armed group cares about a type 7 slot on the input (R232). -/
def State.tachLocked (s : State) (n : Nat) : Bool :=
  (List.range 32).any fun i => decide ((s.slot i).latest.type = 7 ∧ (s.slot i).latest.source = n) && s.slotLocked i

/-- An angle reference other than that of `except` uses the input. -/
def State.angleUses (s : State) (n : Nat) (except : Option Nat) : Bool :=
  (List.range 8).any fun r => some r ≠ except && (s.tach r).angle.on && decide (r = n ∨ (s.tach r).angle.index = n)

def edgeSetInputCmd : Cmd :=
  setCmd 0x0601 40
    (fun _ q => [within 0 7 (q.u8 0), reservedBits q 1 2, within (-2000) 2000 (q.i16 2), reserved q 5 3])
    (fun s q => rejectWhen ((s.tach (q.u8 0)).gate.running ∨ s.angleUses (q.u8 0) none ∨ s.tachLocked (q.u8 0)) WRONG_STATE)
    (fun q s =>
      let set : TachSetting :=
        { enable := q.bit 1 0, terminate := q.bit 1 1, threshold := q.i16 2, hysteresis := q.u8 4 }
      updTach (q.u8 0) (fun x => { x with waits := some set }) s)
def execEdgeSetInput (q : Request) (s : State) : Result := .next (runRequest edgeSetInputCmd q s)

/-- DEDUCED (log entry 54). -/
def gateFields (s : State) (q : Request) : List Check :=
  if q.u8 1 = 0 then [within 0 7 (q.u8 0), reserved q 2 22]
  else [within 0 7 (q.u8 0), within 0 2 (q.u8 1), within 1 2 (q.u8 2), reservedBits q 3 1,
    firstFailure [notZero (q.u32 4), within 100 100000000 (q.u32 4)], notZero (q.u16 8), reserved q 10 6,
    if q.bit 3 0 then none else tickAhead s (q.u64 16)]

def edgeSetGateCmd : Cmd :=
  setCmd 0x0602 56 gateFields
    (fun s q => firstRejection [
      rejectWhen (q.u8 1 ≠ 0 ∧ (s.tach (q.u8 0)).gate.running) BUSY,
      rejectWhen (¬ (s.tach (q.u8 0)).set.enable) WRONG_STATE])
    (fun q s =>
      let n := q.u8 0
      if q.u8 1 = 0 then
        updTach n (fun x => { x with gate := { x.gate with waits := false, restart := false, mode := 0 } }) (abortGate n s)
      else
        updTach n (fun x => { x with gate := { x.gate with
          mode := q.u8 1, direction := q.u8 2, lengthUs := q.u32 4, stride := q.u16 8, waits := true, restart := false
          start := if q.bit 3 0 then 128 * s.nextBoundary else q.u64 16 } }) s)
    (needsRun := true)
def execEdgeSetGate (q : Request) (s : State) : Result := .next (runRequest edgeSetGateCmd q s)

/-- A job bound to the reference runs (R246). -/
def State.angleJob (s : State) (n : Nat) : Bool :=
  s.eng.jobs.any fun j => j.2.running && decide (j.2.config.kind2 = 5 ∧ j.2.config.source2 = n)

def angleFields (q : Request) : List Check :=
  if q.u8 1 = 0 then [within 0 7 (q.u8 0), reserved q 2 6]
  else [within 0 7 (q.u8 0), within 0 1 (q.u8 1), within 1 2 (q.u8 2),
    allowed (q.u8 3 = 0xFF ∨ (q.u8 3 ≤ 7 ∧ q.u8 3 ≠ q.u8 0)),
    if q.u8 3 = 0xFF then reserved q 4 1 else within 1 2 (q.u8 4), reserved q 5 1, notZero (q.u16 6)]

/-- DEDUCED (log entry 54). -/
def edgeSetAngleCmd : Cmd :=
  setCmd 0x0603 40 (fun _ q => angleFields q)
    (fun s q => rejectWhen ((s.tach (q.u8 0)).gate.running ∨ s.angleUses (q.u8 0) (some (q.u8 0))
      ∨ s.tachLocked (q.u8 0) ∨ s.angleJob (q.u8 0)) WRONG_STATE)
    (fun q s =>
      let a : Angle :=
        if q.u8 1 = 0 then {}
        else { on := true, direction := q.u8 2, index := q.u8 3, indexDir := (if q.u8 3 = 0xFF then 1 else q.u8 4),
               teeth := q.u16 6 }
      updTach (q.u8 0) (fun x => { x with angle := a }) s)
def execEdgeSetAngle (q : Request) (s : State) : Result := .next (runRequest edgeSetAngleCmd q s)

/-- A list of 16 records of `n` bytes, newest first (R457). -/
def newestFirst (n : Nat) (l : List (List Byte)) : List Byte :=
  toLen (8 + 16 * n) (u8 (min 16 l.length) ++ zeros 7 ++ (l.take 16).flatten)

def edgeReadStampsCmd : Cmd :=
  readCmd 0x0604 40 (fun _ q => [within 0 7 (q.u8 0), reserved q 1 7])
    fun s q => newestFirst 16 (s.edgeSource (q.u8 0)).stamps
def execEdgeReadStamps (q : Request) (s : State) : Result := .next (runRequest edgeReadStampsCmd q s)

def edgeGetResultsCmd : Cmd :=
  readCmd 0x0605 40 (fun _ q => [within 0 7 (q.u8 0), reserved q 1 7])
    fun s q => newestFirst 64 (s.tach (q.u8 0)).gate.results
def execEdgeGetResults (q : Request) (s : State) : Result := .next (runRequest edgeGetResultsCmd q s)

end Sys2Proof.Machine
end

