-- ==== Sys2Proof/Machine/HamOps.lean ====
section
/-! DEFINITION. The hamper as capture and the heads use it: stops, segments handed to an accumulator, the combine
(R284 to R294). -/

namespace Sys2Proof.Machine

def State.acc (s : State) (a : Nat) : Accumulator := s.ham.accs.getD a {}

/-- An accumulator whose two pending copies both hold segments that are not combined yet (R293). -/
def Accumulator.full (x : Accumulator) : Bool := decide (2 ≤ (x.waiting.filter fun f => ! f.values.isEmpty).length)
def updAcc (a : Nat) (f : Accumulator → Accumulator) (s : State) : State :=
  { s with ham := { s.ham with accs := updAt s.ham.accs a f } }

/-- An accumulator becomes Idle, with HAMPER_STOPPED (R568); who waits for its stop gets OK (R286). -/
def stopAcc (a reason : Nat) (s : State) : State :=
  let x := s.acc a
  let succ := match x.stopping with | some (_, some t, _) => t | _ => 0xFF
  let waiter := x.stopping.map fun z => z.2.2
  let s := updAcc a (fun x => { x with st := .idle, stopping := none, waiting := [], cut := none, held := []
                                       lastReason := reason }) s
  let s := stageBody 0x0801 (padBody (u8 a ++ u8 reason ++ u8 succ ++ zeros 5 ++ u64 x.segments
    ++ u64 (if x.segments = 0 then 0 else x.lastSeq))) s
  replyOpt waiter OK [] s

/-- Active accumulators that satisfy `p` stop. -/
def stopAccs (p : Accumulator → Bool) (reason : Nat) (s : State) : State :=
  forEach 64 (fun a s => if (s.acc a).active && p (s.acc a) then stopAcc a reason s else s) s

/-- Accumulators whose snapshot no longer matches stop with reason 3 (R284). -/
def noteAccumulators (p : Accumulator → Bool) (s : State) : State :=
  stopAccs (fun x => p x && s.accSnapshot x.config != x.snapshot) 3 s

/-- The row of a value (R290). -/
def binRow (format : Nat) (v : Int) : Nat :=
  (match format with
  | 1 => (v + 32768) / 64
  | 2 => (v + 8388608) / 16384
  | _ => (v + 2048) / 4).toNat

/-- Largest and smallest value of a cell's format (R285, R298). -/
def cellMax (format : Nat) : Int := if format = 2 then 2147483647 else 32767
def cellMin (format : Nat) : Int := if format = 2 then -2147483648 else -32768

def sumLimit : Int := 2 ^ 47 - 1

/-- A sum that has reached a limit: it is saturated, and holds there for the rest of the run (R294).
DEDUCED (log entry 64). -/
def sumAtLimit (v : Int) : Bool := decide (v = sumLimit ∨ v = -(2 ^ 47))

/-- What a combine carries: cells, and the first saturated cell or bin. -/
structure CombineAcc where
  acc : Accumulator
  first : Option (Nat × Nat) := none

def noteLimit (kind i : Nat) (c : CombineAcc) : CombineAcc :=
  { acc := { c.acc with saturated := satInc 32 c.acc.saturated
                        sumSaturated := c.acc.sumSaturated || kind = 0, binSaturated := c.acc.binSaturated || kind = 2 }
    first := if c.acc.sumSaturated || c.acc.binSaturated then c.first else match c.first with
      | none => some (kind, i)
      | r => r }

/-- Add a value to sum cell `i` (R290, R294). -/
def addSum (i : Nat) (v : Int) (c : CombineAcc) : CombineAcc :=
  let old := c.acc.sums.getD i 0
  let new := clampInt (-(2 ^ 47)) sumLimit (old + v)
  if sumAtLimit old then c
  else
    let c' := { c with acc := { c.acc with sums := c.acc.sums.set i new } }
    if sumAtLimit new then noteLimit 0 i c' else c'

def widen (i : Nat) (lo hi : Int) (c : CombineAcc) : CombineAcc :=
  { c with acc := { c.acc with envelope := updAt c.acc.envelope i fun e => (min e.1 lo, max e.2 hi) } }

/-- Add 1 to a bin. -/
def addBin (i : Nat) (c : CombineAcc) : CombineAcc :=
  let old := (lookupKey i c.acc.bins).getD 0
  if old = 4294967295 then c
  else
    let c' := { c with acc := { c.acc with bins := insertKey i (old + 1) c.acc.bins } }
    if old + 1 = 4294967295 then noteLimit 2 i c' else c'

/-- An overrange code of a cell's format. -/
def formatOver (format : Nat) (v : Int) : Bool :=
  match format with
  | 1 => decide (v = 32767 ∨ v = -32768)
  | 2 => false
  | _ => decide (v = 2047 ∨ v = -2048)

/-- One position of one rank. -/
def combinePosition (rank k : Nat) (vs : List Int) (c : CombineAcc) : CombineAcc :=
  let x := c.acc
  let i := rank * x.span + k
  let v := vs.headD 0
  let c := if x.config.kinds.testBit 0 then addSum i v c else c
  let c := if x.config.kinds.testBit 1 then widen i v (vs.getLastD 0) c else c
  let bin (v : Int) : Nat := rank * 2 ^ 20 + 1024 * binRow x.format v + k * 1024 / x.span
  let c := if x.config.kinds.testBit 2 then vs.foldl (fun c v => addBin (bin v) c) c else c
  if vs.any (formatOver x.format) then { c with acc := { c.acc with overrange := true } } else c

/-- The cells as a clearing leaves them, at full length (R285). -/
def Accumulator.spread (x : Accumulator) : Accumulator :=
  let m := if x.config.kind = 0 then (inputsIn x.mask).length else 1
  { x with
    sums := if x.config.kinds.testBit 0 ∧ x.sums.isEmpty then List.replicate (x.span * m) 0 else x.sums
    envelope := if x.config.kinds.testBit 1 ∧ x.envelope.isEmpty then
        List.replicate (x.span * m) (cellMax x.format, cellMin x.format) else x.envelope }

/-- A taken segment contributes to every position of every rank (R288 to R290). DEDUCED (log entry 64). -/
def combineSegment (f : HamSegment) (x : Accumulator) : CombineAcc :=
  let c : CombineAcc := { acc := x.spread }
  let c := ((List.range f.values.length).zip f.values).foldl (fun c r =>
    ((List.range x.span).zip r.2).foldl (fun c p => combinePosition r.1 p.1 p.2 c) c) c
  { c with acc := { c.acc with segments := x.segments + 1, lastSeq := f.sequence
                               firstSeq := if x.segments = 0 then f.sequence else x.firstSeq
                               suspectIn := x.suspectIn || f.suspect, unsettledIn := x.unsettledIn || f.unsettled } }

/-- Reason of a skip, 0 short, 1 no data, 2 suspect, 3 unsettled (R288). -/
def skipReason (f : HamSegment) (x : Accumulator) : Option Nat :=
  if f.short then some 0
  else if f.noData then some 1
  else if f.suspect ∧ ¬ x.config.options.testBit 0 then some 2
  else if f.unsettled ∧ ¬ x.config.options.testBit 1 then some 3
  else none

/-- Equal in every field but Accumulator and Chain to (R286, R287). -/
def sameConfig (a b : AccConfig) : Bool := decide ({ a with chain := 0 } = { b with chain := 0 })

/-- The accumulator has its count: it becomes Idle, and a Ready successor of equal configuration takes over (R287). -/
def finishCount (a : Nat) (f : HamSegment) (s : State) : State :=
  let x := s.acc a
  let t := x.config.chain
  let ok := decide (t ≠ 0xFF ∧ (s.acc t).st = .ready) && sameConfig x.config (s.acc t).config
  let s := updAcc a (fun x => { x with st := .idle, lastReason := 4, byCount := true, noSuccessor := ! ok, waiting := []
                                       stopping := none, cut := none, held := [] }) s
  let s := if ok then updAcc t (fun y => { y with
      st := .running, from_ := f.instant + 1, waiting := x.waiting, cut := x.cut
      held := if x.cut.isSome then x.held else y.held }) s else s
  let s := stageBody 0x0802 (padBody (u8 a ++ u8 (! ok).toNat ++ u8 (if ok then t else 0xFF) ++ u8 0 ++ u32 x.config.count
    ++ u64 f.sequence)) s
  replyOpt (x.stopping.map fun z => z.2.2) OK [] s

/-- Combine or skip one segment. -/
def takeSegment (a : Nat) (f : HamSegment) (s : State) : State :=
  let x := s.acc a
  match skipReason f x with
  | some r => updAcc a (fun x => { x with skipped := updAt x.skipped r (satInc 32) }) s
  | none =>
    let c := combineSegment f x
    let s := updAcc a (fun _ => c.acc) s
    let s := match c.first with
      | some (kind, i) => record 0x0803 [r1 a, r1 kind, r4 i] s
      | none => s
    if x.config.count ≠ 0 ∧ x.config.count ≤ c.acc.segments then finishCount a f s else s

/-- Every trigger of a group before a tick has been classified. -/
def State.classifiedUpTo (s : State) (g tick : Nat) : Bool :=
  decide ((s.sg g).state = .disarmed) || decide (tick ≤ s.classifiedBefore g)

/-- No segment before the stop frame can still come (R286). -/
def State.stopComplete (s : State) (x : Accumulator) (stop : Nat) : Bool :=
  let g := s.sg x.config.group
  x.waiting.isEmpty &&
  if x.config.kind = 1 then
    (match x.cut with | none => true | some (_, i, _) => decide (stop * 65536 ≤ i)) && s.classifiedUpTo x.config.group stop
  else
    ! g.armed ||
      (s.classifiedUpTo x.config.group stop
        && (g.filling.toList ++ g.writing.filter fun f => ! f.handed).all fun f => decide (stop * 65536 ≤ f.trigger.instant))

/-- Stops that are complete come into effect (R286). -/
def reviewStops (s : State) : State :=
  forEach 64 (fun a s =>
    match (s.acc a).stopping with
    | some (stop, succ, _) => if s.stopComplete (s.acc a) stop then stopAcc a (if succ.isSome then 2 else 1) s else s
    | none => s) s

/-! ### Head channels (R291, R305) -/

/-- One sample of the channel reaches an accumulator. -/
def headSample (k : Nat) (place : Nat → Nat) (h : Nat × Int × Bool) (x : Accumulator) : Accumulator :=
  settleCut k place { x with held := (h :: x.held).take (2 * x.config.headSpan) }

/-- An accumulator of a head's channel that runs, or waits to be handed a run. -/
def Accumulator.follows (x : Accumulator) (port position : Nat) : Bool :=
  x.active && decide (x.config.kind = 1 ∧ x.config.port = port ∧ x.config.position = position)

/-- One instant of a head reaches its accumulators. -/
def headToHamper (port position k time : Nat) (values : List Int) (fault : Bool) (s : State) : State :=
  let take (x : Accumulator) : Accumulator :=
    if x.follows port position then headSample k s.headTick (time, values.getD x.config.channel 0, fault) x else x
  { s with ham := { s.ham with accs := s.ham.accs.map take } }

/-- A head gives no more samples: its head segments under way lack data (R291). -/
def headGone (port position : Nat) (s : State) : State :=
  let finish (x : Accumulator) : Accumulator :=
    match x.cut with
    | some (q, i, _) => if x.follows port position then finishCut 0 q i none x else x
    | none => x
  { s with ham := { s.ham with accs := s.ham.accs.map finish } }

end Sys2Proof.Machine
end

