-- ==== Sys2Proof/Machine/Segments.lean ====
section
/-! DEFINITION. Segmented capture: the commands of group 0x07, arming, the writes of strands, side bits, side records and
postmarks, and the end of a capture (R250 to R278). -/

namespace Sys2Proof.Machine

/-! ### SEG_CONFIGURE (R253, R254) -/

/-- The configuration that a request carries: bits [63:40] of an address or size are reserved, no part of its value.
DEDUCED (log entry 65). -/
def segRequest (q : Request) : SegConfig :=
  { layout := q.u8 1, mask := q.u8 2, copy := q.bit 3 0, span := q.u32 4, post := q.u32 8, strands := q.u32 12
    count := q.u64 16, tableBase := q.u64 24 % 2 ^ 40, tableSize := q.u64 32 % 2 ^ 40
    dataBase := q.u64 40 % 2 ^ 40, dataSize := q.u64 48 % 2 ^ 40
    pigeonhole := q.u32 56 }

/-- Bits [63:40] of an address or size field are reserved. DEDUCED (log entry 65). -/
def reservedHigh (q : Request) (off : Nat) : Check := failWhen (2 ^ 40 ≤ q.u64 off) RESERVED_NONZERO

def segFields (s : State) (q : Request) : List Check :=
  let c := segRequest q
  [within 0 3 (q.u8 0), within 0 1 (q.u8 1), allowed (c.mask ≠ 0), reservedBits q 3 1,
    counted 268435425 c.span, firstFailure [notZero c.post, allowed (c.post ≤ c.span)],
    firstFailure [notZero c.strands, within 4 16777215 c.strands], allowed (c.count < 2 ^ 48),
    firstFailure [reservedHigh q 24, allowed (c.tableBase % 64 = 0 ∧ s.inUser c.tableBase c.tableSize)],
    firstFailure [reservedHigh q 32, notZero c.tableSize, allowed (c.tableSize % 64 = 0)],
    firstFailure [reservedHigh q 40, allowed (c.dataBase % 4096 = 0 ∧ s.inUser c.dataBase c.dataSize
      ∧ ¬ overlaps c.dataBase c.dataSize c.tableBase c.tableSize)],
    firstFailure [reservedHigh q 48, notZero c.dataSize, allowed (c.block ≤ c.dataSize)],
    if c.copy then allowed (c.pigeonhole < 2 ^ 20 ∧ s.laneTarget c.pigeonhole 64) else reserved q 56 4,
    reserved q 60 4]

def segConfigureCmd : Cmd :=
  setCmd 0x0701 96 segFields
    (fun s q => rejectWhen (s.armed (q.u8 0) ∨ s.lockHeld) WRONG_STATE)
    (fun q s => updSg (q.u8 0) (fun x => { x with config := segRequest q }) s)
def execSegConfigure (q : Request) (s : State) : Result := .next (runRequest segConfigureCmd q s)

/-! ### SEG_ARM (R262 to R264, R489) -/

/-- The payload of an arm's reply. -/
def armPayload (check input tick first capture slots : Nat) : List Byte :=
  u8 check ++ u8 input ++ zeros 6 ++ u64 tick ++ u64 first ++ u32 capture ++ u32 slots

def armFailed (check input : Nat) : List Byte := armPayload check input 0 0 0 0

/-- The inputs of a mask disagree in what R252 asks to be equal. -/
def State.mixed (s : State) (mask : Nat) : Option Nat :=
  let f (n : Nat) : List Nat := (s.fin n).mode :: s.spacing n :: (if (s.fin n).mode = 3 then [] else [(s.fin n).factor])
  (inputsIn mask).find? fun n => f n ≠ f (lowestIn mask)

/-- Another armed group whose areas overlap a configuration's. -/
def State.areaClash (s : State) (g : Nat) : Bool :=
  let c := (s.sg g).config
  let areas (c : SegConfig) : List (Nat × Nat) := [(c.tableBase, c.tableSize), (c.dataBase, c.dataSize)]
  (List.range 4).any fun h => h ≠ g && s.armed h &&
    (areas c).any fun a => (areas (s.sg h).config).any fun b => overlaps a.1 a.2 b.1 b.2

/-- An input whose arm R177 or R194 forbids. -/
def State.chainForbids (s : State) (g : Nat) : Option Nat :=
  let m := (s.sg g).config.mask
  if ¬ s.flt.running then (inputsIn m).find? fun n => (s.fin n).mode = 3 else none

/-- The group's patterns care about a slot on a comparator of source 1 whose input has no decimated stream (R194). -/
def State.slotForbids (s : State) (g : Nat) : Option Nat :=
  ((List.range 32).find? fun i => (s.tg g).cares i && (List.range 8).any fun n =>
    s.slotDecimated i n && decide ((s.fin n).mode < 2)).map fun i => (s.slot i).latest.source

/-- The checks of R262, in order: the number of the first that fails, the first input concerned, and the status. -/
def State.armCheck (s : State) (g : Nat) : Option (Nat × Nat × Nat) :=
  let x := s.sg g
  let c := x.config
  let inputs := inputsIn c.mask
  let q := perStrand (s.fin (lowestIn c.mask)).mode
  let first (p : Nat → Bool) : Option Nat := inputs.find? p
  if x.armed then some (1, 0xFF, WRONG_STATE)
  else if ¬ s.cal.done ∨ s.clk.smpRamp.running ∨ s.boot.st = 5 then some (2, 0xFF, WRONG_STATE)
  else if c.unset then some (3, 0xFF, WRONG_STATE)
  else match first fun n => (s.input n).stopped = 2 with
  | some n => some (4, n, HW_FAULT)
  | none => match first fun n => ! s.enabled n with
  | some n => some (5, n, WRONG_STATE)
  | none => match first fun n => (List.range 4).any fun h => h ≠ g && s.armed h && (s.sg h).config.mask.testBit n with
  | some n => some (6, n, WRONG_STATE)
  | none => match s.mixed c.mask with
  | some n => some (7, n, WRONG_STATE)
  | none =>
    if q * c.strands < c.span + q - 1 then some (8, 0xFF, WRONG_STATE)
    else match (s.chainForbids g).orElse fun _ => s.slotForbids g with
    | some n => some (9, n, WRONG_STATE)
    | none =>
      if s.areaClash g then some (10, 0xFF, WRONG_STATE)
      else if c.copy ∧ ¬ s.laneTarget c.pigeonhole 64 then some (11, 0xFF, WRONG_STATE)
      else if 10230 < s.hold g then some (12, 0xFF, RESOURCE_EXHAUSTED)
      else match first fun n => (s.lane n).margin < 1000 with
      | some n => some (13, n, RESOURCE_EXHAUSTED)
      | none => none

/-- The arm frame of a request (R264). -/
def State.armFrameOf (s : State) (q : Request) : Nat :=
  if q.bit 1 0 then frameOf (boundaryAt (q.u64 8)) else s.nextBoundary

/-- A group's arm is set for a frame. -/
def scheduleArm (g frame : Nat) (w : Option Waiter) (s : State) : State :=
  updSg g (fun x => { x with state := .scheduled, armNext := frame, armWaiter := w }) s

def segArmCmd : Cmd :=
  { opcode := 0x0702, classC := true, lengths := lenIs 48, failLen := 32
    checks := fun s q => [within 0 3 (q.u8 0), reservedBits q 1 1, reserved q 2 6,
      if q.bit 1 0 then tickAhead s (q.u64 8) else reserved q 8 8]
    reject := fun s q => match s.armCheck (q.u8 0) with
      | some (c, n, st) => some (st, armFailed c n)
      | none => if s.sync.st = 3 then some (SYSTEM_DISAGREE, armFailed 0xFF 0xFF) else none
    act := fun w q s =>
      let g := q.u8 0
      if s.sync.st = 0 then scheduleArm g (s.armFrameOf q) (some w) s
      else
        { updSg g (fun x => { x with state := .pending, armWaiter := some w }) s with
          sync := { s.sync with armTicks := s.sync.armTicks.set g (if q.bit 1 0 then q.u64 8 else 0) } } }
def execSegArm (q : Request) (s : State) : Result := .next (runRequest segArmCmd q s)

/-- An input that overflowed rejoins at the arm, with a synchronising reset of its own (R42, R182). -/
def rejoinInput (n : Nat) (s : State) : State :=
  let x := s.input n
  let s := updInput n (fun x => { x with overranged := false }) s
  if x.stopped = 1 then
    syncInput n 5 (record 0x0008 [r4 x.discarded] (updInput n (fun x => { x with stopped := 0, discarded := 0 }) s))
  else s

/-- The group's trigger starts afresh at its arm tick (R209). DEDUCED (log entry 66). -/
def startTrigger (g armTick : Nat) (s : State) : State :=
  let gate := (s.tg g).flags.testBit 1
  let ready := armTick + if gate then 128 * s.preFill g (frameOf armTick) else 0
  let s := updTg g (fun t => { t with
    prev := none, hits := [], seqEnd := none, holdEnd := none, holdLeft := 0, queue := [], counts := {}, spanFill := 0, spanRearm := 0
    spanPrefill := 0, spanDead := 0, accepted := none, fillEnd := 0, rearmEnd := some armTick, readyTick := some ready, short := false }) s
  if ready = armTick then markReady g true s else s

/-- The arm takes effect (R264). -/
def armGroup (g : Nat) (s : State) : State :=
  let c := (s.sg g).config
  let frame := (s.sg g).armNext
  let s := keepWindow g (128 * frame) (keepView g (128 * frame) s)
  let s := forAll (inputsIn c.mask) rejoinInput s
  let low := s.groupLow g
  let s := updSg g (fun x => { x with
    state := .capturing, armFrame := frame, everArmed := true, active := c.mask, removed := [], stopTick := none
    abortTick := none, captures := x.captures + 1
    firstSeq := x.nextSeq, written := 0, lastWritten := 0, discarded := none, reason := 0, storeFrame := frame
    landed := List.replicate 8 0
    shifts := (List.range 8).map fun n => (s.fin low).kBase - (s.fin n).kBase
    positions := List.replicate 8 [], filling := none, writing := [], filled := true, armWaiter := none
    stopWaiters := [] }) s
  let s := startTrigger g (128 * frame) s
  let x := s.sg g
  let s := record 0x0701 [r1 g, r4 x.captures, r8 (128 * frame), r8 x.firstSeq, r1 c.mask, r4 c.span, r4 c.post, r4 c.strands,
    r4 c.slots, r4 c.layout] s
  let s := if s.share s.mem.rate < s.demand then record 0x0C05 [r4 s.demand, r4 (s.share s.mem.rate)] s else s
  noteAccumulators (fun a => a.config.kind = 0 && a.config.group = g) s

/-- ARM_FRAME (R264): the scheduled frame has come. -/
def execArmFrame (at_ group : Nat) (s : State) : Result :=
  let s := advance at_ s
  let x := s.sg group
  .next (
    if x.state ≠ .scheduled ∨ s.time.tick < 128 * x.armNext then s
    else
      let s := armGroup group s
      let y := s.sg group
      replyOpt x.armWaiter OK (armPayload 0 0xFF (128 * y.armFrame) y.firstSeq y.captures y.config.slots) s)

/-- A pending group ends without an arm (R459, R492, R493). -/
def endPending (g : Nat) (s : State) : State :=
  match (s.sg g).state with
  | .pending =>
    replyOpt (s.sg g).armWaiter SYSTEM_DISAGREE (armFailed 0xFF 0xFF)
      (updSg g (fun x => { x with state := .disarmed, armWaiter := none }) s)
  | _ => s

/-- ARM_HOLD_TIMEOUT (R459): the hold has not lifted within 10 s. -/
def execArmHoldTimeout (at_ group : Nat) (s : State) : Result := .next (endPending group (advance at_ s))

/-! ### SEG_STOP (R265) -/

/-- A segment is in Fill. -/
def SegGroup.inFill (x : SegGroup) : Bool := x.filling.isSome

/-- The first SEG_STOP with abort meets a segment that is in Fill now, and one that a trigger still to be classified starts. -/
def noteAbort (g : Nat) (s : State) : State :=
  updSg g (fun x => { x with abortTick := some (x.abortTick.getD s.time.tick) }) s

/-- What SEG_STOP does to a group that is not stopping yet. -/
def stopCapture (g : Nat) (abort : Bool) (s : State) : State :=
  let s := if abort then noteAbort g s else s
  let s := stopGroup g (if abort then 2 else 1) s.time.tick (endFill g s.time.tick s)
  if abort then discardFill g s
  else updSg g (fun x => { x with filling := x.filling.map fun f => { f with underStop := true } }) s

/-- With abort, a segment still in Fill is discarded, and the reason becomes 2. -/
def abortStop (g : Nat) (s : State) : State :=
  let s := noteAbort g (endFill g s.time.tick s)
  if (s.sg g).inFill then discardFill g (updSg g (fun x => { x with reason := 2, stopTick := some s.time.tick }) s) else s

/-- DEDUCED (log entry 11). DEDUCED (log entry 74). -/
def segStopCmd : Cmd :=
  { opcode := 0x0703, classC := true, lengths := lenIs 40
    checks := fun _ q => [within 0 3 (q.u8 0), reservedBits q 1 1, reserved q 2 6]
    reject := fun s q => rejectWhen (match (s.sg (q.u8 0)).state with
      | .disarmed | .pending | .scheduled => true
      | _ => false) WRONG_STATE
    act := fun w q s =>
      let g := q.u8 0
      let s := match (s.sg g).state with
        | .stopping => if q.bit 1 0 then abortStop g s else s
        | _ => stopCapture g (q.bit 1 0) s
      updSg g (fun x => { x with stopWaiters := x.stopWaiters ++ [w] }) s }
def execSegStop (q : Request) (s : State) : Result := .next (runRequest segStopCmd q s)

/-! ### SEG_GET_STATUS (R278) -/

/-- DEDUCED (log entry 11). -/
def captureCode : CaptureState → Nat
  | .capturing => 1
  | .stopping => 2
  | _ => 0

def segRecord (s : State) (g : Nat) : List Byte :=
  let x := s.sg g
  let c := x.config
  let ever (n : Nat) : Nat := if x.everArmed then n else 0
  u8 (captureCode x.state) ++ u8 c.layout ++ u8 c.mask ++ u8 (if captureCode x.state = 0 then 0 else x.active) ++ u32 c.strands ++ u32 c.block ++ u32 c.slots
    ++ u64 (ever x.nextSeq) ++ u64 (ever x.firstSeq) ++ u64 x.written
    ++ u32 (if c.unset then 0 else s.preFill g (if x.everArmed then x.armFrame else s.nextBoundary))
    ++ u32 (if c.unset then 0 else s.hold g) ++ u8 x.lastReason ++ zeros 3 ++ u32 x.captures
    ++ u64 (ever (128 * x.armFrame))

def segGetStatusCmd : Cmd := readCmd 0x0704 32 (fun _ _ => []) fun s _ => (List.range 4).flatMap (segRecord s)
def execSegGetStatus (q : Request) (s : State) : Result := .next (runRequest segGetStatusCmd q s)

/-! ### Strands (R250, R258 to R260, R263, R275) -/

/-- The output of an input at a position of the group. -/
def SegGroup.position (x : SegGroup) (n : Nat) (k : Int) : Option Position :=
  (x.positions.getD n []).find? fun p => p.k = k

/-- Values narrowed to `w` bits, position 0 lowest. -/
def packFields (w : Nat) : List Int → Nat
  | [] => 0
  | v :: vs => (v % 2 ^ w).toNat + 2 ^ w * packFields w vs

/-- Values of a position that has none: code 0. -/
def zeroValues (mode : Nat) : List Int := if mode = 1 then [0, 0] else [0]

def fieldWidth (mode : Nat) : Nat := if mode < 2 then 12 else 16

/-- What one store strand of an input holds: its 24 bytes and its side bits. Positions after `last` are trail. -/
def SegGroup.strand (x : SegGroup) (n mode : Nat) (store : Int) (u : Nat) (last : Option Int) : List Byte × Nat :=
  let q := perStrand mode
  let ks := (List.range q).map fun i => store + (u * q + i : Nat)
  let live (k : Int) : Bool := match last with | some l => decide (k ≤ l) | none => true
  let at_ (k : Int) : Option Position := if live k then x.position n k else none
  let values := ks.flatMap fun k => match at_ k with | some p => p.values | none => zeroValues mode
  let held := ks.filterMap at_
  let missing := ks.any fun k => live k && (at_ k).isNone
  (le 24 (packFields (fieldWidth mode) values),
    ofBits [missing || held.any (·.suspect), held.any (·.unsettled), missing || held.any (·.noData),
      held.any (·.overrange)])

/-- The nibble of a physical strand in an input's side-bit array. -/
def nibbleAt (old : Byte) (j nibble : Nat) : Byte :=
  if j % 2 = 0 then BitVec.ofNat 8 (old.toNat / 16 * 16 + nibble) else BitVec.ofNat 8 (old.toNat % 16 + 16 * nibble)

/-- Write one store strand of an input into the slot's block. -/
def writeStrand (c : SegConfig) (slot rank u : Nat) (r : List Byte × Nat) (s : State) : State :=
  let j := u % c.strands
  let block := c.blockAt slot
  let side := block + c.sideBase + rank * c.sideSize + j / 2
  let s := memWrite (block + 24 * c.strands * rank + 24 * j) r.1 s
  memWrite side [nibbleAt ((s.memBytes side 1).headD 0) j r.2] s

/-- The store strand that holds a position. -/
def strandOf (q : Nat) (store k : Int) : Nat := ((k - store) / q).toNat

/-- First and last store strand of a segment. -/
def Segment.firstStrand (f : Segment) (q : Nat) : Nat := strandOf q f.store f.first
def Segment.lastStrand (f : Segment) (q : Nat) : Nat := strandOf q f.store f.last
def Segment.length (f : Segment) (q : Nat) : Nat := f.lastStrand q - f.firstStrand q + 1

/-- Store strands from `a` to `b`. -/
def strandsBetween (a b : Nat) : List Nat := (List.range (b + 1 - a)).map (a + ·)

/-- Write the strands of a segment's input. -/
def writeSegment (g n : Nat) (f : Segment) (s : State) : State :=
  let x := s.sg g
  let mode := (s.fin n).mode
  let q := perStrand mode
  forAll (strandsBetween (f.firstStrand q) (f.lastStrand q)) (fun u s =>
    writeStrand x.config f.slot (rankIn x.config.mask n) u (x.strand n mode f.store u (some f.last)) s) s

/-- All outputs that a segment needs of an input are in hand, or the input gives none any more. -/
def State.strandsReady (s : State) (g n : Nat) (f : Segment) : Bool :=
  let x := s.sg g
  (x.removed.any fun r => r.1 = n) || match (x.positions.getD n []).getLast? with
    | some p => decide (f.last ≤ p.k)
    | none => false

/-- The oldest segment that still lacks the strands of an input. -/
def SegGroup.lacking (x : SegGroup) (n : Nat) : Option Segment :=
  x.writing.find? fun f => f.mask.testBit n && ! f.written.contains n

/-- Mark the strands of an input as written in the segment of a sequence number. -/
def markWritten (g n sequence : Nat) (s : State) : State :=
  updSg g (fun x => { x with writing := x.writing.map fun f =>
    if f.sequence = sequence then { f with written := n :: f.written } else f }) s

/-- The store that fills now: its first position, slot and last strand where a segment bounds it. -/
def State.presentStore (s : State) (g : Nat) : Int × Nat × Option Int :=
  let x := s.sg g
  match x.filling with
  | some f => (f.store, f.slot, some f.last)
  | none => (s.posFrom (s.groupLow g) (128 * x.storeFrame : Nat), x.config.slotOf (x.nextSeq - x.firstSeq), none)

/-- Complete strands of the present store that the hold has released go into the block (R259, R263).
DEDUCED (log entry 15). -/
def writeStore (g n : Nat) (s : State) : State :=
  let x := s.sg g
  let mode := (s.fin n).mode
  let q := perStrand mode
  let (store, slot, last) := s.presentStore g
  let l := (x.positions.getD n []).filter fun p => decide (store ≤ p.k ∧ p.tick + s.holdTicks g ≤ s.time.tick)
  match l.head?, l.getLast? with
  | some a, some b =>
    let lo := ((a.k - store + q - 1) / q).toNat
    let hi := ((b.k + 1 - store) / q).toNat
    let hi := match last with | some k => min hi (strandOf q store k) | none => hi
    let s := forAll ((List.range (hi - lo)).map (lo + ·)) (fun u s =>
      writeStrand x.config slot (rankIn x.config.mask n) u (x.strand n mode store u last) s) s
    updSg g (fun x => { x with landed := updAt x.landed n (max hi) }) s
  | _, _ => s

/-- STRAND_WRITTEN (R263): strands of an input reach memory, those of a complete segment first. -/
def execStrandWritten (at_ group input : Nat) (s : State) : Result :=
  let s := advance at_ s
  let s := endFill group s.time.tick s
  let x := s.sg group
  .next (
    if ¬ s.memServes ∨ ¬ x.config.mask.testBit input ∨ ¬ x.armed then s
    else match x.lacking input with
      | some f =>
        if f.filled && decide (f.fillEnd + s.holdTicks group ≤ s.time.tick) && s.strandsReady group input f then
          markWritten group input f.sequence (writeSegment group input f s)
        else s
      | none => if x.active.testBit input && (match x.filling with | some f => f.filled && x.filled | none => x.filled) then
          writeStore group input s else s)

/-- An earlier segment of the slot still waits for its postmark: postmarks land in order (R274). -/
def SegGroup.slotBusy (x : SegGroup) (slot sequence : Nat) : Bool :=
  x.writing.any fun f => decide (f.slot = slot ∧ f.sequence < sequence)

/-- POSTMARK_FILL (R275): a slot used earlier in the capture has its postmark filled with 0, after the postmark of the
segment that used it last. DEDUCED (log entry 15). -/
def execPostmarkFill (at_ group : Nat) (s : State) : Result :=
  let s := advance at_ s
  let s := endFill group s.time.tick s
  let x := s.sg group
  .next (
    if ¬ s.memServes then s
    else match x.writing.find? fun f => ! f.filled with
      | some f =>
        if x.slotBusy f.slot f.sequence then s
        else updSg group (fun x => { x with writing := x.writing.map fun h =>
          if h.sequence = f.sequence then { h with filled := true } else h })
          (memZero (x.config.postmarkAt f.slot) 64 s)
      | none =>
        if x.filled ∨ (x.filling.isNone ∧ x.state ≠ .capturing) then s
        else
          let slot := match x.filling with | some f => f.slot | none => x.config.slotOf (x.nextSeq - x.firstSeq)
          if x.slotBusy slot (match x.filling with | some f => f.sequence | none => x.nextSeq) then s
          else updSg group (fun x => { x with filled := true }) (memZero (x.config.postmarkAt slot) 64 s))

/-! ### Side record and postmark (R267 to R276) -/

/-- The outputs of an input that a segment stores, lead and trail left out. -/
def SegGroup.stored (x : SegGroup) (n : Nat) (f : Segment) : List Position :=
  (x.positions.getD n []).filter fun p => decide (f.first ≤ p.k ∧ p.k ≤ f.last)

/-- Whether some output of a segment's input is missing. -/
def SegGroup.lacks (x : SegGroup) (n : Nat) (f : Segment) : Bool :=
  decide (((x.stored n f).length : Int) < f.last - f.first + 1)

/-- Outputs of the stored strands of a segment's input, the lead included. -/
def SegGroup.withLead (x : SegGroup) (n q : Nat) (f : Segment) : List Position :=
  let from_ := f.store + (f.firstStrand q * q : Nat)
  (x.positions.getD n []).filter fun p => decide (from_ ≤ p.k ∧ p.k ≤ f.last)

def SegGroup.bitmap (f : Segment) (p : Nat → Bool) : Nat :=
  ofBits ((List.range 8).map fun n => f.mask.testBit n && p n)

/-- The seam count that an input's last frame in the segment carries. -/
def SegGroup.seamsOf (x : SegGroup) (n : Nat) (f : Segment) : Nat :=
  match ((x.positions.getD n []).filter fun p => p.k ≤ f.last).getLast? with
  | some p => p.seams
  | none => 0

def generationOf (x : SegGroup) (f : Segment) : Nat :=
  match ((x.positions.getD (lowestIn f.mask) []).filter fun p => p.k ≤ f.last).getLast? with
  | some p => p.generation
  | none => 0

/-- Origin kind, port or group, position or module, beacon time (R270). -/
def originBytes (q : Trigger) : List Byte :=
  match q.bus, q.alarm with
  | some (m, g), _ => u8 2 ++ u8 g ++ u16 m ++ zeros 4 ++ u64 0
  | none, some (p, i, t) => u8 1 ++ u8 p ++ u16 i ++ zeros 4 ++ u64 t
  | none, none => zeros 16

/-- The 128 bytes of the side record. -/
def sideRecord (x : SegGroup) (q : Nat) (f : Segment) : List Byte :=
  let u0 := f.firstStrand q
  let lead := (f.first - f.store).toNat - u0 * q
  let trail := (f.lastStrand q + 1) * q - 1 - (f.last - f.store).toNat
  let b := u64 f.sequence ++ u64 f.armTick ++ u64 (f.trigger.instant / 65536) ++ u32 f.capture
    ++ u32 (u0 % x.config.strands) ++ u8 lead ++ u8 trail ++ u8 q ++ u8 (ofBits [f.stepped, f.underStop])
    ++ u32 f.missedFill ++ u32 f.missedRearm ++ u32 f.missedPrefill
    ++ ((List.range 8).flatMap fun n => u16 (if f.mask.testBit n then x.seamsOf n f else 0))
    ++ originBytes f.trigger ++ zeros 44
  b ++ u32 (crc32c b)

/-- The 64 bytes of the postmark. -/
def postmark (g : Nat) (x : SegGroup) (q : Nat) (f : Segment) : List Byte :=
  let ins := inputsIn f.mask
  let posts (n : Nat) : List Position := x.withLead n q f
  let gap := ins.any fun n => x.lacks n f || (posts n).any (·.noData)
  let suspect := SegGroup.bitmap f fun n => x.lacks n f || (posts n).any (·.suspect)
  let clipped := SegGroup.bitmap f fun n => (posts n).any (·.overrange)
  let coasting := ins.any fun n => (posts n).any (·.coasting)
  let unsettled := ins.any fun n => (posts n).any (·.unsettled)
  let missed := min (f.missedFill + f.missedRearm + f.missedPrefill) 0xFFFFFFFF
  let b := le 6 (f.sequence % 2 ^ 48) ++ u8 f.mask
    ++ u8 (g + 4 * ofBits [f.short, gap, coasting, f.unaligned, unsettled, f.wrapped])
    ++ u64 (f.trigger.instant / 65536 - f.armTick) ++ u16 (f.trigger.instant % 65536) ++ u16 f.trigger.code
    ++ u32 f.captured ++ i64 f.time ++ u32 (min f.dead 0xFFFFFFFF) ++ u32 missed
    ++ le 5 (x.config.blockAt f.slot + 24 * (f.firstStrand q % x.config.strands)) ++ le 3 (f.length q)
    ++ u16 ((ins.map fun n => x.seamsOf n f).sum % 65536) ++ u16 f.epoch ++ u8 clipped ++ u8 suspect
    ++ u16 (generationOf x f)
  b ++ u32 (crc32c b) ++ zeros 4

/-- Addresses of the strands of a segment's input that a poisoned line spoils, as store strand numbers. -/
def State.spoilt (s : State) (c : SegConfig) (rank q : Nat) (f : Segment) : List Nat :=
  (strandsBetween (f.firstStrand q) (f.lastStrand q)).filter fun u =>
    s.poisonedIn (c.blockAt f.slot + 24 * c.strands * rank + 24 * (u % c.strands)) 24

/-- Values of every position of an input, 0 where there is none or where a poisoned line spoils it. -/
def segmentValues (x : SegGroup) (n mode q : Nat) (spoilt : List Nat) (f : Segment) : List (List Int) :=
  (List.range (f.last - f.first + 1).toNat).map fun (i : Nat) =>
    let k := f.first + (i : Int)
    if spoilt.contains (strandOf q f.store k) then zeroValues mode
    else match x.position n k with
      | some p => p.values
      | none => zeroValues mode

/-- The hamper takes the segment from its group's input stages, and judges it by its stored strands, the lead included (R288). -/
def toHamper (g q : Nat) (f : Segment) (s : State) : State :=
  let x := s.sg g
  let ins := inputsIn x.config.mask
  let posts (n : Nat) : List Position := x.withLead n q f
  handSegment g
    { sequence := f.sequence, instant := f.trigger.instant, short := f.short
      noData := ins.any fun n => ! f.mask.testBit n || x.lacks n f || (posts n).any (·.noData)
      suspect := ins.any fun n => (posts n).any (·.suspect)
      unsettled := ins.any fun n => (posts n).any (·.unsettled)
      values := ins.map fun n => segmentValues x n (s.fin n).mode 1 [] f } s

/-- The hamper takes each segment whose outputs its lanes have given, in order (R288, R292). -/
def handReady (g : Nat) (s : State) : State :=
  let ready (f : Segment) : Bool := ! f.handed && (inputsIn f.mask).all fun n => s.strandsReady g n f
  let l := (s.sg g).writing.filter ready
  let s := forAll l (toHamper g (s.groupQ g)) s
  updSg g (fun x => { x with writing := x.writing.map fun f => if l.contains f then { f with handed := true } else f }) s

/-- What an input of a segment gives to the engines, which read it from memory (R337). -/
def State.segmentPart (s : State) (x : SegGroup) (q : Nat) (f : Segment) (n : Nat) : InputPart :=
  let mode := (s.fin n).mode
  let bad := s.spoilt x.config (rankIn x.config.mask n) q f
  let posts := x.withLead n q f
  { input := n, values := (segmentValues x n mode q bad f).flatten
    lost := (zeroValues mode).length * ((List.range (f.last - f.first + 1).toNat).filter fun (i : Nat) =>
      bad.contains (strandOf q f.store (f.first + (i : Int)))).length
    suspect := posts.any (·.suspect), unsettled := posts.any (·.unsettled), overrange := posts.any (·.overrange) }

/-- The engines' jobs on the group take the segment; one that R288 would skip for want of data is skipped (R342). -/
def toEngines (g q : Nat) (f : Segment) (s : State) : State :=
  let x := s.sg g
  let ins := inputsIn x.config.mask
  let noData := ins.any fun n => ! f.mask.testBit n || x.lacks n f || (x.withLead n q f).any (·.noData)
  releaseSegment g (ins.map (s.segmentPart x q f))
    { tick := f.trigger.instant / 65536, fraction := f.trigger.instant % 65536, stopped := decide (f.mask ≠ x.config.mask) }
    f.short noData s

/-- The frame at whose boundary a stopping group disarms (R265): after frame L of a segment in Fill, which an abort does
not wait for. DEDUCED (log entry 13). -/
def State.stopFrame (s : State) (g : Nat) : Nat :=
  let next := frameOf ((s.sg g).stopTick.getD 0) + 1
  if (s.sg g).reason = 2 ∨ (s.sg g).reason = 5 then next else max next (frameOf (s.tg g).fillEnd + 1)

/-- Every trigger before a frame boundary has been classified. -/
def State.allClassified (s : State) (g frame : Nat) : Bool :=
  decide (128 * frame ≤ s.classifiedBefore g)

/-- A stopping group whose last postmark is in memory, and none of whose triggers is still to be classified, disarms.
DEDUCED (log entry 12). -/
def reviewStop (g : Nat) (s : State) : State :=
  let x := s.sg g
  match x.state with
  | .stopping =>
    if x.filling.isSome ∨ ¬ x.writing.isEmpty ∨ ¬ s.allClassified g (s.stopFrame g) then s
    else endCapture g (s.stopFrame g) s
  | _ => s

/-- The outputs of one input that are kept, `keep` being the first that a store or a segment in hand needs. A trigger
at `open_` or later may still start a segment in the present store. -/
def SegGroup.pruned (x : SegGroup) (q open_ : Nat) (keep : Int) (l : List Position) : List Position :=
  let newest := match (l.filter fun p => decide (p.tick < open_)).getLast? with
    | some p => p.k
    | none => 0
  let low := if x.filling.isNone ∧ x.writing.isEmpty then max keep (newest + 1 - (x.config.strands * q : Nat)) else keep
  l.filter fun p => low ≤ p.k

/-- Outputs that no store and no segment needs any more are let go. -/
def prunePositions (g : Nat) (s : State) : State :=
  let x := s.sg g
  let low := s.groupLow g
  let q := s.groupQ g
  let open_ := s.classifiedBefore g
  let keep : Int := (x.filling.toList ++ x.writing).foldl (fun (m : Int) f => min m (f.store + (f.firstStrand q * q : Nat)))
    (s.posFrom low (128 * x.storeFrame : Nat))
  updSg g (fun x => { x with positions := x.positions.map (x.pruned q open_ keep) }) s

/-! ### The staging buffer (R21, R44, R45) -/

/-- Store strands that a lane has handed over, its newest output being at `newest`: to the segment's last, or every complete
one. -/
def handedStrands (q : Nat) (store newest : Int) (last : Option Int) : Nat :=
  match last with
  | some l => if l ≤ newest then strandOf q store l + 1 else strandOf q store (newest + 1)
  | none => strandOf q store (newest + 1)

/-- Strands of an input that a group holds in the staging buffer. -/
def State.stagedStrands (s : State) (g n : Nat) : Nat :=
  let x := s.sg g
  let q := s.groupQ g
  match (x.positions.getD n []).getLast? with
  | none => 0
  | some p =>
    let (store, _, last) := s.presentStore g
    let present := if x.state = .capturing ∨ x.filling.isSome then handedStrands q store p.k last - x.landed.getD n 0 else 0
    let segment (f : Segment) : Nat :=
      if f.written.contains n ∨ ¬ f.mask.testBit n then 0
      else handedStrands q f.store p.k (some f.last) - max (f.landed.getD n 0) (f.firstStrand q)
    present + (x.writing.map segment).sum

/-- Bytes of the staging buffer in use: strands of 24 bytes, and 64 for each postmark to come.
DEDUCED (log entry 76). -/
def State.staged (s : State) : Nat :=
  ((List.range 4).map fun g =>
    let x := s.sg g
    if x.armed then 24 * ((inputsIn x.config.mask).map (s.stagedStrands g)).sum + 64 * x.writing.length else 0).sum

/-- Size of the staging buffer in bytes. -/
def stagingBytes : Nat := 16 * 2 ^ 20

/-- A lane waits: the staging buffer has no room for the strands that a frame can complete, or both copies of its group's
pending store hold segments that are still to be combined (R44, R45, R293). DEDUCED (log entry 76). -/
def State.laneWaits (s : State) (n : Nat) : Bool :=
  (List.range 4).any fun g =>
    let x := s.sg g
    let frame := 128 / (perStrand (s.fin n).mode * s.positionSpacing n) + 1
    x.armed && x.active.testBit n &&
      (decide (stagingBytes < s.staged + 24 * frame)
        || s.ham.accs.any fun a => a.full && decide (a.st = .running ∧ a.config.kind = 0 ∧ a.config.group = g))

/-- POSTMARK_WRITTEN (R274): the oldest segment whose strands are all in memory. -/
def execPostmarkWritten (at_ group : Nat) (s : State) : Result :=
  let s := advance at_ s
  let s := endFill group s.time.tick s
  let x := s.sg group
  let c := x.config
  .next (match x.writing with
    | [] => s
    | f :: rest =>
      if ¬ s.memServes ∨ ¬ f.filled ∨ ((inputsIn f.mask).any fun n => ! f.written.contains n) then s
      else
        let q := s.groupQ group
        let side := c.blockAt f.slot + c.sideBase + (inputsIn c.mask).length * c.sideSize
        let s := memWrite side (sideRecord x q f) s
        let pm := postmark group x q f
        let s := memWrite (c.postmarkAt f.slot) pm s
        let s := toEngines group q f (if f.handed then s else toHamper group q f s)
        let s := updSg group (fun x => { x with writing := rest, written := x.written + 1, lastWritten := f.sequence }) s
        let s := if c.copy then offer c.pigeonhole { writer := .segment group, entries := [pm] } s else s
        let s := capture (0x24 + group) (((s.time.ps : Int) - s.psOf f.fillEnd) / 1000) s
        reviewStops (reviewStop group (prunePositions group s)))

/-- GROUP_DISARM (R265): a stopping group with no segment in hand disarms at a frame boundary, once every trigger before
it has been classified. -/
def execGroupDisarm (at_ group : Nat) (s : State) : Result :=
  let s := evaluate (advance at_ s)
  let s := endFill group s.time.tick s
  .next (if s.time.tick < 128 * s.stopFrame group then s else reviewStops (reviewStop group s))

end Sys2Proof.Machine
end

