-- ==== Sys2Proof/Machine/DamuxOps.lean ====
section
/-! DEFINITION. Damux ports as their commands and events use them: the round's budget (R310 to R312), beacons and their
commands (R307, R308), the states of heads and ports (R313 to R319), alarm groups (R222, R327). -/

namespace Sys2Proof.Machine

def updPort (p : Nat) (f : DamuxPort → DamuxPort) (s : State) : State :=
  { s with dmx := { s.dmx with ports := updAt s.dmx.ports p f } }

/-- Insert a head by its position. -/
def insertHead (h : Head) : List Head → List Head
  | [] => [h]
  | g :: l => if h.position < g.position then h :: g :: l else if h.position = g.position then h :: l else g :: insertHead h l

def putHead (p : Nat) (h : Head) (s : State) : State := updPort p (fun x => { x with heads := insertHead h x.heads }) s

/-- Change a head that the port knows. -/
def updHead (p i : Nat) (f : Head → Head) (s : State) : State :=
  updPort p (fun x => { x with heads := x.heads.map fun h => if h.position = i then f h else h }) s

/-! ### The round's budget (R310, R312) -/

/-- Enrolled, streaming or unresponsive: the head has a slot. -/
def Head.scheduled (h : Head) : Bool :=
  match h.st with
  | .enrolled | .streaming | .unresponsive => true
  | _ => false

/-- Head periods in a round of `p` µs. -/
def roundUnits (p : Nat) : Nat := (16384 * p + 9999) / 10000

/-- Largest sample count of a slot. -/
def slotMax (k p : Nat) : Nat := (roundUnits p + 2 ^ k - 1) / 2 ^ k + 1

/-- Payload bits of a slot. -/
def slotCost (k channels : Nat) (enable : Bool) (p : Nat) : Nat := 320 + if enable then 24 * channels * slotMax k p else 0

def Head.cost (h : Head) (p : Nat) : Nat := if h.scheduled then slotCost h.k h.channels h.enable p else 0

def roundCost (heads : List Head) (p : Nat) : Nat := 640 + (heads.map fun h => h.cost p).sum

/-- What a head's slot costs at most until every accepted STREAM is acknowledged (R312). -/
def DamuxPort.slotLoad (x : DamuxPort) (p : Nat) (h : Head) : Nat :=
  let asked := x.commands.filterMap fun c => if h.scheduled ∧ c.target = h.position then c.stream else none
  (asked.map fun z => slotCost z.1 z.2.1 z.2.2 p).foldl max (h.cost p)

/-- Cost of a port's round with a list of heads, accepted streams included. -/
def DamuxPort.load (x : DamuxPort) (heads : List Head) (p : Nat) : Nat := 640 + (heads.map (x.slotLoad p)).sum
def DamuxPort.fits (x : DamuxPort) (heads : List Head) (p : Nat) : Bool := x.load heads p ≤ 10000 * p

/-- The shortest period that carries every enrolled head (R12). -/
def pickPeriod (x : DamuxPort) (heads : List Head) : Option Nat := ((List.range 991).map (10 + ·)).find? (x.fits heads)

/-- The period that a port has once a change of period has taken effect. -/
def DamuxPort.wanted (x : DamuxPort) : Nat := x.newPeriod.getD x.period

/-- The module picks the period, once changed settings have taken effect. -/
def DamuxPort.picks (x : DamuxPort) : Bool :=
  match x.newFlags with
  | some f => f.2.2
  | none => x.picked

/-- Changed settings take effect (R314). -/
def DamuxPort.takeFlags (x : DamuxPort) : DamuxPort :=
  match x.newFlags with
  | some f => { x with expectClosed := f.1, auto := f.2.1, picked := f.2.2, newFlags := none }
  | none => x

/-- The period with which a list of heads runs on a port, where one fits. -/
def periodFor (x : DamuxPort) (heads : List Head) : Option Nat :=
  if x.picks then pickPeriod x heads else if x.fits heads x.wanted then some x.wanted else none

/-- Largest block of a head at a period (R324, R325). -/
def blockSizeOf (k channels p : Nat) : Nat := 32 + (3 * channels * slotMax k p + 7) / 8 * 8 + 8

/-- Every route of the heads still carries their blocks at a period (R325). -/
def routesFit (s : State) (heads : List Head) (p : Nat) : Bool :=
  heads.all fun h =>
    let b := blockSizeOf h.k h.channels p
    (match h.routePh with
      | some n => (match s.ph n with | some q => decide (b ≤ q.entrySize) | none => false)
      | none => true)
    && (match h.routeRing with | some (_, size, _) => decide (roundUp 64 b ≤ size) | none => true)

/-! ### Commands to heads (R308, R316, R320) -/

/-- The end that serves a head from the next round start on. -/
def Head.server (h : Head) : Bool := h.nextEnd.getD h.returnEnd

/-- The change of serving end takes effect. -/
def Head.takeEnd (h : Head) : Head := { h with returnEnd := h.server, nextEnd := none }

/-- Offset of a head's slot in ns from the round start, in hop order at its end (R311). DEDUCED (log entry 55). -/
def slotOffset (x : DamuxPort) (h : Head) : Nat :=
  let before := x.heads.filter fun g => g.scheduled && g.server = h.server &&
    (if h.server then decide (h.hop < g.hop) else decide (g.hop < h.hop))
  1000 + (before.map fun g => g.cost x.wanted).sum / 10

/-- Queue a command for a head; a newer SCHEDULE or STREAM without a waiter replaces an older one. -/
def queueCommand (p : Nat) (c : HeadCommand) (s : State) : State :=
  updPort p (fun x =>
    let l := x.commands.filter fun d => ¬ (d.target = c.target ∧ d.opcode = c.opcode ∧ d.waiter.isNone ∧ c.waiter.isNone)
    { x with commands := l ++ [{ c with sequence := x.nextSeq }], nextSeq := (x.nextSeq + 1) % 65536 }) s

def scheduleArgument (x : DamuxPort) (h : Head) : List Byte :=
  toLen 12 (u32 (slotOffset x h) ++ u32 h.pathDelay ++ u8 h.server.toNat)

/-- SCHEDULE to one head. -/
def scheduleHead (p i : Nat) (s : State) : State :=
  let arg := scheduleArgument (s.port p) (s.head p i)
  queueCommand p { target := i, opcode := 2, arg := arg, sequence := 0 }
    (updPort p (fun x => { x with schedules := (i, arg) :: x.schedules.filter fun e => e.1 ≠ i }) s)

/-- The head's slot is not where its latest SCHEDULE put it. DEDUCED (log entry 55). -/
def DamuxPort.moved (x : DamuxPort) (h : Head) : Bool :=
  h.scheduled && ! x.schedules.contains (h.position, scheduleArgument x h)

/-- SCHEDULE to every head whose slot has moved (R311). -/
def reschedule (p : Nat) (s : State) : State :=
  forAll ((s.port p).heads.filter (s.port p).moved) (fun h s => scheduleHead p h.position s) s

/-- A change of period waits for the next round start. -/
def setPeriod (p t : Nat) (s : State) : State :=
  updPort p (fun x => { x with newPeriod := if t = x.period then none else some t }) s

/-- A picked period follows the heads of the round (R12, R312). -/
def refitPeriod (p : Nat) (s : State) : State :=
  match periodFor (s.port p) (s.port p).heads with
  | some t => setPeriod p t s
  | none => s

def assignHead (p i serial : Nat) (s : State) : State :=
  queueCommand p { target := i, opcode := 1, arg := toLen 12 (u64 serial), sequence := 0 } s

def streamHead (p i k channels : Nat) (enable : Bool) (w : Option Waiter) (s : State) : State :=
  queueCommand p { target := i, opcode := 3, arg := toLen 12 (u8 k ++ u8 channels ++ u8 enable.toNat), sequence := 0
                   stream := some (k, channels, enable), waiter := w } s

/-- Commands of a head that can be acknowledged no more: who waits gets HW_FAULT (R320). DEDUCED (log entry 55). -/
def failCommands (p i : Nat) (s : State) : State :=
  let gone := (s.port p).commands.filter fun c => c.target = i
  let s := updPort p (fun x => { x with commands := x.commands.filter fun c => c.target ≠ i }) s
  forAll gone (fun c s => replyOpt c.waiter HW_FAULT (if c.opcode = 3 then zeros 8 else []) s) s

/-! ### Alarm groups (R222, R327) -/

/-- Groups with an active member among heads. -/
def activeGroups (l : List Head) : List Bool :=
  (List.range 4).map fun g => l.any fun h => (h.alarm &&& h.masks.getD g 0) ≠ 0

/-- The alarm bits of a head reach the slots at a tick: those that a slot reported with the head time of its latest sample, or
none because they are cleared. -/
def reportAlarms (p i tick bits : Nat) (masks : List Nat) (cleared : Bool) (time : Nat) (s : State) : State :=
  pushEvent { tick := tick, source := .alarm p i bits masks cleared time, instant := tick * 65536 } s

/-- Heads lose their alarm bits, also those of slots that wait in the letterbox (R222). DESIGN CHOICE (log entry 85). -/
def clearAlarms (p : Nat) (which : Head → Bool) (s : State) : State :=
  let x := s.port p
  let l := x.heads.filter fun h => which h && (decide (h.alarm ≠ 0) || x.letterbox.any fun y => decide (y.frame.position = h.position))
  forAll l (fun h s => reportAlarms p h.position s.time.tick 0 [] true 0 s)
    (updPort p (fun x => { x with heads := x.heads.map fun h => bif which h then { h with alarm := 0, clearedAt := s.time.tick } else h }) s)

/-! ### States of heads and ports (R313, R316) -/

/-- A head becomes Unresponsive. -/
def loseHead (p i : Nat) (s : State) : State :=
  let h := s.head p i
  match h.st with
  | .enrolled | .streaming =>
    let s := updHead p i (fun h => { h with st := .unresponsive, before := h.st, silent := 0, late := 0 }) s
    let s := assertAlert (.damuxHead p) (record 0x0905 [] s)
    let s := headGone p i (clearAlarms p (fun h => h.position = i) (failCommands p i s))
    reschedule p (refitPeriod p s)
  | _ => s

/-- ALERTn follows the unresponsive heads of a port. -/
def reviewUnresponsive (p : Nat) (s : State) : State :=
  if (s.port p).heads.any fun h => h.st = .unresponsive then s else releaseAlert (.damuxHead p) s

/-- A port changes state, with its record. -/
def setPortState (p : Nat) (st : PortState) (s : State) : State :=
  if (s.port p).st = st then s
  else
    let s := updPort p (fun x => { x with st := st }) s
    let s := record 0x0901 [] s
    match st with
    | .faulted => assertAlert (.damuxFault p) s
    | _ => releaseAlert (.damuxFault p) s

/-- Rounds run. -/
def DamuxPort.rounds (x : DamuxPort) : Bool := decide (x.st = .running ∨ x.st = .enumerating)

/-- What a port's heads lose when its rounds end: streams, slots and alarm bits; the roster stays (R314). -/
def endRounds (p : Nat) (s : State) : State :=
  let heads := (s.port p).heads
  let s := clearAlarms p (fun _ => true) s
  let s := forAll heads (fun h s => headGone p h.position (failCommands p h.position s)) s
  let w := match (s.port p).enum with | some e => e.waiter | none => none
  let s := updPort p (fun x => { x.takeFlags with
    heads := (x.heads.filter fun h => h.inRoster || h.routePh.isSome || h.routeRing.isSome || h.masks.any (· ≠ 0)).map fun h =>
      { h.takeEnd with st := .absent, hop := 0xFFFF, alarm := 0, lastTime := none, silent := 0, late := 0, drift := 0 }
    enum := none, discovery := false, rediscover := false, schedules := [], breakLink := none, broken := [], closed := false }) s
  let s := releaseAlert (.damuxBreak p) (releaseAlert (.damuxHead p) s)
  replyOpt w HW_FAULT [] s

/-- A port goes down (R314). DEDUCED (log entry 55). -/
def portDown (p : Nat) (s : State) : State :=
  if (s.port p).st = .down then s else setPortState p .down (endRounds p s)

/-- The period with which a port carries a list of heads; a longer one must leave every route its blocks (R317, R325). -/
def State.roomFor (s : State) (x : DamuxPort) (heads : List Head) : Option Nat :=
  match periodFor x heads with
  | none => none
  | some t => if t ≠ x.wanted ∧ ¬ routesFit s x.heads t then none else some t

/-- A head enters the round if it still fits (R317). -/
def admitHead (p i : Nat) (st : HeadState) (s : State) : Option State :=
  let x := s.port p
  let h := { s.head p i with st := st, inRoster := true, enable := decide (st = .streaming) }
  match s.roomFor x (insertHead h x.heads) with
  | none => none
  | some t =>
    let s := putHead p h (setPeriod p t s)
    let s := record 0x0904 [] s
    let s := if h.enable then streamHead p i h.k h.channels true none s else s
    some (reschedule p s)

/-- DAMUX_BUDGET_REFUSED for a head that stays Discovered for want of room: its index, least gap and fields (R317). -/
def budgetRefused (p : Nat) (h : Head) (streams : Bool) (s : State) : Nat × Nat × List RecField :=
  let x := s.port p
  let t := if x.picks then 1000 else x.wanted
  (256 * p + h.position, 10 * psPerS,
    [r1 p, r8 h.desc.serial, r4 (slotCost h.k h.channels streams t), r4 (10000 * t)])

/-- A head stays Discovered for want of room (R317). -/
def refuseHead (p i : Nat) (s : State) : State :=
  let h := s.head p i
  let r := budgetRefused p h (h.inRoster && h.enable) s
  recordLimited 0x090D r.1 r.2.1 r.2.2 s

/-! ### Enumeration (R318) -/

/-- The walk from an end begins. -/
def startWalk (p : Nat) (fromReturn : Bool) (w : Option Waiter) (s : State) : State :=
  updPort p (fun x => { x with enum := some { fromReturn := fromReturn, waiter := w }, discovery := false, replied := false }) s

/-- The walk from an end ends: the other end follows where the chain was expected closed and is not. -/
def endWalk (p : Nat) (s : State) : State :=
  match (s.port p).enum with
  | none => s
  | some e =>
    let x := s.port p
    if ¬ e.fromReturn ∧ x.expectClosed ∧ ¬ x.closed then startWalk p true e.waiter s
    else
      let s := updPort p (fun x => { x with enum := none, discovery := false }) s
      replyOpt e.waiter OK [] (setPortState p .running s)

/-! ### Beacons (R307) -/

/-- One beacon of a round, from one end. -/
def beaconBytes (s : State) (p : Nat) (returnEnd : Bool) (l : List HeadCommand) : List Byte :=
  let x := s.port p
  let b := u8 1 ++ u8 p ++ u16 (ofBits [returnEnd, x.discovery]) ++ u32 x.round ++ u64 x.roundHead ++ i64 s.now
    ++ u16 s.time.epoch ++ u16 x.period ++ u8 l.length ++ zeros 3
    ++ l.flatMap fun c => u8 c.target ++ u8 c.opcode ++ u16 c.sequence ++ toLen 12 c.arg
  b ++ u32 (crc32c b)

/-- Commands that have gone out four times without an acknowledgement (R53). DEDUCED (log entry 55). -/
def DamuxPort.expired (x : DamuxPort) : List Nat := (x.commands.filter fun c => 4 ≤ c.sent).map (·.target)

/-- A command needs no acknowledgement: its head has no slot. -/
def DamuxPort.unacked (x : DamuxPort) (c : HeadCommand) : Bool :=
  match x.heads.find? fun h => h.position = c.target with
  | some h => match h.st with | .enrolled | .streaming => false | _ => true
  | none => true

end Sys2Proof.Machine
end

