-- ==== Sys2Proof/Machine/Calibration.lean ====
section
/-! DEFINITION. Calibration and trimming: the commands of group 0x03, the start-up and foreground calibrations, the
schedule of passes and the calibration image. -/

namespace Sys2Proof.Machine

/-- The calibration generation rises by 1; after 65,535 it continues at 1 (R153). -/
def nextGeneration (g : Nat) : Nat := if g = 65535 then 1 else g + 1

def bumpGeneration (s : State) : State :=
  { s with cal := { s.cal with
      generation := nextGeneration s.cal.generation, changes := s.cal.changes ++ [(s.nextBoundary, s.cal.generation)] } }

/-! ### Start-up foreground calibration (R139, R140) -/

/-- A loss of the sample loop's lock in steps 2 to 4 discards their measurements: the sequence goes on at step 2 once the
loop is locked (R140). -/
def restartStartup (s : State) : State :=
  if 2 ≤ s.cal.startup ∧ s.cal.startup ≤ 4 then { s with cal := { s.cal with startup := 1 } } else s

/-- What the step that ends has measured: on the slices and the corrections of the cores, and on the alignment. -/
def endStartupStep (trims : List CoreTrim) (s : State) : State :=
  if s.cal.startup = 4 then
    forAll trims trimCore { s with cal := { s.cal with alignment := (List.range 8).map Config.alignment } }
  else forAll trims trimCore s

/-- The table of interpolator `i` is built (R156, R239). -/
def buildTable (tables : List (List Int)) (i : Nat) (s : State) : State :=
  putTable (i / 2) (i % 2) (tables.getD i []) s

/-- Step 2 builds the fault map afresh. -/
def beginStartupStep (step : Nat) (s : State) : State :=
  let s := if step = 2 then
      { forEach 24 (fun c => updCore c fun _ => { st := .rotating }) s with
        aux := { s.aux with holdWaits := false } }
    else s
  { s with cal := { s.cal with startup := step } }

/-- CAL_STARTUP_STEP (R139): a step begins, and the one before it has ended. -/
def execCalStartupStep (at_ step : Nat) (trims : List CoreTrim) (s : State) : Result :=
  let s := advance at_ s
  .next (
    if s.cal.startup = 0 ∨ step ≠ s.cal.startup + 1 ∨ 5 < step ∨ (step ≤ 4 ∧ ¬ s.sampleLocked) then s
    else beginStartupStep step (endStartupStep trims s))

/-- Settling passes on every enabled input (R149). -/
def settleAll (s : State) : State := forEach 8 startSettling s

/-- An input's background calibration begins anew: its sensor is trusted again (R148). -/
def InputCal.renew (ps : Nat) (x : InputCal) : InputCal :=
  { x with changedAt := none, others := [], tRef := x.temperature, lastStart := ps, pass := none, sensorFault := false }

/-- Corrections of the start-up calibration come into force on every input at once (R139 step 6).
DEDUCED (log entry 52). -/
def finishStartup (tables : List (List Int)) (s : State) : State :=
  let s := forEach 18 (buildTable tables) s
  let s := forEach 24 loadCore s
  let s := forEach 8 staffInput { s with inp := { s.inp with running := true, nextFrame := s.nextBoundary } }
  let faulty := (s.inp.cores.filter fun c => c.st = .faulty).length
  let spared := s.sparedOn (List.range 24)
  let s := { s with cal := { s.cal with
    generation := 1, startup := 0, done := true, inputs := s.cal.inputs.map (InputCal.renew s.time.ps) } }
  let s := releaseAlerts (fun a => match a with | .tempSensor _ => true | _ => false) s
  let s := record 0x0301 [r4 1, r4 spared, r4 faulty] s
  if s.cal.settleAfter then settleAll { s with cal := { s.cal with settleAfter := false } } else s

/-! ### Commanded foreground calibration (R141 to R143) -/

/-- The body of CAL_FOREGROUND_START and CAL_FOREGROUND_DONE (R142). -/
def foregroundFields (input first last generation spared : Nat) : List RecField :=
  [r1 input, r8 first, r8 last, r4 generation, r4 spared]

/-- The interruption of a commanded calibration begins (R142). -/
def beginCommanded (f : Foreground) (s : State) : State :=
  let s := startForeground { f with deferred := false } s
  record 0x0302 (foregroundFields (f.inputs.headD 0) (128 * s.nextBoundary) 0 (nextGeneration s.cal.generation) 0)
    (askHold s)

def calRunForegroundCmd : Cmd :=
  { opcode := 0x0301, classC := true, lengths := lenIs 40, needsRun := true
    checks := fun s q => [inputField s (q.u8 0), reserved q 1 7]
    reject := fun s q => firstRejection [
      rejectWhen ((s.input (q.u8 0)).stopped = 2) HW_FAULT,
      rejectWhen (¬ (s.input (q.u8 0)).enabled) WRONG_STATE,
      rejectWhen s.calibrating BUSY]
    act := fun w q s =>
      let f : Foreground := { kind := .commanded, inputs := [q.u8 0], waiter := some w }
      if s.aux.inject.isSome then
        let f := { f with deferred := true, wasDeferred := true }
        { s with cal := { s.cal with foregrounds := s.cal.foregrounds ++ [f] } }
      else beginCommanded f s }
def execCalRunForeground (q : Request) (s : State) : Result := .next (runRequest calRunForegroundCmd q s)

/-- A deferred calibration begins once the injected conversion has completed (R522). -/
def beginDeferred (s : State) : State :=
  match s.cal.foregrounds.find? (fun f => f.deferred) with
  | none => s
  | some f =>
    beginCommanded f { s with cal := { s.cal with foregrounds := s.cal.foregrounds.filter fun g => ¬ g.deferred } }

/-- Take the first foreground calibration of a kind that is under way. -/
def takeForeground (k : ForegroundKind) (s : State) : Option (Foreground × State) :=
  match s.cal.foregrounds.find? (fun f => f.kind = k ∧ ¬ f.deferred) with
  | none => none
  | some f => some (f, { s with cal := { s.cal with foregrounds := s.cal.foregrounds.erase f } })

/-- New corrections of every core of some inputs come into force together; faults are handled (R143). -/
def applyTrims (inputs : List Nat) (trims : List CoreTrim) (s : State) : State :=
  let cores := inputs.flatMap s.coresOf
  let s := forAll (trims.filter fun t => cores.contains t.core) trimCore s
  let s := forAll cores loadCore s
  forAll inputs staffInput s

def execCalForegroundDone (at_ : Nat) (trims : List CoreTrim) (s : State) : Result :=
  let s := advance at_ s
  .next (match takeForeground .commanded s with
    | none => s
    | some (f, s) =>
      let n := f.inputs.headD 0
      let before := s.sparedOn (s.coresOf n)
      let s := bumpGeneration (applyTrims f.inputs trims (endInterruption f.inputs s))
      let s := record 0x0303 (foregroundFields n (128 * f.first) (128 * frameOf s.time.tick) s.cal.generation
        (s.sparedOn (s.coresOf n) - before)) s
      replyOpt f.waiter (if f.wasDeferred then ACCEPTED_DEFERRED else OK) [] s)

/-- With the calibration ends the acquisition subsystem's reset that asked for it (R539). -/
def endSubsystem (f : Foreground) (s : State) : State :=
  if f.subsystem then { s with boot := { s.boot with subsystem := none } } else s

/-- The calibration of R119 ends. -/
def execInputCalibrationDone (at_ : Nat) (trims : List CoreTrim) (s : State) : Result :=
  let s := advance at_ s
  .next (match takeForeground .enable s with
    | none => s
    | some (f, s) =>
      replyOpt f.waiter OK [] (endSubsystem f (applyTrims f.inputs trims (endInterruption f.inputs s))))

/-! ### The schedule (R144 to R148) -/

/-- DESIGN CHOICE (log entry 82). -/
def calSetScheduleCmd : Cmd :=
  setCmd 0x0302 40
    (fun _ q => [within 0 1 (q.u8 0), reserved q 1 1, within 5 100 (q.u16 2),
      notZero (q.u32 4), within 60 86400 (q.u32 4)])
    (fun _ _ => none)
    (fun q s => { s with cal := { s.cal with
      continuous := q.u8 0 = 1, threshold := q.u16 2, maxInterval := q.u32 4
      inputs := s.cal.inputs.map fun x => { x with continuous := decide (q.u8 0 = 1) } } })
def execCalSetSchedule (q : Request) (s : State) : Result := .next (runRequest calSetScheduleCmd q s)

/-- A condition of R145 arises: a pass starts, or follows the one that runs. -/
def passDue (n : Nat) (s : State) : State :=
  if s.calPath n ≠ 0 ∨ ¬ s.enabled n ∨ ¬ s.inp.running then s
  else match (s.inCal n).pass with
    | some p => updInCal n (fun x => { x with pass := some { p with again := true } }) s
    | none => startPass n false s

/-- The latest readings of the other inputs' sensors: their sum and their number (R148). -/
def State.otherSensors (s : State) (n : Nat) : Int × Nat :=
  let l := ((List.range 8).filter (· ≠ n)).filterMap fun m => (s.inCal m).readings.head?
  (l.sum, l.length)

/-- What the others read 10 s ago: the newest entry that is that old. -/
def tenSecondsAgo (ps : Nat) (l : List (Nat × Int × Nat)) : Option (Int × Nat) :=
  (l.find? fun x => decide (x.1 + 10 * psPerS ≤ ps)).map (·.2)

/-- The entries of the latest 10 s and the one before them. -/
def keepTenSeconds (ps : Nat) : List (Nat × Int × Nat) → List (Nat × Int × Nat)
  | [] => []
  | x :: l => if x.1 + 10 * psPerS ≤ ps then [x] else x :: keepTenSeconds ps l

/-- A sensor fault: the input runs in the continuous mode (R148). -/
def sensorFault (n : Nat) (s : State) : State :=
  if (s.inCal n).sensorFault then s
  else record 0x0305 [] (assertAlert (.tempSensor n) (updInCal n (fun x => { x with sensorFault := true }) s))

/-- A sensor that has not moved for 10 s while the mean of the others has, over the same 10 s (R148). -/
def sensorStuck (s : State) (n : Nat) (temp : Int) : Bool :=
  let (sum, k) := s.otherSensors n
  match (s.inCal n).changedAt, tenSecondsAgo s.time.ps (s.inCal n).others with
  | some (t, own), some (sum', k') =>
    decide (own = temp ∧ t + 10 * psPerS ≤ s.time.ps ∧ 256 * (k * k') < (sum * k' - sum' * k).natAbs)
  | _, _ => false

/-- A reading outside −55 to +150 °C, or more than 10 °C from the mean of the others (R148). -/
def sensorOff (s : State) (n : Nat) (temp : Int) : Bool :=
  let (sum, k) := s.otherSensors n
  decide (temp < -55 * 256 ∨ 150 * 256 < temp ∨ 2560 * k < (temp * k - sum).natAbs)

/-- A reading enters the latest 100, and what the others read beside it the latest 10 s. -/
def InputCal.read (ps : Nat) (temp : Int) (others : Int × Nat) (x : InputCal) : InputCal :=
  { x with
    readings := (temp :: x.readings).take 100
    changedAt := match x.changedAt with
      | some (t, own) => if own = temp then some (t, own) else some (ps, temp)
      | none => some (ps, temp)
    others := if x.others.head?.map (·.2) = some others then keepTenSeconds ps x.others
      else (ps, others) :: keepTenSeconds ps x.others }

/-- The spur that a live core's temperature predicts exceeds −78 dBc (R157). -/
def checkQuality (n : Nat) (temp : Int) (s : State) : State :=
  forAll ((List.range 3).map (3 * n + ·)) (fun c s =>
    let x := s.core c
    let now := x.spur + Config.spurDrift c (temp - x.trimTemp)
    if x.st = .live ∧ -1248 < now ∧ ¬ x.qualityLow then
      record 0x0306 [r1 c, ri2 x.spur, ri2 now, ri2 (temp - x.trimTemp)] (updCore c (fun x => { x with
        qualityLow := true }) s)
    else s) s

def execTemperatureReading (at_ input : Nat) (temp : Int) (s : State) : Result :=
  let s := advance at_ s
  .next (
    if 8 ≤ input then s
    else
      let bad := sensorOff s input temp || sensorStuck s input temp
      let s := updInCal input (InputCal.read s.time.ps temp (s.otherSensors input)) s
      let s := if bad then sensorFault input s else s
      let s := checkQuality input (s.inCal input).temperature s
      let x := s.inCal input
      if s.cal.threshold * 256 ≤ 10 * (x.temperature - x.tRef).natAbs then passDue input s else s)

def execCalMaxInterval (at_ input : Nat) (s : State) : Result :=
  let s := advance at_ s
  .next (
    if input < 8 ∧ (s.inCal input).lastStart + s.cal.maxInterval * psPerS ≤ s.time.ps then passDue input s else s)

/-! ### Quality figures (R154 to R156) -/

def CoreState.code : CoreState → Nat
  | .live => 0 | .rotating => 1 | .ready => 2 | .faulty => 3 | .down => 4

def coreQuality (s : State) (c : Nat) : List Byte :=
  let x := s.core c
  let now := x.spur + Config.spurDrift c ((s.inCal (c / 3)).temperature - x.trimTemp)
  u8 x.st.code ++ u8 (if x.st = .live then x.phase else 0xFF) ++ i16 x.spur ++ i16 now
    ++ u8 (ofBits [x.trimmed, x.fromReference]) ++ u8 0

def inputQuality (s : State) (n : Nat) : List Byte :=
  let x := s.inCal n
  u8 (s.calPath n)
    ++ u8 (ofBits [x.pass.isSome, (match x.pass with | some p => p.settling | none => false), x.sensorFault])
    ++ i16 x.temperature ++ i16 (if s.calPath n = 1 ∨ s.calPath n = 2 then 0 else x.tRef) ++ zeros 2
    ++ u32 x.passes
    ++ u32 (match x.lastEnd with | some t => (s.time.ps - t) / psPerS | none => 0xFFFFFFFF)

/-- Section 1: eye figures of the channels come from the latest training (R156). -/
def channelQuality (s : State) (ch : Nat) : List Byte :=
  let x := s.mem.channels.getD ch {}
  u16 x.width ++ u16 x.height ++ u8 (min 3 x.failed) ++ zeros 3

/-- A lane of a port carries nothing: its port is not up, or the lane has lost its signal. -/
def DamuxState.laneDown (x : DamuxState) (p l : Nat) : Bool :=
  let y := x.ports.getD p {}
  ! (y.rounds && if l = 0 then y.forwardSignal else y.returnSignal)

/-- Section 2: the eye monitor measures continuously, so that its figures are free values; the equaliser setting is the one
in force (R138, R156). -/
def laneQuality (s : State) (p l : Nat) : List Byte :=
  let k := s.free + 2 * (2 * p + l)
  u16 (Config.free k) ++ u16 (Config.free (k + 1)) ++ u8 (s.dmx.lanes.getD (2 * p + l) {}).equaliser
    ++ u8 (s.dmx.laneDown p l).toNat ++ zeros 2

/-- Section 3: the residual figures that the table in force was built with (R156). -/
def interpQuality (s : State) (src i : Nat) : List Byte :=
  let x := (s.edge.sources.getD src {}).interps.getD i {}
  u16 x.rms ++ u16 x.peak ++ u32 ((s.time.ps - x.builtAt) / psPerS)

def qualityPayload (s : State) (q : Request) : List Byte :=
  u16 s.cal.generation ++ u8 (q.u8 0) ++ u8 s.cal.continuous.toNat ++ u16 s.cal.threshold ++ zeros 2
    ++ u32 s.cal.maxInterval ++ zeros 4
    ++ (match q.u8 0 with
      | 0 => (List.range 24).flatMap (coreQuality s) ++ (List.range 8).flatMap (inputQuality s)
      | 1 => (List.range 24).flatMap (channelQuality s)
      | 2 => (List.range 32).flatMap fun i => laneQuality s (i / 2) (i % 2)
      | _ => (List.range 18).flatMap fun i => interpQuality s (i / 2) (i % 2))

def calGetQualityCmd : Cmd :=
  readClearCmd 0x0303 40 (fun _ q => [within 0 3 (q.u8 0), reserved q 1 7]) qualityPayload
    fun _ s => { s with free := s.free + 64 }
def execCalGetQuality (q : Request) (s : State) : Result := .next (runRequest calGetQualityCmd q s)

/-! ### The calibration image (R158 to R162) -/

def imageSize : Nat := 11744

def sectionHead (type len : Nat) : List Byte := u16 type ++ zeros 2 ++ u32 len

def coreImage (x : Core) : List Byte :=
  i32 x.gain ++ i16 x.offset ++ i16 x.tap ++ u64 x.slices
    ++ toLen 68 (x.trims.flatMap fun p => i8 p.1 ++ i8 p.2) ++ i16 x.trimTemp
    ++ u8 (if x.st = .faulty then 3 else 0) ++ zeros 9

/-- The image of the present calibration values, digest included (R158, R159). -/
def imageBytes (s : State) : List Byte :=
  let head := u32 0x49435250 ++ u16 1 ++ u16 (0x100 + s.fwMinor) ++ u64 Config.serial.toNat ++ u32 imageSize
    ++ u16 s.cal.generation ++ u16 4 ++ u32 s.clk.core ++ u8 (ofBits s.inp.pairs) ++ zeros 3 ++ i64 s.now
    ++ u16 s.time.epoch ++ zeros 22
  let body := sectionHead 1 2312 ++ s.inp.cores.flatMap coreImage
    ++ sectionHead 2 72 ++ s.cal.alignment.flatMap (fun a => i32 a ++ zeros 4)
    ++ sectionHead 3 9224 ++ (s.edge.sources.flatMap fun x => x.interps.flatMap fun i =>
        toLen 512 (i.table.flatMap i16))
    ++ sectionHead 4 40 ++ ((List.range 8).flatMap fun n => i16 (s.inCal n).tRef ++ u8 (s.calPath n) ++ u8 0)
  let m := toLen 11712 (head ++ body)
  m ++ sha256 m

def calSaveImageCmd : Cmd :=
  { opcode := 0x0304, classC := true, lengths := lenIs 32, checks := fun _ _ => [], reject := fun _ _ => none
    act := fun w _ s =>
      let m := imageBytes s
      reply w OK (u32 imageSize ++ zeros 4 ++ m.drop 11712) (updSession w.sess (fun x => { x with image := m }) s) }
def execCalSaveImage (q : Request) (s : State) : Result := .next (runRequest calSaveImageCmd q s)

def imageRange (q : Request) : List Check :=
  [counted 3968 (q.u16 2), allowed (q.u16 0 + q.u16 2 ≤ imageSize), reserved q 4 4]

def calReadImageCmd : Cmd :=
  readCmd 0x0305 40 (fun _ q => [allowed (q.u16 0 < imageSize)] ++ imageRange q)
    fun s q => slice (s.session q.sess).image (q.u16 0) (q.u16 2)
def execCalReadImage (q : Request) (s : State) : Result := .next (runRequest calReadImageCmd q s)

/-- Bytes written over a buffer at an offset. -/
def overlay (buf : List Byte) (off : Nat) (bs : List Byte) : List Byte :=
  slice buf 0 off ++ bs ++ buf.drop (off + bs.length)

def calWriteImageCmd : Cmd :=
  { opcode := 0x0306, classC := true, lengths := fun l => decide (41 ≤ l ∧ l ≤ 40 + 3968)
    checks := fun _ q => [allowed (q.u16 0 < imageSize), counted 3968 (q.u16 2),
      allowed (q.u16 0 + q.u16 2 ≤ imageSize), failWhen (q.length ≠ 40 + q.u16 2) BAD_LENGTH, reserved q 4 4]
    reject := fun _ _ => none
    act := fun w q s => reply w OK [] (updSession w.sess (fun x => { x with
      image := overlay x.image (q.u16 0) (q.bytes 8 (q.u16 2)) }) s) }
def execCalWriteImage (q : Request) (s : State) : Result := .next (runRequest calWriteImageCmd q s)

/-- Section headers of an image (check 1 of R161). -/
def imageFormat (m : List Byte) : Bool :=
  decide (field m 0 4 = 0x49435250 ∧ field m 4 2 = 1 ∧ field m 0x10 4 = imageSize ∧ field m 0x16 2 = 4)
    && [(0x40, 1, 2312), (0x948, 2, 72), (0x990, 3, 9224), (0x2D98, 4, 40)].all fun p =>
      decide (field m p.1 2 = p.2.1 ∧ field m (p.1 + 4) 4 = p.2.2)

/-- Faulty cores and slices in use agree with the fault map (check 5 of R161). -/
def imageFaults (m : List Byte) (s : State) : Bool :=
  (List.range 24).all fun c =>
    let x := s.core c
    let o := 0x48 + 96 * c
    decide (field m (o + 8) 8 = x.slices ∧ (field m (o + 0x56) 1 = 3 ↔ x.st = .faulty))

/-- The checks of R161, each with its number: the first that fails. -/
def restoreChecks (s : State) (m : List Byte) : Rejection :=
  let fail (n : Nat) (bad : Bool) (status : Nat) : Rejection := if bad then some (status, u8 n ++ zeros 7) else none
  firstRejection [
    fail 1 (¬ imageFormat m) OUT_OF_RANGE,
    fail 2 (sha256 (m.take 11712) ≠ m.drop 11712) OUT_OF_RANGE,
    fail 3 (field m 8 8 ≠ Config.serial.toNat) OUT_OF_RANGE,
    fail 4 (field m 7 1 ≠ 1) OUT_OF_RANGE,
    fail 5 (¬ imageFaults m s) OUT_OF_RANGE,
    fail 6 s.anyArmed WRONG_STATE,
    fail 7 (field m 0x18 4 ≠ s.clk.core ∨ field m 0x1C 1 ≠ ofBits s.inp.pairs) WRONG_STATE,
    fail 8 (s.calibrating ∨ s.cal.inputs.any fun x => match x.pass with
      | some p => p.settling
      | none => false) BUSY]

/-- Inputs that a restore interrupts: every enabled one (R162). -/
def State.enabledInputs (s : State) : List Nat := (List.range 8).filter s.enabled

def calRestoreImageCmd : Cmd :=
  { opcode := 0x0307, classC := true, lengths := lenIs 32, checks := fun _ _ => [], failLen := 8, needsRun := true
    reject := fun s q => restoreChecks s (toLen imageSize (s.session q.sess).image)
    act := fun w _ s =>
      startForeground { kind := .restore, inputs := s.enabledInputs, waiter := some w }
        { s with cal := { s.cal with restoring := toLen imageSize (s.session w.sess).image } } }
def execCalRestoreImage (q : Request) (s : State) : Result := .next (runRequest calRestoreImageCmd q s)

/-- A core takes the image's corrections (R162). -/
def restoreCore (m : List Byte) (c : Nat) (s : State) : State :=
  let o := 0x48 + 96 * c
  updCore c (fun x => if x.st = .faulty then x else { x with
    gain := fieldInt m o 4, offset := fieldInt m (o + 4) 2, tap := fieldInt m (o + 6) 2, slices := field m (o + 8) 8
    trims := (List.range 34).map fun i => (fieldInt m (o + 16 + 2 * i) 1, fieldInt m (o + 17 + 2 * i) 1)
    trimTemp := fieldInt m (o + 0x54) 2, loaded := none }) s

/-- T_ref and the path of an input; a path of 2 is restored as 0, and a sensor that is faulty now keeps it at 2 (R162).
DEDUCED (log entry 52). -/
def restoreInput (m : List Byte) (n : Nat) (s : State) : State :=
  let path := field m (0x2DA2 + 4 * n) 1
  updInCal n (fun x => { x with
    tRef := fieldInt m (0x2DA0 + 4 * n) 2, continuous := if path = 3 then x.continuous else decide (path = 1) }) s

/-- The linearity table of interpolator i (R156, R159). -/
def restoreTable (m : List Byte) (i : Nat) (s : State) : State :=
  putTable (i / 2) (i % 2) ((List.range 256).map fun b => fieldInt m (0x998 + 512 * i + 2 * b) 2) s

/-- The alignment residuals of an image; the restore ends. -/
def restoreAlignment (m : List Byte) (s : State) : State :=
  { s with cal := { s.cal with restoring := [], alignment := (List.range 8).map fun n => fieldInt m (0x950 + 8 * n) 4 } }

def execCalRestored (at_ : Nat) (s : State) : Result :=
  let s := advance at_ s
  .next (match takeForeground .restore s with
    | none => s
    | some (f, s) =>
      let m := s.cal.restoring
      let s := endInterruption f.inputs s
      let s := forEach 18 (restoreTable m) (forEach 8 (restoreInput m) (forEach 24 (restoreCore m) s))
      let s := bumpGeneration (restoreAlignment m s)
      let s := record 0x0307 [rb (m.drop 11712), r4 (field m 0x14 2), r4 s.cal.generation] s
      replyOpt f.waiter OK (zeros 8) s)

end Sys2Proof.Machine
end

