-- ==== Sys2Proof/Machine/Flags.lean ====
section
/-! DEFINITION. The status words of BAR0 and the flags of R79, R427 to R430 as a read of each register returns them. -/

namespace Sys2Proof.Machine

/-- PMS_ID (R427). DESIGN CHOICE (log entry 28). -/
def pmsId : Nat := 0x46007A31 + Config.stepping.toNat * 2 ^ 16 + Config.assembly.toNat * 2 ^ 20

/-- Major version of the firmware that this manual describes (R1). -/
def fwMajor : Nat := 1

/-- BOOT_STATE (R428, R431): in state 7 the boot firmware's version, in states 0 and 1 none. -/
def State.bootStateWord (s : State) : Nat :=
  let major := if s.boot.st ≤ 1 then 0 else if s.boot.st = 7 then Config.bootMajor.toNat else fwMajor
  let minor := if s.boot.st ≤ 1 then 0 else if s.boot.st = 7 then Config.bootMinor.toNat else s.fwMinor
  s.boot.st + s.boot.cause * 2 ^ 4
    + ofBits [s.boot.cfgDefaulted, s.boot.memPreserved, s.memServes, s.clk.ovenReady] * 2 ^ 8 + minor * 2 ^ 16
    + major * 2 ^ 24

def SessionState.code : SessionState → Nat
  | .closed => 0
  | .idle => 1
  | .running => 2
  | .replyReady => 3

/-- MBX_STATUS_n, 64 bits (R430). -/
def State.mbxStatus (s : State) (n : Nat) : Nat :=
  let x := s.session n
  x.st.code + x.notify.toNat * 2 ^ 3 + x.vector * 2 ^ 4 + x.dbResult * 2 ^ 16 + x.requests % 2 ^ 16 * 2 ^ 32
    + x.gen * 2 ^ 48

/-- AUX_DATA (R430). -/
def State.auxData (s : State) : Nat := s.aux.code + s.aux.source * 2 ^ 16 + s.aux.injected.toNat * 2 ^ 21

/-- AUX_STATUS (R430). -/
def State.auxStatus (s : State) : Nat :=
  ofBits [s.aux.valid, s.aux.overrun, s.aux.inject.isSome, s.aux.running.isSome]
    + ((s.aux.running.map (·.2)).getD 0) * 2 ^ 4

/-- BAR0 is served: the PCIe link is up and the module is out of reset (R545). -/
def State.bar0Serves (s : State) : Bool := s.pcie.linkUp && s.awake

end Sys2Proof.Machine
end

