-- ==== Sys2Proof/Machine/Auxiliary.lean ====
section
/-! DEFINITION. The auxiliary converter, the monitors and the captures (R469, R515 to R528). -/

namespace Sys2Proof.Machine

/-! ### Codes and values (R515) -/

/-- The value of a code in the source's monitor unit. -/
def monitorValue (source code : Nat) : Int :=
  if source = 2 ∨ source = 5 ∨ source = 7 then roundDiv (code * 76294) 1000
  else if source = 8 then roundDiv (code * 15259) 100
  else if 9 ≤ source ∧ source ≤ 12 then (code : Int) - 16384
  else if source = 13 then roundDiv (code * 19073) 1000
  else roundDiv (code * 38147) 1000

/-! ### Commands (R469) -/

/-- Source j of a sequence request: a source while j is below Count, reserved from there on. -/
def sequenceSource (q : Request) (j : Nat) : Check :=
  if j < q.u8 0 then within 0 23 (q.u8 (8 + j)) else reserved q (8 + j) 1

/-- A sequence conversion is in progress: it runs, or it was aborted and restarts. -/
def AuxState.sequenceRuns (x : AuxState) : Bool :=
  (match x.running with
    | some (.sequence, _) => true
    | _ => false)
  || match x.restart with
    | some (.sequence, _) => true
    | _ => false

/-- The settings of a sequence take effect, once its conversion in progress has ended (R519). DEDUCED (log entry 49). -/
def setSequence (n : AuxSequence) (x : AuxState) : AuxState :=
  if x.sequenceRuns then { x with seqNew := some n } else { x with seq := n, seqDue := none, seqNew := none }

def auxSetSequenceCmd : Cmd :=
  setCmd 0x0F01 64
    (fun _ q => [counted 24 (q.u8 0), reservedBits q 1 1, notZero (q.u16 2), reserved q 4 4]
      ++ (List.range 24).map (sequenceSource q))
    (fun _ _ => none)
    (fun q s =>
      let n : AuxSequence :=
        { run := q.bit 1 0, sources := (List.range (q.u8 0)).map fun j => q.u8 (8 + j), interval := q.u16 2
          start := (s.time.ps / 1000000 + 1) * 1000000 }
      { s with aux := setSequence n s.aux })
def execAuxSetSequence (q : Request) (s : State) : Result := .next (runRequest auxSetSequenceCmd q s)

/-- An injected conversion aborts a running housekeeping or sequence conversion, which restarts later (R521). -/
def abortRoutine (x : AuxState) : AuxState :=
  match x.running with
  | some (.housekeeping, n) => { x with running := none, restart := some (.housekeeping, n) }
  | some (.sequence, n) => { x with running := none, restart := some (.sequence, n) }
  | _ => x

def auxInjectCmd : Cmd :=
  { opcode := 0x0F02, classC := true, lengths := lenIs 40
    checks := fun _ q => [within 0 23 (q.u8 0), reserved q 1 7]
    reject := fun s _ => rejectWhen s.aux.inject.isSome BUSY
    act := fun w q s => auxNext { s with aux := { abortRoutine s.aux with inject := some (q.u8 0, w) } } }
def execAuxInject (q : Request) (s : State) : Result := .next (runRequest auxInjectCmd q s)

/-- The quantities of R527. -/
def quantityListed (n : Nat) : Bool :=
  decide (n ≤ 0x17 ∨ (0x20 ≤ n ∧ n ≤ 0x2B) ∨ (0x30 ≤ n ∧ n ≤ 0x38) ∨ (0x40 ≤ n ∧ n ≤ 0x47))

def State.capture (s : State) (n : Nat) : Capture := s.aux.captures.getD n {}

/-- Clear a capture (R528). -/
def Capture.clear (x : Capture) : Capture :=
  { x with minimum := 0x7FFFFFFF, maximum := -0x80000000, count := 0, bins := List.replicate 64 0 }

def auxSetCaptureCmd : Cmd :=
  setCmd 0x0F03 48
    (fun _ q => [within 0 15 (q.u8 0), allowed (quantityListed (q.u8 1)), reservedBits q 2 2, reserved q 3 1,
      allowed (q.i32 4 < q.i32 8), reserved q 12 4])
    (fun s q =>
      let x := s.capture (q.u8 0)
      rejectWhen (¬ q.bit 2 1 ∧ x.count ≠ 0 ∧ (x.quantity ≠ q.u8 1 ∨ x.low ≠ q.i32 4 ∨ x.high ≠ q.i32 8)) WRONG_STATE)
    (fun q s => { s with aux := { s.aux with captures := updAt s.aux.captures (q.u8 0) fun x =>
      { (if q.bit 2 1 then x.clear else x) with quantity := q.u8 1, low := q.i32 4, high := q.i32 8, run := q.bit 2 0 } } })
def execAuxSetCapture (q : Request) (s : State) : Result := .next (runRequest auxSetCaptureCmd q s)

def captureBytes (x : Capture) : List Byte := i32 x.minimum ++ i32 x.maximum ++ u64 x.count ++ x.bins.flatMap u32

def auxGetCaptureCmd : Cmd :=
  readCmd 0x0F04 40 (fun _ q => [within 0 15 (q.u8 0), reserved q 1 7]) (fun s q => captureBytes (s.capture (q.u8 0)))
def execAuxGetCapture (q : Request) (s : State) : Result := .next (runRequest auxGetCaptureCmd q s)

def auxGetMonitorsCmd : Cmd :=
  readCmd 0x0F05 32 (fun _ _ => []) (fun s _ => (List.range 16).flatMap fun n => i32 (s.aux.monitors.getD n 0))
def execAuxGetMonitors (q : Request) (s : State) : Result := .next (runRequest auxGetMonitorsCmd q s)

/-! ### AUX_DATA and AUX_STATUS (R430, R520) -/

/-- A read of AUX_DATA returns the result and clears VALID. -/
def execAuxDataRead (at_ : Nat) (s : State) : Result :=
  let s := advance at_ s
  .next (if s.bar0Serves then
      emit .bar0 [] (u32 s.auxData) { s with aux := { s.aux with valid := false } }
    else s)

/-- AUX_STATUS is written: bit [1] is W1C. -/
def auxStatusWritten (v : Word) (s : State) : State :=
  if v.getLsbD 1 then { s with aux := { s.aux with overrun := false } } else s

def execAuxStatusWrite (at_ : Nat) (v : Word) (s : State) : Result :=
  let s := advance at_ s
  .next (if s.bar0Serves then auxStatusWritten v s else s)

/-- A result is written into AUX_DATA. -/
def writeAuxData (code source : Nat) (injected : Bool) (s : State) : State :=
  setIrq 26 { s with aux := { s.aux with
    code := code, source := source, injected := injected, overrun := s.aux.overrun || s.aux.valid, valid := true } }

/-! ### Conversions fall due (R519, R523) -/

/-- SEQUENCE_CONVERSION_DUE (R519): the scheduled time of the next entry has come. -/
def execSequenceConversionDue (at_ : Nat) (s : State) : Result :=
  let s := advance at_ s
  let x := s.aux.seq
  .next (
    if ¬ x.run ∨ s.time.ps < x.start ∨ ¬ s.awake then s
    else
      let source := x.sources.getD (x.next % x.sources.length) 0
      auxNext { s with aux := { s.aux with
        seqDue := some (source, x.start)
        seq := { x with next := (x.next + 1) % x.sources.length, start := x.start + x.step } } })

def execHousekeepingConversionDue (at_ : Nat) (s : State) : Result :=
  let s := advance at_ s
  .next (
    if ¬ s.awake then s
    else auxNext { s with aux := { s.aux with
      due := s.aux.due ++ [s.aux.nextSource], nextSource := (s.aux.nextSource + 1) % 16 } })

/-! ### Supervision of the rails and of the reference (R524, R525) -/

/-- Limits of a rail in µV (R524, R59). -/
def railLimits : List (Int × Int) := [
  (720000, 800000), (873000, 927000), (1746000, 1854000), (1018500, 1081500), (485000, 515000), (1746000, 1854000),
  (1164000, 1236000), (3135000, 3465000), (4750000, 5250000)]

/-- VOVEN below 1.0 V counts as absent. -/
def railAbsent (source : Nat) (v : Int) : Bool := decide (source = 8 ∧ v < 1000000)

def setAt {α : Type} (l : List α) (n : Nat) (a : α) : List α := updAt l n fun _ => a

/-- A reading of a rail out of tolerance; the third in a row is reported. -/
def railBadReading (source : Nat) (v limit : Int) (s : State) : State :=
  let n := s.aux.railOut.getD source 0 + 1
  let s := { s with aux := { s.aux with railOut := setAt s.aux.railOut source n, railIn := setAt s.aux.railIn source 0 } }
  if n < 3 ∨ s.aux.railBad.getD source false then s
  else
    record 0x0F01 [r4 source, ri4 v, ri4 limit]
      (assertAlert (.rail source) { s with aux := { s.aux with railBad := setAt s.aux.railBad source true } })

/-- A reading of a rail in tolerance; the tenth in a row ends a report. -/
def railGoodReading (source : Nat) (s : State) : State :=
  let n := s.aux.railIn.getD source 0 + 1
  let s := { s with aux := { s.aux with railOut := setAt s.aux.railOut source 0, railIn := setAt s.aux.railIn source n } }
  if n < 10 ∨ ¬ s.aux.railBad.getD source false then s
  else
    releaseAlert (.rail source)
      (record 0x0F02 [] { s with aux := { s.aux with railBad := setAt s.aux.railBad source false } })

/-- DEDUCED (log entry 49). -/
def judgeRail (source : Nat) (v : Int) (s : State) : State :=
  let (lo, hi) := railLimits.getD source (0, 0)
  if railAbsent source v then
    { s with aux := { s.aux with railOut := setAt s.aux.railOut source 0, railIn := setAt s.aux.railIn source 0 } }
  else if v < lo then railBadReading source v lo s
  else if hi < v then railBadReading source v hi s
  else railGoodReading source s

/-- MONITOR_FAULT stands. -/
def AuxState.faulted (x : AuxState) : Bool := x.monitorFault.any id

/-- A reading of source 14 or 15 within its bounds. -/
def monitorGood (source : Nat) (v : Int) : Bool :=
  if source = 14 then decide (1194000 ≤ v ∧ v ≤ 1206000) else decide (v ≤ 2000)

/-- A bad reading of source 14 or 15; the first is reported. -/
def monitorBadReading (source : Nat) (v : Int) (s : State) : State :=
  let s' := { s with aux := { s.aux with
    monitorFault := setAt s.aux.monitorFault (source - 14) true, monitorGood := setAt s.aux.monitorGood (source - 14) 0 } }
  if s.aux.faulted then s'
  else
    record 0x0F03 [r4 source, ri4 v]
      (assertAlert (.monitor source) { s' with aux := { s'.aux with monitorGood := [0, 0] } })

/-- A good reading of source 14 or 15; ten of both end the fault. -/
def monitorGoodReading (source : Nat) (s : State) : State :=
  let s := { s with aux := { s.aux with monitorGood := updAt s.aux.monitorGood (source - 14) (· + 1) } }
  if s.aux.faulted ∧ s.aux.monitorGood.all (10 ≤ ·) then
    releaseAlerts (fun a => match a with | .monitor _ => true | _ => false)
      (record 0x0F04 [] { s with aux := { s.aux with monitorFault := [false, false] } })
  else s

/-- A housekeeping reading reaches the monitors and the supervision. DEDUCED (log entry 49). -/
def takeMonitor (source : Nat) (v : Int) (s : State) : State :=
  let s := { s with aux := { s.aux with monitors := setAt s.aux.monitors source v } }
  if source ≤ 8 then (if s.aux.faulted then s else judgeRail source v s)
  else if 14 ≤ source then (if monitorGood source v then monitorGoodReading source s else monitorBadReading source v s)
  else s

/-! ### Conversions end (R520 to R523) -/

/-- A new sequence takes effect at the end of the conversion in progress. -/
def takeSequence (x : AuxState) : AuxState :=
  match x.seqNew with
  | some n => { x with seq := n, seqDue := none, seqNew := none }
  | none => x

/-- The injected result is in AUX_DATA: the reply, and a calibration that waited for it. -/
def endInjection (code source : Nat) (s : State) : State :=
  match s.aux.inject with
  | none => s
  | some (_, w) =>
    beginDeferred (reply w OK (u16 code ++ u8 source ++ zeros 5)
      (writeAuxData code source true { s with aux := { s.aux with inject := none } }))

/-- DEDUCED (log entry 49). -/
def finishConversion (u : AuxUser) (source code : Nat) (s : State) : State :=
  let v := monitorValue source code
  let s := { s with aux := { s.aux with running := none } }
  match u with
  | .inject => endInjection code source (capture source v s)
  | .sequence =>
    let s := writeAuxData code source false (capture source v s)
    { s with aux := takeSequence s.aux }
  | .housekeeping => takeMonitor source v (capture source v s)
  | .hold => s

/-- The code of an input outside its range is 0 or 65,535: a code never lies outside 16 bits (R515). -/
def execConversionDone (at_ : Nat) (code : Nat) (s : State) : Result :=
  let s := advance at_ s
  .next (match s.aux.running with
    | none => s
    | some (.hold, _) => s
    | some (u, source) => auxNext (finishConversion u source (min code 65535) s))

def execCalibrationHoldEnd (at_ : Nat) (s : State) : Result :=
  let s := advance at_ s
  .next (match s.aux.running with
    | some (.hold, _) => auxNext { s with aux := { s.aux with running := none } }
    | _ => s)

end Sys2Proof.Machine
end

