-- ==== Sys2Proof/Machine/Jtag.lean ====
section
/-! DEFINITION. Boundary scan: the test access port of IEEE 1149.1 (R557). -/

namespace Sys2Proof.Machine

/-- The TAP controller's next state at a rising edge of TCK. -/
def TapState.next (tms : Bool) : TapState → TapState
  | .testLogicReset => if tms then .testLogicReset else .runTestIdle
  | .runTestIdle => if tms then .selectDr else .runTestIdle
  | .selectDr => if tms then .selectIr else .captureDr
  | .captureDr => if tms then .exit1Dr else .shiftDr
  | .shiftDr => if tms then .exit1Dr else .shiftDr
  | .exit1Dr => if tms then .updateDr else .pauseDr
  | .pauseDr => if tms then .exit2Dr else .pauseDr
  | .exit2Dr => if tms then .updateDr else .shiftDr
  | .updateDr => if tms then .selectDr else .runTestIdle
  | .selectIr => if tms then .testLogicReset else .captureIr
  | .captureIr => if tms then .exit1Ir else .shiftIr
  | .shiftIr => if tms then .exit1Ir else .shiftIr
  | .exit1Ir => if tms then .updateIr else .pauseIr
  | .pauseIr => if tms then .exit2Ir else .pauseIr
  | .exit2Ir => if tms then .updateIr else .shiftIr
  | .updateIr => if tms then .selectDr else .runTestIdle

/-- The low `n` bits of a number, the least significant first. -/
def bitsOf (n v : Nat) : List Bool := (List.range n).map v.testBit

/-- IDCODE: STEPPING, 0x7A31, 0x2E9 and 1. -/
def idcode : Nat := Config.stepping.toNat * 2 ^ 28 + 0x7A31 * 2 ^ 12 + 0x2E9 * 2 + 1

/-- The instruction that a code selects; a code without one selects BYPASS.
DESIGN CHOICE (log entry 28). DESIGN CHOICE (log entry 48). -/
def decodeTap (ir : Nat) : TapInstruction :=
  if ir = 0xFF then .bypass
  else if ir = Config.tapExtest.toNat then .extest
  else if ir = Config.tapSample.toNat then .sample
  else if ir = Config.tapIdcode.toNat then .idcode
  else .bypass

/-- What the selected data register captures: the lands, IDCODE, or BYPASS's single 0. DESIGN CHOICE (log entry 48). -/
def captured (i : TapInstruction) (lands : List Bool) : List Bool :=
  match i with
  | .bypass => [false]
  | .idcode => bitsOf 32 idcode
  | .sample | .extest => lands

/-- One shift towards TDO. -/
def shiftIn (tdi : Bool) (r : List Bool) : List Bool := if r.isEmpty then [] else r.tail ++ [tdi]

/-- A rising edge of TCK: the action of the state, and the next state. DESIGN CHOICE (log entry 48). -/
def tapRise (tms tdi : Bool) (lands : List Bool) (x : TapPort) : TapPort :=
  let y := match x.st with
    | .captureIr => { x with ir := [true, false] ++ bitsOf 6 Config.tapCapture.toNat }
    | .shiftIr => { x with ir := shiftIn tdi x.ir }
    | .captureDr => { x with dr := captured x.instruction lands }
    | .shiftDr => { x with dr := shiftIn tdi x.dr }
    | _ => x
  { y with st := x.st.next tms }

/-- A falling edge of TCK: registers update in the Update states and in Test-Logic-Reset.
DESIGN CHOICE (log entry 48). -/
def tapFall (x : TapPort) : TapPort :=
  match x.st with
  | .testLogicReset => { x with instruction := .idcode }
  | .updateIr => { x with instruction := decodeTap (ofBits x.ir) }
  | .updateDr => match x.instruction with
    | .sample | .extest => { x with latches := x.dr }
    | _ => x
  | _ => x

/-- The bit that TDO takes at a falling edge, in the Shift states. -/
def TapPort.tdo (x : TapPort) : Option Bool :=
  match x.st with
  | .shiftIr => x.ir.head?
  | .shiftDr => x.dr.head?
  | _ => none

/-- EXTEST holds the lands only while nRESET is low; what it drives is put out when it begins, ends or changes.
DESIGN CHOICE (log entry 48). -/
def settleExtest (before : List Bool) (s : State) : State :=
  let now : Bool := decide (s.jtag.instruction = .extest) && s.boot.pinLow
  let s' := { s with jtag := { s.jtag with driving := now } }
  if now = s.jtag.driving ∧ (¬ now ∨ s.jtag.latches = before) then s'
  else emit .extest [now.toNat] (s.jtag.latches.map fun b => if b then 1 else 0) s'

def execJtagTckEdge (at_ : Nat) (rising tms tdi : Bool) (lands : List Bool) (s : State) : Result :=
  let s := advance at_ s
  .next (
    if s.boot.off then s
    else if rising then { s with jtag := tapRise tms tdi lands s.jtag }
    else
      let x := s.jtag
      let s := settleExtest x.latches { s with jtag := tapFall x }
      match x.tdo with
      | some b => emit .tdo [b.toNat] [] s
      | none => s)

/-- TRSTn holds the TAP in Test-Logic-Reset. -/
def resetTap (s : State) : State :=
  settleExtest s.jtag.latches { s with jtag := { s.jtag with st := .testLogicReset, instruction := .idcode } }

def execTrstnAsserted (at_ : Nat) (s : State) : Result :=
  let s := advance at_ s
  .next (resetTap s)

end Sys2Proof.Machine
end

