-- ==== Sys2Proof/Machine/Clocks.lean ====
section
/-! DEFINITION. Time base and clock synthesis: the commands of group 0x01 and the events of the oven, the references,
the loops and the time keeper. -/

namespace Sys2Proof.Machine

def LoopState.code : LoopState → Nat
  | .locked => 0 | .relocking => 1 | .coasting => 2 | .ramping => 3 | .gated => 4

/-- Programmed frequency of a loop in kHz (R88). -/
def State.loopKHz (s : State) : Nat → Nat
  | 0 => s.clk.core * 1000
  | 1 => 3200000
  | 2 => [5333500, 4266500, 3200000].getD s.mem.rate 0
  | _ => 2500000

/-- The measured offset of a source, where edges arrive (R81, R82). -/
def State.sourceOffset (s : State) : Nat → Option Int
  | 0 => some 0
  | 1 => s.clk.refin
  | _ => s.clk.syncin

/-- A source is present (R82). -/
def State.sourcePresent (s : State) : Nat → Bool
  | 0 => true
  | 1 => s.clk.refinPresent
  | _ => s.clk.syncinPresent

/-- PPSIN is present: an edge has arrived in the last 2 s. DEDUCED (log entry 31). -/
def State.ppsPresent (s : State) : Bool :=
  match s.time.ppsEdge with
  | none => false
  | some p => s.time.ps < p + 2 * psPerS

/-- The time keeper follows its discipline source (R108 flag [5]). -/
def State.disciplined (s : State) : Bool :=
  match s.time.source with
  | 1 => ! s.time.ppsLost
  | 2 => ! (s.xfer.ptp.getD s.time.port {}).lost
  | 3 => ! s.sync.lost
  | _ => false

/-! ### CLK_GET_STATUS, CLK_GET_OUTPUT, CLK_GET_PPS -/

/-- A loop's state as reported: a ramp of the link loop shows there (R108). -/
def State.loopCode (s : State) (l : Nat) : Nat :=
  if l = 3 ∧ s.clk.lnkRamp.running ∧ (s.loop l).st = .locked then LoopState.ramping.code else (s.loop l).st.code

/-- A loop record of R108; the measured offset and phase error are free values. -/
def loopRecord (s : State) (n l : Nat) : List Byte :=
  let x := s.loop l
  u8 x.source ++ u8 (s.loopCode l)
    ++ u16 (ofBits [((s.session n).since.lockLost.getD l false), x.fellBack, x.fallBack])
    ++ u32 (s.loopKHz l) ++ i32 (Config.freeInt (s.free + 2 * l)) ++ i32 (Config.freeInt (s.free + 2 * l + 1))
    ++ u32 x.losses ++ u32 (x.coastPs / psPerMs) ++ zeros 8

def clkStatusPayload (s : State) (q : Request) : List Byte :=
  u32 (ofBits [s.clk.ovenReady, s.clk.ovenFault, s.clk.refinPresent, s.clk.syncinPresent, s.ppsPresent, s.disciplined])
    ++ i16 s.clk.island ++ u16 s.clk.heaterPower
    ++ (match s.clk.refin with | some v => i32 v | none => u32 0x80000000)
    ++ u16 s.time.epoch ++ zeros 2
    ++ (List.range 4).flatMap (loopRecord s q.sess)

def clkGetStatusCmd : Cmd :=
  readClearCmd 0x0101 32 (fun _ _ => []) clkStatusPayload fun q s =>
    updSession q.sess (fun x => { x with since := { x.since with lockLost := List.replicate 4 false } })
      { s with free := s.free + 8 }
def execClkGetStatus (q : Request) (s : State) : Result := .next (runRequest clkGetStatusCmd q s)

def clkGetOutputCmd : Cmd :=
  readCmd 0x0102 32 (fun _ _ => []) fun s _ => s.clk.outputs.flatMap fun w => u32 w.toNat
def execClkGetOutput (q : Request) (s : State) : Result := .next (runRequest clkGetOutputCmd q s)

/-- A stamp list: a count and 16 records, newest first, unused ones 0 (R457). -/
def stampList (stamps : List (List Byte)) : List Byte :=
  u8 (min 16 stamps.length) ++ zeros 7 ++ toLen 256 ((stamps.take 16).flatMap (toLen 16))

def clkGetPpsCmd : Cmd := readCmd 0x0107 32 (fun _ _ => []) fun s _ => stampList s.time.pps
def execClkGetPps (q : Request) (s : State) : Result := .next (runRequest clkGetPpsCmd q s)

/-! ### CLK_SET_OUTPUT -/

def outDiv (w : Word) : Nat := w.toNat % 512
def outCoarse (w : Word) : Nat := w.toNat / 2 ^ 9 % 256
def outFine (w : Word) : Nat := w.toNat / 2 ^ 17 % 1024

/-- The fields that your host may set of an output: divider, coarse, fine, enable (R89). -/
def hostSettable : Nat → Bool × Bool × Bool × Bool
  | 0 => (false, false, true, false)
  | 2 => (true, true, true, true)
  | 4 => (false, true, true, true)
  | _ => (false, false, false, false)

/-- The control word changes only in fields that your host may set (R89). -/
def outAllowed (o : Nat) (old new : Word) : Bool :=
  let (d, c, f, e) := hostSettable o
  (d || outDiv new = outDiv old) && (c || outCoarse new = outCoarse old) && (f || outFine new = outFine old)
    && (e || outEn new = outEn old) && (! d || 32 ≤ outDiv new)

def clkSetOutputCmd : Cmd :=
  setCmd 0x0103 40
    (fun s q =>
      let new : Word := BitVec.ofNat 32 (q.u32 4)
      [within 0 11 (q.u8 0), reserved q 1 3, failWhen (2 ^ 28 ≤ q.u32 4) RESERVED_NONZERO, counted 256 (outDiv new),
       allowed (outAllowed (q.u8 0) (s.clk.outputs.getD (q.u8 0) 0) new)])
    (fun s q =>
      let new : Word := BitVec.ofNat 32 (q.u32 4)
      let old := s.clk.outputs.getD (q.u8 0) 0
      firstRejection [
        rejectWhen (outEn old ∧ (outDiv new ≠ outDiv old ∨ outCoarse new ≠ outCoarse old)) WRONG_STATE,
        rejectWhen (q.u8 0 = 0 ∧ outFine new ≠ outFine old ∧ s.anyArmed) WRONG_STATE])
    (fun q s => forEach 4 followClock
      { s with clk := { s.clk with outputs := s.clk.outputs.set (q.u8 0) (BitVec.ofNat 32 (q.u32 4)) } })
def execClkSetOutput (q : Request) (s : State) : Result := .next (runRequest clkSetOutputCmd q s)

/-! ### What a change of the sample loop entails -/

/-- Grid ticks of a delay in ps, in units of 1 / 10^6 tick (R482). -/
def State.delayTicks (s : State) (ps : Int) : Int := ps * (4 * s.clk.core : Nat)

/-- The fractional part of a delay as steps of 1/4096 oscillator period of the sample and the system loop (R482). -/
def State.delaySteps (s : State) (ps : Int) : List Int :=
  let frac := s.delayTicks ps % 1000000
  [roundDiv (1024 * frac) 1000000, roundDiv (frac * 4096) ((1250 * s.clk.core : Nat) : Int)]

/-- A member with a calibrated delay steps its loops earlier by the fractional part (R482 step 2).
DEDUCED (log entry 53). -/
def stepDelay (s : State) : State :=
  if ¬ s.sync.calibrated then s
  else
    let steps := s.delaySteps s.sync.delayPs
    let moved := (List.range 2).map fun i => s.clk.phase.getD i 0 - (steps.getD i 0 - s.sync.stepped.getD i 0)
    { s with sync := { s.sync with stepped := steps }, clk := { s.clk with phase := moved } }

/-- The map of head time onto the grid starts again here (R305): the anchor is the first head period that begins now or later.
DEDUCED (log entry 55). -/
def anchorHeads (s : State) : State :=
  let part := (s.time.ps - s.time.headZero) * 32 % (15625 * 1250)
  let rest := (15625 * 1250 - part) % (15625 * 1250)
  { s with dmx := { s.dmx with
      anchorHead := s.headTime + if rest = 0 then 0 else 1
      anchorTick := s.time.tick + rest * s.clk.core / 8000000, anchorCore := s.clk.core } }

/-- The core rate has changed: generation, settling passes, gates, the head map and the delay (R149, R153, R245, R305,
R482). In boot state 3 the generation waits for step 6 of R139, and so do the passes (R140). -/
def afterRateChange (s : State) : State :=
  let s := stepDelay (anchorHeads (restartGates (128 * s.nextBoundary) s))
  if s.cal.startup ≠ 0 then { s with cal := { s.cal with settleAfter := true } } else settleAll (bumpGeneration s)

/-- The sample loop is no longer locked (R121, R140). DEDUCED (log entry 53). -/
def loseSampleLock (s : State) : State := restartStartup (discardMeasurements s)

/-- Start, or resume, the ramp towards the programmed target (R104, R107). -/
def startRateRamp (slew : Nat) (s : State) : State :=
  let d := (s.clk.core * 10 ^ 9 : Int) - s.time.freq
  driveSample s.time.freq (if 0 ≤ d then slew * 10 ^ 9 else -(slew * 10 ^ 9 : Nat))
    (s.time.ps + (d.natAbs + slew * 1000 - 1) / (slew * 1000)) s

/-- A change of the core rate is accepted: running gates are aborted, and the loop ramps (R104, R245).
DESIGN CHOICE (log entry 79). -/
def beginRateChange (rate slew : Nat) (w : Option Waiter) (s : State) : State :=
  let s := loseSampleLock (abortGates s)
  let change : RateChange := { old := s.clk.core, slew := slew, accepted := s.time.ps, waiter := w }
  startRateRamp slew (updLoop 0 (fun x => { x with st := .ramping })
    { s with clk := { s.clk with core := rate, change := some change } })

/-- A loop that coasts for want of its source relocks, or the sample loop or the memory loop resumes its change (R97,
R107). DEDUCED (log entry 53). -/
def resumeLoop (l : Nat) (s : State) : State :=
  match l, s.clk.change with
  | 0, some c => startRateRamp c.slew (updLoop 0 (fun x => { x with st := .ramping })
      { s with clk := { s.clk with change := some { c with ramping := true } } })
  | _, _ => updLoop l (fun x => { x with st := if l = 2 ∧ s.mem.change.isSome then .gated else .relocking }) s

/-! ### CLK_SET_REFERENCE -/

/-- The reply's offset field (R456). -/
def offsetPayload (s : State) (source : Nat) : List Byte :=
  (match s.sourceOffset source with | some v => i32 v | none => u32 0x80000000) ++ zeros 4

/-- The offset of REFIN against its new nominal frequency, from `from100`, in ppb; a field of 32 bits holds no more.
DEDUCED (log entry 53). -/
def remeasured (from100 : Bool) (v : Int) : Int :=
  if from100 then min 0x7FFFFFFF ((10 ^ 9 + v) * 10 - 10 ^ 9) else (10 ^ 9 + v) / 10 - 10 ^ 9

/-- A selection takes effect: a loop whose source changes relocks to it (R81, R100); REFIN is module-wide.
DEDUCED (log entry 53). -/
def setReference (l source : Nat) (fallBack refin100 : Bool) (s : State) : State :=
  let x := s.loop l
  let s := updLoop l (fun x => { x with source := source, fallBack := fallBack, fellBack := false }) s
  let s := if refin100 = s.clk.refin100 then s
    else { s with clk := { s.clk with
      refin100 := refin100, refinPresent := false, refin := s.clk.refin.map (remeasured s.clk.refin100) } }
  if x.source = source ∨ x.st = .gated ∨ x.st = .ramping then s
  else
    let s := if l = 0 ∧ x.st = .locked then
        updLoop 0 (fun x => { x with coasted := decide ((s.loop 1).st = .coasting) }) (loseSampleLock s)
      else s
    resumeLoop l s

def clkSetReferenceCmd : Cmd :=
  { opcode := 0x0104, classC := true, lengths := lenIs 40, failLen := 8
    checks := fun _ q => [within 0 3 (q.u8 0), within 0 2 (q.u8 1), within 0 1 (q.u8 2), within 0 1 (q.u8 3),
      reserved q 4 4]
    reject := fun s q =>
      let bad := ((q.u8 3 = 1) ≠ s.clk.refin100 ∧ s.clk.loops.any (fun x => x.source = 1))
        ∨ ¬ s.sourcePresent (q.u8 1) ∨ (q.u8 1 = 1 ∧ (q.u8 3 = 1) ≠ s.clk.refin100)
        ∨ (q.u8 0 = 0 ∧ (s.loop 0).source ≠ q.u8 1 ∧ s.anyArmed)
      if bad then some (WRONG_STATE, offsetPayload s (q.u8 1)) else none
    act := fun w q s => reply w OK (offsetPayload s (q.u8 1)) (setReference (q.u8 0) (q.u8 1) (q.u8 2 = 1) (q.u8 3 = 1) s) }
def execClkSetReference (q : Request) (s : State) : Result := .next (runRequest clkSetReferenceCmd q s)

/-! ### CLK_SET_TIME_SOURCE, CLK_SET_TIME -/

def clkSetTimeSourceCmd : Cmd :=
  setCmd 0x0105 40
    (fun _ q => [within 0 3 (q.u8 0), if q.u8 0 = 2 then within 0 1 (q.u8 1) else reserved q 1 1, reserved q 2 6])
    (fun _ _ => none)
    (fun q s =>
      let t := s.time
      { s with time := { t with source := q.u8 0, port := q.u8 1, ppsLost := false
                                steer := if q.u8 0 = 0 then 0 else t.steer
                                slew := if q.u8 0 = 0 then 0 else t.slew } })
def execClkSetTimeSource (q : Request) (s : State) : Result := .next (runRequest clkSetTimeSourceCmd q s)

def clkSetTimeCmd : Cmd :=
  setCmd 0x0106 48
    (fun _ q => [reservedBits q 0 1, reserved q 1 7, allowed (! (q.bit 0 0) || q.u64 8 % 10 ^ 9 = 0)])
    (fun s q => rejectWhen (q.bit 0 0 ∧ s.time.source ≠ 1) WRONG_STATE)
    (fun q s =>
      if q.bit 0 0 then { s with time := { s.time with nextSecond := some (q.u64 8 : Nat) } }
      else correctTime (q.u64 8) s)
def execClkSetTime (q : Request) (s : State) : Result := .next (runRequest clkSetTimeCmd q s)

/-! ### CLK_STEP_PHASE -/

def clkStepPhaseCmd : Cmd :=
  { opcode := 0x0108, classC := true, lengths := lenIs 40
    checks := fun _ q => [within 0 1 (q.u8 0), reserved q 1 1, notZero (q.u16 2), reserved q 4 4]
    reject := fun s q => firstRejection [rejectWhen (q.u8 0 = 0 ∧ s.anyArmed) WRONG_STATE,
      rejectWhen s.clk.step.isSome BUSY]
    act := fun w q s => { s with clk := { s.clk with step := some (q.u8 0, q.i16 2, w) } } }
def execClkStepPhase (q : Request) (s : State) : Result := .next (runRequest clkStepPhaseCmd q s)

def execPhaseStepDone (at_ : Nat) (s : State) : Result :=
  let s := advance at_ s
  .next (match s.clk.step with
    | none => s
    | some (l, n, w) =>
      reply w OK [] { s with clk := { s.clk with step := none, phase := updAt s.clk.phase l (· + n) } })

/-! ### CLK_SET_RAMP -/

def rampSegment (q : Request) (i : Nat) : RampSegment :=
  { slope := q.i32 (8 + 16 * i), duration := q.u32 (12 + 16 * i), last := q.bit (16 + 16 * i) 0,
    repeats := q.bit (16 + 16 * i) 1 }

def rampSegments (q : Request) : List RampSegment := (List.range (q.u8 2)).map (rampSegment q)

/-- Frequency offsets at the segment ends in 10^-3 ppb of the programmed frequency, each with its repeat flag (R93). -/
def rampEnds : Int → List RampSegment → List (Int × Bool)
  | _, [] => []
  | o, g :: gs => let e := o + g.slope * g.duration; (e, g.repeats) :: rampEnds e gs

/-- An end inside the loop's permitted range (R94). -/
def endPermitted (s : State) (loop : Nat) (o : Int) : Bool :=
  if loop = 0 then
    8000 * 10 ^ 12 ≤ (s.clk.core : Int) * (10 ^ 12 + o)
      && (s.clk.core : Int) * (10 ^ 12 + o) ≤ min 12800 s.clk.ceiling * 10 ^ 12
  else -5000000000 ≤ o && o ≤ 0

def rampPermitted (s : State) (loop : Nat) (gs : List RampSegment) : Bool :=
  gs.any RampSegment.last
    && (rampEnds 0 gs).all fun e => endPermitted s loop e.1 && (! e.2 || e.1.natAbs ≤ 1000)

def rampChecks (s : State) (q : Request) : List Check :=
  [allowed (q.u8 0 = 0 ∨ q.u8 0 = 3), within 0 1 (q.u8 1)]
    ++ (if q.u8 1 = 0 then [reserved q 2 1, failWhen (q.length ≠ 40) BAD_LENGTH]
        else [counted 16 (q.u8 2), failWhen (q.length ≠ 40 + 16 * q.u8 2) BAD_LENGTH])
    ++ [reserved q 3 5]
    ++ ((List.range (q.u8 2)).flatMap fun i =>
        [notZero (q.u32 (12 + 16 * i)), reservedBits q (16 + 16 * i) 2, reserved q (17 + 16 * i) 7])
    ++ (if q.u8 1 = 1 then [allowed (rampPermitted s (q.u8 0) (rampSegments q))] else [])

/-- Give the sample loop the slope of segment `i` of its ramp. -/
def enterSegment (i : Nat) (s : State) : State :=
  let g := s.clk.smpRamp.segments.getD i default
  driveSample s.time.freq (g.slope * s.clk.core) (s.time.ps + 1000 * g.duration)
    { s with clk := { s.clk with smpRamp := { s.clk.smpRamp with current := i, running := true } } }

/-- The ramp ends where it stands. DEDUCED (log entry 53). -/
def stopSampleRamp (s : State) : State :=
  let s := updLoop 0 (fun x => if x.st = .ramping then { x with st := .locked } else x) s
  driveSample s.sampleFreq 0 s.time.ps { s with clk := { s.clk with smpRamp := { s.clk.smpRamp with running := false } } }

/-- A link-loop ramp is accepted while no port and no system needs the link loop steady (R95). -/
def State.linkSpreadAllowed (s : State) : Bool :=
  (s.xfer.links.all fun l => ! l.up) && (s.dmx.ports.all fun p => decide (p.st = .down)) && s.sync.role = 0

/-- What CLK_SET_RAMP does: a link-loop ramp waits for the next link training (R95). DESIGN CHOICE (log entry 79). -/
def setRamp (q : Request) (s : State) : State :=
  if q.u8 0 = 3 then
    let next := if q.u8 1 = 1 then rampSegments q else []
    { s with clk := { s.clk with lnkRamp := { s.clk.lnkRamp with next := some next } } }
  else if q.u8 1 = 0 then stopSampleRamp s
  else
    let s := if (s.loop 0).st = .locked then loseSampleLock s else s
    enterSegment 0 (updLoop 0 (fun x => { x with st := if x.st = .locked then .ramping else x.st })
      { s with clk := { s.clk with smpRamp := { segments := rampSegments q } }
               time := { s.time with freq := s.clk.core * 10 ^ 9 } })

/-- DESIGN CHOICE (log entry 77). -/
def clkSetRampCmd : Cmd :=
  { opcode := 0x0109, classC := true
    lengths := fun l => decide (40 ≤ l ∧ l ≤ 296 ∧ (l - 40) % 16 = 0)
    checks := rampChecks
    reject := fun s q => firstRejection [
      rejectWhen (q.u8 0 = 0 ∧ q.u8 1 = 1 ∧ s.anyArmed) WRONG_STATE,
      rejectWhen (q.u8 0 = 3 ∧ q.u8 1 = 1 ∧ ¬ s.linkSpreadAllowed) WRONG_STATE,
      rejectWhen (q.u8 0 = 0 ∧ s.clk.change.isSome) BUSY]
    act := fun w q s => reply w OK [] (setRamp q s) }
def execClkSetRamp (q : Request) (s : State) : Result := .next (runRequest clkSetRampCmd q s)

/-- The segment that follows segment `i`: the first where the ramp repeats, none after the last (R93). -/
def nextSegment (r : Ramp) : Option Nat :=
  let g := r.segments.getD r.current default
  if g.repeats then some 0 else if g.last ∨ r.segments.length ≤ r.current + 1 then none else some (r.current + 1)

def execClkRampSegmentEnd (at_ loop : Nat) (s : State) : Result :=
  let s := advance at_ s
  .next (
    if loop = 0 ∧ s.clk.smpRamp.running then
      match nextSegment s.clk.smpRamp with
      | some i => enterSegment i s
      | none => stopSampleRamp s
    else if loop = 3 ∧ s.clk.lnkRamp.running then
      let r := s.clk.lnkRamp
      let r := match nextSegment r with
        | some i => { r with current := i }
        | none => { r with running := false }
      { s with clk := { s.clk with lnkRamp := r } }
    else s)

/-! ### CLK_SET_CORE_RATE, CLK_SET_CEILING -/

/-- The present core rate: during a change the higher of the rate before it and the target (R103). -/
def State.presentRate (s : State) : Nat :=
  match s.clk.change with
  | some c => max c.old s.clk.core
  | none => s.clk.core

def clkSetCoreRateCmd : Cmd :=
  { opcode := 0x010A, classC := true, lengths := lenIs 40
    checks := fun s q => [
      allowed (8000 ≤ q.u16 0 ∧ q.u16 0 ≤ 12800 ∧ q.u16 0 % 10 = 0 ∧ q.u16 0 ≤ s.clk.ceiling),
      within 1 100 (q.u8 2), reserved q 3 5]
    reject := fun s _ => firstRejection [
      rejectWhen s.lockHeld WRONG_STATE,
      rejectWhen s.anyArmed WRONG_STATE,
      rejectWhen (s.clk.change.isSome ∨ s.clk.smpRamp.running) BUSY]
    act := fun w q s =>
      if s.clk.core = q.u16 0 then reply w OK [] s else beginRateChange (q.u16 0) (q.u8 2) (some w) s }
def execClkSetCoreRate (q : Request) (s : State) : Result := .next (runRequest clkSetCoreRateCmd q s)

def execCoreRateRampEnd (at_ : Nat) (s : State) : Result :=
  let s := advance at_ s
  .next (match s.clk.change with
    | some c =>
      if c.ramping ∧ (s.loop 0).st = .ramping then
        driveSample (s.clk.core * 10 ^ 9) 0 s.time.ps { s with clk := { s.clk with change := some { c with ramping := false } } }
      else s
    | none => s)

/-- The body of CLOCK_RATE_CHANGED (R568). -/
def rateChangedBody (s : State) (c : RateChange) : List Byte :=
  u16 c.old ++ u16 s.clk.core ++ u8 c.slew ++ u8 c.interrupted.toNat ++ u16 s.cal.generation
    ++ u32 ((s.time.ps - c.accepted) / 1000000) ++ zeros 4

def execClockRateChanged (at_ : Nat) (s : State) : Result :=
  let s := advance at_ s
  .next (match s.clk.change with
    | some c =>
      if c.ramping ∨ (s.loop 0).st ≠ .ramping then s
      else
        let s := afterRateChange (updLoop 0 (fun x => { x with st := .locked, reported := false }) s)
        let s := stageBody 0x010D (rateChangedBody s c) (releaseAlert (.loop 0) s)
        replyOpt c.waiter OK [] { s with clk := { s.clk with change := none } }
    | none => s)

/-- Report a loss of lock once: the sessions' flags, the count, ALERTn and the record (R97). -/
def reportLoss (l : Nat) (s : State) : State :=
  let x := s.loop l
  if x.reported then s
  else
    let s := updSince (fun z => { z with lockLost := z.lockLost.set l true }) s
    let s := updLoop l (fun x => { x with reported := true, losses := x.losses + 1 }) s
    record 0x010B [r1 l, r1 x.cause, ri4 x.frozen] (assertAlert (.loop l) s)

/-- A loop coasts. The sample loop keeps the average of R97, its ramp ends, and a change is interrupted and its request
answered HW_FAULT (R97, R101, R107). -/
def startCoast (l cause : Nat) (s : State) : State :=
  let locked : Bool := decide ((s.loop 0).st = .locked)
  let s := updLoop l (fun x => { x with
    st := .coasting, cause := cause
    coasted := if l = 0 ∧ locked then decide ((s.loop 1).st = .coasting) else x.coasted }) s
  let s := if l = 1 ∧ ¬ locked then updLoop 0 (fun x => { x with coasted := true }) s else s
  if l ≠ 0 then s
  else
    let s := loseSampleLock s
    let s := driveSample (min s.clk.cap s.time.average) 0 s.time.ps
      { s with clk := { s.clk with smpRamp := { s.clk.smpRamp with running := false } } }
    match s.clk.change with
    | none => s
    | some c =>
      replyOpt c.waiter HW_FAULT [] { s with clk := { s.clk with
        change := some { c with interrupted := true, waiter := none } } }

def execClockLockLost (at_ loop : Nat) (frozen : Int) (s : State) : Result :=
  let s := advance at_ s
  .next (
    if 4 ≤ loop ∨ (s.loop loop).st = .gated then s
    else
      let s := if (s.loop loop).st = .coasting then s else startCoast loop 0 s
      reportLoss loop (updLoop loop (fun x => { x with frozen := frozen }) s))

/-- The sample loop is not locked 10 ms after the ramp's end: HW_FAULT, and the loop coasts (R104). -/
def execCoreRateLockTimeout (at_ : Nat) (s : State) : Result :=
  let s := advance at_ s
  .next (match s.clk.change with
    | some c =>
      if c.ramping then s
      else
        let s := replyOpt c.waiter HW_FAULT [] { s with clk := { s.clk with change := none, unsettled := true } }
        startCoast 0 0 (anchorHeads s)
    | none => s)

/-- What a lock of the sample loop brings where a change of the core rate had ended without one (R104, R245). -/
def settleRate (s : State) : State :=
  if s.clk.unsettled then afterRateChange { s with clk := { s.clk with unsettled := false } } else s

/-- Relock to the same or another source (R100, R101). -/
def execClockRelocked (at_ loop : Nat) (slip : Int) (s : State) : Result :=
  let s := advance at_ s
  let x := s.loop loop
  .next (
    if 4 ≤ loop ∨ ¬ (x.st = .relocking ∨ x.st = .coasting) ∨ (loop = 0 ∧ s.clk.change.isSome)
        ∨ (loop = 2 ∧ s.mem.change.isSome) then s
    else
      let s := updLoop loop (fun x => { x with st := .locked, reported := false, coasted := false }) s
      let s := releaseAlert (.loop loop) s
      let s := record 0x010C (if loop = 0 then [ri4 slip, r4 x.coasted.toNat] else []) s
      if loop = 0 then settleRate (driveSample (s.clk.core * 10 ^ 9) 0 s.time.ps s) else s)

def clkSetCeilingCmd : Cmd :=
  setCmd 0x010B 40
    (fun s q => [allowed (8100 ≤ q.u16 0 ∧ q.u16 0 ≤ 12990 ∧ s.presentRate ≤ q.u16 0), reserved q 2 6])
    (fun _ _ => none)
    (fun q s => { s with clk := { s.clk with ceiling := q.u16 0 } })
def execClkSetCeiling (q : Request) (s : State) : Result := .next (runRequest clkSetCeilingCmd q s)

/-! ### References -/

def setSource (source : Nat) (v : Option Int) (present : Bool) (s : State) : State :=
  match source with
  | 1 => { s with clk := { s.clk with refin := v, refinPresent := present } }
  | 2 => { s with clk := { s.clk with syncin := v, syncinPresent := present } }
  | _ => s

/-- Apply `f` for each loop number that satisfies `p`. -/
def forLoops (p : Loop → Bool) (f : Nat → State → State) (s : State) : State :=
  (List.range 4).foldl (fun t l => if p (s.loop l) then f l t else t) s

/-- A source is absent: REF_LOST where a loop uses it, and its loops coast (R82, R83, R96). -/
def execSourceAbsent (at_ source : Nat) (s : State) : Result :=
  let s := advance at_ s
  .next (
    if ¬ (source = 1 ∨ source = 2) ∨ (s.sourceOffset source).isNone then s
    else
      let s := setSource source none false s
      let s := if s.clk.loops.any (fun x => x.source = source) then record 0x0105 [] s else s
      let s := if s.mem.change.isSome ∧ (s.loop 2).st = .gated ∧ (s.loop 2).source = source then startCoast 2 1 s else s
      forLoops (fun x => x.source = source ∧ x.st ≠ .gated ∧ x.st ≠ .coasting) (fun l => startCoast l 1) s)

/-- A source is present: REF_RESTORED for a loop that fell back from it, and a loop that coasts for want of it relocks
or resumes its change (R83, R97, R107). With an offset beyond 50 ppm its edges are measured, and it is not present (R82).
DEDUCED (log entry 53). -/
def execSourcePresent (at_ source : Nat) (offset : Int) (s : State) : Result :=
  let s := advance at_ s
  .next (
    if ¬ (source = 1 ∨ source = 2) then s
    else if 50000 < offset.natAbs then setSource source (some offset) false s
    else
      let s := setSource source (some offset) true s
      let s := forLoops (fun x => x.fellBack ∧ x.fellFrom = source) (fun _ => record 0x0107 []) s
      forLoops (fun x => x.source = source ∧ x.st = .coasting ∧ x.cause = 1) resumeLoop s)

/-- A loop whose policy is Fall back selects the oven (R83). -/
def execRefSwitched (at_ loop : Nat) (s : State) : Result :=
  let s := advance at_ s
  let x := s.loop loop
  .next (
    if loop < 4 ∧ x.fallBack ∧ x.st = .coasting ∧ x.source ≠ 0 ∧ ¬ s.sourcePresent x.source then
      record 0x0106 [] (resumeLoop loop (updLoop loop (fun x => { x with
        source := 0, fellBack := true, fellFrom := x.source }) s))
    else s)

def execPpsLost (at_ : Nat) (s : State) : Result :=
  let s := advance at_ s
  .next (
    if s.time.source = 1 ∧ ¬ s.time.ppsLost ∧ ¬ s.ppsPresent then
      record 0x0109 [] { s with time := { s.time with ppsLost := true } }
    else s)

/-! ### The oven (R78 to R80) -/

def execOvenReady (at_ : Nat) (temp : Int) (s : State) : Result :=
  let s := advance at_ s
  let s := { s with clk := { s.clk with island := temp } }
  .next (
    if s.clk.ovenReady ∨ ¬ s.clk.voven ∨ ¬ s.clk.vaux ∨ ¬ s.clk.heater then s
    else record 0x0101 [] (releaseAlert .ovenTimeout
      { s with clk := { s.clk with ovenReady := true, ovenTimeout := false } }))

def execOvenTimeout (at_ : Nat) (temp : Int) (power : Nat) (s : State) : Result :=
  let s := advance at_ s
  let s := { s with clk := { s.clk with island := temp, heaterPower := power } }
  .next (
    if s.clk.ovenReady ∨ s.clk.ovenTimeout then s
    else record 0x0102 [ri2 temp, r2 power, r4 s.clk.voven.toNat] (assertAlert .ovenTimeout
      { s with clk := { s.clk with ovenTimeout := true } }))

def execOvenUnsettled (at_ : Nat) (temp : Int) (s : State) : Result :=
  let s := advance at_ s
  let s := { s with clk := { s.clk with island := temp } }
  .next (if s.clk.ovenReady then record 0x0103 [] { s with clk := { s.clk with ovenReady := false } } else s)

def execOvenFault (at_ : Nat) (temp : Int) (s : State) : Result :=
  let s := advance at_ s
  let s := { s with clk := { s.clk with island := temp } }
  .next (
    if s.clk.ovenFault then s
    else record 0x0104 [] (assertAlert .ovenFault
      { s with clk := { s.clk with heater := false, ovenReady := false, ovenFault := true, heaterPower := 0 } }))

/-- VOVEN_APPLIED: the 300 s of R79 start again. -/
def execVovenApplied (at_ : Nat) (s : State) : Result :=
  let s := advance at_ s
  .next { s with clk := { s.clk with voven := true, ovenTimeout := s.clk.ovenTimeout && s.clk.voven } }

def execVovenRemoved (at_ : Nat) (s : State) : Result :=
  let s := advance at_ s
  .next { s with clk := { s.clk with voven := false, heaterPower := 0 } }

end Sys2Proof.Machine
end

