-- ==== Sys2Proof/Machine/Damux.lean ====
section
/-! DEFINITION. The commands of group 0x09, rounds, slots and the head lane (R301 to R329). -/

namespace Sys2Proof.Machine

/-! ### Commands -/

/-- The two figures of a rejection: cost and budget at a period, accepted streams included. -/
def overPayload (x : DamuxPort) (heads : List Head) (p : Nat) : List Byte := u32 (x.load heads p) ++ u32 (10000 * p)

/-- The two figures of a reply: cost and budget at a period. -/
def costPayload (heads : List Head) (p : Nat) : List Byte := u32 (roundCost heads p) ++ u32 (10000 * p)

/-- A port with the period of a request. -/
def portAsked (x : DamuxPort) (q : Request) : DamuxPort :=
  if q.u16 4 = 0 then { x with picked := true, newFlags := none }
  else { x with picked := false, newFlags := none, period := q.u16 4, newPeriod := none }

def setPortReject (s : State) (q : Request) : Rejection :=
  if q.u8 1 = 0 then none
  else
    let x := portAsked (s.port (q.u8 0)) q
    match periodFor x x.heads with
    | none => some (RESOURCE_EXHAUSTED, overPayload x x.heads (if x.picked then 1000 else x.period))
    | some t =>
      if ¬ routesFit s x.heads t then some (RESOURCE_EXHAUSTED, overPayload x x.heads t)
      else if (s.port (q.u8 0)).st = .down ∧ s.clk.lnkRamp.running then some (WRONG_STATE, zeros 8)
      else none

/-- The settings of DMX_SET_PORT with mode 1: the period at the next round start, and so the flags of a port that is up (R312,
R314). -/
def applyPort (q : Request) (s : State) : State :=
  let p := q.u8 0
  let t := (periodFor (portAsked (s.port p) q) (s.port p).heads).getD 1000
  let flags := (q.bit 2 0, q.bit 2 1, decide (q.u16 4 = 0))
  let s := setPeriod p t (updPort p (fun x => { x with newFlags := some flags }) s)
  if (s.port p).st = .down then updPort p DamuxPort.takeFlags s else reschedule p s

def dmxSetPortCmd : Cmd :=
  { opcode := 0x0901, classC := true, lengths := lenIs 40, failLen := 8, needsRun := true
    checks := fun _ q => [within 0 15 (q.u8 0), within 0 1 (q.u8 1), reservedBits q 2 2, reserved q 3 1,
      allowed (q.u16 4 = 0 ∨ (10 ≤ q.u16 4 ∧ q.u16 4 ≤ 1000)), reserved q 6 2]
    reject := setPortReject
    act := fun w q s =>
      let p := q.u8 0
      let s :=
        if q.u8 1 = 0 then portDown p s
        else
          let s := applyPort q s
          if (s.port p).st = .down then setPortState p .training s else s
      reply w OK (costPayload (s.port p).heads (s.port p).wanted) s }
def execDmxSetPort (q : Request) (s : State) : Result := .next (runRequest dmxSetPortCmd q s)

def dmxEnumerateCmd : Cmd :=
  { opcode := 0x0902, classC := true, lengths := lenIs 40, needsRun := true
    checks := fun _ q => [within 0 15 (q.u8 0), reserved q 1 7]
    reject := fun s q => rejectWhen ((s.port (q.u8 0)).st ≠ .running) WRONG_STATE
    act := fun w q s => startWalk (q.u8 0) false (some w) (setPortState (q.u8 0) .enumerating s) }
def execDmxEnumerate (q : Request) (s : State) : Result := .next (runRequest dmxEnumerateCmd q s)

/-- The Discovered head of a serial. -/
def State.discovered (s : State) (p serial : Nat) : Option Head :=
  (s.port p).heads.find? fun h => h.st = .discovered && h.desc.serial = serial

def dmxEnrolCmd : Cmd :=
  { opcode := 0x0903, classC := true, lengths := lenIs 48, needsRun := true
    checks := fun _ q => [within 0 15 (q.u8 0), reserved q 1 7]
    reject := fun s q => match s.discovered (q.u8 0) (q.u64 8) with
      | none => some (WRONG_STATE, [])
      | some h =>
        match admitHead (q.u8 0) h.position .enrolled s with
        | none => some (RESOURCE_EXHAUSTED, [])
        | some _ => none
    notes := fun s q => match s.discovered (q.u8 0) (q.u64 8) with
      | none => none
      | some h => some (0x090D, budgetRefused (q.u8 0) h false s)
    act := fun w q s => match s.discovered (q.u8 0) (q.u64 8) with
      | none => s
      | some h =>
        reply w OK (u8 h.position ++ zeros 7) ((admitHead (q.u8 0) h.position .enrolled s).getD s) }
def execDmxEnrol (q : Request) (s : State) : Result := .next (runRequest dmxEnrolCmd q s)

/-- A head leaves the round and the roster (R316). -/
def removeHead (p i : Nat) (s : State) : State :=
  let s := headGone p i (clearAlarms p (fun h => h.position = i) (failCommands p i s))
  let s := updPort p (fun x => { x with heads := x.heads.filter fun h => h.position ≠ i
                                        schedules := x.schedules.filter fun e => e.1 ≠ i }) s
  reviewUnresponsive p (reschedule p (refitPeriod p (record 0x0907 [] s)))

def dmxRemoveHeadCmd : Cmd :=
  setCmd 0x0904 40 (fun _ q => [within 0 15 (q.u8 0), reserved q 2 6])
    (fun s q => rejectWhen ((s.head (q.u8 0) (q.u8 1)).st = .absent) WRONG_STATE)
    (fun q s => removeHead (q.u8 0) (q.u8 1) s)
def execDmxRemoveHead (q : Request) (s : State) : Result := .next (runRequest dmxRemoveHeadCmd q s)

/-- The heads of a port with a stream asked for one of them. -/
def headsAsked (x : DamuxPort) (i k channels : Nat) (enable : Bool) : List Head :=
  x.heads.map fun h => if h.position = i then { h with k := k, channels := channels, enable := enable } else h

def setHeadReject (s : State) (q : Request) : Rejection :=
  let p := q.u8 0
  let x := s.port p
  let h := s.head p (q.u8 1)
  let l := headsAsked x (q.u8 1) (q.u8 2) (q.u8 3) (q.u8 4 = 1)
  let none8 (st : Nat) : Rejection := some (st, zeros 8)
  if ¬ h.scheduled then none8 WRONG_STATE
  else if ¬ h.desc.rates.testBit (q.u8 2) ∨ h.desc.channels < q.u8 3 then none8 OUT_OF_RANGE
  else match periodFor x l with
  | none => some (RESOURCE_EXHAUSTED, overPayload x l (if x.picks then 1000 else x.wanted))
  | some t =>
    if ¬ routesFit s l t then some (RESOURCE_EXHAUSTED, overPayload x l t)
    else if h.st = .unresponsive then none8 HW_FAULT
    else none

def dmxSetHeadCmd : Cmd :=
  { opcode := 0x0905, classC := true, lengths := lenIs 40, failLen := 8, needsRun := true
    checks := fun _ q => [within 0 15 (q.u8 0), within 0 12 (q.u8 2), counted 4 (q.u8 3), within 0 1 (q.u8 4),
      reserved q 5 3]
    reject := setHeadReject
    act := fun w q s =>
      let p := q.u8 0
      let x := s.port p
      let t := (periodFor x (headsAsked x (q.u8 1) (q.u8 2) (q.u8 3) (q.u8 4 = 1))).getD x.wanted
      let s := if x.wanted < t then reschedule p (setPeriod p t s) else s
      streamHead p (q.u8 1) (q.u8 2) (q.u8 3) (q.u8 4 = 1) (some w) s }
def execDmxSetHead (q : Request) (s : State) : Result := .next (runRequest dmxSetHeadCmd q s)

def dmxHeadParamCmd : Cmd :=
  { opcode := 0x0906, classC := true, lengths := lenIs 48, needsRun := true
    checks := fun _ q => [within 0 15 (q.u8 0), reserved q 2 2]
    reject := fun s q =>
      let h := s.head (q.u8 0) (q.u8 1)
      firstRejection [rejectWhen (¬ h.scheduled) WRONG_STATE, rejectWhen (h.st = .unresponsive) HW_FAULT]
    act := fun w q s => queueCommand (q.u8 0)
      { target := q.u8 1, opcode := 4, arg := q.bytes 4 12, sequence := 0, waiter := some w } s }
def execDmxHeadParam (q : Request) (s : State) : Result := .next (runRequest dmxHeadParamCmd q s)

/-- Largest block of a head at the present period. -/
def State.headBlock (s : State) (p i : Nat) : Nat :=
  blockSizeOf (s.head p i).k (s.head p i).channels (s.port p).period

def dmxSetRouteCmd : Cmd :=
  setCmd 0x0907 64
    (fun s q =>
      let b := s.headBlock (q.u8 0) (q.u8 1)
      [within 0 15 (q.u8 0), reservedBits q 2 2, reserved q 3 1,
        if q.bit 2 0 then allowed (q.u32 4 < 2 ^ 20 ∧ s.laneTarget (q.u32 4) b) else reserved q 4 4,
        if q.bit 2 1 then allowed (q.u64 8 % 64 = 0 ∧ s.inUser (q.u64 8) (q.u64 16)) else reserved q 8 8,
        if q.bit 2 1 then firstFailure [notZero (q.u64 16), allowed (roundUp 64 b ≤ q.u64 16)] else reserved q 16 8,
        reserved q 24 8])
    (fun _ _ => none)
    (fun q s =>
      let h := s.head (q.u8 0) (q.u8 1)
      putHead (q.u8 0) { h with
        routePh := if q.bit 2 0 then some (q.u32 4) else none
        routeRing := if q.bit 2 1 then some (q.u64 8, q.u64 16, 0) else none } s)
def execDmxSetRoute (q : Request) (s : State) : Result := .next (runRequest dmxSetRouteCmd q s)

def dmxSetAlarmGroupCmd : Cmd :=
  setCmd 0x0908 40 (fun _ q => [within 0 15 (q.u8 0), within 0 3 (q.u8 2), reserved q 4 4]) (fun _ _ => none)
    (fun q s =>
      let h := s.head (q.u8 0) (q.u8 1)
      putHead (q.u8 0) { h with newMasks := some ((h.newMasks.getD h.masks).set (q.u8 2) (q.u8 3)) } s)
def execDmxSetAlarmGroup (q : Request) (s : State) : Result := .next (runRequest dmxSetAlarmGroupCmd q s)

def dmxRejoinCmd : Cmd :=
  setCmd 0x0909 40 (fun _ q => [within 0 15 (q.u8 0), reserved q 1 7])
    (fun s q => rejectWhen ((s.port (q.u8 0)).st ≠ .running) WRONG_STATE)
    (fun q s => reschedule (q.u8 0)
      (updPort (q.u8 0) (fun x => { x with heads := x.heads.map fun h => { h with nextEnd := some false } }) s))
    (needsRun := true)
def execDmxRejoin (q : Request) (s : State) : Result := .next (runRequest dmxRejoinCmd q s)

def PortState.code : PortState → Nat
  | .down => 0
  | .training => 1
  | .enumerating => 2
  | .running => 3
  | .faulted => 4

def HeadState.code : HeadState → Nat
  | .absent => 0
  | .discovered => 1
  | .enrolled => 2
  | .streaming => 3
  | .unresponsive => 4

def portRecord (s : State) (sess p : Nat) : List Byte :=
  let x := s.port p
  let n (f : Head → Bool) : List Byte := u16 (x.heads.filter f).length
  u8 x.st.code
    ++ u8 (ofBits [x.closed, x.breakLink.isSome, x.picked, x.auto, (s.session sess).since.dmxFull.getD p false])
    ++ u16 x.period ++ n Head.scheduled ++ n (fun h => h.st = .streaming) ++ n (fun h => h.st = .unresponsive)
    ++ u16 (x.breakLink.getD 0xFFFF) ++ u32 (roundCost x.heads x.period) ++ u32 (10000 * x.period) ++ u32 x.round
    ++ u32 x.crcErrors ++ u32 x.otherDiscards ++ u32 x.letterboxDiscards
    ++ u32 (((x.heads.filter fun h => h.st ≠ .absent).map Head.pathDelay).foldl max 0) ++ u8 (ofBits (activeGroups x.heads)) ++ zeros 7

/-- Ticks per head period in 2^-32 tick: 4 * core rate / 1,638,400. -/
def State.rho (s : State) : Nat := s.dmx.anchorCore * 15625 * 2 ^ 32 / 6400

def dmxPayload (s : State) (q : Request) : List Byte :=
  u64 s.headTime ++ u64 s.dmx.anchorHead ++ u64 s.dmx.anchorTick ++ u64 s.rho
    ++ (List.range 16).flatMap (portRecord s q.sess)

def dmxGetStatusCmd : Cmd :=
  readClearCmd 0x090A 32 (fun _ _ => []) dmxPayload fun q s =>
    updSession q.sess (fun x => { x with since := { x.since with dmxFull := List.replicate 16 false } }) s
def execDmxGetStatus (q : Request) (s : State) : Result := .next (runRequest dmxGetStatusCmd q s)

/-- The stream byte of a slot. -/
def streamByte (k channels : Nat) : Nat := k % 16 + (channels - 1) % 4 * 16

def headRecord (h : Head) : List Byte :=
  u8 h.position ++ u8 h.st.code ++ u8 (streamByte h.k h.channels) ++ u8 h.returnEnd.toNat ++ u64 h.desc.serial
    ++ u32 h.pathDelay ++ u32 (if h.desc.serial = 0 ∧ h.st = .absent then 0 else h.desc.alarmDelay + h.pathDelay) ++ u8 h.alarm
    ++ u8 0 ++ u16 h.hop ++ h.masks.flatMap u8 ++ u16 (min h.crcErrors 65535) ++ u16 (min h.missed 65535)

def dmxGetHeadsCmd : Cmd :=
  readCmd 0x090B 40 (fun _ q => [within 0 15 (q.u8 0),
      firstFailure [notZero (q.u8 2), allowed (q.u8 2 ≤ 64 ∧ q.u8 1 + q.u8 2 ≤ 256)], reserved q 3 5])
    fun s q => (List.range (q.u8 2)).flatMap fun i => headRecord (s.head (q.u8 0) (q.u8 1 + i))
def execDmxGetHeads (q : Request) (s : State) : Result := .next (runRequest dmxGetHeadsCmd q s)

/-! ### Rounds (R307, R311, R318) -/

/-- Discovery was open and no reply came: four such rounds end the walk. -/
def countMiss (p : Nat) (s : State) : State :=
  let x := s.port p
  match x.enum with
  | none => s
  | some e =>
    if ¬ x.discovery ∨ x.replied then s
    else if 4 ≤ e.misses + 1 then
      endWalk p (updPort p (fun x => { x with closed := x.closed && (e.fromReturn || x.breakLink.isSome) }) s)
    else updPort p (fun x => { x with enum := some { e with misses := e.misses + 1 } }) s

/-- What one round's beacons carry: at most eight commands. -/
def sendBeacons (p : Nat) (s : State) : State :=
  let l := (s.port p).commands.take 8
  let s := emit .beacon [p, 1] (beaconBytes s p true l) (emit .beacon [p, 0] (beaconBytes s p false l) s)
  updPort p (fun x => { x with commands :=
    ((x.commands.take 8).map (fun c => { c with sent := c.sent + 1 })).filter (fun c => ! x.unacked c) ++ x.commands.drop 8 }) s

/-- ROUND_START (R307), at the end of the guard gap (R302). -/
def execRoundStart (at_ port : Nat) (s : State) : Result :=
  let s := advance at_ s
  .next (
    if ¬ (s.port port).rounds then s
    else
      let s := forAll (s.port port).expired (fun i s => loseHead port i s) s
      let s := putLane (2 * port + 1) (putLane (2 * port) s)
      let s := countMiss port s
      let s := updPort port DamuxPort.takeFlags s
      let x := s.port port
      let s := match x.newPeriod with
        | some t => record 0x0902 [r4 x.period, r4 t] (updPort port (fun x => { x with period := t, newPeriod := none }) s)
        | none => s
      let s := if x.rediscover then
          forAll (x.heads.filter fun h => h.st = .unresponsive) (fun h s => scheduleHead port h.position s) s else s
      let head := ((s.time.ps - s.time.headZero) * 32 + 15625 * 1250 - 1) / (15625 * 1250)
      let s := updPort port (fun x => { x with
        round := (x.round + 1) % 2 ^ 32, roundHead := head, roundAt := s.time.ps
        discovery := x.enum.isSome || x.rediscover, rediscover := false, replied := false
        heads := x.heads.map fun h => { h.takeEnd with answered := false, spoilt := false } }) s
      sendBeacons port s)

/-- A round passes without a valid slot of a head (R316). -/
def missSlot (p i : Nat) (s : State) : State :=
  let h := s.head p i
  let s := updHead p i (fun h => { h with silent := h.silent + 1 }) s
  if 16 ≤ h.silent + 1 then loseHead p i s else s

/-- SLOT_WINDOW_END (R323). -/
def execSlotWindowEnd (at_ port position : Nat) (s : State) : Result :=
  let s := advance at_ s
  let h := s.head port position
  .next (
    if ¬ (s.port port).rounds ∨ ¬ h.scheduled ∨ h.answered then s
    else
      let s := if h.spoilt then s else updHead port position (fun h => { h with missed := satInc 16 h.missed, late := 0 }) s
      missSlot port position s)

/-- A slot or reply is discarded: `row` of R323 names the deviation. -/
def discardSlot (p i row : Nat) (s : State) : State :=
  let s := updPort p (fun x =>
    if row = 0 then { x with crcErrors := satInc 32 x.crcErrors }
    else if row = 8 then { x with letterboxDiscards := satInc 32 x.letterboxDiscards }
    else { x with otherDiscards := satInc 32 x.otherDiscards }) s
  let s := updHead p i (fun h =>
    if row = 0 then { h with crcErrors := satInc 16 h.crcErrors, spoilt := true, late := 0 }
    else { h with discards := satInc 32 h.discards, spoilt := true, late := if row = 2 then h.late else 0 }) s
  recordLimited 0x090B p psPerMs [r1 p, r1 i, r1 (Config.slotErrorKind row).toNat] s

/-- A command that a slot acknowledges (R309, R316, R320). -/
def ackCommand (p i code : Nat) (c : HeadCommand) (s : State) : State :=
  if code ≠ 0 then
    replyOpt c.waiter HW_FAULT (if c.opcode = 3 then zeros 8 else []) (if c.opcode = 3 then reschedule p (refitPeriod p s) else s)
  else match c.opcode, c.stream with
    | 3, some (k, channels, enable) =>
      let before := (s.head p i).k
      let s := updHead p i (fun h => { h with
        k := k, channels := channels, enable := enable
        st := match h.st with
          | .enrolled | .streaming => if enable then .streaming else .enrolled
          | st => st }) s
      let s := reschedule p (noteSnapshots (refitPeriod p s))
      let s := if before ≠ k then
          noteAccumulators (fun a => decide (a.config.kind = 1 ∧ a.config.port = p ∧ a.config.position = i)) s else s
      replyOpt c.waiter OK (costPayload (s.port p).heads (s.port p).wanted) s
    | 4, _ => replyOpt c.waiter OK [] (updHead p i (fun h => { h with params := c.arg }) s)
    | _, _ => replyOpt c.waiter OK [] s

/-- The acknowledgement of a slot covers its command and those sent to the head before it. -/
def takeAck (p i seq code : Nat) (s : State) : State :=
  let mine := (s.port p).commands.filter fun c => c.target = i ∧ 0 < c.sent
  match mine.find? fun c => c.sequence = seq with
  | none => s
  | some c =>
    let done := mine.takeWhile (fun d => d.sequence ≠ seq)
    let s := updPort p (fun x => { x with commands := x.commands.filter fun d =>
      ¬ (d = c ∨ done.contains d) }) s
    ackCommand p i code c (forAll done (fun d s => ackCommand p i 0 d s) s)

/-- Hop numbers beyond a break seen from the forward end. -/
def beyond (link : Nat) (h : Head) : Bool := decide (link ≤ h.hop)

/-- A lost link (R321). -/
def breakAt (p link : Nat) (s : State) : State :=
  if (s.port p).broken.contains link then s
  else
    let s := assertAlert (.damuxBreak p) (record 0x0909 [r1 p, r4 link] s)
    let s := updPort p (fun x => { x with
      breakLink := some (x.breakLink.getD link), broken := link :: x.broken
      heads := if x.closed then x.heads.map fun h => if beyond link h then { h with nextEnd := some true } else h else x.heads }) s
    if (s.port p).closed then reschedule p s else s

/-- The link that a head's status bit [11] reports: the one away from its serving end. -/
def brokenLink (h : Head) (servingReturn : Bool) : Nat := if servingReturn then h.hop else h.hop + 1

/-- An unresponsive head gives a valid slot again (R316, R318). -/
def recoverHead (p i : Nat) (s : State) : State :=
  if (s.head p i).st = .unresponsive then
    reviewUnresponsive p (record 0x0906 [] (updHead p i (fun h => { h with st := h.before }) s))
  else s

/-- A head whose slots drift by more than 1 ns gets a new SCHEDULE, unless one is on its way (R311).
DEDUCED (log entry 55). -/
def trackHead (p i : Nat) (arrival : Int) (s : State) : State :=
  let waits := (s.port p).commands.any fun c => decide (c.target = i ∧ c.opcode = 2)
  let s := updHead p i (fun h => { h with drift := arrival }) s
  if 1000 < arrival.natAbs ∧ ¬ waits then scheduleHead p i s else s

/-- A slot that passed every check of R323. DESIGN CHOICE (log entry 50). -/
def acceptSlot (p i : Nat) (f : SlotFrame) (s : State) : State :=
  let h := s.head p i
  let step := 2 ^ h.k
  let gap := match h.lastTime with | some t => decide (0 < f.count ∧ t + step < f.firstTime) | none => false
  let missing := match h.lastTime with | some t => if gap then (f.firstTime - t) / step - 1 else 0 | none => 0
  -- samples at or before the previous slot's last one are left out
  let skip := match h.lastTime with
    | some t => if 0 < f.count ∧ f.firstTime ≤ t then min f.count ((t - f.firstTime) / step + 1) else 0
    | none => 0
  let g : SlotFrame := { f with
    firstTime := f.firstTime + skip * step, count := f.count - skip, samples := f.samples.drop (skip * h.channels) }
  let s := updHead p i (fun h => { h with
    silent := 0, late := 0, answered := true, alarm := f.status % 256, masks := h.newMasks.getD h.masks, newMasks := none
    timeErrors := if 0 < skip then satInc 32 h.timeErrors else h.timeErrors
    lastTime := if 0 < g.count then some (g.firstTime + (g.count - 1) * step) else h.lastTime }) s
  let s := recoverHead p i s
  let serving := f.status.testBit 10
  let s := if serving ≠ (s.head p i).returnEnd then scheduleHead p i s else s
  let s := updPort p (fun x => { x with letterbox := x.letterbox ++
    [{ frame := g, tick := s.time.tick, gap := gap, missing := missing, returnEnd := serving
       masks := h.newMasks.getD h.masks }] }) s
  let s := takeAck p i f.ackSeq f.ackCode (notePeak 8 (s.headOccupancy / 1024) s)
  if f.status.testBit 11 then breakAt p (brokenLink (s.head p i) serving) s else s

/-- A slot that arrives outside its scheduled instant: after 4 rounds in a row, SCHEDULE goes out again.
DEDUCED (log entry 55). -/
def lateSlot (p i : Nat) (s : State) : State :=
  let n := (s.head p i).late + 1
  let s := updHead p i (fun h => { h with late := if n = 4 then 0 else n }) s
  if n = 4 then scheduleHead p i s else s

/-- DAMUX_SLOT_RECEIVED (R323): `window` is the position scheduled for the window, `arrival` the deviation in ps. -/
def execDamuxSlotReceived (at_ port window : Nat) (arrival : Int) (f : SlotFrame) (s : State) : Result :=
  let s := advance at_ s
  let x := s.port port
  let h := s.head port window
  let full := decide (65536 < (x.letterbox.map fun l => frameBytes l.frame).sum + frameBytes f)
  .next (
    if ¬ x.rounds ∨ ¬ h.scheduled ∨ h.answered then s
    else if ¬ f.crcGood then discardSlot port window 0 s
    else if 2500 < arrival.natAbs then lateSlot port window (discardSlot port window 2 s)
    else if f.position ≠ window then discardSlot port window 3 s
    else if f.round ≠ x.round then discardSlot port window 4 s
    else if f.stream ≠ streamByte h.k h.channels then
      streamHead port window h.k h.channels h.enable none (discardSlot port window 5 s)
    else if (if h.enable then slotMax h.k x.period else 0) < f.count ∨ ¬ f.inWindow then discardSlot port window 6 s
    else if full then
      recordLimited 0x090C port psPerMs []
        (updSince (fun z => { z with dmxFull := z.dmxFull.set port true, overflow := z.overflow.set 8 true }) (discardSlot port window 8 s))
    else acceptSlot port window f (trackHead port window arrival s))

/-! ### Discovery (R318, R319) -/

/-- Where a discovered head goes: its own position by serial, else the lowest free one. -/
def DamuxPort.place (x : DamuxPort) (serial : Nat) : Option Nat :=
  match x.heads.find? fun h => (h.inRoster || h.st ≠ .absent) && h.desc.serial = serial with
  | some h => some h.position
  | none => (List.range 256).find? fun i => ! x.heads.any fun h => h.position = i && (h.inRoster || h.st ≠ .absent)

/-- A head that answers discovery takes its place, is scheduled and enters the round where it may (R316, R317). -/
def placeHead (p i delay hop : Nat) (fromReturn : Bool) (d : HeadDescriptor) (s : State) : State :=
  let h := s.head p i
  let known := h.inRoster && decide (h.desc.serial = d.serial)
  let s := putHead p { h with
    desc := d, pathDelay := delay, hop := hop, returnEnd := fromReturn, nextEnd := none, fromReturn := fromReturn } s
  let s := assignHead p i d.serial s
  match h.st with
  | .absent | .discovered =>
    let fresh := decide (h.st = .absent)
    let s := if fresh ∧ ¬ known then record 0x0903 [] s else s
    let s := updHead p i (fun h => { h with st := .discovered }) s
    let st : HeadState := if known ∧ h.enable then .streaming else .enrolled
    if known ∨ (s.port p).auto then
      match admitHead p i st s with
      | some t => t
      | none => refuseHead p i s
    else scheduleHead p i s
  | _ => scheduleHead p i s

/-- The hop of a head that an end finds at a path delay: behind the heads nearer to that end, and, from the return end, behind
those of the forward end. DEDUCED (log entry 55). -/
def DamuxPort.hopFor (x : DamuxPort) (i delay : Nat) (fromReturn : Bool) : Nat :=
  let placed := x.heads.filter fun h => h.st ≠ .absent && h.position ≠ i && h.hop ≠ 0xFFFF
  let before := placed.filter fun h =>
    if fromReturn then ! h.fromReturn || decide (delay < h.pathDelay) else ! h.fromReturn && decide (h.pathDelay ≤ delay)
  (before.map fun h => h.hop + 1).foldl max 0

/-- A head takes its place in the line: where another held that hop, it and those behind it lie one hop farther on.
DEDUCED (log entry 55). -/
def pushHops (p i hop : Nat) (s : State) : State :=
  let at_ (k : Nat) (h : Head) : Bool := h.st ≠ .absent && h.position ≠ i && h.hop ≠ 0xFFFF && decide (k ≤ h.hop)
  if (s.port p).heads.any fun h => at_ hop h && h.hop = hop then
    updPort p (fun x => { x with heads := x.heads.map fun h => if at_ hop h then { h with hop := h.hop + 1 } else h }) s
  else s

/-- DISCOVERY_REPLY (R318). `roundTrip` is in ns. -/
def execDiscoveryReply (at_ port : Nat) (inWindow : Bool) (roundTrip : Nat) (d : HeadDescriptor) (crcGood : Bool)
    (s : State) : Result :=
  let s := advance at_ s
  let x := s.port port
  .next (
    if ¬ x.rounds then s
    else if ¬ crcGood then discardSlot port 0xFF 0 s
    else if ¬ inWindow ∨ ¬ x.discovery then discardSlot port 0xFF 10 s
    else
      let delay := (roundTrip - d.turnaround) / 2
      let s := updPort port (fun x => { x with replied := true }) s
      if 200000 < delay then
        let s := record 0x0908 [r1 port, r8 d.serial, r4 delay] s
        if x.enum.isSome then endWalk port s else s
      else match x.place d.serial with
        | none => s
        | some i =>
          let known := s.head port i
          let back := match x.enum with | some e => e.fromReturn | none => known.returnEnd
          let s := updPort port (fun x => { x with enum := x.enum.map fun e => { e with misses := 0 } }) s
          if known.hop ≠ 0xFFFF ∧ known.st ≠ .absent then placeHead port i delay known.hop back d s
          else
            let hop := x.hopFor i delay back
            placeHead port i delay hop back d (pushHops port i hop s))

/-- BEACON_RETURNED (R318): the chain is closed, which ends the forward walk. -/
def execBeaconReturned (at_ port : Nat) (s : State) : Result :=
  let s := advance at_ s
  .next (
    if ¬ (s.port port).rounds then s
    else
      let s := updPort port (fun x => { x with closed := true }) s
      match (s.port port).enum with
      | some e => if e.fromReturn then s else endWalk port s
      | none => s)

/-- REDISCOVERY (R318): every 100 ms a running port with unresponsive heads opens discovery in one round. -/
def execRediscovery (at_ port : Nat) (s : State) : Result :=
  let s := advance at_ s
  .next (
    if (s.port port).rounds && ((s.port port).heads.any fun h => h.st = .unresponsive) then
      updPort port (fun x => { x with rediscover := true }) s
    else s)

/-! ### Lanes of a port (R313, R321, R322) -/

/-- PORT_TRAINING_END (R313): the forward end decides; `back` says whether the return end trained. -/
def execPortTrainingEnd (at_ port : Nat) (forward back : Bool) (s : State) : Result :=
  let s := advance at_ s
  .next (match (s.port port).st with
    | .training | .faulted =>
      let s := updPort port (fun x => { x with forwardSignal := forward, returnSignal := back }) s
      if forward then startWalk port false none (setPortState port .enumerating s) else setPortState port .faulted s
    | _ => s)

/-- PORT_TRAINING_RETRY (R313): a Faulted port trains again; PORT_TRAINING_END tells the outcome. -/
def execPortTrainingRetry (at_ port : Nat) (s : State) : Result :=
  let s := advance at_ s
  .next (match (s.port port).st with
    | .faulted => updPort port (fun x => { x with forwardSignal := false, returnSignal := false }) s
    | _ => s)

/-- DAMUX_LANE_SIGNAL_LOST (R313). -/
def execDamuxLaneSignalLost (at_ port : Nat) (returnEnd : Bool) (s : State) : Result :=
  let s := advance at_ s
  .next (
    if ¬ (s.port port).rounds then s
    else
      let s := updPort port (fun x =>
        if returnEnd then { x with returnSignal := false } else { x with forwardSignal := false }) s
      if returnEnd ∨ (s.port port).forwardSignal then s
      else if (s.port port).returnSignal then breakAt port 0 s
      else setPortState port .faulted (endRounds port s))

/-- The broken link carries signal again; at the return end of a closed chain too. -/
def DamuxPort.mend (x : DamuxPort) : DamuxPort :=
  { x with breakLink := none, broken := [], forwardSignal := true, returnSignal := x.returnSignal || x.closed }

/-- DAMUX_BREAK_REPAIRED (R322). -/
def execDamuxBreakRepaired (at_ port : Nat) (s : State) : Result :=
  let s := advance at_ s
  .next (
    if ¬ (s.port port).rounds then s
    else if (s.port port).breakLink.isSome then
      releaseAlert (.damuxBreak port) (record 0x090A [] (updPort port DamuxPort.mend s))
    else updPort port DamuxPort.mend s)

/-! ### The head lane (R31, R324, R325) -/

/-- A head block (R324). -/
def headBlockBytes (s : State) (p : Nat) (l : HeldSlot) : List Byte :=
  let f := l.frame
  let samples := f.samples.flatMap (leInt 3)
  let b := u8 p ++ u8 f.position ++ u8 f.stream
    ++ u8 (ofBits [l.gap, f.status.testBit 8, ! s.mappingExact, l.returnEnd, f.status.testBit 9])
    ++ u32 f.round ++ u64 f.firstTime ++ u16 f.count ++ zeros 2 ++ u32 f.status ++ u64 (s.headTick f.firstTime)
    ++ toLen ((samples.length + 7) / 8 * 8) samples ++ zeros 4
  b ++ u32 (crc32c b)

/-- The samples of a slot by instant: head time and values. -/
def slotInstants (f : SlotFrame) (k channels : Nat) : List (Nat × List Int) :=
  (List.range f.count).map fun j =>
    (f.firstTime + j * 2 ^ k, (List.range channels).map fun c => f.samples.getD (j * channels + c) 0)

/-- What one instant of a slot gives to the taps. -/
def State.headDatum (s : State) (l : HeldSlot) (first : Bool) (v : Nat × List Int) : Datum :=
  { values := v.2, tick := s.headTick v.1, suspect := l.frame.status.testBit 8, overrange := l.frame.status.testBit 9
    inexact := ! s.mappingExact, lossy := first && l.gap, missing := if first then l.missing else 0 }

/-- The instants of a slot go to accumulators and taps. -/
def routeSlot (p i k : Nat) (l : HeldSlot) (v : List (Nat × List Int)) (s : State) : State :=
  pushData 2 (256 * p + i) (((List.range v.length).zip v).map fun x => s.headDatum l (decide (x.1 = 0)) x.2)
    (forAll v (fun x => headToHamper p i k x.1 x.2 (l.frame.status.testBit 8)) s)

/-- A block goes to the routes of its head. -/
def routeBlock (p i : Nat) (bytes : List Byte) (s : State) : State :=
  let h := s.head p i
  let s := match h.routePh with
    | some n => offer n { writer := .head p i, entries := [bytes] } s
    | none => s
  match h.routeRing with
  | none => s
  | some (base, size, cell) =>
    let step := roundUp 64 (s.headBlock p i)
    let cells := size / step
    if cells = 0 ∨ ¬ s.memServes then s
    else updHead p i (fun h => { h with routeRing := some (base, size, (cell % cells + 1) % cells) })
      (memWrite (base + step * (cell % cells)) bytes s)

/-- One slot of a letterbox. -/
def liftSlot (p : Nat) (l : HeldSlot) (s : State) : State :=
  let i := l.frame.position
  let h := s.head p i
  let last := l.frame.firstTime + (l.frame.count - 1) * 2 ^ h.k
  let s := reportAlarms p i l.tick (l.frame.status % 256) l.masks false last s
  if ¬ h.enable then s
  else
    let s := routeSlot p i h.k l (slotInstants l.frame h.k h.channels) s
    routeBlock p i (headBlockBytes s p l) s

/-- Both copies of the pending store of an accumulator on this head hold segments that are still to be combined: the head lane
waits (R293). DEDUCED (log entry 76). -/
def State.headWaits (s : State) (p i : Nat) : Bool :=
  s.ham.accs.any fun a => a.full && decide (a.st = .running) && a.follows p i

/-- HEAD_LANE_LIFT (R31): the next slot, round-robin over the sixteen letterboxes. -/
def execHeadLaneLift (at_ : Nat) (s : State) : Result :=
  let s := advance at_ s
  let order := (List.range 16).map fun i => (s.dmx.nextPort + i) % 16
  .next (match order.find? fun p => ! (s.port p).letterbox.isEmpty with
    | none => s
    | some p => match (s.port p).letterbox with
      | [] => s
      | l :: rest =>
        if s.headWaits p l.frame.position then s
        else
          let s := { s with dmx := { s.dmx with nextPort := (p + 1) % 16 } }
          reviewStops (evaluate (liftSlot p l (updPort p (fun x => { x with letterbox := rest }) s))))

end Sys2Proof.Machine
end

