-- ==== Sys2Proof/Machine/Engines.lean ====
section
/-! DEFINITION. The reduction engines: the commands of group 0x0A, the releases and the chunks of jobs, the end of a task,
aborts and engine faults (R330 to R357). -/

namespace Sys2Proof.Machine

/-! ### ENG_GET_CATALOGUE (R332) -/

def engGetCatalogueCmd : Cmd := readCmd 0x0A01 32 (fun _ _ => []) fun _ _ =>
  u8 9 ++ zeros 7 ++ (List.range 9).flatMap fun k => u8 (k + 1) ++ u8 (Config.kernelVersion (k + 1)).toNat ++ zeros 2
def execEngGetCatalogue (q : Request) (s : State) : Result := .next (runRequest engGetCatalogueCmd q s)

/-! ### ENG_CREATE_JOB (R333 to R335, R341, R348) -/

/-- The configuration that a request carries. -/
def jobRequest (q : Request) : JobConfig :=
  { kernel := q.u8 4, kind := q.u8 6, skipSuspect := q.bit 7 0, source := q.u32 8, channels := q.u8 12, kind2 := q.u8 13
    source2 := q.u32 16, ph := q.u32 20, spacing := q.u32 24, scratchBase := q.u64 32, scratchSize := q.u64 40
    params := (List.range ((min (q.u16 60) 768 + 3) / 4)).map fun i => q.u32 (64 + 4 * i) }

/-- Bytes of a kernel's parameters (R341). -/
def paramLength (c : JobConfig) : Nat :=
  match c.kernel with
  | 1 => 8
  | 2 => 16
  | 3 => 28
  | 4 | 5 => 20
  | 6 => 12 + 16 * c.p 0
  | 9 => 12
  | _ => 8

/-- A source field: bits that its kind does not use are reserved, and a port is 0 to 15 (R333).
DEDUCED (log entry 56). -/
def sourceField (kind v : Nat) : Check :=
  match kind with
  | 0 | 3 | 5 => failWhen (8 ≤ v) RESERVED_NONZERO
  | 1 => failWhen (4 ≤ v) RESERVED_NONZERO
  | 2 => firstFailure [failWhen (2 ^ 16 ≤ v) RESERVED_NONZERO, allowed (v / 256 < 16)]
  | _ => failWhen (2 ^ 14 ≤ v) RESERVED_NONZERO

/-- The channels field (R333). -/
def channelsField (s : State) (q : Request) (c : JobConfig) : Check :=
  match c.kind with
  | 1 =>
    let g := (s.sg c.source).config
    allowed (c.channels ≠ 0 ∧ (g.unset ∨ c.channels &&& g.mask = c.channels))
  | 2 => allowed (c.channels ≠ 0 ∧ c.channels < 16)
  | _ => reserved q 12 1

def isPow2 (n : Nat) : Bool := decide (2 ^ Nat.log2 n = n)

/-- A positive binary32 number. -/
def positiveFloat (w : Nat) : Bool := decide (0 < w ∧ w ≤ 0x7F800000)

/-- A band record of BAND_ALARM, the bins of the producer where it is a job in use. -/
def bandFields (s : State) (c : JobConfig) (i : Nat) : List Check :=
  let k := 3 + 4 * i
  let l := if (s.job c.source).isSome then s.producerBins c else 2 ^ 32
  [allowed (c.p k ≤ c.p (k + 1)), allowed (c.p (k + 1) < l), allowed (positiveFloat (c.p (k + 2))),
    allowed (positiveFloat (c.p (k + 3)) ∧ c.p (k + 2) ≤ c.p (k + 3))]

/-- The parameters of a kernel, in order (R341). -/
def paramFields (s : State) (c : JobConfig) : List Check :=
  let p := c.p
  let n := 2 ^ min (p 0) 32
  let speeds := [firstFailure [notZero (p 2), allowed (p 2 ≤ 4096 ∧ isPow2 (p 2))], none, allowed (p 4 ≤ p 3)]
  let points := firstFailure [notZero (p 0), allowed (16 ≤ p 0 ∧ p 0 ≤ 8192 ∧ isPow2 (p 0))]
  match c.kernel with
  | 1 => [firstFailure [notZero (p 0), within 64 16777216 (p 0)], firstFailure [notZero (p 1), allowed (p 0 ≤ p 1)]]
  | 2 => [firstFailure [notZero (p 0), within 6 20 (p 0)], within 0 3 (p 1), counted 65535 (p 2),
      if c.kind = 4 then failWhen (p 3 ≠ 0) RESERVED_NONZERO else firstFailure [notZero (p 3), allowed (n ≤ p 3)]]
  | 3 => [firstFailure [notZero (p 0), within 6 14 (p 0)], allowed (0 < p 1), allowed (p 1 < p 2 ∧ p 2 < 2 ^ 31),
      firstFailure [notZero (p 3), allowed (16 ≤ p 3 ∧ p 3 ≤ 128 ∧ p 3 % 8 = 0)],
      firstFailure [notZero (p 4), allowed (2 ≤ p 4 ∧ p 4 ≤ 64 ∧ isPow2 (p 4))], counted 65535 (p 5),
      firstFailure [notZero (p 6), allowed (n ≤ p 6)]]
  | 4 => [points, firstFailure [counted 1024 (p 1), allowed (p 0 * p 1 ≤ 65536)]] ++ speeds
  | 5 => [points, counted 65535 (p 1)] ++ speeds
  | 6 => [counted 32 (p 0), within 0 500 (p 1), counted 255 (p 2)]
      ++ (List.range (min (p 0) 32)).flatMap (bandFields s c)
  | 7 => [counted 16777216 (p 0), counted 4096 (p 1)]
  | 8 =>
    let g := (s.sg c.source).config
    [counted 16777216 (p 0), firstFailure [counted 16384 (p 1), allowed (g.unset ∨ p 1 ≤ g.span)]]
  | _ => [firstFailure [notZero (p 0), within 6 14 (p 0)], firstFailure [notZero (p 1), allowed (n ≤ p 1)],
      firstFailure [notZero (p 2), allowed (p 2 ≤ n / 2)]]

/-- The parameter length: its own range, then the request's size and the kernel's length (R333, R439). -/
def paramLengthField (q : Request) (c : JobConfig) : Check :=
  let n := q.u16 60
  firstFailure [notZero n, allowed (4 ≤ n ∧ n ≤ 768 ∧ n % 4 = 0), failWhen (q.length ≠ 96 + n ∨ n ≠ paramLength c) BAD_LENGTH]

/-- Entries of at least `n` bytes; a Free pigeonhole has none. -/
def State.entriesOf (s : State) (ph n : Nat) : Bool :=
  match s.ph ph with
  | none => false
  | some p => decide (n ≤ p.entrySize)

def scratchFields (s : State) (q : Request) (c : JobConfig) : List Check :=
  if c.outOfCore then
    [firstFailure [failWhen (2 ^ 40 ≤ c.scratchBase) RESERVED_NONZERO,
        allowed (c.scratchBase % 4096 = 0 ∧ s.inUser c.scratchBase 1)],
      firstFailure [notZero c.scratchSize, allowed (18 * 2 ^ c.p 0 * s.jobWidth c ≤ c.scratchSize
        ∧ s.inUser c.scratchBase c.scratchSize)]]
  else [reserved q 32 8, reserved q 40 8]

/-- DEDUCED (log entry 56). -/
def jobFields (s : State) (q : Request) : List Check :=
  let c := jobRequest q
  [allowed (q.u32 0 < 16384), within 1 9 c.kernel, allowed (q.u8 5 < 128 ∨ q.u8 5 = 0xFF),
    allowed ((kernelKinds c.kernel).contains c.kind), reservedBits q 7 2, sourceField c.kind c.source,
    channelsField s q c, allowed ((kernelSecond c.kernel).contains c.kind2), reserved q 14 2,
    if c.kind2 = 0xFF then reserved q 16 4 else sourceField c.kind2 c.source2,
    allowed (c.ph < 2 ^ 20 ∧ s.entriesOf c.ph 128),
    if c.kind = 1 ∨ c.kind = 4 then notZero c.spacing else reserved q 24 4, reserved q 28 4]
    ++ scratchFields s q c ++ [reserved q 48 12, paramLengthField q c, reserved q 62 2] ++ paramFields s c

/-- A source that cannot be used now (R334 check 2). -/
def State.sourceUnusable (s : State) (kernel kind source : Nat) : Bool :=
  match kind with
  | 0 => ! s.enabled source
  | 1 => (s.sg source).config.unset
  | 2 => match (s.head (source / 256) (source % 256)).st with
    | .enrolled | .streaming => false
    | _ => true
  | 3 => ! (s.edge.tachs.getD source {}).set.enable
  | 4 => match s.job source with
    | none => true
    | some j => ! (if kernel = 2 then [4] else [2, 3]).contains j.config.kernel
  | 5 => ! (s.edge.tachs.getD source {}).angle.on
  | _ => false

/-- The source's sample rate breaks a limit of the kernel (R341). -/
def State.rateBroken (s : State) (c : JobConfig) : Bool :=
  let r := s.sourceRate c.kind c.source
  match c.kernel with
  | 4 | 5 => decide (400 * r.1 < r.2 * c.p 2 * c.p 0 * c.p 3)
  | 9 =>
    let t := s.sourceRate c.kind2 c.source2
    let format (n : Nat) : List Nat :=
      let x := s.fin n
      if x.mode = 3 then [3, s.flt.period] else [x.mode, x.factor]
    decide (c.kind ≠ c.kind2 ∨ r.1 * t.2 ≠ t.1 * r.2) || (c.kind = 0 && format c.source != format c.source2)
  | _ => false

/-- The engine on which a job is tried: the one named, or the one the module takes (R335, R348). -/
def State.engineFor (s : State) (c : JobConfig) (named : Nat) : Nat :=
  if named < 128 then named
  else match s.chooseEngine (s.jobCost c) with
    | some e => e
    | none => s.inService.headD 0

/-- DEDUCED (log entry 56). -/
def roundQ (q : Quot2) : Nat := (2 * q.1 + q.2) / (2 * q.2)
def costNs (w : Nat) : Nat := roundQ (w, 24)

/-- The reply of R335. -/
def jobPayload (s : State) (c : JobConfig) (e limit : Nat) : List Byte :=
  let k := s.jobCost c
  let held := mergeTaps ((s.costsOn e).flatMap Cost.taps)
  let fresh := k.taps.filter fun t => ! held.any fun u => u.1 = t.1 && u.2.1 = t.2.1
  let u := utilSum (s.costsOn e ++ [k])
  u8 limit ++ u8 e ++ zeros 2 ++ u32 (costNs k.w) ++ u32 (roundQ (k.t.1, 1000 * k.t.2)) ++ u32 (costNs k.wc)
    ++ u32 (roundQ (100000 * u.1, u.2)) ++ u32 k.memory ++ u32 (fresh.map (·.2.2.1)).sum ++ zeros 4

/-- The checks of R334, in order. -/
def rejectJob (s : State) (q : Request) : Rejection :=
  let c := jobRequest q
  let e := s.engineFor c (q.u8 5)
  let limit := admission (s.costsOn e ++ [s.jobCost c])
  if (s.job (q.u32 0)).isSome ∨ s.sourceUnusable c.kernel c.kind c.source ∨ s.sourceUnusable c.kernel c.kind2 c.source2
      ∨ (q.bit 7 1 ∧ s.boot.st = 5) then some (WRONG_STATE, zeros 32)
  else if s.rateBroken c then some (OUT_OF_RANGE, zeros 32)
  else if q.u8 5 < 128 ∧ (s.engine e).faulty then some (HW_FAULT, zeros 32)
  else if limit ≠ 0 ∨ s.inService.isEmpty then some (RESOURCE_EXHAUSTED, jobPayload s c e limit)
  else none

/-- A job on its engine, with its snapshot (R353). -/
def createJob (n e : Nat) (c : JobConfig) (run : Bool) (s : State) : State :=
  let j : Job := { config := c, engine := e, snapshot := s.jobSnapshot c, cost := s.jobCost c, width := s.jobWidth c }
  { s with eng := { s.eng with jobs := insertKey n (if run then j.begin else j) s.eng.jobs } }

/-- DEDUCED (log entry 56). -/
def engCreateJobCmd : Cmd :=
  { opcode := 0x0A02, classC := true, lengths := fun l => decide (100 ≤ l ∧ l ≤ 864), checks := jobFields
    reject := rejectJob, failLen := 32
    act := fun w q s =>
      let c := jobRequest q
      let e := s.engineFor c (q.u8 5)
      reply w OK (jobPayload s c e 0) (createJob (q.u32 0) e c (q.bit 7 1) s) }
def execEngCreateJob (q : Request) (s : State) : Result := .next (runRequest engCreateJobCmd q s)

/-! ### ENG_START_JOB, ENG_STOP_JOB, ENG_DELETE_JOB (R336) -/

def jobFieldsOf (q : Request) : List Check := [allowed (q.u32 0 < 16384), reserved q 4 4]

/-- The job runs. -/
def State.jobRuns (s : State) (n : Nat) : Bool := match s.job n with
  | some j => j.running
  | none => false

/-- DEDUCED (log entry 56). -/
def engStartJobCmd : Cmd :=
  setCmd 0x0A03 40 (fun _ q => jobFieldsOf q)
    (fun s q => rejectWhen ((s.job (q.u32 0)).isNone ∨ s.jobRuns (q.u32 0)) WRONG_STATE)
    (fun q s => updJob (q.u32 0) Job.begin s) (needsRun := true)
def execEngStartJob (q : Request) (s : State) : Result := .next (runRequest engStartJobCmd q s)

def engStopJobCmd : Cmd :=
  { opcode := 0x0A04, classC := true, lengths := lenIs 40, checks := fun _ q => jobFieldsOf q
    reject := fun s q => rejectWhen (! s.jobRuns (q.u32 0)) WRONG_STATE
    act := fun w q s =>
      let n := q.u32 0
      answerStops (updJob n (fun j => { j with stopping := some w }) (stopJob n 1 s)) }
def execEngStopJob (q : Request) (s : State) : Result := .next (runRequest engStopJobCmd q s)

/-- A job is gone, with what its taps held where no other job reads them; one who waits for its stop gets OK.
DEDUCED (log entry 56). -/
def deleteJob (n : Nat) (s : State) : State :=
  match s.job n with
  | none => s
  | some j =>
    let s := replyOpt j.stopping OK [] (dropTasks n s)
    let s := { s with eng := { s.eng with jobs := eraseKey n s.eng.jobs } }
    let used (t : Tap) : Bool := (s.costsOn t.engine).any fun c => c.taps.any fun u => u.1 = t.kind && u.2.1 = t.source
    { s with eng := { s.eng with taps := s.eng.taps.filter used } }

def engDeleteJobCmd : Cmd :=
  setCmd 0x0A05 40 (fun _ q => jobFieldsOf q)
    (fun s q => rejectWhen ((s.job (q.u32 0)).isNone ∨ s.jobRuns (q.u32 0)) WRONG_STATE)
    (fun q s => deleteJob (q.u32 0) s)
def execEngDeleteJob (q : Request) (s : State) : Result := .next (runRequest engDeleteJobCmd q s)

/-! ### ENG_GET_STATUS, ENG_GET_JOB (R356, R357) -/

/-- The record of an engine; its capacity is measured, so a free value. -/
def engineRecord (s : State) (i e : Nat) : List Byte :=
  let x := s.engine e
  let l := s.costsOn e
  let taps := mergeTaps (l.flatMap Cost.taps)
  let u := utilSum l
  u8 x.faulty.toNat ++ u8 taps.length ++ u16 l.length ++ u32 (roundQ (100000 * u.1, u.2)) ++ u32 (l.map Cost.memory).sum
    ++ u32 (taps.map (·.2.2.1)).sum ++ u32 (Config.free (s.free + i)) ++ u32 x.late ++ u32 x.aborts ++ zeros 4

def engGetStatusCmd : Cmd :=
  readClearCmd 0x0A06 40 (fun _ q => [within 0 1 (q.u8 0), reserved q 1 7])
    (fun s q => (List.range 64).flatMap fun i => engineRecord s i (64 * q.u8 0 + i))
    (fun _ s => { s with free := s.free + 64 })
def execEngGetStatus (q : Request) (s : State) : Result := .next (runRequest engGetStatusCmd q s)

def jobRecord (j : Job) : List Byte :=
  u8 (if j.running then 2 else 1) ++ u8 j.config.kernel ++ u8 j.engine ++ u8 j.stopReason ++ u32 (costNs j.cost.w)
    ++ u32 (roundQ (j.cost.t.1, 1000 * j.cost.t.2)) ++ zeros 4 ++ u64 j.results ++ u32 j.lost ++ u32 j.busy ++ u32 j.skSuspect
    ++ u32 j.skUnsettled ++ u32 j.skOther ++ u32 j.late ++ u32 j.aborts ++ zeros 12

def engGetJobCmd : Cmd := readCmd 0x0A07 40 (fun _ q => jobFieldsOf q) fun s q => match s.job (q.u32 0) with
  | some j => jobRecord j
  | none => zeros 64
def execEngGetJob (q : Request) (s : State) : Result := .next (runRequest engGetJobCmd q s)

/-! ### Releases and chunks (R337, R345) -/

/-- The mover drains the taps of a job's sources. -/
def drainSources (j : Job) (s : State) : State :=
  let s := if isTapKind j.config.kind then drainTap j.engine j.config.kind j.config.source s else s
  if isTapKind j.config.kind2 then drainTap j.engine j.config.kind2 j.config.source2 s else s

/-- BLOCK_RELEASE (R337): the oldest block of a job whose data are all present. -/
def execBlockRelease (at_ job : Nat) (s : State) : Result :=
  let s := advance at_ s
  let s := match s.job job with
    | some j => drainSources j s
    | none => s
  .next (match s.job job with
    | none => s
    | some j => match j.ready with
      | [] => s
      | b :: rest => releaseBlock job b (updJob job (fun j => { j with ready := rest }) s))

/-- CHUNK_ARRIVAL (R345): a chunk's deadline is its arrival plus T_c. -/
def execChunkArrival (at_ job : Nat) (s : State) : Result :=
  let s := advance at_ s
  let s := match s.job job with
    | some j => drainSources j s
    | none => s
  .next (match s.job job with
    | none => s
    | some j =>
      if j.chunks = 0 then s
      else
        addTask j.engine { job := job, chunk := true, arrival := s.time.ps, deadline := s.time.ps + spacingPs j.cost.tc }
          (updJob job (fun j => { j with chunks := j.chunks - 1 }) s))

/-! ### The end of a task (R346, R349, R351) -/

/-- What a result covers after one more release: its place is that of the first, its release that of the last. -/
def mergeBlock (first : Bool) (a b : Block) : Block :=
  let b := { b with values := [], second := [] }
  if first then b
  else
    { a with gap := a.gap || b.gap, suspect := a.suspect || b.suspect, inexact := a.inexact || b.inexact
             inconsistent := a.inconsistent || b.inconsistent, overrange := a.overrange || b.overrange
             degraded := a.degraded || b.degraded, stopped := a.stopped || b.stopped, lost := a.lost + b.lost
             span := a.span + b.span, time := b.time, epoch := b.epoch }

/-- One release of a job that takes the results of another (R338). -/
def releaseLink (b : Block) (n : Nat) (s : State) : State :=
  match s.job n with
  | none => s
  | some j =>
    if tooSoon j s.time.ps then noteBusy n s
    else if b.suspect ∧ j.config.skipSuspect then updJob n (fun j => { j with skSuspect := satInc 32 j.skSuspect }) s
    else if 8 ≤ s.waitingTasks n j then
      updJob n (fun j => { j with dropped := j.dropped + 1, lost := satInc 32 j.lost }) s
    else releaseBlock n b s

/-- The running jobs that take the results of job `n`. -/
def State.consumers (s : State) (n : Nat) : List Nat :=
  (s.eng.jobs.filter fun j => decide (j.2.running ∧ j.2.config.kind = 4 ∧ j.2.config.source = n)).map (·.1)

/-- A changed level of a band: its place and its new level. -/
def changedBands (old new : List Band) : List (Nat × Nat) :=
  ((List.range new.length).zip new).filterMap fun p =>
    if (old.getD p.1 {}).level = p.2.level then none else some (p.1, p.2.level)

/-- The levels of a BAND_ALARM result, with ENGINE_ALARM at most once per job per second (R342). -/
def noteBands (n : Nat) (j : Job) (s : State) : State :=
  if j.config.kernel ≠ 6 then s
  else
    let new := (bandPayload j).2
    let b := max 1 (j.config.p 0)
    forAll (changedBands j.bands new) (fun c s =>
      recordLimited 0x0A01 n psPerS [r4 n, r1 (c.1 / b), r4 (c.1 % b), r1 c.2] s)
      (updJob n (fun j => { j with bands := new }) s)

/-- The pigeonhole took the entries that a writer offered when its next number was `q`, or keeps them waiting. -/
def State.tookEntry (s : State) (ph q e : Nat) : Bool :=
  (match s.ph ph with
    | some p => p.entries.any fun x => x.seq = q
    | none => false) || s.waitsOn ph (.engine e)

/-- A result is complete: it is written, reported and passed on (R338, R342, R349, R351, R352). -/
def completeResult (n : Nat) (j : Job) (b : Block) (release : Nat) (late : Bool) (s : State) : State :=
  let b := { b with gap := b.gap || j.chunkLost || decide (0 < j.dropped), lost := b.lost + j.dropped }
  let next := match s.ph j.config.ph with
    | some p => p.nextSeq
    | none => 0
  let s := writeResult n j b (resultFlags b late false) (resultPayload j) s
  let took := s.tookEntry j.config.ph next j.engine
  let s := updJob n (fun x => { x with
    results := x.results + took.toNat, sequence := x.sequence + 1, lost := satInc 32 x.lost (b.lost - j.dropped)
    late := satInc 32 x.late late.toNat, count := 0, result := {}, inputs := [], dropped := 0, chunkLost := false }) s
  let s := if late then recordLimited 0x0A02 j.engine psPerS [] (updEngine j.engine (fun x => { x with late := satInc 32 x.late }) s) else s
  let s := capture 0x2B ((s.time.ps - release) / 1000000 : Nat) (noteBands n j s)
  let words := (kernelWords j (resultWords j)).map fun (w : Nat) => (w : Int)
  forAll (s.consumers n) (releaseLink { b with values := [words], span := 1, lost := 0 }) s

/-- The block of a release has been computed. -/
def completeRelease (t : Task) (s : State) : State :=
  match s.job t.job with
  | none => s
  | some j =>
    let b := mergeBlock (j.count = 0) j.result t.block
    let inputs := j.inputs ++ t.block.values.flatten ++ t.block.second.flatten
    if j.count + 1 < j.config.releases then
      updJob t.job (fun j => { j with count := j.count + 1, result := b, inputs := inputs }) s
    else completeResult t.job { j with inputs := inputs } b t.arrival (t.deadline < s.time.ps) s

/-- TASK_COMPLETE (R346): the engine's task has run; it takes its next one unless a result waits for space. -/
def execTaskComplete (at_ engine : Nat) (s : State) : Result :=
  let s := advance at_ s
  .next (match (s.engine engine).current with
    | none => s
    | some t =>
      let s := updEngine engine (fun x => { x with current := none }) s
      startNext engine (answerStops (if t.chunk then s else completeRelease t s)))

/-! ### Aborts and faults (R350, R354) -/

/-- The task of an engine ends without a result: an abort entry where `entry` asks for one, the gap flag of the next
result for a chunk (R350, R532). DEDUCED (log entry 56). -/
def abortTask (e : Nat) (chunkEntry : Bool) (s : State) : State :=
  match (s.engine e).current with
  | none => s
  | some t =>
    let s := updEngine e (fun x => { x with current := none, aborts := satInc 32 x.aborts }) s
    match s.job t.job with
    | none => s
    | some j =>
      let s := updJob t.job (fun j => { j with aborts := satInc 32 j.aborts, chunkLost := j.chunkLost || t.chunk }) s
      if t.chunk ∧ ¬ chunkEntry then s
      else
        updJob t.job (fun j => { j with sequence := j.sequence + 1 })
          (writeResult t.job j t.block (resultFlags t.block false true) [] s)

/-- ENGINE_ABORT (R350): a task has reached four times its cost; `elapsed` in ns. -/
def execEngineAbort (at_ engine elapsed : Nat) (s : State) : Result :=
  let s := advance at_ s
  .next (match (s.engine engine).current with
    | none => s
    | some t => startNext engine (answerStops (record 0x0A03 [r4 t.job, r4 elapsed] (abortTask engine false s))))

/-- A job of a faulty engine moves to the lowest-numbered engine in service that admits it, or stops (R354). -/
def moveJob (n : Nat) (s : State) : State :=
  match s.job n with
  | none => s
  | some j => match s.chooseEngine j.cost with
    | some e => updJob n (fun j => let j := { j with engine := e }; if j.running then j.begin else j) s
    | none => stopJob n 3 s

/-- ENGINE_FAULT (R354). -/
def execEngineFault (at_ engine : Nat) (s : State) : Result :=
  let s := advance at_ s
  .next (
    if (s.engine engine).faulty ∨ 128 ≤ engine then s
    else
      let s := abortTask engine true s
      let s := updEngine engine (fun x => { x with faulty := true, tasks := [] }) s
      let s := assertAlert (.engine engine) (record 0x0A05 [] s)
      let l := (s.eng.jobs.filter fun j => j.2.engine = engine).map (·.1)
      answerStops (forAll l moveJob s))

end Sys2Proof.Machine
end

