-- ==== Sys2Proof/Machine/EvtOps.lean ====
section
/-! DEFINITION. The event store: where a record goes, the pages, the flush, and numbering over a restart (R494, R495,
R501 to R505). -/

namespace Sys2Proof.Machine

/-- Records that go to the journal (R499). -/
def isJournal (type : Nat) : Bool := [0x0D0A, 0x0D0B, 0x0E03, 0x0E04, 0x0E05, 0x0E06, 0x0E07, 0x0E08, 0x0E09, 0x0E0A].contains type

def firstEnd : Nat := 3839
def journalEnd : Nat := 4095
def ringStart : Nat := 4096
def ringEnd : Nat := 65535

/-- The next page of a part that is not retired, at most `fuel` pages on; the ring goes round. -/
def nextPage (retired : List Nat) (wrap : Bool) (last : Nat) : Nat → Nat → Option Nat
  | 0, _ => none
  | fuel + 1, page =>
    let p := if wrap ∧ page = last then ringStart else page + 1
    if last < p then none else if retired.contains p then nextPage retired wrap last fuel p else some p

/-- Where a record of `size` bytes goes in a part: its page and offset. -/
def StoreArea.place (retired : List Nat) (wrap : Bool) (last size : Nat) (a : StoreArea) : Option (Nat × Nat) :=
  if a.full then none
  else if a.off + size ≤ 4096 ∧ ¬ retired.contains a.page then some (a.page, a.off)
  else (nextPage retired wrap last (retired.length + 1) a.page).map fun p => (p, 0)

/-- Put a record at its place; a ring page that starts again loses what it held (R494). DEDUCED (log entry 43). -/
def StoreArea.put (r : Record) (page off : Nat) (a : StoreArea) : StoreArea :=
  { a with page := page, off := off + r.size
           records := (if off = 0 then a.records.filter fun x => x.1 ≠ page else a.records) ++ [(page, r)] }

/-- DEDUCED (log entry 43). -/
def placeRing (r : Record) (e : EventState) : EventState :=
  match e.ring.place e.retired true ringEnd r.size with
  | some (p, o) => { e with ring := e.ring.put r p o }
  | none => e

/-- DEDUCED (log entry 43). -/
def placeJournal (r : Record) (e : EventState) : Option EventState :=
  (e.journal.place e.retired false journalEnd r.size).map fun x => { e with journal := e.journal.put r x.1 x.2 }

/-- A record goes to the journal or, in sequence, to the first records; once its part is full, to the ring (R494, R499).
DEDUCED (log entry 43). -/
def storeRecord (r : Record) (e : EventState) : EventState :=
  if isJournal r.type then
    match placeJournal r e with
    | some e => e
    | none => placeRing r { e with journal := { e.journal with full := true } }
  else match e.first.place e.retired false firstEnd r.size with
    | some (p, o) => { e with first := e.first.put r p o }
    | none => placeRing r { e with first := { e.first with full := true } }

/-- A record that the rails cut short ends its page: a page that it began has lost what it held (R70, R504). -/
def StoreArea.tear (page off : Nat) (a : StoreArea) : StoreArea :=
  { a with page := page, off := off + 1, records := if off = 0 then a.records.filter fun x => x.1 ≠ page else a.records }

/-- The rails fall while the store writes the oldest record of the FIFO: that record is torn (R70).
DEDUCED (log entry 36). -/
def EventState.tear (e : EventState) : EventState :=
  match e.fifo with
  | [] => e
  | r :: _ =>
    let ring : EventState := match e.ring.place e.retired true ringEnd r.size with
      | some (p, o) => { e with ring := e.ring.tear p o }
      | none => e
    if isJournal r.type then
      match e.journal.place e.retired false journalEnd r.size with
      | some (p, o) => { e with journal := e.journal.tear p o }
      | none => ring
    else match e.first.place e.retired false firstEnd r.size with
      | some (p, o) => { e with first := e.first.tear p o }
      | none => ring

/-- The page on which a record is tried. -/
def tryPage (r : Record) (e : EventState) : Nat :=
  let ring := ((e.ring.place e.retired true ringEnd r.size).getD (e.ring.page, 0)).1
  if isJournal r.type then ((e.journal.place e.retired false journalEnd r.size).getD (ring, 0)).1
  else ((e.first.place e.retired false firstEnd r.size).getD (ring, 0)).1

/-- The bucket of R501 at a system time: a byte every 250 ns. -/
def EventState.refill (ps : Nat) (e : EventState) : EventState :=
  { e with bucket := min 64000000 (e.bucket + (ps - e.bucketAt) / 250000), bucketAt := ps - (ps - e.bucketAt) % 250000 }

/-- The store takes the oldest record of the FIFO (R501). -/
def takeOldest (ps : Nat) (e : EventState) : EventState :=
  match e.fifo with
  | [] => e
  | r :: rest =>
    let e := e.refill ps
    EventState.watch ps (storeRecord r { e with fifo := rest, bucket := e.bucket - r.size, attempts := 0 })

/-- The FIFO goes into the store, whatever the budget (R69, R501); the number of records written.
DEDUCED (log entry 36). -/
def flushFifo (s : State) : State :=
  { s with evt := EventState.watch s.time.ps { s.evt.fifo.foldl (fun e r => storeRecord r e) s.evt with
      fifo := [], attempts := 0 } }

/-- Records held, in sequence order, each once. -/
def insertRecord (r : Record) : List Record → List Record
  | [] => [r]
  | x :: l => if r.seq < x.seq then r :: x :: l else if r.seq = x.seq then x :: l else x :: insertRecord r l

def EventState.held (e : EventState) : List Record :=
  ((e.first.records ++ e.journal.records ++ e.ring.records).map (·.2)).foldl (fun l r => insertRecord r l) []

def EventState.heldFrom (seq : Nat) (e : EventState) : List Record :=
  (((e.first.records ++ e.journal.records ++ e.ring.records).map (·.2)).filter fun r => seq ≤ r.seq).foldl
    (fun l r => insertRecord r l) []

/-- The record that was stored last. -/
def EventState.newest (e : EventState) : Option Record :=
  let later (a b : Option Record) : Option Record := match a, b with
    | some x, some y => if x.seq < y.seq then some y else some x
    | some x, none => some x
    | none, y => y
  later (later (e.first.records.getLast?.map (·.2)) (e.journal.records.getLast?.map (·.2)))
    (e.ring.records.getLast?.map (·.2))

/-- After a reset the writer resumes at the page after the last one begun (R504). -/
def StoreArea.resume (retired : List Nat) (wrap : Bool) (last : Nat) (a : StoreArea) : StoreArea :=
  if a.off = 0 then a
  else match nextPage retired wrap last (retired.length + 1) a.page with
    | some p => { a with page := p, off := 0 }
    | none => { a with full := true }

/-- The recorder after a restart of the control processor: what was staged is lost, numbering resumes at the ceiling, and
the copier is off (R505, R508, R541). -/
def EventState.restart (e : EventState) : EventState :=
  let started := decide (e.boots ≠ 0)
  { e with
    nextSeq := if started then e.ceiling else e.nextSeq
    ceiling := if started then raiseCeiling e.ceiling e.ceiling else e.ceiling
    boots := e.boots + 1, fifo := [], opening := [], carrying := false, attempts := 0, loss := none, lowSince := none, copyTo := none
    copyNext := 0, copyWaits := false, clears := [], limits := []
    first := e.first.resume e.retired false firstEnd, journal := e.journal.resume e.retired false journalEnd
    ring := e.ring.resume e.retired true ringEnd }

/-- The body of RECORDS_LOST (R502). -/
def lossFields (count first last firstTick lastTick : Nat) (firstTime lastTime : Nat) : List RecField :=
  [r4 count, r8 first, r8 last, r8 firstTick, r8 firstTime, r8 lastTick, r8 lastTime]

/-- The range of unknown loss that a start finds, unless the last record stored is a POWER_DOWN (R505): none at the
module's first start, which finds no record. -/
def openGap (s : State) : State :=
  match s.evt.newest with
  | none => s
  | some r =>
    let none_ := 0xFFFFFFFFFFFFFFFF
    if r.type = 0x000A then s
    else
      openRecord 0x0E01
        (bodyOf (lossFields 0xFFFFFFFF (r.seq + 1) (s.evt.nextSeq - 1) none_ none_ none_ none_)) s

/-- The firmware runs: what the start has to record is numbered and staged. -/
def stageOpening (s : State) : State :=
  let l := s.evt.opening
  carrying (fun s => l.foldl (fun s r => stageRecord r s) s) { s with evt := { s.evt with opening := [] } }

end Sys2Proof.Machine
end

