-- ==== Sys2Proof/Machine/Hamper.lean ====
section
/-! DEFINITION. The commands of group 0x08 and the hamper's events (R279 to R300). -/

namespace Sys2Proof.Machine

/-! ### Pages (R279, R281) -/

def pageCount : Nat := 1536

/-- The group's part of a direct accumulator's size: inputs and positions. -/
def accPages (c : AccConfig) (g : SegConfig) : Nat :=
  let m := (inputsIn g.mask).length
  let k (i n : Nat) : Nat := if c.kinds.testBit i then n else 0
  let size :=
    if c.kind = 0 then
      2 * 24 * g.strands * m + k 0 (6 * g.span * m) + k 1 (4 * g.span * m) + k 2 (4194304 * m)
    else 2 * 4 * c.headSpan + k 0 (6 * c.headSpan) + k 1 (8 * c.headSpan) + k 2 4194304
  (size + 65535) / 65536

def State.pagesFree (s : State) : Nat := pageCount - (s.ham.accs.map Accumulator.pages).sum

/-- An accumulator is busy: a clearing or a spill of it runs (R285, R296). -/
def State.accBusy (s : State) (a : Nat) : Bool :=
  (s.acc a).clearing.isSome || (match s.ham.spill with | some p => p.acc = a | none => false)

/-! ### HAM_CONFIGURE (R282 to R284) -/

def accRequest (q : Request) : AccConfig :=
  { kind := q.u8 1, group := q.u8 2, kinds := q.u8 3, options := q.u8 4, chain := q.u8 5, count := q.u32 8
    port := q.u8 12, position := q.u8 13, channel := q.u8 14, headSpan := q.u32 16, headPre := q.u32 20 }

def hamFields (q : Request) : List Check :=
  let k := q.u8 1
  let head (c : Check) (off n : Nat) : Check := if k = 1 then c else reserved q off n
  [within 0 63 (q.u8 0), within 0 1 k, within 0 3 (q.u8 2), firstFailure [reservedBits q 3 3, allowed (q.u8 3 ≠ 0)],
    reservedBits q 4 (if k = 1 then 1 else 2), allowed (q.u8 5 = 0xFF ∨ (q.u8 5 ≤ 63 ∧ q.u8 5 ≠ q.u8 0)), reserved q 6 2,
    within 0 16777216 (q.u32 8), head (within 0 15 (q.u8 12)) 12 1, head none 13 1, head (within 0 3 (q.u8 14)) 14 1,
    reserved q 15 1, head (counted 1048576 (q.u32 16)) 16 4, head (allowed (q.u32 20 < q.u32 16)) 20 4, reserved q 24 8]

/-- The head of an accumulator is enrolled and has the channel (R283). -/
def State.headReady (s : State) (c : AccConfig) : Bool :=
  let h := s.head c.port c.position
  (match h.st with | .absent | .discovered => false | _ => true) && decide (c.channel < h.desc.channels)

/-- Format of an accumulator's values: 0 codes, 1 containers, 2 head samples, 3 peak positions. -/
def State.accFormat (s : State) (c : AccConfig) : Nat :=
  if c.kind = 1 then 2
  else match (s.fin (s.groupLow c.group)).mode with
    | 0 => 0
    | 1 => 3
    | _ => 1

/-- The checks of R283. A page count above what two bytes hold reads as a free value: the spec states none. -/
def hamReject (s : State) (q : Request) : Rejection :=
  let a := q.u8 0
  let c := accRequest q
  let g := (s.sg c.group).config
  let free := s.pagesFree + (s.acc a).pages
  let bad (b : Bool) (st : Nat) : Rejection := if b then some (st, zeros 8) else none
  firstRejection [
    bad (s.accBusy a) BUSY,
    bad (s.acc a).active WRONG_STATE,
    bad (c.kind = 0 && g.unset) WRONG_STATE,
    bad (c.kind = 0 && c.kinds.testBit 0 && (inputsIn g.mask).any fun n => (s.fin n).mode = 1) WRONG_STATE,
    bad (c.kind = 1 && ! s.headReady c) WRONG_STATE,
    if free < accPages c g then
      some (RESOURCE_EXHAUSTED, u16 (if accPages c g < 65536 then accPages c g else Config.free s.free) ++ u16 free ++ zeros 4)
    else none]

def hamConfigureCmd : Cmd :=
  { opcode := 0x0801, classC := true, lengths := lenIs 64, failLen := 8
    checks := fun _ q => hamFields q, reject := hamReject
    act := fun w q s =>
      let c := accRequest q
      let g := (s.sg c.group).config
      let pages := accPages c g
      let s := updAcc (q.u8 0) (fun _ =>
        { st := .idle, config := c, snapshot := s.accSnapshot c, mask := if c.kind = 0 then g.mask else 0
          span := if c.kind = 0 then g.span else c.headSpan, format := s.accFormat c, pages := pages }) s
      reply w OK (u16 pages ++ u16 s.pagesFree ++ zeros 4) s }
def execHamConfigure (q : Request) (s : State) : Result := .next (runRequest hamConfigureCmd q s)

/-! ### HAM_RELEASE, HAM_START and HAM_STOP (R284 to R286) -/

def hamReleaseCmd : Cmd :=
  setCmd 0x0802 40 (fun _ q => [within 0 63 (q.u8 0), reserved q 1 7])
    (fun s q => firstRejection [rejectWhen (s.accBusy (q.u8 0)) BUSY,
      rejectWhen ((s.acc (q.u8 0)).st ≠ .idle) WRONG_STATE])
    (fun q s => updAcc (q.u8 0) (fun _ => {}) s)
def execHamRelease (q : Request) (s : State) : Result := .next (runRequest hamReleaseCmd q s)

/-- The group of a direct accumulator has another Running, or one that a clearing makes so (R280, R285). -/
def State.groupTaken (s : State) (a : Nat) : Bool :=
  (s.acc a).config.kind = 0 && (List.range 64).any fun b =>
    b ≠ a && decide ((s.acc b).config.kind = 0 ∧ (s.acc b).config.group = (s.acc a).config.group) &&
      (decide ((s.acc b).st = .running) || match (s.acc b).clearing with | some (standby, _) => ! standby | none => false)

def hamStartCmd : Cmd :=
  { opcode := 0x0803, classC := true, lengths := lenIs 40
    checks := fun _ q => [within 0 63 (q.u8 0), reservedBits q 1 1, reserved q 2 6]
    reject := fun s q => firstRejection [rejectWhen (s.accBusy (q.u8 0)) BUSY,
      rejectWhen ((s.acc (q.u8 0)).st ≠ .idle) WRONG_STATE,
      rejectWhen (¬ q.bit 1 0 ∧ s.groupTaken (q.u8 0)) WRONG_STATE]
    act := fun w q s => updAcc (q.u8 0) (fun x => { x with
      segments := 0, sums := [], envelope := [], bins := [], firstSeq := 0, lastSeq := 0, skipped := [0, 0, 0, 0, 0]
      saturated := 0, sumSaturated := false, binSaturated := false, overrange := false, suspectIn := false, unsettledIn := false, byCount := false
      noSuccessor := false, clearing := some (q.bit 1 0, w) }) s
    needsRun := true }
def execHamStart (q : Request) (s : State) : Result := .next (runRequest hamStartCmd q s)

/-- HAMPER_CLEARING_END (R285). -/
def execHamperClearingEnd (at_ acc : Nat) (s : State) : Result :=
  let s := advance at_ s
  .next (match (s.acc acc).clearing with
    | none => s
    | some (standby, w) =>
      reply w OK [] (updAcc acc (fun x => { x with
        clearing := none, st := if standby then .ready else .running
        from_ := 128 * s.nextBoundary * 65536 }) s))

/-- The successor of a hand-over is Ready and of equal configuration (R286). -/
def State.successorOk (s : State) (a t : Nat) : Bool :=
  decide (a ≠ t ∧ (s.acc t).st = .ready) && sameConfig (s.acc a).config (s.acc t).config

def hamStopCmd : Cmd :=
  { opcode := 0x0804, classC := true, lengths := lenIs 40
    checks := fun _ q => [within 0 63 (q.u8 0), reservedBits q 1 1,
      if q.bit 1 0 then within 0 63 (q.u8 2) else reserved q 2 1, reserved q 3 5]
    reject := fun s q => firstRejection [
      rejectWhen ((s.acc (q.u8 0)).st ≠ .running ∨ (s.acc (q.u8 0)).stopping.isSome) WRONG_STATE,
      rejectWhen (q.bit 1 0 ∧ ¬ s.successorOk (q.u8 0) (q.u8 2)) WRONG_STATE]
    act := fun w q s =>
      let stop := 128 * s.nextBoundary
      let s := updAcc (q.u8 0) (fun x => { x with
        stopping := some (stop, if q.bit 1 0 then some (q.u8 2) else none, w) }) s
      let s := if q.bit 1 0 then updAcc (q.u8 2) (fun x => { x with st := .running, from_ := stop * 65536 }) s else s
      reviewStops s }
def execHamStop (q : Request) (s : State) : Result := .next (runRequest hamStopCmd q s)

/-- SEGMENT_COMBINED (R290, R292): the oldest segment that the accumulator holds. -/
def execSegmentCombined (at_ acc : Nat) (s : State) : Result :=
  let s := advance at_ s
  .next (match (s.acc acc).waiting with
    | [] => reviewStops s
    | f :: rest =>
      if (s.acc acc).st = .running then
        reviewStops (takeSegment acc f (updAcc acc (fun x => { x with waiting := rest }) s))
      else s)

/-! ### HAM_SPILL (R295 to R298) -/

/-- Cells and ranks of an accumulator. -/
def Accumulator.ranks (x : Accumulator) : Nat := if x.config.kind = 0 then (inputsIn x.mask).length else 1
def Accumulator.cells (x : Accumulator) : Nat := x.span * x.ranks

/-- Sizes of the four sections, padded to 64 bytes; 0 for one not asked for. -/
def sectionSizes (x : Accumulator) (sections : Nat) : List Nat :=
  let sz (i n : Nat) : Nat := if sections.testBit i then roundUp 64 n else 0
  [sz 0 (8 * x.cells), sz 1 (4 * x.cells), sz 2 ((if x.config.kind = 0 then 4 else 8) * x.cells), sz 3 (4194304 * x.ranks)]

def spillSize (x : Accumulator) (sections : Nat) : Nat := 64 + (sectionSizes x sections).sum

/-- The accumulator holds the kinds that sections name. -/
def Accumulator.holds (x : Accumulator) (sections : Nat) : Bool :=
  (! (sections.testBit 0 || sections.testBit 1) || x.config.kinds.testBit 0)
    && (! sections.testBit 2 || x.config.kinds.testBit 1) && (! sections.testBit 3 || x.config.kinds.testBit 2)

/-- The fields of HAM_SPILL before Size. -/
def spillHead (s : State) (q : Request) : List Check :=
  [within 0 63 (q.u8 0), firstFailure [reservedBits q 1 4, allowed (q.u8 1 ≠ 0)], reserved q 2 6,
    firstFailure [failWhen (2 ^ 40 ≤ q.u64 8) RESERVED_NONZERO, allowed (q.u64 8 % 64 = 0 ∧ q.u64 8 < s.userSize)]]

/-- The comparison of Size with the size needed is made. -/
def State.compares (s : State) (q : Request) : Bool :=
  let x := s.acc (q.u8 0)
  decide (x.st ≠ .free) && x.holds (q.u8 1)

/-- Where Size is rejected without a comparison (R295), no size needed is stated: a free value. -/
def hamSpillCmd : Cmd :=
  { opcode := 0x0805, classC := true, lengths := lenIs 56, failLen := 8, needsRun := true
    failBytes := fun s q =>
      if (firstFailure (spillHead s q)).isNone ∧ q.u64 16 ≠ 0 then
        u64 (if s.compares q then spillSize (s.acc (q.u8 0)) (q.u8 1) else Config.free s.free) else zeros 8
    checks := fun s q => spillHead s q ++
      [notZero (q.u64 16), allowed (s.inUser (q.u64 8) (q.u64 16)
        ∧ (s.compares q → spillSize (s.acc (q.u8 0)) (q.u8 1) ≤ q.u64 16))]
    reject := fun s q =>
      let x := s.acc (q.u8 0)
      firstRejection [
        if x.st ≠ .idle then some (WRONG_STATE, zeros 8) else none,
        if ¬ x.holds (q.u8 1) then some (WRONG_STATE, zeros 8) else none,
        if x.clearing.isSome ∨ s.ham.spill.isSome then some (BUSY, zeros 8) else none]
    act := fun w q s =>
      { s with ham := { s.ham with spill := some { acc := q.u8 0, sections := q.u8 1, dest := q.u64 8, size := q.u64 16
                                                   waiter := w } } } }
def execHamSpill (q : Request) (s : State) : Result := .next (runRequest hamSpillCmd q s)

/-- An average cell (R298). -/
def averageCell (kind n : Nat) (sum : Int) : List Byte :=
  if n = 0 ∨ sumAtLimit sum then u32 0x80000000
  else
    let v := roundDiv (sum * if kind = 0 then 65536 else 256) n
    if v = -0x80000000 then u32 0x80000001 else i32 v

def envelopeCell (kind : Nat) (e : Int × Int) : List Byte :=
  if kind = 0 then i16 e.1 ++ i16 e.2 else i32 e.1 ++ i32 e.2

/-- Pad a section to 64 bytes. -/
def padded (bs : List Byte) : List Byte := toLen (roundUp 64 bs.length) bs

/-- The sections but persistence, in order. -/
def spillCells (x : Accumulator) (sections : Nat) : List Byte :=
  let y := x.spread
  let part (i : Nat) (bs : List Byte) : List Byte := if sections.testBit i then padded bs else []
  part 0 (y.sums.flatMap i64) ++ part 1 (y.sums.flatMap (averageCell x.config.kind x.segments))
    ++ part 2 (y.envelope.flatMap (envelopeCell x.config.kind))

/-- DEDUCED (log entry 64). -/
def spillHeader (p : Spill) (x : Accumulator) : List Byte :=
  let sz := sectionSizes x p.sections
  let off (i : Nat) : Nat := if p.sections.testBit i then 64 + (sz.take i).sum else 0
  let head := decide (x.config.kind = 1)
  let ran := decide (0 < x.segments)
  let b := u32 0x48504D53 ++ u8 p.acc ++ u8 x.config.kind ++ u8 x.config.group ++ u8 p.sections ++ u64 x.segments
    ++ u32 x.span ++ u8 (if head then x.config.port else x.mask) ++ u8 (if head then x.config.position else 0)
    ++ u8 (if head then x.config.channel else 0)
    ++ u8 (ofBits [x.sumSaturated, x.binSaturated, x.overrange, x.suspectIn, x.unsettledIn])
    ++ u64 (if ran then x.firstSeq else 0) ++ u64 (if ran then x.lastSeq else 0) ++ u32 (off 1) ++ u32 (off 2) ++ u32 (off 3)
    ++ u32 (spillSize x p.sections) ++ zeros 4
  b ++ u32 (crc32c b)

/-- The spill reaches memory: sections, then the header. -/
def writeSpill (p : Spill) (x : Accumulator) (s : State) : State :=
  let size := spillSize x p.sections
  let s := memWrite (p.dest + 64) (spillCells x p.sections) (memZero p.dest size s)
  let s := if p.sections.testBit 3 then
      forAll x.bins (fun b s => memWrite (p.dest + size - 4194304 * x.ranks + 4 * b.1) (u32 b.2) s) s
    else s
  memWrite p.dest (spillHeader p x) s

/-- SPILL_DONE (R295). -/
def execSpillDone (at_ : Nat) (s : State) : Result :=
  let s := advance at_ s
  .next (match s.ham.spill with
    | none => s
    | some p =>
      if ¬ s.memServes then s
      else
        let x := s.acc p.acc
        reply p.waiter OK (u64 (spillSize x p.sections))
          (writeSpill p x { s with ham := { s.ham with spill := none } }))

/-! ### HAM_GET_STATUS (R300) -/

def AccState.code : AccState → Nat
  | .free => 0
  | .idle => 1
  | .ready => 2
  | .running => 3

def accRecord (x : Accumulator) : List Byte :=
  let k (i : Nat) : List Byte := u32 (x.skipped.getD i 0)
  u8 x.st.code ++ u8 x.config.kind ++ u8 x.config.group ++ u8 x.config.kinds ++ u32 x.pages ++ u64 x.segments
    ++ u32 x.config.count ++ k 0 ++ k 1 ++ k 2 ++ k 3 ++ k 4 ++ u32 x.saturated
    ++ u8 (ofBits [x.sumSaturated || x.binSaturated, x.overrange, x.byCount, x.noSuccessor, x.clearing.isSome,
      x.stopping.isSome])
    ++ u8 x.lastReason ++ zeros 2

def hamPayload (s : State) (_ : Request) : List Byte :=
  let (run, acc) := match s.ham.spill with
    | some p => (1, p.acc)
    | none => (0, 0xFF)
  u16 pageCount ++ u16 s.pagesFree ++ u8 run ++ u8 acc ++ zeros 10 ++ s.ham.accs.flatMap accRecord

def hamGetStatusCmd : Cmd := readCmd 0x0806 32 (fun _ _ => []) hamPayload
def execHamGetStatus (q : Request) (s : State) : Result := .next (runRequest hamGetStatusCmd q s)

end Sys2Proof.Machine
end

