-- ==== Sys2Proof/Machine/Pigeonholes.lean ====
section
/-! DEFINITION. Pigeonholes: their commands, the commit of entries, the drain deadline, stamp batches (R358 to R368, R385). -/

namespace Sys2Proof.Machine

/-! ### Fields that several commands share -/

def phField (q : Request) (off : Nat) : Check := allowed (q.u32 off < 2 ^ 20)

/-- The drain deadline: reserved unless the policy is block (R359, R364). -/
def deadlineField (q : Request) (policy off : Nat) : Check :=
  if policy = 0 then firstFailure [notZero (q.u32 off), within 100 60000000 (q.u32 off)] else reserved q off 4

/-- Bytes of the largest entry that a stream carries (R380). -/
def Stream.entryLimit (x : Stream) : Nat := (x.mtu - 76) / 64 * 64

/-- The drain target, for entries of a size; a ring or a stream that is not configured yet sets no limit (R359).
DEDUCED (log entry 57). -/
def targetField (s : State) (q : Request) (kind entrySize off : Nat) : Check :=
  let t := q.u32 off
  match kind with
  | 0 => reserved q off 4
  | 1 => allowed (decide (t < 4096) && (lookupKey t s.xfer.rings).all fun r => decide (entrySize ≤ r.slotSize))
  | _ => allowed (decide (t < 256) && (lookupKey t s.xfer.streams).all fun x => decide (entrySize ≤ x.entryLimit))

/-! ### PH_CONFIGURE (R359) -/

/-- The area overlaps the storage of a Configured pigeonhole. -/
def State.storageClash (s : State) (base size : Nat) : Bool := s.xfer.phs.any fun p => overlaps base size p.2.base p.2.size

def phConfigureFields (s : State) (q : Request) : List Check :=
  let entry := q.u32 8
  let depth := q.u32 12
  let base := q.u64 16
  let size := q.u64 24
  [phField q 0, within 0 2 (q.u8 4), within 0 2 (q.u8 5), reserved q 6 2,
    firstFailure [notZero entry, allowed (64 ≤ entry ∧ entry ≤ 65536 ∧ entry % 64 = 0)],
    firstFailure [notZero depth, within 2 65536 depth],
    firstFailure [failWhen (2 ^ 40 ≤ base) RESERVED_NONZERO, allowed (base % 4096 = 0 ∧ s.inUser base 1)],
    firstFailure [notZero size, allowed (entry * depth ≤ size ∧ s.inUser base size ∧ ¬ s.storageClash base size)],
    deadlineField q (q.u8 4) 32, targetField s q (q.u8 5) entry 36, reserved q 40 24]

def phConfigureCmd : Cmd :=
  setCmd 0x0B01 96 phConfigureFields
    (fun s q => rejectWhen (s.ph (q.u32 0)).isSome WRONG_STATE)
    (fun q s =>
      let p : Pigeonhole :=
        { policy := q.u8 4, kind := q.u8 5, entrySize := q.u32 8, depth := q.u32 12, base := q.u64 16, size := q.u64 24
          deadline := q.u32 32, target := q.u32 36 }
      { s with xfer := { s.xfer with phs := insertKey (q.u32 0) p s.xfer.phs } })
def execPhConfigure (q : Request) (s : State) : Result := .next (runRequest phConfigureCmd q s)

/-! ### PH_SET_POLICY, PH_SET_DRAIN, PH_FLUSH (R364, R365) -/

def freeRejected (s : State) (q : Request) : Rejection := rejectWhen (s.ph (q.u32 0)).isNone WRONG_STATE

def phSetPolicyCmd : Cmd :=
  setCmd 0x0B02 44
    (fun s q => [phField q 0, firstFailure [within 0 2 (q.u8 4), allowed (q.u8 4 ≠ 0 ∨ s.laneBindings (q.u32 0) = 0)],
      reserved q 5 3, deadlineField q (q.u8 4) 8])
    freeRejected
    (fun q s => reviewWaiting (q.u32 0)
      (updPh (q.u32 0) (fun p => { p with policy := q.u8 4, deadline := q.u32 8, switched := false }) s))
def execPhSetPolicy (q : Request) (s : State) : Result := .next (runRequest phSetPolicyCmd q s)

def phSetDrainCmd : Cmd :=
  setCmd 0x0B03 44
    (fun s q => [phField q 0, within 0 2 (q.u8 4), reserved q 5 3,
      targetField s q (q.u8 4) (match s.ph (q.u32 0) with | some p => p.entrySize | none => 0) 8])
    freeRejected
    (fun q s => updPh (q.u32 0) (fun p => { p with kind := q.u8 4, target := q.u32 8 }) s)
def execPhSetDrain (q : Request) (s : State) : Result := .next (runRequest phSetDrainCmd q s)

def phFlushCmd : Cmd :=
  setCmd 0x0B04 40 (fun _ q => [phField q 0, reserved q 4 4]) freeRejected
    (fun q s => reviewWaiting (q.u32 0)
      (updPh (q.u32 0) (fun p => { p with entries := [], flushed := satInc 32 p.flushed p.entries.length }) s))
def execPhFlush (q : Request) (s : State) : Result := .next (runRequest phFlushCmd q s)

/-! ### PH_RELEASE (R366) -/

/-- DEDUCED (log entry 57). -/
def unbound (s : State) : State := record 0x0B04 [] s

/-- The route of a head to the pigeonhole goes. -/
def unrouteHead (n : Nat) (h : Head) : Head := if h.routePh = some n then { h with routePh := none } else h

/-- Head routes and edge bindings to a pigeonhole go, with a record for each. -/
def unbindLanes (n : Nat) (s : State) : State :=
  let routes := (s.dmx.ports.map fun p => (p.heads.filter fun h => h.routePh = some n).length).sum
  let edges := (s.xfer.edges.filter fun b => b.2.2.ph = n).length
  let s := { s with
    dmx := { s.dmx with ports := s.dmx.ports.map fun p => { p with heads := p.heads.map (unrouteHead n) } }
    xfer := { s.xfer with edges := s.xfer.edges.filter fun b => b.2.2.ph ≠ n } }
  forEach (routes + edges) (fun _ s => unbound s) s

/-- The copies of event records stop (R508). -/
def unbindCopy (n : Nat) (s : State) : State :=
  if s.evt.copyTo = some n then unbound { s with evt := { s.evt with copyTo := none, copyWaits := false } } else s

/-- A pigeonhole becomes Free: what waits on it goes on without it. DEDUCED (log entry 57). -/
def releasePh (n : Nat) (s : State) : State :=
  match s.ph n with
  | none => s
  | some p =>
    let s := forAll ((s.eng.jobs.filter fun j => j.2.config.ph = n).map (·.1)) (fun j s => stopJob j 5 s) s
    let s := unbindCopy n (unbindLanes n s)
    let s := { s with xfer := { s.xfer with phs := eraseKey n s.xfer.phs } }
    forAll p.waiting (fun o s => resumeWriter o.writer s) s

def phReleaseCmd : Cmd :=
  setCmd 0x0B05 40 (fun _ q => [phField q 0, reserved q 4 4])
    (fun s q => rejectWhen ((s.ph (q.u32 0)).isNone
      ∨ s.seg.any fun x => x.armed && x.config.copy && x.config.pigeonhole = q.u32 0) WRONG_STATE)
    (fun q s => releasePh (q.u32 0) s)
def execPhRelease (q : Request) (s : State) : Result := .next (runRequest phReleaseCmd q s)

/-! ### PH_READ (R367) -/

/-- The reply of PH_READ for the oldest committed entry. -/
def readPayload (s : State) (q : Request) (p : Pigeonhole) : List Byte :=
  match p.committed with
  | [] => zeros 32
  | e :: rest =>
    u64 e.seq ++ u32 e.length ++ u32 (rest.length + 1) ++ zeros 16
      ++ ((s.entryBytes p e).drop (q.u32 8)).take (q.u32 12)

/-- Serve a read: entries that a poisoned line spoils go first (R396); with consume, the entry goes after the reply. -/
def servePhRead (w : Waiter) (q : Request) (s : State) : State :=
  let n := q.u32 0
  let s := match s.ph n with
    | some p => dropPoisoned n p.entries.length s
    | none => s
  match s.ph n with
  | none => s
  | some p =>
    let s := reply w OK (readPayload s q p) s
    match p.committed with
    | [] => s
    | e :: _ => if q.bit 4 0 then reviewWaiting n (entryDelivered n e s) else s

def phReadCmd : Cmd :=
  { opcode := 0x0B06, classC := false, lengths := lenIs 48, needsRun := true
    checks := fun _ q => [phField q 0, reservedBits q 4 1, reserved q 5 3, none, counted 4032 (q.u32 12)]
    reject := fun s q => rejectWhen (match s.ph (q.u32 0) with
      | some p => p.kind ≠ 0
      | none => true) WRONG_STATE
    act := servePhRead }
def execPhRead (q : Request) (s : State) : Result := .next (runRequest phReadCmd q s)

/-! ### PH_BIND_EDGE (R368) -/

/-- A batch that is open goes out before its binding changes. -/
def unbindEdge (source : Nat) (p : Nat × Nat × EdgeBind → Bool) (s : State) : State :=
  let hit (b : Nat × Nat × EdgeBind) : Bool := decide (b.1 = source) && p b
  let s := if s.xfer.edges.any fun b => hit b && b.2.1 = 0 then closeBatch source s else s
  { s with xfer := { s.xfer with edges := s.xfer.edges.filter fun b => ! hit b } }

def phBindEdgeCmd : Cmd :=
  setCmd 0x0B07 40
    (fun s q => [firstFailure [phField q 0, allowed (q.u8 5 = 2 ∨ s.laneTarget (q.u32 0) 64)], within 0 8 (q.u8 4),
      firstFailure [within 0 2 (q.u8 5), allowed (q.u8 4 ≠ 8 ∨ q.u8 5 ≠ 1)], reserved q 6 2])
    (fun _ _ => none)
    (fun q s =>
      if q.u8 5 = 2 then unbindEdge (q.u8 4) (fun b => b.2.2.ph = q.u32 0) s
      else
        let s := unbindEdge (q.u8 4) (fun b => b.2.1 = q.u8 5) s
        { s with xfer := { s.xfer with edges := s.xfer.edges ++ [(q.u8 4, q.u8 5, { ph := q.u32 0 })] } })
def execPhBindEdge (q : Request) (s : State) : Result := .next (runRequest phBindEdgeCmd q s)

/-- STAMP_BATCH_CLOSE (R368): 100 µs after the first stamp of a batch. -/
def execStampBatchClose (at_ source : Nat) (s : State) : Result :=
  let s := advance at_ s
  .next (match s.edgeBind source 0 with
    | none => s
    | some b => if b.opened + 100000000 ≤ s.time.ps then closeBatch source s else s)

/-! ### PH_GET_STATUS (R385) -/

/-- The drain of a pigeonhole is held up: its ring is full or does not run, its port is down or paused.
DEDUCED (log entry 57). -/
def State.heldUp (s : State) (p : Pigeonhole) : Bool :=
  match p.kind with
  | 1 => match lookupKey p.target s.xfer.rings with
    | some r => decide (r.st ≠ .running ∨ r.produced - r.cached = r.slots)
    | none => true
  | 2 => match lookupKey p.target s.xfer.streams with
    | some x =>
      let l := s.xfer.links.getD x.port {}
      ! l.up || l.pausedSince.isSome
    | none => false
  | _ => false

def phDescriptor (s : State) (n : Nat) (p : Pigeonhole) : List Byte :=
  let age := match p.committed with
    | e :: _ => min ((s.time.ps - e.committed.getD 0) / 1000000) 0xFFFFFFFE
    | [] => 0xFFFFFFFF
  u8 1 ++ u8 p.policy ++ u8 p.kind ++ u8 (ofBits [p.switched, ! p.waiting.isEmpty, s.heldUp p]) ++ u32 p.entrySize
    ++ u32 p.depth ++ u32 p.committed.length ++ u64 p.base ++ u64 p.nextSeq ++ u32 (if p.policy = 0 then p.deadline else 0)
    ++ u32 p.target ++ u32 p.droppedNew ++ u32 p.droppedOld ++ u32 p.oversize ++ u32 p.flushed ++ u32 age
    ++ u32 (s.bindings n)

def phGetStatusCmd : Cmd := readCmd 0x0B08 40 (fun _ q => [phField q 0, reserved q 4 4]) fun s q =>
  match s.ph (q.u32 0) with
  | some p => phDescriptor s (q.u32 0) p
  | none => zeros 64
def execPhGetStatus (q : Request) (s : State) : Result := .next (runRequest phGetStatusCmd q s)

/-! ### Commit, waiting writers, the drain deadline (R361 to R363) -/

/-- ENTRY_COMMITTED (R361): the oldest entry whose bytes were not all in storage. -/
def execEntryCommitted (at_ ph : Nat) (s : State) : Result :=
  let s := advance at_ s
  .next (match s.ph ph with
    | none => s
    | some p =>
      let k := p.committed.length
      updPh ph (fun p => { p with entries := updAt p.entries k fun e => { e with committed := some s.time.ps } }) s)

/-- BLOCKED_WRITER_RESUMES (R362): space is free, or the policy has changed. -/
def execBlockedWriterResumes (at_ ph : Nat) (s : State) : Result := .next (reviewWaiting ph (advance at_ s))

/-- The oldest committed entry is older than the deadline. -/
def Pigeonhole.missed (now : Nat) (p : Pigeonhole) : Bool :=
  decide (p.policy = 0) && match p.committed with
    | e :: _ => decide (e.committed.getD 0 + p.deadline * 1000000 < now)
    | [] => false

/-- A missed deadline switches a pigeonhole to drop-newest, and its writers resume (R50, R363). -/
def missDeadline (n : Nat) (s : State) : State :=
  match s.ph n with
  | none => s
  | some p =>
    if p.missed s.time.ps then
      reviewWaiting n (record 0x0B01 [r4 n, r4 p.deadline, r4 p.committed.length]
        (updPh n (fun p => { p with policy := 2, switched := true }) s))
    else s

/-- DRAIN_DEADLINE_EVALUATION (R363): every 100 µs, but not in Standby (R532). -/
def execDrainDeadlineEvaluation (at_ : Nat) (s : State) : Result :=
  let s := advance at_ s
  .next (if s.boot.st = 5 then s else forAll (s.xfer.phs.map (·.1)) missDeadline s)

end Sys2Proof.Machine
end

