-- ==== Sys2Proof/Machine/SessOps.lean ====
section
/-! DEFINITION. Opening and closing a session (R417, R418). -/

namespace Sys2Proof.Machine

/-- The next generation: 16 bits, 0 skipped. -/
def nextGen (g : Nat) : Nat := if g + 1 = 65536 then 1 else g + 1

/-- A session opens, with SESSION_OPENED: session, interface, generation. -/
def openSession (n : Nat) (notify : Bool) (vector : Nat) (s : State) : State :=
  let s := updSession n (fun x => { x with
    gen := nextGen x.gen, requests := 0, since := { peak := s.occupancies }, image := [], st := .idle, notify := notify
    vector := vector, submitted := none, lastTag := none, peerIp := 0, peerPort := 0, peerEth := 0, lastValid := s.time.ps }) s
  carrying (record 0x0001 [r4 n, r4 (ifaceOf n), r4 (s.session n).gen]) s

/-- The body of SESSION_CLOSED. -/
def closedBody (n cause : Nat) (discarded : Bool) (dropped : Option (Nat × Request)) : List Byte :=
  padBody (u8 n ++ u8 (ifaceOf n) ++ u8 cause ++ u8 (ofBits [discarded, dropped.isSome])
    ++ match dropped with
      | some (op, q) => u16 op ++ u16 q.tag
      | none => zeros 4)

/-- A session becomes Closed, without a record. -/
def dropSession (n : Nat) (s : State) : State := updSession n (fun x => { x with st := .closed, submitted := none }) s

/-- A session closes, with SESSION_CLOSED: a reply that waits or is still to come is discarded, a request not yet taken is
dropped (R418). -/
def closeSession (n cause : Nat) (s : State) : State :=
  let x := s.session n
  match x.st with
  | .closed => s
  | .idle => carrying (stageBody 0x0002 (closedBody n cause false none)) (dropSession n s)
  | .replyReady => carrying (stageBody 0x0002 (closedBody n cause true none)) (dropSession n s)
  | .running => carrying (stageBody 0x0002 (closedBody n cause x.submitted.isNone x.submitted)) (dropSession n s)

/-- The close that its own request asks for: the reply has been sent (R444). -/
def closeAfterReply (n : Nat) (s : State) : State :=
  match (s.session n).st with
  | .closed => s
  | _ => carrying (stageBody 0x0002 (closedBody n 0 false none)) (dropSession n s)

end Sys2Proof.Machine
end

