-- ==== Sys2Proof/Machine/Transfer.lean ====
section
/-! DEFINITION. Host rings, Ethernet streams and links, PTP, and the PCI Express function (R369 to R386). -/

namespace Sys2Proof.Machine

def State.ring (s : State) (n : Nat) : Option HostRing := lookupKey n s.xfer.rings
def updRing (n : Nat) (f : HostRing → HostRing) (s : State) : State :=
  { s with xfer := { s.xfer with rings := updKey n f s.xfer.rings } }
def State.stream (s : State) (n : Nat) : Option Stream := lookupKey n s.xfer.streams
def updStream (n : Nat) (f : Stream → Stream) (s : State) : State :=
  { s with xfer := { s.xfer with streams := updKey n f s.xfer.streams } }
def State.ethLink (s : State) (p : Nat) : EthLink := s.xfer.links.getD p {}
def updLink (p : Nat) (f : EthLink → EthLink) (s : State) : State :=
  { s with xfer := { s.xfer with links := updAt s.xfer.links p f } }
def State.ptpPort (s : State) (p : Nat) : PtpPort := s.xfer.ptp.getD p {}
def updPtp (p : Nat) (f : PtpPort → PtpPort) (s : State) : State :=
  { s with xfer := { s.xfer with ptp := updAt s.xfer.ptp p f } }

/-- Pigeonholes that drain into a target. -/
def State.drainsInto (s : State) (kind target : Nat) : List (Nat × Pigeonhole) :=
  s.xfer.phs.filter fun p => p.2.kind = kind && p.2.target = target

/-- No pigeonhole that drains into a target has entries above a size. -/
def State.entriesFit (s : State) (kind target size : Nat) : Bool :=
  (s.drainsInto kind target).all fun p => decide (p.2.entrySize ≤ size)

/-! ### Ring commands (R372, R378, R386) -/

def ringField (q : Request) : Check := allowed (q.u16 0 < 4096)

def State.ringRuns (s : State) (n : Nat) : Bool := match s.ring n with
  | some r => r.st = .running
  | none => false

def ringConfigureFields (s : State) (q : Request) : List Check :=
  let size := q.u32 4
  let count := q.u32 8
  let notify := q.bit 2 0
  [ringField q, reservedBits q 2 2, reserved q 3 1,
    firstFailure [notZero size, allowed (64 ≤ size ∧ size ≤ 65536 ∧ size % 64 = 0), allowed (s.entriesFit 1 (q.u16 0) size)],
    firstFailure [notZero count, allowed (16 ≤ count ∧ count ≤ 1048576 ∧ 2 ^ Nat.log2 count = count)],
    if notify then allowed (q.u16 12 < 2048) else reserved q 12 2, reserved q 14 2,
    allowed (q.u64 16 % 4096 = 0), allowed (q.u64 24 % 64 = 0), allowed (q.u64 32 % 8 = 0),
    if notify then counted 65536 (q.u32 40) else reserved q 40 4,
    if notify then counted 1000000 (q.u32 44) else reserved q 44 4, reserved q 48 16]

def phRingConfigureCmd : Cmd :=
  setCmd 0x0B09 96 ringConfigureFields
    (fun s q => rejectWhen (s.ringRuns (q.u16 0)) WRONG_STATE)
    (fun q s =>
      let r : HostRing :=
        { notify := q.bit 2 0, relaxed := q.bit 2 1, slotSize := q.u32 4, slots := q.u32 8, vector := q.u16 12
          data := q.u64 16, status := q.u64 24, consumer := q.u64 32, coalesceCount := q.u32 40, coalesceUs := q.u32 44 }
      { s with xfer := { s.xfer with rings := insertKey (q.u16 0) r s.xfer.rings } })
def execPhRingConfigure (q : Request) (s : State) : Result := .next (runRequest phRingConfigureCmd q s)

/-- A ring starts: its counts are 0 (R378). DEDUCED (log entry 58). -/
def HostRing.start (r : HostRing) : HostRing :=
  { r with st := .running, cause := 0, produced := 0, cached := 0, reading := none, readAt := none, messages := 0
           uncovered := 0, served := none }

/-- DEDUCED (log entry 58). -/
def phRingStartCmd : Cmd :=
  setCmd 0x0B0A 40 (fun _ q => [ringField q, reserved q 2 6])
    (fun s q => rejectWhen ((s.ring (q.u16 0)).isNone ∨ s.ringRuns (q.u16 0) ∨ ¬ s.pcie.linkUp ∨ ¬ s.pcie.busMaster)
      WRONG_STATE)
    (fun q s => releaseAlert (.hostRing (q.u16 0)) (updRing (q.u16 0) HostRing.start s))
    (needsRun := true)
def execPhRingStart (q : Request) (s : State) : Result := .next (runRequest phRingStartCmd q s)

def phRingStopCmd : Cmd :=
  setCmd 0x0B0B 40 (fun _ q => [ringField q, reserved q 2 6])
    (fun s q => rejectWhen (! s.ringRuns (q.u16 0)) WRONG_STATE)
    (fun q s => updRing (q.u16 0) (fun r => { r with st := .stopped, reading := none }) s)
def execPhRingStop (q : Request) (s : State) : Result := .next (runRequest phRingStopCmd q s)

def ringCode : RingState → Nat
  | .unconfigured => 0 | .stopped => 1 | .running => 2 | .faulted => 3 | .linkStopped => 4

def ringRecord (s : State) (n : Nat) : List Byte :=
  let count := (s.drainsInto 1 n).length
  match s.ring n with
  | none => zeros 4 ++ u32 count ++ zeros 24
  | some r =>
    u8 (ringCode r.st) ++ u8 r.cause ++ u16 r.vector ++ u32 count ++ u64 r.produced ++ u64 r.cached ++ u32 r.messages
      ++ u32 r.uncovered

def phRingStatusCmd : Cmd :=
  readCmd 0x0B0C 40 (fun _ q => [ringField q, counted 127 (q.u16 2), reserved q 4 4]) fun s q =>
    (List.range (min (q.u16 2) (4096 - q.u16 0))).flatMap fun i => ringRecord s (q.u16 0 + i)
def execPhRingStatus (q : Request) (s : State) : Result := .next (runRequest phRingStatusCmd q s)

/-! ### Delivery into host rings (R373 to R377) -/

/-- A ring faults (R378). -/
def faultRing (n cause : Nat) (s : State) : State :=
  assertAlert (.hostRing n) (record 0x0B05 [r4 n, r1 cause]
    (updRing n (fun r => { r with st := .faulted, cause := cause, reading := none }) s))

/-- One 8-byte read of the consumer word goes out; `tries` is how many went before it. DESIGN CHOICE (log entry 59). -/
def readConsumer (n : Nat) (r : HostRing) (tries : Nat) (s : State) : State :=
  emit .hostRead [r.consumer, 8] [] (updRing n (fun r => { r with reading := some tries, readAt := some s.time.ps }) s)

/-- A full ring reads the consumer word, no more often than once per 2 µs (R374). -/
def pollConsumer (n : Nat) (s : State) : State :=
  match s.ring n with
  | none => s
  | some r =>
    let early : Bool := match r.readAt with
      | some t => decide (s.time.ps < t + 2000000)
      | none => false
    if r.reading.isSome ∨ early then s else readConsumer n r 0 s

/-- The ring's message goes out, and its count restarts (R377). -/
def ringMessage (n : Nat) (r : HostRing) (s : State) : State :=
  sendMsix r.vector (updRing n (fun r => { r with messages := (r.messages + 1) % 2 ^ 32, uncovered := 0 }) s)

/-- One more status record counts toward the ring's message. -/
def countStatus (n : Nat) (s : State) : State :=
  let s := updRing n (fun r => { r with
    since := if r.uncovered = 0 then s.time.ps else r.since, uncovered := r.uncovered + r.notify.toNat }) s
  match s.ring n with
  | none => s
  | some r => if r.notify ∧ r.coalesceCount ≤ r.uncovered then ringMessage n r s else s

/-- A status record of R373. -/
def statusRecord (ph : Nat) (loss phase : Bool) (e : Entry) : List Byte :=
  u32 e.length ++ u32 (ph + 2 ^ 30 * loss.toNat + 2 ^ 31 * phase.toNat) ++ u64 e.seq

/-- Write an entry into the next slot, then its status record (R373, R375). -/
def deliverEntry (n ph : Nat) (r : HostRing) (p : Pigeonhole) (e : Entry) (s : State) : State :=
  let i := r.produced % r.slots
  let phase := decide (r.produced / r.slots % 2 = 0)
  let bytes := s.entryBytes p e
  let s := emit .hostWrite [(r.data + i * r.slotSize) % 2 ^ 64] bytes s
  let s := emit .hostWrite [(r.status + 16 * i) % 2 ^ 64] (statusRecord ph (p.lossAt e) phase e) s
  let s := entryDelivered ph e (updRing n (fun r => { r with produced := r.produced + 1, served := some ph }) s)
  let s := { s with xfer := { s.xfer with served := some n } }
  let s := capture 0x29 ((s.time.ps - e.committed.getD 0) / 1000 : Nat) s
  reviewWaiting ph (countStatus n s)

/-- Entries that a poisoned line spoils go from every pigeonhole of a target (R396). -/
def dropSpoilt (kind target : Nat) (s : State) : State :=
  forAll (s.drainsInto kind target) (fun p s => dropPoisoned p.1 p.2.entries.length s) s

/-- The pigeonholes of a target that have a committed entry. -/
def State.offering (s : State) (kind target : Nat) : List Nat :=
  ((s.drainsInto kind target).filter fun p => ! p.2.committed.isEmpty).map (·.1)

/-- The rings that can take an entry that waits: they run and have space. -/
def State.ringsReady (s : State) : List Nat :=
  (s.xfer.rings.filter fun r => decide (r.2.st = .running ∧ r.2.produced - r.2.cached < r.2.slots)
    && ! (s.offering 1 r.1).isEmpty).map (·.1)

/-- The ring has the turn: one entry per turn, round-robin (R376). -/
def State.ringTurn (s : State) (n : Nat) : Bool := nextAfter s.xfer.served s.ringsReady = some n

/-- HOST_RING_DELIVERY (R373): one entry of the ring that has the turn, round-robin over its pigeonholes (R376). -/
def execHostRingDelivery (at_ ring : Nat) (s : State) : Result :=
  let s := advance at_ s
  .next (
    if ¬ s.ringRuns ring ∨ ¬ s.memServes ∨ ¬ s.pcie.linkUp ∨ ¬ s.pcie.busMaster then s
    else
      let s := dropSpoilt 1 ring s
      match s.ring ring with
      | none => s
      | some r => match nextAfter r.served (s.offering 1 ring) with
        | none => s
        | some ph =>
          if r.produced - r.cached = r.slots then pollConsumer ring s
          else if ¬ s.ringTurn ring then s
          else match s.ph ph with
            | none => s
            | some p => match p.committed with
              | [] => s
              | e :: _ => deliverEntry ring ph r p e s)

/-- CONSUMER_WORD_REREAD (R374): the ring stays full and an entry waits. -/
def execConsumerWordReread (at_ ring : Nat) (s : State) : Result :=
  let s := advance at_ s
  .next (match s.ring ring with
    | none => s
    | some r =>
      if s.ringRuns ring && decide (r.produced - r.cached = r.slots) && ! (s.offering 1 ring).isEmpty
          && decide (s.boot.st ≠ 5) then pollConsumer ring s
      else s)

/-- CONSUMER_READ_COMPLETION (R374): a value below the cached one or above p faults the ring, and so does a completion
with UR or CA status. -/
def execConsumerReadCompletion (at_ ring : Nat) (success : Bool) (value : Nat) (s : State) : Result :=
  let s := advance at_ s
  .next (match s.ring ring with
    | none => s
    | some r =>
      if r.reading.isNone ∨ r.st ≠ .running then s
      else if ¬ success then faultRing ring 2 s
      else if value < r.cached ∨ r.produced < value then faultRing ring 3 s
      else updRing ring (fun r => { r with cached := value, reading := none }) s)

/-- CONSUMER_READ_TIMEOUT (R53): 2 retries, then the ring faults. -/
def execConsumerReadTimeout (at_ ring : Nat) (s : State) : Result :=
  let s := advance at_ s
  .next (match s.ring ring with
    | none => s
    | some r => match r.reading with
      | none => s
      | some k =>
        let s := emit .aer [2] [] s
        if k < 2 then readConsumer ring r (k + 1) s else faultRing ring 1 s)

/-- The coalescing time has passed since the first record of the count. -/
def HostRing.timed (r : HostRing) (now : Nat) : Bool :=
  r.notify && decide (0 < r.uncovered ∧ r.since + r.coalesceUs * 1000000 ≤ now)

/-- COALESCING_TIME (R377). -/
def execCoalescingTime (at_ ring : Nat) (s : State) : Result :=
  let s := advance at_ s
  .next (match s.ring ring with
    | none => s
    | some r => if r.timed s.time.ps then ringMessage ring r s else s)

/-! ### Streams (R379 to R381) -/

/-- A port is paused: its streams wait. Time spent is settled into them (R381). DEDUCED (log entry 58). -/
def settlePaused (p : Nat) (s : State) : State :=
  match (s.ethLink p).pausedSince with
  | none => s
  | some t =>
    let d := s.time.ps - t
    { updLink p (fun l => { l with pausedSince := some s.time.ps }) s with
      xfer := { (updLink p (fun l => { l with pausedSince := some s.time.ps }) s).xfer with
        streams := s.xfer.streams.map fun x =>
          if x.2.enabled ∧ x.2.port = p then (x.1, { x.2 with paused := x.2.paused + d }) else x } }

def streamFields (s : State) (q : Request) : List Check :=
  let tagged := q.bit 2 1
  let vid := q.u16 10 % 4096
  let limit := (q.u16 20 - 76) / 64 * 64
  [none, within 0 1 (q.u8 1), reservedBits q 2 2, within 0 63 (q.u8 3), none,
    if tagged then firstFailure [failWhen ((q.u16 10).testBit 12) RESERVED_NONZERO, within 1 4094 vid] else reserved q 10 2,
    none, allowed (q.u16 16 ≠ 0), allowed (1024 ≤ q.u16 18),
    firstFailure [notZero (q.u16 20), within 1500 9000 (q.u16 20), allowed (s.entriesFit 2 (q.u8 0) limit)],
    reserved q 22 2, counted 25000 (q.u32 24), reserved q 28 4]

/-- The setting of a stream; an enable of a stream that was not enabled starts its counts (R380, R381). -/
def setStream (q : Request) (s : State) : State :=
  let n := q.u8 0
  let s := settlePaused (q.u8 1) s
  let old := (s.stream n).getD {}
  let s := settlePaused old.port s
  let old := (s.stream n).getD {}
  let x : Stream := if q.bit 2 0 ∧ ¬ old.enabled then {} else old
  let x := { x with
    enabled := q.bit 2 0, port := q.u8 1, tagged := q.bit 2 1, dscp := q.u8 3, mac := q.bytes 4 6, tag := q.u16 10
    ip := ofBe (q.bytes 12 4), destPort := q.u16 16, sourcePort := q.u16 18, mtu := q.u16 20, rate := q.u32 24 }
  { s with xfer := { s.xfer with streams := insertKey n x s.xfer.streams } }

def phStreamConfigureCmd : Cmd := setCmd 0x0B0D 64 streamFields (fun _ _ => none) setStream
def execPhStreamConfigure (q : Request) (s : State) : Result := .next (runRequest phStreamConfigureCmd q s)

def streamRecord (s : State) (n : Nat) : List Byte :=
  let x := (s.stream n).getD {}
  let now := match (s.ethLink x.port).pausedSince with
    | some t => if x.enabled then s.time.ps - t else 0
    | none => 0
  u64 x.sent ++ u64 x.bytes ++ u32 ((x.paused + now) / psPerMs) ++ zeros 4

def phStreamStatusCmd : Cmd :=
  readCmd 0x0B0E 40 (fun _ q => [none, firstFailure [counted 128 (q.u8 1), allowed (q.u8 0 + q.u8 1 ≤ 256)], reserved q 2 6])
    fun s q => (List.range (q.u8 1)).flatMap fun i => streamRecord s (q.u8 0 + i)
def execPhStreamStatus (q : Request) (s : State) : Result := .next (runRequest phStreamStatusCmd q s)

/-- The stream header, with a send time (R380). -/
def streamHeader (s : State) (ph : Nat) (p : Pigeonhole) (e : Entry) (x : Stream) (time : Int) : List Byte :=
  u16 0x5350 ++ u8 1 ++ u8 (p.lossAt e).toNat ++ u16 (s.sync.id % 4096) ++ u16 s.time.epoch ++ u32 ph ++ u32 e.length
    ++ u64 e.seq ++ u64 x.sent ++ i64 time ++ zeros 4

/-- Bytes of the frame on the line: preamble, Ethernet, IPv4 and UDP headers, frame check sequence and gap. -/
def Stream.frameBytes (x : Stream) (n : Nat) : Nat := 8 + 14 + (if x.tagged then 4 else 0) + 28 + 48 + n + 4 + 12

/-- Send an entry as a datagram (R380). DEDUCED (log entry 58). -/
def sendDatagram (n ph : Nat) (x : Stream) (p : Pigeonhole) (e : Entry) (s : State) : State :=
  let bytes := s.entryBytes p e
  let crc := crc32c (streamHeader s ph p e x 0 ++ bytes)
  let data := streamHeader s ph p e x s.now ++ u32 crc ++ bytes
  let s := emit .datagram [x.port, x.ip, x.destPort, x.sourcePort, ofBe x.mac, x.dscp, if x.tagged then x.tag else 0] data s
  let s := updStream n (fun x => { x with
    sent := x.sent + 1, bytes := x.bytes + 48 + e.length, served := some ph
    ready := s.time.ps + x.frameBytes e.length * 8000000 / max 1 x.rate }) s
  reviewWaiting ph (entryDelivered ph e (updLink x.port (fun l => { l with served := some n }) s))

/-- A port sends: its link is up and not paused, and it has an address (R381, R432). -/
def State.portSends (s : State) (p : Nat) : Bool :=
  (s.ethLink p).up && (s.ethLink p).pausedSince.isNone && decide ((s.prot.net.getD p {}).ip ≠ 0)

/-- The streams of a port that have an entry to send and are within their rate limits. -/
def State.streamsReady (s : State) (p : Nat) : List Nat :=
  (s.xfer.streams.filter fun x => decide (x.2.enabled ∧ x.2.port = p ∧ x.2.ready ≤ s.time.ps)
    && ! (s.offering 2 x.1).isEmpty).map (·.1)

/-- The stream has its port's turn: one datagram per turn, round-robin (R381). -/
def State.streamTurn (s : State) (p n : Nat) : Bool := nextAfter (s.ethLink p).served (s.streamsReady p) = some n

/-- STREAM_DATAGRAM_SENT (R380): one entry of the stream that has the turn, round-robin over its pigeonholes. -/
def execStreamDatagramSent (at_ stream : Nat) (s : State) : Result :=
  let s := advance at_ s
  .next (
    let s := if s.memServes then dropSpoilt 2 stream s else s
    match s.stream stream with
    | none => s
    | some x =>
      if ¬ x.enabled ∨ ¬ s.memServes ∨ ¬ s.portSends x.port ∨ s.time.ps < x.ready ∨ ¬ s.streamTurn x.port stream then s
      else match nextAfter x.served (s.offering 2 stream) with
        | none => s
        | some ph => match s.ph ph with
          | none => s
          | some p => match p.committed with
            | [] => s
            | e :: _ => sendDatagram stream ph x p e s)

/-- PAUSE_FRAME (R381): a quantum is 512 bit times at 25 Gb/s; 0 ends the pause. -/
def execPauseFrame (at_ port quanta : Nat) (s : State) : Result :=
  let s := settlePaused port (advance at_ s)
  .next (
    if ¬ (s.ethLink port).up then s
    else updLink port (fun l => { l with
      pausedSince := if quanta = 0 then none else some s.time.ps, pauseEnd := s.time.ps + quanta * 20480 }) s)

/-- PAUSE_TIME_EXPIRY (R381): the time of the latest PAUSE frame is over. -/
def execPauseTimeExpiry (at_ port : Nat) (s : State) : Result :=
  let s := advance at_ s
  .next (
    if (s.ethLink port).pauseEnd ≤ s.time.ps then
      updLink port (fun l => { l with pausedSince := none }) (settlePaused port s)
    else s)

/-- ETHERNET_LINK_DOWN (R381). -/
def execEthernetLinkDown (at_ port : Nat) (s : State) : Result :=
  let s := settlePaused port (advance at_ s)
  .next (
    if (s.ethLink port).up then
      record 0x0B07 [] (updLink port (fun l => { l with up := false, pausedSince := none }) s)
    else s)

/-- ETHERNET_LINK_UP (R381): no port comes up while a link-loop ramp runs (R95), or without its supplies and reset. -/
def execEthernetLinkUp (at_ port : Nat) (s : State) : Result :=
  let s := advance at_ s
  .next (
    if (s.ethLink port).up ∨ 2 ≤ port ∨ s.clk.lnkRamp.running ∨ s.boot.nresetLow ∨ s.boot.off ∨ s.boot.st = 8 then s
    else record 0x0B08 [] (updLink port (fun l => { l with up := true }) s))

/-! ### PTP (R382, R383) -/

def ptpConfigureCmd : Cmd :=
  setCmd 0x0B0F 40
    (fun _ q => [within 0 1 (q.u8 0), within 0 127 (q.u8 1), within 0 1 (q.u8 2), reservedBits q 3 1,
      within (-4) 4 (q.i8 4), reserved q 5 3])
    (fun _ _ => none)
    (fun q s => updPtp (q.u8 0) (fun _ =>
      { enabled := q.bit 3 0, domain := q.u8 1, transport := q.u8 2, logInterval := q.i8 4, lastPair := some s.time.ps }) s)
def execPtpConfigure (q : Request) (s : State) : Result := .next (runRequest ptpConfigureCmd q s)

/-- Port state as IEEE 1588-2019 numbers it: 3 disabled, 4 listening, 8 uncalibrated, 9 slave.
DEDUCED (log entry 58). -/
def PtpPort.state (up : Bool) (x : PtpPort) : Nat :=
  if ¬ x.enabled ∨ ¬ up then 3 else if x.master.isNone then 4 else if x.measured ∧ ¬ x.lost then 9 else 8

def ptpGetStatusCmd : Cmd :=
  readCmd 0x0B10 40 (fun _ q => [within 0 1 (q.u8 0), reserved q 1 7]) fun s q =>
    let x := s.ptpPort (q.u8 0)
    u8 (x.state (s.ethLink (q.u8 0)).up) ++ zeros 7 ++ be 8 (x.master.getD 0) ++ i64 x.offset ++ i64 x.delay ++ u32 x.syncs
      ++ zeros 4
def execPtpGetStatus (q : Request) (s : State) : Result := .next (runRequest ptpGetStatusCmd q s)

/-- The best master of those heard: lowest quality, then lowest identity. DEDUCED (log entry 58). -/
def bestMaster : List (Nat × Nat) → Option (Nat × Nat)
  | [] => none
  | m :: l => match bestMaster l with
    | none => some m
    | some b => if b.2 < m.2 ∨ (b.2 = m.2 ∧ b.1 < m.1) then some b else some m

/-- An Announce enters the best master clock algorithm; a new master starts the measurement afresh. -/
def PtpPort.announce (master quality : Nat) (x : PtpPort) : PtpPort :=
  let l := insertKey master quality x.masters
  let best := (bestMaster l).map (·.1)
  if best = x.master then { x with masters := l }
  else { x with masters := l, master := best, twoStep := none, sync := none, request := none, measured := false }

/-- The time keeper follows this port (R85). -/
def State.followsPtp (s : State) (p : Nat) : Bool := decide (s.time.source = 2 ∧ s.time.port = p)

/-- Wall time is corrected by the offset from the master (R86). -/
def steerByPtp (p : Nat) (s : State) : State :=
  if s.followsPtp p then correctTime (s.now - (s.ptpPort p).offset) (steerTime s) else s

/-- A Sync and its origin time are a pair (R383). -/
def ptpPair (p : Nat) (origin arrival : Int) (s : State) : State :=
  let s := updPtp p (fun x => { x with
    twoStep := none, sync := some (origin, arrival), lastPair := some s.time.ps, offset := arrival - origin - x.delay }) s
  let x := s.ptpPort p
  if x.measured ∧ ¬ x.lost then steerByPtp p s else s

/-- A Delay_Resp completes an exchange: the mean path delay, and after a loss PTP_RESTORED (R383). -/
def ptpExchange (p : Nat) (t1 t2 t3 t4 : Int) (s : State) : State :=
  let lost := (s.ptpPort p).lost
  let delay := ((t2 - t1) + (t4 - t3)) / 2
  let s := updPtp p (fun x => { x with
    request := none, delay := delay, measured := true, offset := t2 - t1 - delay, lost := false }) s
  if lost then steerByPtp p (record 0x0B0A [] s)
  else if s.followsPtp p then steerByPtp p s else s

/-- What a received message does to an enabled port. -/
def receivePtp (p : Nat) (m : PtpMessage) (s : State) : State :=
  let x := s.ptpPort p
  match m with
  | .announce master quality => updPtp p (PtpPort.announce master quality) s
  | .sync master seq twoStep origin arrival =>
    if x.master ≠ some master then s
    else
      let s := updPtp p (fun x => { x with syncs := satInc 32 x.syncs }) s
      if twoStep then updPtp p (fun x => { x with twoStep := some (seq, arrival) }) s else ptpPair p origin arrival s
  | .followUp master seq origin =>
    match x.twoStep with
    | some (n, arrival) => if x.master = some master ∧ n = seq then ptpPair p origin arrival s else s
    | none => s
  | .delayResp master seq received =>
    match x.request, x.sync with
    | some (n, t3), some (t1, t2) =>
      if x.master = some master ∧ n = seq then ptpExchange p t1 t2 t3 received s else s
    | _, _ => s

/-- PTP_MESSAGE_RECEIVED (R382). -/
def execPtpMessageReceived (at_ port : Nat) (m : PtpMessage) (s : State) : Result :=
  let s := advance at_ s
  .next (if (s.ptpPort port).enabled ∧ (s.ethLink port).up then receivePtp port m s else s)

/-- A port that has a master sends a Delay_Req. -/
def sendDelayReq (p : Nat) (s : State) : State :=
  let x := s.ptpPort p
  if x.enabled ∧ x.master.isSome ∧ x.sync.isSome ∧ (s.ethLink p).up then
    emit .ptp [p, x.sequence] []
      (updPtp p (fun x => { x with request := some (x.sequence, s.now), sequence := (x.sequence + 1) % 65536 }) s)
  else s

/-- DELAY_REQ_INTERVAL (R382). -/
def execDelayReqInterval (at_ : Nat) (s : State) : Result := .next (forEach 2 sendDelayReq (advance at_ s))

/-- No pair for 3 s (R383). -/
def losePtp (p : Nat) (s : State) : State :=
  let x := s.ptpPort p
  if x.enabled ∧ ¬ x.lost ∧ (x.lastPair.getD 0) + 3 * psPerS ≤ s.time.ps then
    record 0x0B09 [] (updPtp p (fun x => { x with lost := true, sync := none, request := none, twoStep := none }) s)
  else s

/-- PTP_LOST (R383). -/
def execPtpLost (at_ : Nat) (s : State) : Result := .next (forEach 2 losePtp (advance at_ s))

/-! ### The PCI Express function (R371, R377, R378, R418) -/

def pcieSetClockingCmd : Cmd :=
  setCmd 0x0B11 40 (fun _ q => [within 0 1 (q.u8 0), reserved q 1 7]) (fun _ _ => none)
    (fun q s => { s with pcie := { s.pcie with clockingSet := q.u8 0 } })
def execPcieSetClocking (q : Request) (s : State) : Result := .next (runRequest pcieSetClockingCmd q s)

/-- Every running ring stops by link (R378). PRESUMED (log entry 20). -/
def stopRings (s : State) : State :=
  { s with xfer := { s.xfer with rings := s.xfer.rings.map fun r =>
      if r.2.st = .running then (r.1, { r.2 with st := .linkStopped, reading := none }) else r } }

/-- The function loses its link or is reset: rings stop, sessions 0 to 23 close (R378, R418).
PRESUMED (log entry 20). -/
def loseFunction (s : State) : State :=
  let s := if s.pcie.linkUp then record 0x0B06 [] s else s
  let s := stopRings { s with pcie := { s.pcie with linkUp := false, busMaster := false, unmasked := [], pending := [] } }
  forEach 24 (fun n s => closeSession n 1 s) s

/-- PCIE_LINK_DOWN (R378). -/
def execPcieLinkDown (at_ : Nat) (s : State) : Result := .next (loseFunction (advance at_ s))

/-- PE_PERSTN_ASSERTED (R378). -/
def execPePerstnAsserted (at_ : Nat) (s : State) : Result :=
  let s := loseFunction (advance at_ s)
  .next { s with pcie := { s.pcie with perst := true } }

/-- PE_PERSTN_RELEASED (R545). -/
def execPePerstnReleased (at_ : Nat) (s : State) : Result :=
  let s := advance at_ s
  .next { s with pcie := { s.pcie with perst := false } }

/-- HOT_RESET (R378). -/
def execHotReset (at_ : Nat) (s : State) : Result := .next (loseFunction (advance at_ s))

/-- BUS_MASTER_ENABLE_CLEARED (R378): rings stop; no session closes. -/
def execBusMasterEnableCleared (at_ : Nat) (s : State) : Result :=
  let s := advance at_ s
  .next (
    if s.pcie.busMaster then
      stopRings (record 0x0B06 [] { s with pcie := { s.pcie with busMaster := false } })
    else s)

/-- BUS_MASTER_ENABLE_SET (R378): rings start only with PH_RING_START. -/
def execBusMasterEnableSet (at_ : Nat) (s : State) : Result :=
  let s := advance at_ s
  .next (if s.pcie.linkUp then { s with pcie := { s.pcie with busMaster := true } } else s)

/-- MSIX_UNMASK (R377): a pending vector sends one message. -/
def execMsixUnmask (at_ vec : Nat) (s : State) : Result :=
  let s := advance at_ s
  .next (
    if ¬ s.pcie.linkUp ∨ 2048 ≤ vec ∨ s.pcie.unmasked.contains vec then s
    else
      let waits := s.pcie.pending.contains vec
      let s := { s with pcie := { s.pcie with unmasked := vec :: s.pcie.unmasked, pending := s.pcie.pending.filter (· ≠ vec) } }
      if waits then sendMsix vec s else s)

/-- MSIX_MASK (R377). -/
def execMsixMask (at_ vec : Nat) (s : State) : Result :=
  let s := advance at_ s
  .next { s with pcie := { s.pcie with unmasked := s.pcie.unmasked.filter (· ≠ vec) } }

/-- The link-loop ramp that waits starts or stops (R95). DESIGN CHOICE (log entry 78). -/
def Ramp.train (r : Ramp) : Ramp :=
  match r.next with
  | none => r
  | some [] => {}
  | some l => { segments := l, running := true }

/-- PCIE_LINK_TRAINING (R95, R371): the link trains, the protected reference-clock mode and a waiting ramp take effect. -/
def execPcieLinkTraining (at_ : Nat) (s : State) : Result :=
  let s := advance at_ s
  .next (
    if s.pcie.perst ∨ s.boot.nresetLow ∨ s.boot.off ∨ s.boot.st = 8 then s
    else { s with pcie := { s.pcie with linkUp := true, clocking := s.pcie.clockingSet }
                  clk := { s.clk with lnkRamp := s.clk.lnkRamp.train } })

end Sys2Proof.Machine
end

