-- ==== Sys2Proof/Machine/PowerOps.lean ====
section
/-! DEFINITION. What Standby, deep standby, a power-down and a halt stop (R69, R532, R534, R548). -/

namespace Sys2Proof.Machine

/-! ### Parts that stop -/

/-- Every running job stops with reason 4, and a task in progress is aborted with an abort entry (R532 step 1). -/
def stopEngines (s : State) : State :=
  let s := forAll s.eng.jobs (fun j s => stopJob j.1 4 s) s
  answerStops (forEach 128 (fun e s => abortTask e true s) s)

/-- Every port ends its rounds and goes down; Standby marks it for its return (R532 step 2). -/
def stopPorts (mark : Bool) (s : State) : State :=
  forEach 16 (fun p s =>
    if (s.port p).st = .down then s else portDown p (updPort p (fun x => { x with marked := mark }) s)) s

/-- The converters and lanes power down: no frames, no seams, no passes (R532 step 4). -/
def convertersDown (s : State) : State :=
  let s := forEach 8 (fun n s => if s.enabled n then forceInput n s.endTick s else s) s
  let s := forEach 8 (fun n s => passGaps n (updInput n (fun x => { x with letterbox := [], seam := none, retry := false }) s)) s
  let s := forEach 8 (fun n => updInCal n fun x => { x with pass := none }) s
  let s := forEach 24 (fun c => updCore c fun x =>
    if x.st = .faulty then x else { x with st := .down, step := 0, loaded := none }) s
  { s with inp := { s.inp with running := false } }

/-- Every channel enters self-refresh; a training step under way ends (R414). -/
def memorySleep (s : State) : State := { s with mem := { s.mem with selfRefresh := true, step := none } }

/-- Running and Ready accumulators become Idle with stop reason 5 (R299). -/
def idleAccumulators (s : State) : State := stopAccs (fun _ => true) 5 s

/-- A group is disarmed with no record and no reply of its own (R69). -/
def dropCapture (g : Nat) (s : State) : State :=
  updSg g (fun x => { x with
    state := .disarmed, filling := none, writing := [], stopTick := none, abortTick := none, stopWaiters := [], armWaiter := none
    positions := List.replicate 8 [] }) (updTg g (fun t => { t with queue := [], hits := [], seqEnd := none, holdEnd := none, holdLeft := 0 }) s)

/-- A group whose arm frame has not come is disarmed: the arm cannot take effect any more. -/
def cancelArm (g : Nat) (s : State) : State :=
  match (s.sg g).state with
  | .scheduled =>
    replyOpt (s.sg g).armWaiter HW_FAULT (armFailed 0xFF 0xFF)
      (updSg g (fun x => { x with state := .disarmed, armWaiter := none }) s)
  | _ => s

/-- A group ends at a halt: a capture with stop reason 7 (R266, R548). -/
def haltGroup (g : Nat) (s : State) : State := abortCapture g 7 (cancelArm g (endPending g s))

/-- Rings and streams stop (R548 step 2). -/
def stopDrains (s : State) : State :=
  { s with xfer := { s.xfer with
      rings := s.xfer.rings.map fun r =>
        if r.2.st = .running then (r.1, { r.2 with st := .stopped, reading := none }) else r
      streams := s.xfer.streams.map fun x => (x.1, { x.2 with enabled := false }) } }

/-! ### Requests whose action a halt ends -/

def failCalibrations (s : State) : State :=
  let l := s.cal.foregrounds
  forAll l (fun f s => replyOpt f.waiter HW_FAULT [] s)
    { s with cal := { s.cal with foregrounds := [], interruptions := [], startup := 0 } }

def failClearings (s : State) : State :=
  forEach 64 (fun a s => match (s.acc a).clearing with
    | some (_, w) => reply w HW_FAULT [] (updAcc a (fun x => { x with clearing := none }) s)
    | none => s) s

def failSpill (s : State) : State :=
  match s.ham.spill with
  | some p => reply p.waiter HW_FAULT (zeros 8) { s with ham := { s.ham with spill := none } }
  | none => s

def failMemory (s : State) : State :=
  let change := s.mem.change
  let waits := s.mem.waits
  let s := { s with mem := { s.mem with change := none, waits := none } }
  let s := match change with
    | some (_, w, _) => replyOpt w HW_FAULT (zeros 8) s
    | none => s
  match waits with
  | some (_, w) => reply w HW_FAULT (zeros 8) s
  | none => s

def failFilterSync (s : State) : State :=
  match s.flt.scheduled with
  | some (_, w) => reply w HW_FAULT [] { s with flt := { s.flt with scheduled := none } }
  | none => s

/-- A transition of Standby under way ends in Halted, and the requests that wait behind it find that state (R531, R540).
DEDUCED (log entry 62). -/
def failTransition (s : State) : State :=
  let t := s.boot.transition
  let q := s.boot.queued
  let s := { s with boot := { s.boot with transition := none, queued := [], wakeQueued := false } }
  let s := match t with
    | some (_, _, w) => replyOpt w HW_FAULT [] s
    | none => s
  forAll q (fun x s => reply x.2.2 WRONG_STATE [] s) s

/-- Requests whose action the halt has ended answer HW_FAULT. DEDUCED (log entry 62). -/
def failActions (s : State) : State :=
  failTransition (failFilterSync (failMemory (failSpill (failClearings (failCalibrations s)))))

/-! ### Halted (R548) -/

/-- The contents of acquisition memory are lost, and with them the training values and what the privileged slices held
(R70, R541, R548). -/
def loseMemory (s : State) : State :=
  { s with
    mem := { s.mem with cells := [], poisoned := [], privileged := [], preserved := false
                        channels := List.replicate 24 {} }
    boot := { s.boot with initMemory := true } }

/-- The module enters Halted for a cause of R547. DEDUCED (log entry 62). -/
def haltModule (cause : Nat) (value : Int) (s : State) : State :=
  if s.boot.st = 6 then s
  else
    let s := if cause = 2 then loseMemory s else s
    let s := idleAccumulators (stopEngines (forEach 4 haltGroup (stageOpening s)))
    let s := stopDrains (stopPorts false (convertersDown (memorySleep (failActions s))))
    let s := flushFifo (record 0x0044 [r1 cause, ri2 value] s)
    let s := { s with aux := { s.aux with seq := { s.aux.seq with run := false }, seqDue := none, seqNew := none }
                      boot := { s.boot with haltCause := cause, deepAfter := none, subsystem := none }
                      pwr := { s.pwr with fault := true, halting := 0 } }
    setBootState 6 s

/-! ### Power-down and deep standby (R69, R534) -/

/-- The staging FIFO is flushed, and POWER_DOWN is the last record (R69 step 3, R568). -/
def lastRecord (cause armed : Nat) (s : State) : State :=
  let n := s.evt.fifo.length
  flushFifo (stageBody 0x000A (u8 cause ++ u8 armed ++ zeros 2 ++ u32 n ++ zeros 8) (flushFifo s))

/-- The module is in deep standby: every session closed with no record, the links down, ALERTn and FAULTn released.
DEDUCED (log entry 41). -/
def sleepModule (s : State) : State :=
  let s := forEach 32 dropSession s
  let s := stopRings { s with
    pcie := { s.pcie with linkUp := false, busMaster := false, unmasked := [], pending := [] }
    xfer := { s.xfer with links := s.xfer.links.map fun l => { l with up := false, pausedSince := none } }
    pwr := { s.pwr with alert := [], fault := false, halting := 0, pmbus := [] } }
  setBootState 8 s

end Sys2Proof.Machine
end

