-- ==== Sys2Proof/Machine/Memory.lean ====
section
/-! DEFINITION. Acquisition memory: the commands of group 0x0C, direct reads through BAR2, errors, scrubbing, training,
rate changes, the retirement of ranks and the remap (R387 to R415). -/

namespace Sys2Proof.Machine

/-! ### Errors (R394 to R396) -/

/-- A corrected error of a rank, recorded at most once per rank per second (R394). -/
def correctedError (rank addr count : Nat) (s : State) : State :=
  recordLimited 0x0C01 rank psPerS [r1 rank, r8 addr]
    (updRank rank (fun x => { x with corrected := satInc 32 x.corrected count }) s)

def isActive (x : Rank) : Bool := decide (x.st = .active)

/-- Ranks in a state, ascending. -/
def State.ranksIn (s : State) (p : RankState → Bool) : List Nat := (List.range 48).filter fun k => p (s.rank k).st

def State.spares (s : State) : List Nat := s.ranksIn (· = .spare)
def State.failedRanks (s : State) : List Nat := s.ranksIn (· = .failed)
def State.removedRanks (s : State) : List Nat := s.ranksIn (· = .removed)

/-- User size after the failed ranks have gone (R409). -/
def State.sizeAfterRemap (s : State) : Nat := s.userSize - slotBytes * s.failedRanks.length

/-- No spare is left: the rank is marked failed and stays in service (R409). -/
def failRank (k : Nat) (s : State) : State :=
  let s := updRank k (fun x => { x with st := .failed }) s
  assertAlert (.rankFailed k) (record 0x0C09 [r1 k, r8 s.sizeAfterRemap] s)

/-- The slot that a rank holds. -/
def MemState.slotHeld (m : MemState) (k : Nat) : Option Nat := (List.range m.map.length).find? fun i => m.map.getD i 48 = k

/-- A rank migrates to the lowest-numbered spare, or fails (R405, R409). -/
def startRetirement (k : Nat) (s : State) : State :=
  match s.spares, s.mem.slotHeld k with
  | to_ :: _, some slot =>
    let s := updRank to_ (fun x => { x with st := .migratingIn }) (updRank k (fun x => { x with st := .migratingOut }) s)
    let s := { s with mem := { s.mem with migration := some { from_ := k, to_ := to_, slot := slot } } }
    assertAlert (.retire k) (record 0x0C07 [r1 k, r1 to_, r1 slot] s)
  | [], some _ => failRank k s
  | _, none => s

/-- A retirement is due; one rank migrates at a time, and not during a rate change (R403, R407).
DEDUCED (log entry 60). -/
def retireRank (k : Nat) (s : State) : State :=
  if s.mem.migration.isSome ∨ s.mem.change.isSome then
    { s with mem := { s.mem with due := if s.mem.due.contains k then s.mem.due else s.mem.due ++ [k] } }
  else startRetirement k s

/-- The retirements that wait: the oldest starts, and where no spare is left each of them fails its rank (R407). -/
def nextRetirement (s : State) : State := forAll s.mem.due retireRank { s with mem := { s.mem with due := [] } }

/-- The rank that an access to a user address reaches: the spare for what a migration has copied (R405). -/
def State.servingRank (s : State) (a : Nat) : Nat :=
  match s.mem.migration with
  | some m =>
    let off := a / 256 / s.mem.slots * 256 + a % 256
    if s.mem.slotOf a = m.slot ∧ off / 4096 < m.units then m.to_ else s.mem.rankOf a
  | none => s.mem.rankOf a

/-- A line is poisoned, and its rank is retired unless it is retiring or has failed already (R396). A line that was poisoned
before, as one that came with a migration, retires no rank (R405). DEDUCED (log entry 60). -/
def poisonLine (line requester : Nat) (s : State) : State :=
  let a := 64 * line
  let k := s.servingRank a
  let known := s.mem.poisoned.contains line
  let s := { s with mem := { s.mem with poisoned := insertNat line s.mem.poisoned } }
  let s := record 0x0C02 [r8 a, r1 k, r4 requester] (updRank k (fun x => { x with uncorrectable := satInc 32 x.uncorrectable }) s)
  match (s.rank k).st with
  | .active | .migratingIn => if known then s else retireRank k s
  | _ => s

/-- The requester as MEM_UNCORRECTABLE codes it, in the order of R396. DEDUCED (log entry 60). -/
def requesterCode : Requester → Nat
  | .bar2 => 0 | .engine _ => 1 | .drain _ => 2 | .partialWrite => 3 | .scrub => 4 | .migration => 5

/-- Values that an engine could not read are 0 in its block, with the gap flag and a count (R396). The count of the values in
the line is open. -/
def spoilBlock (n : Nat) (b : Block) : Block := { b with gap := true, lost := satInc 32 b.lost n }

/-- An engine's read fails for a job: its block in progress, or the result under way, is spoilt. -/
def spoilJob (job : Nat) (s : State) : State :=
  match s.job job with
  | none => s
  | some j =>
    let r := takeFree s
    let n := r.1 % 64 + 1
    match (s.engine j.engine).current with
    | some t =>
      if t.job = job then updEngine j.engine (fun x => { x with current := some { t with block := spoilBlock n t.block } }) r.2
      else updJob job (fun j => { j with result := spoilBlock n j.result }) r.2
    | none => updJob job (fun j => { j with result := spoilBlock n j.result }) r.2

/-- What a requester sees of an uncorrectable line (R396). -/
def answerRequester (r : Requester) (s : State) : State :=
  match r with
  | .engine job => spoilJob job s
  | .drain ph => reviewWaiting ph (dropPoisoned ph (match s.ph ph with | some p => p.entries.length | none => 0) s)
  | _ => s

/-- MEM_UNCORRECTABLE (R396): the re-read of a user-region line has failed too. -/
def execMemUncorrectable (at_ addr : Nat) (requester : Requester) (s : State) : Result :=
  let s := advance at_ s
  .next (
    if ¬ s.memServes ∨ s.userSize ≤ addr then s
    else answerRequester requester (poisonLine (addr / 64) (requesterCode requester) s))

/-- The command in progress fails: the request taken last of those that are not answered (R397). -/
def failCommand (s : State) : State :=
  let l := (List.range 32).filter fun n => (s.session n).st = .running ∧ (s.session n).submitted.isNone
  let latest : Option Nat := l.foldl (fun b n => match b with
    | none => some n
    | some m => if (s.session m).takenAt < (s.session n).takenAt then some n else some m) none
  match latest with
  | none => s
  | some n =>
    let x := s.session n
    reply { sess := n, gen := x.gen, opcode := x.lastOp, tag := x.lastTag.getD 0 } HW_FAULT [] s

/-- A descriptor is rebuilt: its entries are flushed, and its sequence goes on at the second multiple of 2^32 above the
latest checkpoint (R397). -/
def rebuildDescriptor (ph : Nat) (s : State) : State :=
  reviewWaiting ph (updPh ph (fun p => { p with
    flushed := satInc 32 p.flushed p.entries.length, entries := []
    nextSeq := p.nextSeq / 2 ^ 32 * 2 ^ 32 + 2 * 2 ^ 32 }) s)

/-- The records in a line of the event staging are lost: a copy that waits for its pigeonhole, where the line holds it.
DESIGN CHOICE (log entry 27). -/
def loseStaged (s : State) : State :=
  let r := takeFree s
  if r.1 % 2 = 0 ∨ ¬ r.2.evt.copyWaits then r.2
  else
    let s := r.2
    resumeWriter .copier { s with xfer := { s.xfer with phs := s.xfer.phs.map fun p =>
      (p.1, { p.2 with waiting := p.2.waiting.filter fun o => o.writer ≠ .copier }) } }

/-- An uncorrectable line in a privileged slice: regions in the order of R392 (R397). DEDUCED (log entry 60). -/
def privilegedError (region page ph : Nat) (s : State) : State :=
  let pages := s.mem.privileged.filter fun p => p ≠ (region, page)
  let s := { s with mem := { s.mem with privileged := (region, page) :: pages } }
  let s := record 0x0C03 [r4 region, r4 page] s
  match region with
  | 0 => failCommand s
  | 1 => rebuildDescriptor ph s
  | 2 => loseStaged s
  | _ => s

/-- MEM_PRIVILEGED_ERROR (R397). -/
def execMemPrivilegedError (at_ region page ph : Nat) (s : State) : Result :=
  let s := advance at_ s
  .next (if s.memServes then privilegedError region page ph s else s)

/-! ### Patrol scrub (R395) -/

/-- DEDUCED (log entry 60). -/
def linesPerRank : Nat := 2 ^ 26
def dataLines : Nat := slotBytes / 64
def checkLines : Nat := 240 * 1048576 / 64
def sliceLines : Nat := 15 * 1048576 / 64

/-- The user address of byte `off` of the slot's data area (R390). -/
def MemState.addressAt (m : MemState) (slot off : Nat) : Nat := (off / 256 * m.slots + slot) * 256 + off % 256

/-- The user line that line `l` of a rank holds, or whose check bits it holds; during a migration each line is held by the
rank that serves it (R405). -/
def State.userLine (s : State) (k l : Nat) : Option Nat :=
  let slot : Option Nat := match s.mem.migration with
    | some m => if m.to_ = k then some m.slot else s.mem.slotHeld k
    | none => s.mem.slotHeld k
  match slot with
  | none => none
  | some slot =>
    let off := if l < dataLines then 64 * l else 1024 * (l - dataLines)
    let a := s.mem.addressAt slot off
    if l < dataLines + checkLines ∧ s.servingRank a = k then some (a / 64) else none

/-- Line `l` of a rank lies in its privileged slice or the check bits of it. -/
def isSliceLine (l : Nat) : Bool :=
  decide (dataLines + checkLines ≤ l ∧ l < dataLines + checkLines + sliceLines + sliceLines / 16)

/-- The scrubber goes on to the next line of every rank in turn. -/
def nextScrub (s : State) : State :=
  let l := s.mem.scrubLine + 1
  if l < linesPerRank then { s with mem := { s.mem with scrubLine := l } }
  else { s with mem := { s.mem with scrubLine := 0, scrubRank := (s.mem.scrubRank + 1) % 48 } }

/-- An uncorrectable error that the scrub finds: in a spare it retires the spare; elsewhere it is a read error of the same
region. -/
def scrubError (k l : Nat) (s : State) : State :=
  if (s.rank k).st = .spare then
    assertAlert (.spare k) (record 0x0C08 [r4 1]
      (updRank k (fun x => { x with st := .retired, uncorrectable := satInc 32 x.uncorrectable }) s))
  else match s.userLine k l with
    | some u => poisonLine u 4 s
    | none =>
      let s := updRank k (fun x => { x with uncorrectable := satInc 32 x.uncorrectable }) s
      if isSliceLine l ∧ (isActive (s.rank k) ∨ (s.rank k).st = .failed) then
        let r := takeFree s
        let p := takeFree r.2
        let q := takeFree p.2
        privilegedError (r.1 % 4) (p.1 % 11040) (q.1 % 1048576) q.2
      else s

/-- PATROL_SCRUB (R395). -/
def execPatrolScrub (at_ : Nat) (outcome : ScrubOutcome) (s : State) : Result :=
  let s := advance at_ s
  .next (
    if ¬ s.memServes then s
    else
      let k := s.mem.scrubRank
      let l := s.mem.scrubLine
      nextScrub (match outcome with
        | .clean => s
        | .corrected => match s.userLine k l with
          | some u => correctedError k (64 * u) 1 s
          | none => let r := takeFree s; correctedError k (r.1 % 2 ^ 40) 1 r.2
        | .uncorrectable => scrubError k l s))

/-! ### BAR2 (R412, R413) -/

/-- How a read of BAR2 ends: bytes returned, and the status of the completion that ends it.
DESIGN CHOICE (log entry 59). -/
def State.bar2Outcome (s : State) (addr len : Nat) : Nat × Nat :=
  if ¬ s.memServes then (0, 1)
  else
    let inside := min len (s.userSize - addr)
    match (linesOf addr inside).find? fun k => s.mem.poisoned.contains k with
    | some k => (64 * k - addr, 2)
    | none => (inside, if inside < len then 1 else 0)

/-- BAR2_READ (R412): the data up to the first poisoned line or the end of the user region, then the completion that ends
the request. -/
def execBar2Read (at_ addr len : Nat) (corrected : List Nat) (s : State) : Result :=
  let s := advance at_ s
  .next (
    if ¬ s.pcie.linkUp ∨ 256 * 2 ^ 30 < addr + len then s
    else
      let r := s.bar2Outcome addr len
      let s := emit .bar2 [r.2] (s.memBytes addr r.1) s
      let s := if r.2 = 1 then emit .aer [3] [] s else if r.2 = 2 then emit .aer [1] [] s else s
      let s := if s.memServes then
          forAll (corrected.filter fun k => (linesOf addr r.1).contains k) (fun k s =>
            correctedError (s.servingRank (64 * k)) (64 * k) 1 s) s
        else s
      let t := takeFree s
      capture 0x2A (t.1 % 50001 : Nat) t.2)

/-- BAR2_WRITE (R412): discarded, and logged as an Unsupported Request. -/
def execBar2Write (at_ addr : Nat) (data : List Byte) (s : State) : Result :=
  let s := advance at_ s
  .next (if s.pcie.linkUp ∧ addr + data.length ≤ 256 * 2 ^ 30 then emit .aer [3] [] s else s)

/-! ### Refresh and training (R398 to R400) -/

def State.channel (s : State) (c : Nat) : Channel := s.mem.channels.getD c {}
def updChannel (c : Nat) (f : Channel → Channel) (s : State) : State :=
  { s with mem := { s.mem with channels := updAt s.mem.channels c f } }

/-- New per-bit delays and reference voltages come into force on a channel (R138), the latest trained at the rate (R403).
DESIGN CHOICE (log entry 27). -/
def tuneChannel (c : Nat) (s : State) : State :=
  let (d, s) := takeFree s
  let (v, s) := takeFree s
  updChannel c (fun x => { x with delays := d, refs := v, trained := insertKey s.mem.rate (d, v) x.trained }) s

/-- Every channel trains, as at start-up and at the exit from Standby; what it finds is open. -/
def trainAll (s : State) : State :=
  forEach 24 (fun c s =>
    let w := takeFree s
    let h := takeFree w.2
    updChannel c (fun x => { x with width := w.1 % 65536, height := h.1 % 65536, failed := 0 }) (tuneChannel c h.2)) s

/-- Refresh rate at a die temperature, in base rates (R398). -/
def refreshAt (t : Int) : Nat := if t ≤ 85 then 1 else if t ≤ 95 then 2 else 4

/-- The refresh rate of a channel: that of its hotter die. -/
def State.refreshRate (s : State) (c : Nat) : Nat := max (refreshAt (s.rank c).temp) (refreshAt (s.rank (c + 24)).temp)

/-- REFRESH (R398): one bank of a channel. -/
def execRefresh (at_ channel bank : Nat) (s : State) : Result :=
  let s := advance at_ s
  .next (
    if s.memServes then
      updChannel channel (fun x => { x with bank := bank, refreshed := s.time.ps, refreshRate := s.refreshRate channel }) s
    else s)

/-- The retraining steps run: memory serves, and no rate change is under way (R403). -/
def State.trains (s : State) : Bool := s.memServes && s.mem.change.isNone && s.mem.step.isNone

/-- A step begins on a channel, with 1 to 8 pauses. -/
def startStep (c : Nat) (s : State) : State :=
  let r := takeFree s
  { r.2 with mem := { r.2.mem with step := some { channel := c, wanted := r.1 % 8 + 1 } } }

/-- TRAINING_STEP (R399): the channels in turn. -/
def execTrainingStep (at_ : Nat) (s : State) : Result :=
  let s := advance at_ s
  .next (
    if ¬ s.trains then s
    else
      let c := s.mem.nextChannel
      startStep c { s with mem := { s.mem with nextChannel := (c + 1) % 24, extra := false } })

/-- EXTRA_TRAINING_STEP (R399): at most one between two regular starts. -/
def execExtraTrainingStep (at_ channel : Nat) (s : State) : Result :=
  let s := advance at_ s
  .next (
    if ¬ s.trains ∨ s.mem.extra ∨ 24 ≤ channel then s
    else startStep channel { s with mem := { s.mem with extra := true } })

/-- The timing set not in use takes the values of a rate: the latest trained at it, or the factory's (R403). -/
def Channel.load (c rate : Nat) (x : Channel) : Channel :=
  { x with shadow := (lookupKey rate x.trained).getD (Config.factoryTiming rate c) }

/-- The other timing set comes into use. -/
def Channel.swap (x : Channel) : Channel := { x with delays := x.shadow.1, refs := x.shadow.2, shadow := (x.delays, x.refs) }

/-- A rate change starts: the set not in use is loaded (R403). -/
def beginRate (rate : Nat) (w : Option Waiter) (deferred : Bool) (s : State) : State :=
  let s := forEach 24 (fun c s => updChannel c (Channel.load c rate) s) s
  updLoop 2 (fun x => { x with st := .gated }) { s with mem := { s.mem with change := some (rate, w, deferred) } }

def endStep (s : State) : State :=
  let s := { s with mem := { s.mem with step := none } }
  match s.mem.waits with
  | some (rate, w) => beginRate rate (some w) true { s with mem := { s.mem with waits := none } }
  | none => s

/-- The values that the step has measured come into force (R400). DEDUCED (log entry 60). -/
def completeStep (x : TrainStep) (width height : Nat) (temp : Int) (s : State) : State :=
  let s := updChannel x.channel (fun y => { y with width := width, height := height, failed := 0, temp := temp }) s
  endStep (tuneChannel x.channel s)

/-- The step is abandoned: the channel keeps its values (R400). DEDUCED (log entry 60). -/
def abandonStep (x : TrainStep) (s : State) : State :=
  let s := updChannel x.channel (fun y => { y with failed := satInc 8 y.failed }) s
  let y := s.channel x.channel
  endStep (record 0x0C04 [r1 x.channel, r2 y.width, r2 y.height] s)

/-- TRAINING_PAUSE (R400). -/
def execTrainingPause (at_ : Nat) (good : Bool) (width height : Nat) (temp : Int) (s : State) : Result :=
  let s := advance at_ s
  .next (match s.mem.step with
    | none => s
    | some x =>
      let s := updRank x.channel (fun r => { r with temp := temp }) (updRank (x.channel + 24) (fun r => { r with temp := temp }) s)
      let x := { x with pauses := x.pauses + 1 }
      if good then
        if x.wanted ≤ 1 ∨ 8 ≤ x.pauses then completeStep x width height temp s
        else { s with mem := { s.mem with step := some { x with wanted := x.wanted - 1, failures := 0
                                                                found := some (width, height), temp := temp } } }
      else if 2 ≤ x.failures ∨ 8 ≤ x.pauses then abandonStep x s
      else { s with mem := { s.mem with step := some { x with failures := x.failures + 1 } } })

/-! ### Rate changes (R401 to R403) -/

def ratePayload (s : State) (q : Request) : List Byte := u32 s.demand ++ u32 (s.share (q.u8 0))

def memSetRateCmd : Cmd :=
  { opcode := 0x0C01, classC := true, lengths := lenIs 40, failLen := 8, needsRun := true
    checks := fun _ q => [within 0 2 (q.u8 0), reserved q 1 7]
    reject := fun s q =>
      if s.mem.change.isSome ∨ s.mem.waits.isSome ∨ s.mem.migration.isSome then some (BUSY, zeros 8)
      else if s.share (q.u8 0) < s.demand then some (RESOURCE_EXHAUSTED, ratePayload s q)
      else none
    act := fun w q s =>
      if s.mem.rate = q.u8 0 then reply w OK (ratePayload s q) s
      else if s.mem.step.isSome then { s with mem := { s.mem with waits := some (q.u8 0, w) } }
      else beginRate (q.u8 0) (some w) false s }
def execMemSetRate (q : Request) (s : State) : Result := .next (runRequest memSetRateCmd q s)

/-- MEM_RATE_CHANGED (R403): traffic has resumed on the other set. -/
def execMemRateChanged (at_ : Nat) (s : State) : Result :=
  let s := advance at_ s
  .next (match s.mem.change with
    | none => s
    | some (rate, w, deferred) =>
      let payload := u32 s.demand ++ u32 (s.share rate)
      if (s.loop 2).st ≠ .gated then s
      else
      let s := releaseAlert (.loop 2) (updLoop 2 (fun x => { x with st := .locked, reported := false }) { s with mem := { s.mem with
        rate := rate, setB := ! s.mem.setB, change := none, channels := s.mem.channels.map Channel.swap } })
      let s := record 0x0C06 [] s
      nextRetirement (replyOpt w (if deferred then ACCEPTED_DEFERRED else OK) payload s))

/-- MEMORY_LOOP_LOCK_TIMEOUT (R403): HW_FAULT, and the module enters Halted. -/
def execMemoryLoopLockTimeout (at_ : Nat) (s : State) : Result :=
  let s := advance at_ s
  .next (match s.mem.change with
    | none => s
    | some _ => haltModule 2 0 (failMemory s))

/-! ### Retirement (R404 to R408) -/

def memRetireRankCmd : Cmd :=
  { opcode := 0x0C02, classC := true, lengths := lenIs 40, needsRun := true
    checks := fun _ q => [within 0 47 (q.u8 0), reserved q 1 7]
    reject := fun s q => firstRejection [
      rejectWhen s.spares.isEmpty RESOURCE_EXHAUSTED,
      rejectWhen ((s.rank (q.u8 0)).st ≠ .active) WRONG_STATE,
      rejectWhen (s.mem.migration.isSome ∨ s.mem.change.isSome ∨ s.mem.waits.isSome) BUSY]
    act := fun w q s => reply w OK [] (startRetirement (q.u8 0) s) }
def execMemRetireRank (q : Request) (s : State) : Result := .next (runRequest memRetireRankCmd q s)

/-- 4 KiB units of a rank. -/
def unitsPerRank : Nat := 2 ^ 20

/-- Uncorrectable lines of a unit are written poisoned: which of its lines they are is open.
DESIGN CHOICE (log entry 27). -/
def poisonUnit (slot unit count : Nat) (s : State) : State :=
  if slotBytes ≤ 4096 * unit then s
  else
    let lines := (List.range 64).map fun i => s.mem.addressAt slot (4096 * unit + 64 * i) / 64
    forEach (min 64 count) (fun _ s =>
      let rest := lines.filter fun l => ¬ s.mem.poisoned.contains l
      let r := takeFree s
      match rest[r.1 % max 1 rest.length]? with
      | some l => { r.2 with mem := { r.2.mem with poisoned := insertNat l r.2.mem.poisoned } }
      | none => r.2) s

/-- MIGRATION_UNIT_COPIED (R405): corrected lines are written corrected, uncorrectable ones poisoned and counted. -/
def execMigrationUnitCopied (at_ corrected poisoned : Nat) (s : State) : Result :=
  let s := advance at_ s
  .next (match s.mem.migration with
    | none => s
    | some m =>
      if ¬ s.memServes ∨ unitsPerRank ≤ m.units then s
      else
        let s := { s with mem := { s.mem with migration := some { m with
          units := m.units + 1, poisoned := m.poisoned + poisoned } } }
        let s := updRank m.from_ (fun x => { x with uncorrectable := satInc 32 x.uncorrectable poisoned }) s
        let s := poisonUnit m.slot m.units
          (poisoned - (s.mem.poisoned.filter fun l => decide (s.mem.slotOf (64 * l) = m.slot
            ∧ 64 * l / 256 / s.mem.slots * 256 / 4096 = m.units)).length) s
        let r := takeFree s
        let a := if 4096 * m.units < slotBytes then s.mem.addressAt m.slot (4096 * m.units) else r.1 % 2 ^ 40
        if corrected = 0 then s else correctedError m.from_ a corrected r.2)

/-- The spare holds the slot, and the old rank is retired (R406). -/
def finishMigration (m : Migration) (s : State) : State :=
  let s := updRank m.to_ (fun x => { x with st := .active }) (updRank m.from_ (fun x => { x with st := .retired }) s)
  { s with mem := { s.mem with map := s.mem.map.set m.slot m.to_, migration := none } }

/-- RANK_RETIRED (R406). -/
def execRankRetired (at_ : Nat) (s : State) : Result :=
  let s := advance at_ s
  .next (match s.mem.migration with
    | none => s
    | some m =>
      if m.units < unitsPerRank then s
      else nextRetirement (releaseAlert (.retire m.from_) (record 0x0C08 [] (finishMigration m s))))

/-! ### The remap (R409 to R411) -/

/-- A capture group's areas run past the end of the user region. -/
def SegConfig.past (size : Nat) (c : SegConfig) : Bool :=
  ! c.unset && (decide (size < c.tableBase + c.tableSize) || decide (size < c.dataBase + c.dataSize))

/-- Ranks that a remap would have removed in all (R411). -/
def State.removals (s : State) : Nat := s.failedRanks.length + s.removedRanks.length

/-- The rank map is rebuilt without the failed ranks, the contents go, and so do the areas past the new end (R410). A
migration that runs ends at once, since there is nothing left to copy.
DEDUCED (log entry 37). DEDUCED (log entry 60). -/
def remap (s : State) : State :=
  let old := s.userSize
  let failed := s.failedRanks
  let s := match s.mem.migration with
    | some m => releaseAlert (.retire m.from_) (finishMigration m s)
    | none => s
  let s := forAll failed (fun k s => releaseAlert (.rankFailed k) (updRank k (fun x => { x with st := .removed }) s)) s
  let s := { s with mem := { s.mem with
    map := s.ranksIn (· = .active), cells := [], poisoned := [], due := s.mem.due.filter fun k => ! failed.contains k } }
  let size := s.userSize
  let s := forEach 4 (fun g s => if (s.sg g).config.past size then updSg g (fun x => { x with config := {} }) s else s) s
  let past := (s.xfer.phs.filter fun p => size < p.2.base + p.2.size).map (·.1)
  let s := forAll past releasePh s
  record 0x0C0A [r8 old, r8 size] (noteAccumulators (fun a => a.config.kind = 0) s)

def memRemapCmd : Cmd :=
  { opcode := 0x0C03, classC := true, lengths := lenIs 40, needsRun := true
    checks := fun _ q => [reserved q 0 8]
    reject := fun s _ => firstRejection [
      rejectWhen (6 < s.removals) RESOURCE_EXHAUSTED,
      rejectWhen (s.failedRanks.isEmpty ∨ s.anyArmed ∨ (s.eng.jobs.any fun j => j.2.running)
        ∨ (s.xfer.rings.any fun r => r.2.st = .running) ∨ (s.xfer.streams.any fun x => x.2.enabled)
        ∨ s.ham.spill.isSome) WRONG_STATE]
    act := fun w _ s => reply w OK [] (remap s) }
def execMemRemap (q : Request) (s : State) : Result := .next (runRequest memRemapCmd q s)

/-! ### MEM_GET_STATUS (R415) -/

def RankState.code : RankState → Nat
  | .active => 0 | .spare => 1 | .migratingOut => 2 | .migratingIn => 3 | .retired => 4 | .failed => 5 | .removed => 6

/-- Lines of a rank that are poisoned now. -/
def State.poisonedLines (s : State) (k : Nat) : Nat := (s.mem.poisoned.filter fun l => s.servingRank (64 * l) = k).length

def rankRecord (s : State) (k : Nat) : List Byte :=
  let x := s.rank k
  u8 x.st.code ++ u8 ((s.mem.slotHeld k).getD 0xFF) ++ i8 x.temp ++ u8 0 ++ u32 x.corrected ++ u32 x.uncorrectable
    ++ u32 (s.poisonedLines k)

def memPayload (s : State) : List Byte :=
  let m := s.mem.migration
  u8 s.mem.rate ++ u8 s.mem.setB.toNat
    ++ u8 (ofBits [m.isSome, s.mem.waits.isSome || (match s.mem.change with | some (_, _, d) => d | none => false),
        s.mem.preserved, ! s.failedRanks.isEmpty, s.mem.ranks.any fun x => decide (85 < x.temp)])
    ++ u8 s.spares.length ++ u8 s.failedRanks.length ++ u8 s.mem.slots ++ zeros 2 ++ u64 s.userSize ++ u64 s.sizeAfterRemap
    ++ u32 (match m with | some m => m.units | none => 0) ++ u8 (match m with | some m => m.from_ | none => 0xFF)
    ++ u8 (match m with | some m => m.to_ | none => 0xFF) ++ zeros 2
    ++ (List.range 48).flatMap (rankRecord s)

def memGetStatusCmd : Cmd := readCmd 0x0C04 32 (fun _ _ => []) fun s _ => memPayload s
def execMemGetStatus (q : Request) (s : State) : Result := .next (runRequest memGetStatusCmd q s)

end Sys2Proof.Machine
end

