-- ==== Sys2Proof/Machine/ResetOps.lean ====
section
/-! DEFINITION. What each reset restarts and what it keeps (R536, R537, R541 to R543), and how a start begins (R544, R550). -/

namespace Sys2Proof.Machine

/-! ### Segment sequence numbers (R272) -/

/-- Numbers that a record gives for a group: CAPTURE_ARMED, CAPTURE_STOPPED and SEQ_CHECKPOINT. -/
def recordedSeqs (g : Nat) (r : Record) : List Nat :=
  if field r.body 0 1 ≠ g then []
  else match r.type with
    | 0x0701 => [field r.body 16 8]
    | 0x0702 => [field r.body 16 8, field r.body 24 8, field r.body 40 8]
    | 0x0703 => [field r.body 8 8]
    | _ => []

/-- Where a group's numbering resumes once the logic die no longer holds it. DEDUCED (log entry 38). -/
def EventState.resumeSeq (g : Nat) (e : EventState) : Nat :=
  if e.boots = 0 then 0
  else match e.held.flatMap (recordedSeqs g) with
    | [] => 2 ^ 33
    | q :: qs => ((qs.foldl max q) / 2 ^ 32 + 2) * 2 ^ 32

/-! ### Parts that a reset returns to their defaults -/

/-- MARK0 to MARK3 are low (R537). -/
def lowerMarkers (s : State) : State :=
  forEach 4 (fun m s => followClock m (driveMarker m false (updMarker m (fun x => { x with mode := 0 }) s))) s

/-- Every session is Closed, without a record (R417, R550). -/
def dropSessions (s : State) : State := forEach 32 dropSession { s with turn := none }

/-! Counts that run since power-on reset go on over every other reset (R108, R155, R189, R230, R264, R328, R356). -/

/-- Losses and coasting time of the four loops. -/
def ClockState.tallies (x : ClockState) : List Loop :=
  (List.range 4).map fun l =>
    let y := x.loops.getD l {}
    { losses := y.losses, coastPs := y.coastPs }

def InputCal.tally (x : InputCal) : InputCal := { passes := x.passes }
def FilterInput.tally (x : FilterInput) : FilterInput := { saturations := x.saturations }
def TrigMachine.tally (x : TrigMachine) : TrigMachine :=
  { trigin := x.trigin, triginSeen := x.trigin, messages := x.messages, crcErrors := x.crcErrors }
def DamuxPort.tally (x : DamuxPort) : DamuxPort :=
  { crcErrors := x.crcErrors, otherDiscards := x.otherDiscards, letterboxDiscards := x.letterboxDiscards }
def Engine.tally (x : Engine) : Engine := { late := x.late, aborts := x.aborts }

/-- The oven runs in the always-on domain; its fault and the heater's switch follow the calibration values (R80, R541). -/
def ClockState.restart (x : ClockState) : ClockState :=
  { vaux := x.vaux, voven := x.voven, ovenReady := x.ovenReady, ovenTimeout := x.ovenTimeout, island := x.island
    heaterPower := x.heaterPower, refin := if x.refin100 then x.refin.map (remeasured true) else x.refin
    refinPresent := x.refinPresent && ! x.refin100, syncin := x.syncin, syncinPresent := x.syncinPresent
    loops := x.tallies, outputs := resetOutputs }

/-- The capture groups at their defaults, each with the number at which it resumes. DEDUCED (log entry 38). -/
def resumedGroups (s : State) : List SegGroup :=
  (List.range 4).map fun g => { nextSeq := s.evt.resumeSeq g, captures := (s.seg.getD g {}).captures }

/-- VCORE control starts again under the protected mode, and stays lost where it was (R63, R64, R66).
DESIGN CHOICE (log entry 50). -/
def PowerState.restart (x : PowerState) : PowerState :=
  { mode := x.mode, regulator := x.regulator, fixed := x.fixed, commanded := x.commanded, sensed := x.sensed
    iout := x.iout, vout := x.vout, vstatus := x.vstatus, steps := x.steps, tj := x.tj, lost := x.lost }

/-- Keys, the protected set, the network settings and the image in the boot store stay. DEDUCED (log entry 36). -/
def ProtectState.restart (x : ProtectState) : ProtectState :=
  { keys := x.keys, added := x.added, net := x.net, image := x.image }

/-- A module that has a role is joining, and the role's settings stay. DEDUCED (log entry 39). -/
def SyncState.restart (ps : Nat) (x : SyncState) : SyncState :=
  { id := x.id, role := x.role, members := x.members, lock := x.lock, st := if x.role = 0 then 0 else 1
    lastFrame := if x.role = 1 then some ps else none }

/-- The PCIe link goes down: what the function held is lost, the protected setting stays (R371).
PRESUMED (log entry 20). -/
def PcieState.restart (x : PcieState) : PcieState :=
  { perst := x.perst, clocking := x.clocking, clockingSet := x.clockingSet }

/-- Self-refresh: the staging buffer's data are discarded, and a migration goes on from the latest recorded 64 MiB (R408,
R414). The data rate returns to code 0. -/
def MemState.restart (x : MemState) : MemState :=
  { x with selfRefresh := true, step := none, change := none, waits := none, rate := 0, setB := false
           nextChannel := 0, extra := false, scrubRank := 0, scrubLine := 0
           migration := x.migration.map fun m => { m with units := m.units / 16384 * 16384 } }

/-- What is staged for the store is lost. -/
def EventState.drop (e : EventState) : EventState :=
  { e with fifo := [], opening := [], loss := none, lowSince := none, carrying := false, clears := [], copyTo := none
           copyWaits := false, limits := [] }

/-- The module in reset: the dies, the loops, the control processor and the firmware hold their defaults, and what R541
keeps is kept. DEDUCED (log entry 35). DEDUCED (log entry 36). -/
def coldState (s : State) : State :=
  let s := dropSessions (lowerMarkers s)
  { s with
    time := { ps := s.time.ps }, clk := s.clk.restart, pwr := s.pwr.restart, pcie := s.pcie.restart
    evt := s.evt.drop, prot := s.prot.restart, inp := {}, cal := { inputs := s.cal.inputs.map InputCal.tally }
    flt := { inputs := s.flt.inputs.map FilterInput.tally, coefs := s.flt.coefs }, trg := s.trg.tally, seg := resumedGroups s, edge := {}, aux := {}
    mem := s.mem.restart, xfer := {}, ham := {}, dmx := { ports := s.dmx.ports.map DamuxPort.tally }
    eng := { engines := s.eng.engines.map Engine.tally }
    sync := s.sync.restart s.time.ps }

/-- The boot states' own part at the fall of nRESET. -/
def BootState.inReset (cause : Nat) (x : BootState) : BootState :=
  { st := 0, cause := cause, memHeld := x.memHeld, powerGood := x.powerGood, straps := x.straps, nresetLow := true
    pinLow := x.pinLow, control := x.control, initMemory := x.initMemory, armedBefore := x.armedBefore
    epochBefore := x.epochBefore, since := x.since }

/-! ### Firmware and watchdog restarts -/

/-- Inputs whose enable or pair state a return to the defaults changes, those whose calibration of R119 is still owed, and
those whose calibration the restart cuts short. -/
def State.owedInputs (s : State) : List Nat :=
  (List.range 8).filter fun n =>
    ! (s.input n).enabled || s.paired (n / 2) || s.boot.owedCal.contains n
      || s.cal.foregrounds.any fun f => decide (f.kind = .enable) && f.inputs.contains n

/-- An input after a restart: its seam counts follow the calibration values, and too few good cores still stop it. -/
def Input.restart (x : Input) : Input :=
  { x with enabled := true, letterbox := [], seam := none
           retry := false, overdrives := [], overranged := false }

def InputCal.restart (x : InputCal) : InputCal := { x with pass := none, continuous := false }

/-- Calibration values stay; the schedule returns to its defaults, and what ran is cut short. -/
def CalState.restart (x : CalState) : CalState :=
  { generation := x.generation, done := x.done, alignment := x.alignment, inputs := x.inputs.map InputCal.restart }

/-- The grid of the outputs stays, and the loaded coefficients (R176). -/
def FilterState.restart (x : FilterState) : FilterState :=
  { anchor := x.anchor, startup := x.startup, coefs := x.coefs
    inputs := x.inputs.map fun y => { y.tally with anchor := y.anchor, next := y.next, kBase := y.kBase } }

def EdgeState.restart (x : EdgeState) : EdgeState :=
  { sources := x.sources.map fun y => { interps := y.interps, turn := y.turn } }

/-- The logic die holds a group's numbers (R272). -/
def SegGroup.restart (x : SegGroup) : SegGroup :=
  { nextSeq := x.nextSeq, lastWritten := x.lastWritten, captures := x.captures }

/-- Supervision of the rails goes on. -/
def AuxState.supervise (x : AuxState) : AuxState :=
  { nextSource := x.nextSource, monitors := x.monitors, railOut := x.railOut, railIn := x.railIn, railBad := x.railBad
    monitorFault := x.monitorFault, monitorGood := x.monitorGood }

/-- Memory runs on; the requests that waited for it are gone. DEDUCED (log entry 33). -/
def MemState.runOn (x : MemState) : MemState := { x with step := none, change := none, waits := none }

/-- Wall time and the epoch run on, undisciplined (R542). -/
def TimeState.runOn (x : TimeState) : TimeState :=
  { x with source := 0, port := 0, steer := 0, slew := 0, nextSecond := none, pps := [], ppsLost := false }

/-- The loops run on; who waited for them is gone. -/
def ClockState.runOn (x : ClockState) : ClockState :=
  { x with change := x.change.map fun c => { c with waiter := none }, step := none }

/-- VCORE control and supervision go on; the floor returns to its default, and the lanes' windows start again. -/
def PowerState.runOn (x : PowerState) : PowerState :=
  { x with floor := 1100, lanes := List.replicate 9 {}, quiet := 0, history := [], fault := false, halting := 0 }

/-- Delay and offset of a member stay (R541). -/
def SyncState.runOn (ps : Nat) (x : SyncState) : SyncState :=
  { x.restart ps with delayPs := x.delayPs, delta := x.delta, calibrated := x.calibrated, stepped := x.stepped }

/-- Sources of ALERTn that a restart ends. -/
def endsAtRestart : AlertSource → Bool
  | .margin _ | .damuxFault _ | .damuxHead _ | .damuxBreak _ | .hostRing _ | .syncLost | .recordsLost => true
  | _ => false

/-- The boot states' own part at the t+0 of a firmware or watchdog restart. -/
def BootState.runOn (cause : Nat) (owed : List Nat) (x : BootState) : BootState :=
  { x with cause := cause, memReady := false, downing := none, deepAfter := none, transition := none, queued := []
           wakeQueued := false, haltCause := 0, subsystem := none, owedCal := owed }

/-- A firmware or watchdog restart: the control processor and the firmware start again, and the loops, memory and what the
dies hold of the calibration run on. DEDUCED (log entry 33). DEDUCED (log entry 36). -/
def warmState (cause : Nat) (s : State) : State :=
  let s := lowerMarkers (convertersDown (dropSessions (flushFifo s)))
  let frame := s.nextBoundary
  let boot := { s.boot with armedBefore := s.armedMap, epochBefore := s.time.epoch }
  let s := releaseAlerts endsAtRestart { s with
    time := s.time.runOn, clk := s.clk.runOn, boot := boot.runOn cause s.owedInputs, pwr := s.pwr.runOn, evt := s.evt.drop
    prot := s.prot.restart, inp := { s.inp with inputs := s.inp.inputs.map Input.restart, pairs := List.replicate 4 false }
    cal := s.cal.restart, flt := s.flt.restart
    trg := { s.trg.tally with horizon := 128 * frame, tokenFrame := frame }
    seg := s.seg.map SegGroup.restart, edge := s.edge.restart, aux := s.aux.supervise, mem := s.mem.runOn
    xfer := { links := s.xfer.links.map fun l => { l with pausedSince := none, served := none } }, ham := {}
    dmx := { ports := s.dmx.ports.map DamuxPort.tally, anchorHead := s.dmx.anchorHead, anchorTick := s.dmx.anchorTick
             anchorCore := s.dmx.anchorCore, lanes := s.dmx.lanes }
    eng := { engines := s.eng.engines.map fun x => { x.tally with faulty := x.faulty } }
    sync := s.sync.runOn s.time.ps }
  updLoop 2 (fun x => if x.st = .gated ∧ ¬ s.boot.initMemory then { x with st := .locked } else x) (setBootState 0 s)

/-! ### How a start begins (R542, R550) -/

/-- The time keeper starts behind the newest record of the store, without a source. -/
def startTime (s : State) : State :=
  { s with time := match s.evt.newest with
      | none => { s.time with tai := 0, epoch := 0, source := 0, port := 0 }
      | some r => { s.time with tai := (r.time + 1) * 10 ^ 12, epoch := (r.epoch + 1) % 65536, source := 0, port := 0 } }

/-- The body of MODULE_STARTED. DEDUCED (log entry 34). DEDUCED (log entry 38). -/
def startedBody (warm : Bool) (s : State) : List Byte :=
  let last := s.seg.map fun x => r8 (if warm then x.lastWritten else 0xFFFFFFFFFFFFFFFF)
  bodyOf ([r1 s.boot.cause, r1 (ofBits [s.boot.cfgDefaulted, s.boot.memPreserved, warm && s.cal.done]), r4 fwMajor,
    r4 s.fwMinor, r2 s.boot.epochBefore, r2 s.time.epoch, r1 s.boot.armedBefore] ++ last)

/-- The flags of R543, and the records that open the start; an image that a commit has left takes control.
DEDUCED (log entry 38). -/
def openStart (warm : Bool) (s : State) : State :=
  let kept := ! s.boot.initMemory
  let image := match s.prot.image with
    | some x => some x.2
    | none => s.boot.control
  let s := { s with
    boot := { s.boot with cfgDefaulted := true, memPreserved := kept, control := image, since := s.time.ps
                          durations := [0, 0, 0, 0] }
    mem := { s.mem with preserved := kept }, evt := s.evt.restart }
  let s := openGap s
  openRecord 0x0040 (startedBody warm s) s

/-- t+0 of a start after a power-on reset, a pin reset or deep standby: the system and link loops take their initial lock,
and head time starts. Only a pin reset with the memory rails held keeps what memory holds. DEDUCED (log entry 34). -/
def coldStart (s : State) : State :=
  let s := if s.boot.cause = 1 ∧ s.boot.memHeld then s else loseMemory s
  let s := { s with boot := { s.boot with nresetLow := false }, time := { s.time with headZero := s.time.ps } }
  let lock (x : Loop) : Loop := { x with st := .locked }
  let s := updLoop 3 lock (updLoop 1 lock s)
  openStart false (startTime s)

/-- t+0 of a firmware (2) or watchdog (3) restart. DEDUCED (log entry 34). -/
def warmStart (cause : Nat) (s : State) : State := openStart true (warmState cause s)

/-- The module enters reset (R537): cause 4 where it leaves a deep standby that was commanded.
DEDUCED (log entry 35). -/
def enterReset (s : State) : State :=
  let deep : Bool := decide (s.boot.st = 8)
  let cause := if deep ∧ ¬ s.boot.powerDown then 4 else 1
  let boot := { s.boot with armedBefore := s.armedMap, epochBefore := s.time.epoch
                            memHeld := if deep then s.boot.memHeld else true }
  coldState { s with boot := boot.inReset cause }

end Sys2Proof.Machine
end

