-- ==== Sys2Proof/Machine/Supplies.lean ====
section
/-! DEFINITION. Fabric margin, VCORE control and the junction temperature, and the commands of group 0x00 that read or set
them (R33 to R40, R62 to R66, R77, R432, R444, R451 to R455). -/

namespace Sys2Proof.Machine

/-! ### Margin (R33 to R37, R40) -/

/-- Demand of a lane, in the units of R35. -/
def State.demandOf (s : State) (n : Nat) : Nat :=
  if n < 8 then s.laneDemand n else 1250 * (s.dmx.ports.filter fun x => x.st = .running).length

/-- Capacity ÷ demand in thousandths, rounded down (R35). DESIGN CHOICE (log entry 50). -/
def marginOf (capacity demand : Nat) : Nat := if demand = 0 then 0xFFFF else min 0xFFFE (capacity * 1000 / demand)

/-- The safe core rate in MHz (R40). -/
def State.safeRate (s : State) : Nat :=
  let c := (s.pwr.lanes.take 8).map LaneMargin.capacity
  min 12800 (32 * (c.foldl min (c.headD 0) * 1000) * 1000 / s.pwr.floor / 10000000 * 10)

/-- A lane record (R35). -/
def laneRecord (s : State) (x : SinceRead) (n : Nat) : List Byte :=
  let y := s.lane n
  u32 y.capacity ++ u32 (s.demandOf n) ++ u16 (marginOf y.capacity (s.demandOf n)) ++ u16 (x.minMargin.getD n 0xFFFF)
    ++ u16 (x.peak.getD n 0)
    ++ u8 (ofBits [x.overflow.getD n false, y.below, decide (n < 8) && ! s.enabled n]) ++ u8 0

def sysGetFabricCmd : Cmd :=
  readClearCmd 0x0004 32 (fun _ _ => [])
    (fun s q => (List.range 9).flatMap (laneRecord s (s.session q.sess).since) ++ u32 s.safeRate ++ u16 s.pwr.floor ++ zeros 2)
    fun q s => updSession q.sess (fun x => { x with since := { x.since with
      minMargin := List.replicate 9 0xFFFF, peak := s.occupancies, overflow := List.replicate 9 false } }) s
def execSysGetFabric (q : Request) (s : State) : Result := .next (runRequest sysGetFabricCmd q s)

def sysSetMarginFloorCmd : Cmd :=
  setCmd 0x0005 40 (fun _ q => [within 1020 2000 (q.u16 0), reserved q 2 6]) (fun _ _ => none)
    (fun q s => { s with pwr := { s.pwr with floor := q.u16 0 } })
def execSysSetMarginFloor (q : Request) (s : State) : Result := .next (runRequest sysSetMarginFloorCmd q s)

/-- The body of FABRIC_MARGIN_LOW and FABRIC_MARGIN_OK (R568). -/
def marginBody (s : State) (n margin capacity : Nat) : List Byte :=
  u8 n ++ u8 0 ++ u16 margin ++ u32 capacity ++ u16 s.pwr.sensed ++ i16 s.pwr.tj ++ u32 0

/-- A lane below the floor is reported once, until ten windows in a row lie 10 thousandths above it (R37). -/
def reportMargin (n margin capacity : Nat) (below : Bool) (s : State) : State :=
  let y := s.lane n
  if below then
    let s := updLane n (fun y => { y with lowOpen := true, okCount := 0 }) s
    if y.lowOpen then s else stageBody 0x0005 (marginBody s n margin capacity) (assertAlert (.margin n) s)
  else if ¬ y.lowOpen then s
  else if margin < s.pwr.floor + 10 then updLane n (fun y => { y with okCount := 0 }) s
  else if y.okCount < 9 then updLane n (fun y => { y with okCount := y.okCount + 1 }) s
  else
    releaseAlert (.margin n) (stageBody 0x0006 (marginBody s n margin capacity)
      (updLane n (fun y => { y with lowOpen := false, okCount := 0 }) s))

/-- A window of one lane closes. DESIGN CHOICE (log entry 50). -/
def closeWindow (n capacity : Nat) (s : State) : State :=
  let demand := s.demandOf n
  let margin := marginOf capacity demand
  let below := decide (demand ≠ 0 ∧ margin < s.pwr.floor)
  let s := if n < 8 then capture (0x40 + n) (s.lane n).peak s else s
  let s := updLane n (fun y => { y with capacity := capacity, margin := margin, below := below, peak := s.occupancies.getD n 0 }) s
  let s := if demand = 0 then s
    else updSince (fun z => { z with minMargin := z.minMargin.set n (min (z.minMargin.getD n 0xFFFF) margin) }) s
  reportMargin n margin capacity below (capture (0x30 + n) margin s)

/-! ### VCORE (R62 to R66) -/

/-- Codes of the four PMBus commands that the module uses. PRESUMED (log entry 51). -/
def VOUT_COMMAND : Nat := 0x21
/-- PRESUMED (log entry 51). -/
def STATUS_WORD : Nat := 0x79
/-- PRESUMED (log entry 51). -/
def READ_VOUT : Nat := 0x8B
/-- PRESUMED (log entry 51). -/
def READ_IOUT : Nat := 0x8C

/-- The module drives VR_SCL and VR_SDA (R63, R66). -/
def PowerState.drives (x : PowerState) : Bool := decide (x.mode ≠ 2) && ! x.lost

/-- A transaction goes out to the regulator. -/
def putPmbus (x : Nat × Nat) (s : State) : State := emit .pmbus [s.pwr.regulator, x.1, x.2] [] s

/-- Send a transaction to the regulator, behind those that have not been answered. -/
def sendPmbus (code value : Nat) (s : State) : State :=
  if s.pwr.drives then
    let s' := { s with pwr := { s.pwr with pmbus := s.pwr.pmbus ++ [(code, value)] } }
    if s.pwr.pmbus.isEmpty then putPmbus (code, value) s' else s'
  else s

/-- Command VCORE; a new value is a step. DESIGN CHOICE (log entry 50). -/
def commandVcore (mv : Nat) (s : State) : State :=
  sendPmbus VOUT_COMMAND mv { s with pwr := { s.pwr with
    commanded := mv, steps := if s.pwr.commanded = mv then s.pwr.steps else satInc 32 s.pwr.steps } }

/-- The module reads the regulator: its status, its voltage and its current. -/
def pollVcore (s : State) : State :=
  if s.pwr.pmbus.isEmpty then sendPmbus READ_IOUT 0 (sendPmbus READ_VOUT 0 (sendPmbus STATUS_WORD 0 s)) else s

/-- Capacities measured in the last 10 s at a VCORE, at a temperature that R38 admits. -/
def State.measuredAt (s : State) (mv : Nat) : List (List Nat) :=
  (s.pwr.history.filter fun h => h.2.1 = mv ∧ s.pwr.tj - 256 ≤ h.2.2.1).map (·.2.2.2)

/-- The next step down would keep every enabled lane at the floor, as far as it has been measured (R38). -/
def State.stepDownAllowed (s : State) (mv : Nat) : Bool :=
  (s.measuredAt mv).all fun caps => (List.range 9).all fun n =>
    s.demandOf n = 0 || decide (s.pwr.floor ≤ marginOf (caps.getD n 0) (s.demandOf n))

/-- The adaptive controller evaluates once per window (R64). DESIGN CHOICE (log entry 50). -/
def adaptVcore (s : State) : State :=
  if ¬ s.pwr.adaptive ∨ s.pwr.mode ≠ 0 ∨ s.pwr.lost then s
  else if s.pwr.lanes.any LaneMargin.below then
    let s := { s with pwr := { s.pwr with quiet := 0 } }
    if 790 ≤ s.pwr.commanded then s else commandVcore (s.pwr.commanded + 5) s
  else
    let s := { s with pwr := { s.pwr with quiet := s.pwr.quiet + 1 } }
    let mv := s.pwr.commanded - 5
    if s.pwr.quiet < 100 ∨ mv < 730 ∨ ¬ s.stepDownAllowed mv then s else commandVcore mv s

/-- The window enters the measurements of the last 10 s. -/
def noteWindow (caps : List Nat) (s : State) : State :=
  let keep := s.pwr.history.filter fun h => s.time.ps < h.1 + 10 * psPerS
  { s with pwr := { s.pwr with history := (s.time.ps, s.pwr.commanded, s.pwr.tj, caps) :: keep } }

/-- Lanes run: in the start-up calibration, in Idle and in Capture (R530). -/
def State.lanesRun (s : State) : Bool := s.awake && s.boot.downing.isNone && decide (s.boot.st = 3 ∨ s.boot.st = 4)

def execMarginWindow (at_ : Nat) (caps : List Nat) (sensed : Nat) (s : State) : Result :=
  let s := advance at_ s
  let s := { s with pwr := { s.pwr with sensed := sensed } }
  .next (
    if ¬ s.lanesRun then s
    else
      let s := forEach 9 (fun n => closeWindow n (caps.getD n 0)) s
      pollVcore (adaptVcore (noteWindow caps s)))

/-- A transaction that fails ends VCORE control (R66). -/
def loseVcore (code : Nat) (s : State) : State :=
  record 0x0009 [r4 code, r2 s.pwr.commanded, r2 s.pwr.sensed]
    (assertAlert .vcore { s with pwr := { s.pwr with lost := true, pmbus := [] } })

/-- A read transaction returns its value (R62, R454). -/
def PowerState.take (code value : Nat) (x : PowerState) : PowerState :=
  if code = READ_IOUT then { x with iout := value }
  else if code = READ_VOUT then { x with vout := value }
  else if code = STATUS_WORD then { x with vstatus := value }
  else x

/-- The transaction on the bus ends; `fault`: STATUS_WORD reports one (R66). The next that waits goes out. -/
def execPmbusTransaction (at_ : Nat) (acked fault : Bool) (value : Nat) (s : State) : Result :=
  let s := advance at_ s
  .next (match s.pwr.pmbus with
    | [] => s
    | (code, _) :: rest =>
      let s := { s with pwr := { s.pwr with pmbus := rest } }
      if ¬ s.pwr.drives ∨ ¬ s.awake then s
      else if ¬ acked ∨ (code = STATUS_WORD ∧ fault) then loseVcore code s
      else
        let s := { s with pwr := s.pwr.take code value }
        match rest with
        | [] => s
        | x :: _ => putPmbus x s)

/-- VCORE control begins once the start-up calibration has ended (R64). DESIGN CHOICE (log entry 50). -/
def startVcore (s : State) : State :=
  let s := { s with pwr := { s.pwr with adaptive := true, quiet := 0 } }
  if s.pwr.mode = 1 ∧ ¬ s.pwr.lost then commandVcore s.pwr.fixed s else s

/-- DEDUCED (log entry 25). -/
def sysSetVcoreModeCmd : Cmd :=
  setCmd 0x0006 40
    (fun _ q => [within 0 2 (q.u8 0), if q.u8 0 = 2 then reserved q 1 1 else within 0x08 0x77 (q.u8 1),
      if q.u8 0 = 1 then allowed (730 ≤ q.u16 2 ∧ q.u16 2 ≤ 790 ∧ q.u16 2 % 5 = 0) else reserved q 2 2, reserved q 4 4])
    (fun _ _ => none)
    (fun q s =>
      let p := s.pwr
      let s := releaseAlert .vcore { s with pwr := { p with
        mode := q.u8 0, lost := false, quiet := 0, pmbus := if q.u8 0 = 2 then [] else p.pmbus.take 1
        regulator := if q.u8 0 = 2 then p.regulator else q.u8 1
        fixed := if q.u8 0 = 1 then q.u16 2 else p.fixed } }
      if q.u8 0 = 1 then commandVcore (q.u16 2) s else s)
def execSysSetVcoreMode (q : Request) (s : State) : Result := .next (runRequest sysSetVcoreModeCmd q s)

/-- The reply of SYS_GET_POWER (R454). -/
def powerBytes (s : State) : List Byte :=
  let x := s.pwr
  u8 x.mode ++ u8 x.lost.toNat ++ u16 (if x.mode = 2 then 0 else x.commanded) ++ u16 x.sensed ++ zeros 2
    ++ u32 (if x.mode = 2 then 0 else x.iout) ++ u32 x.steps ++ i16 x.tj ++ zeros 6

def sysGetPowerCmd : Cmd := readCmd 0x0007 32 (fun _ _ => []) (fun s _ => powerBytes s)
def execSysGetPower (q : Request) (s : State) : Result := .next (runRequest sysGetPowerCmd q s)

/-! ### The junction temperature (R77) -/

/-- TJ_HIGH from 100 °C, TJ_OK below 97 °C. -/
def judgeTj (s : State) : State :=
  if 100 * 256 ≤ s.pwr.tj ∧ ¬ s.pwr.hot then
    record 0x000B [] (assertAlert .tj { s with pwr := { s.pwr with hot := true } })
  else if s.pwr.tj < 97 * 256 ∧ s.pwr.hot then
    releaseAlert .tj (record 0x000C [] { s with pwr := { s.pwr with hot := false } })
  else s

/-- Ten readings in a row at or above 115 °C halt the module. -/
def judgeHalt (s : State) : State :=
  if s.pwr.tj < 115 * 256 ∨ s.boot.st = 6 then { s with pwr := { s.pwr with halting := 0 } }
  else if s.pwr.halting < 9 then { s with pwr := { s.pwr with halting := s.pwr.halting + 1 } }
  else haltModule 1 s.pwr.tj (record 0x000D [] { s with pwr := { s.pwr with fault := true } })

def execTjReading (at_ : Nat) (tj : Int) (s : State) : Result :=
  let s := advance at_ s
  .next (if ¬ s.awake ∨ s.boot.downing.isSome then s
    else judgeHalt (judgeTj { s with pwr := { s.pwr with tj := tj } }))

/-! ### Identity, flags, network (R432, R444, R451, R455) -/

/-- The reply of SYS_GET_IDENTITY; in state 7 the boot firmware is in control (R431, R451).
DESIGN CHOICE (log entry 28). -/
def identityBytes (s : State) : List Byte :=
  let boot : Bool := decide (s.boot.st = 7)
  let bootVersion := u8 Config.bootMajor.toNat ++ u8 Config.bootMinor.toNat ++ u16 Config.bootPatch.toNat
  u64 Config.serial.toNat ++ u16 Config.part.toNat
    ++ (if boot then bootVersion else u8 fwMajor ++ u8 s.fwMinor ++ u16 s.fwPatch) ++ u8 boot.toNat ++ u8 0 ++ bootVersion
    ++ u32 pmsId ++ u16 s.sync.id ++ zeros 6
    ++ toLen 32 (if boot then Config.bootDigest.toList else s.imageDigest)

def sysGetIdentityCmd : Cmd := readCmd 0x0003 32 (fun _ _ => []) (fun s _ => identityBytes s)
def execSysGetIdentity (q : Request) (s : State) : Result := .next (runRequest sysGetIdentityCmd q s)

/-- Clear CFG_DEFAULTED and MEM_PRESERVED. -/
def clearFlags (cfg mem : Bool) (s : State) : State :=
  { s with boot := { s.boot with cfgDefaulted := s.boot.cfgDefaulted && ! cfg, memPreserved := s.boot.memPreserved && ! mem } }

def sysClearFlagsCmd : Cmd :=
  setCmd 0x0009 40 (fun _ q => [reservedBits q 0 2, reserved q 1 7]) (fun _ _ => none)
    (fun q s => clearFlags (q.bit 0 0) (q.bit 0 1) s)
def execSysClearFlags (q : Request) (s : State) : Result := .next (runRequest sysClearFlagsCmd q s)

/-- PRESUMED (log entry 30). -/
def sysSetNetworkCmd : Cmd :=
  { opcode := 0x0008, classC := true, lengths := lenIs 64
    checks := fun _ q => [within 0 1 (q.u8 0), counted 32 (q.u8 1), reserved q 2 2, within 1024 65535 (q.u16 12),
      firstFailure [notZero (q.u16 14), within 10 3600 (q.u16 14)], allowed (! q.bit 16 0), reserved q 22 10]
    reject := fun _ _ => none
    act := fun w q s =>
      let p : NetPort :=
        { mac := ofBe (q.bytes 16 6), ip := ofBe (q.bytes 4 4), prefixLen := q.u8 1, gateway := ofBe (q.bytes 8 4)
          udp := q.u16 12, timeout := q.u16 14 }
      let s := reply w OK [] s
      { s with prot := { s.prot with net := updAt s.prot.net (q.u8 0) fun _ => p } } }
def execSysSetNetwork (q : Request) (s : State) : Result := .next (runRequest sysSetNetworkCmd q s)

end Sys2Proof.Machine
end

