-- ==== Sys2Proof/Machine/Boot.lean ====
section
/-! DEFINITION. Resets, start-up, the watchdog and power-down (R69, R70, R534 to R550). -/

namespace Sys2Proof.Machine

/-! ### Resets and the supplies (R69, R70, R536, R537) -/

/-- PIN_RESET: nRESET has been low for 2 µs. -/
def execPinReset (at_ : Nat) (s : State) : Result :=
  let s := advance at_ s
  let low := { s with boot := { s.boot with pinLow := true } }
  .next (settleExtest s.jtag.latches (if s.boot.off ∨ s.boot.nresetLow then low else enterReset low))

/-- NRESET_RISE: the land goes high; the start runs once nPOWERGOOD is low too. -/
def execNresetRise (at_ : Nat) (straps : Nat) (memHeld : Bool) (s : State) : Result :=
  let s := advance at_ s
  .next (
    if s.boot.off ∨ ¬ (s.boot.nresetLow ∨ s.boot.st = 8) then s
    else
      let s := if s.boot.st = 8 then enterReset s else s
      let s := { s with boot := { s.boot with pinLow := false, straps := straps % 8, memHeld := s.boot.memHeld && memHeld } }
      let s := settleExtest s.jtag.latches s
      if s.boot.powerGood then coldStart s else s)

/-- Generations of the sessions, the counts that run since power-on reset and the commanded VCORE survive every reset but this
one; the oven starts anew with VAUX (R417, R415, R454, R79). DEDUCED (log entry 35). DESIGN CHOICE (log entry 50). -/
def powerOnState (s : State) : State :=
  let x := s.clk
  { s with
    sess := List.replicate 32 {}, boot := { s.boot with cause := 0, off := false, pinLow := true, memHeld := false, powerGood := true }
    clk := { x with vaux := true, ovenReady := x.ovenReady && x.vaux, ovenTimeout := false, loops := List.replicate 4 {} }
    pwr := { mode := s.pwr.mode, regulator := s.pwr.regulator, fixed := s.pwr.fixed }
    cal := {}, flt := {}, trg := { trigin := s.trg.trigin, triginSeen := s.trg.trigin }, seg := s.seg.map fun x => { x with captures := 0 }, dmx := {}, eng := {}
    mem := { s.mem with ranks := s.mem.ranks.map fun r => { st := r.st } }, jtag := {} }

/-- POWER_ON_RESET: VAUX has risen into tolerance. -/
def execPowerOnReset (at_ : Nat) (s : State) : Result :=
  let s := advance at_ s
  .next (powerOnState (loseMemory (if s.boot.off then s else enterReset s)))

/-- VAUX_LEAVES_TOLERANCE: the module is Off. -/
def execVauxLeavesTolerance (at_ : Nat) (s : State) : Result :=
  let s := advance at_ s
  .next (
    if s.boot.off then s
    else
      let s := loseMemory (enterReset s)
      { s with boot := { s.boot with off := true }
               clk := { s.clk with vaux := false, ovenReady := false, heaterPower := 0 } })

/-- The memory rails leave tolerance: what memory holds is lost (R70, R414). -/
def dropMemoryRails (s : State) : State := loseMemory { s with boot := { s.boot with memHeld := false } }

/-- The regulator loses its supply; it starts again at 0.75 V on its own (R62). DEDUCED (log entry 35). -/
def restartRegulator (s : State) : State := { s with pwr := { s.pwr with commanded := 750 } }

/-- RAILS_FALL: without a warning, so that the staged records are lost (R70). -/
def execRailsFall (at_ : Nat) (loss : RailsLoss) (s : State) : Result :=
  let s := advance at_ s
  .next (
    if s.boot.off then s
    else
      let s := if loss.torn ∧ s.awake then { s with evt := s.evt.tear } else s
      let s := if s.boot.nresetLow ∨ s.boot.st = 8 then s
        else let s := enterReset s; { s with boot := { s.boot with pinLow := true } }
      let s := restartRegulator s
      if loss.memHeld then s else dropMemoryRails s)

/-- RAILS_REMOVED: the carrier takes the rails away from a module that sleeps or is held in reset. -/
def execRailsRemoved (at_ : Nat) (memory : Bool) (s : State) : Result :=
  let s := advance at_ s
  .next (
    if s.boot.off ∨ ¬ (s.boot.st = 8 ∨ s.boot.nresetLow) then s
    else
      let s := restartRegulator s
      if memory then dropMemoryRails s else s)

/-- Capture, engines, lanes and ports stop for a power-down or for deep standby. DEDUCED (log entry 41). -/
def stopForSleep (s : State) : State :=
  let s := { s with boot := { s.boot with deepAfter := none, transition := none, queued := [], wakeQueued := false } }
  let s := idleAccumulators (stopEngines (forEach 4 dropCapture s))
  convertersDown (stopPorts false s)

/-- POWER_DOWN: nPOWERGOOD has gone high (R69); in boot states 0 and 1 it acts as nRESET low (R537). -/
def execPowerDown (at_ : Nat) (s : State) : Result :=
  let s := advance at_ s
  let high := { s with boot := { s.boot with powerGood := false } }
  .next (
    if s.boot.off ∨ s.boot.nresetLow ∨ s.boot.st = 8 ∨ s.boot.downing.isSome then high
    else if s.boot.st < 2 then enterReset high
    else
      let s := memorySleep (lastRecord 0 s.armedMap (stopForSleep high))
      { s with boot := { s.boot with downing := some 0 } })

/-- A start after a power-down, as after a pin reset (R69). DEDUCED (log entry 35). -/
def restartAfterDown (s : State) : State :=
  let s := enterReset s
  if s.boot.pinLow then s else coldStart s

/-- POWER_DOWN_DONE: the module sleeps, until the start that follows. -/
def execPowerDownDone (at_ : Nat) (s : State) : Result :=
  let s := advance at_ s
  .next (match s.boot.downing with
    | none => s
    | some _ =>
      let s := sleepModule s
      let s := { s with boot := { s.boot with downing := none, powerDown := true, memHeld := true } }
      if s.boot.powerGood then restartAfterDown s else s)

/-- POWERGOOD_RESTORED: nPOWERGOOD has been low again for 10 ms. -/
def execPowergoodRestored (at_ : Nat) (memHeld : Bool) (s : State) : Result :=
  let s := advance at_ s
  let s := { s with boot := { s.boot with powerGood := true } }
  .next (
    if s.boot.off ∨ s.boot.downing.isSome then s
    else if s.boot.st = 8 ∧ s.boot.powerDown then
      restartAfterDown { s with boot := { s.boot with memHeld := s.boot.memHeld && memHeld } }
    else if s.boot.nresetLow ∧ ¬ s.boot.pinLow then
      coldStart { s with boot := { s.boot with memHeld := s.boot.memHeld && memHeld } }
    else s)

/-! ### Start-up (R544 to R546) -/

/-- Boot state `i` ends and boot state `next` begins. DEDUCED (log entry 39). -/
def endBootState (i next : Nat) (s : State) : State :=
  let ms := (s.time.ps - s.boot.since) / psPerMs
  setBootState next { s with boot := { s.boot with durations := s.boot.durations.set i ms } }

/-- The sample loop has locked: the grid-tick count starts at 0. DEDUCED (log entry 6). -/
def startGrid (s : State) : State :=
  if s.time.gridOn then s
  else
    anchorHeads (updLoop 0 (fun x => { x with st := .locked })
      (driveSample (12800 * 10 ^ 9) 0 s.time.ps { s with time := { s.time with gridOn := true, tick := 0, rem := 0 } }))

/-- IMAGE_CHECK_DONE: the firmware starts, or the boot firmware serves with the loops locked (R546). -/
def execImageCheckDone (at_ : Nat) (check : ImageCheck) (digest : List Byte) (s : State) : Result :=
  let s := advance at_ s
  .next (
    if ¬ s.awake ∨ s.boot.st ≠ 0 then s
    else match check with
      | .pass => endBootState 0 1 s
      | failed =>
        let code := if failed = .digestFails then 0 else 1
        let s := record 0x0045 [r4 code, rb (toLen 32 digest)] (stageOpening s)
        endBootState 0 7 (startGrid (updLoop 2 (fun x => { x with st := .locked }) s)))

/-- Outputs, ramps, the ceiling and the core rate at their defaults. -/
def defaultRates (s : State) : State :=
  let s := if s.clk.smpRamp.running then stopSampleRamp s else s
  let s := { s with clk := { s.clk with
    outputs := resetOutputs, ceiling := 12990, smpRamp := {}
    lnkRamp := { s.clk.lnkRamp with next := if s.clk.lnkRamp.running then some [] else none } } }
  if s.clk.core = 12800 then s else beginRateChange 12800 10 none s

/-- The clock settings return to their defaults through the rules of the time base (R541). -/
def defaultClocks (s : State) : State := defaultRates (forEach 4 (fun l => setReference l 0 false false) s)

/-- The calibrations of R119 that are owed run on the cores of those inputs only. DEDUCED (log entry 42). -/
def runOwed (s : State) : State :=
  match s.boot.owedCal with
  | [] => s
  | l => startForeground { kind := .enable, inputs := l, waiter := none } { s with boot := { s.boot with owedCal := [] } }

/-- After a firmware or watchdog restart, state 2 applies the defaults; the inputs whose enable or pair state that changes take
a synchronising reset (R182, R545). -/
def applyDefaults (s : State) : State :=
  let s := defaultClocks { s with mem := { s.mem with rate := 0, setB := s.mem.setB } }
  let changed := s.boot.owedCal
  let s := if changed.isEmpty then s else syncInputs changed 4 (128 * s.nextBoundary) s.flt.anchor s
  if s.cal.done then runOwed s else { s with boot := { s.boot with owedCal := [] } }

/-- The restart is the third by the watchdog within 600 s (R538). DEDUCED (log entry 34). -/
def BootState.watchdogLimit (x : BootState) : Bool :=
  match x.watchdog with
  | [] => false
  | t :: l => decide (x.cause = 3 ∧ 2 ≤ (l.filter fun u => t < u + 600 * psPerS).length)

/-- FIRMWARE_STARTED: boot state 1 ends; the third watchdog restart within 600 s leads to Halted in place of state 2. -/
def execFirmwareStarted (at_ : Nat) (s : State) : Result :=
  let s := advance at_ s
  .next (
    if ¬ s.awake ∨ s.boot.st ≠ 1 then s
    else
      let s := stageOpening s
      if s.boot.watchdogLimit then haltModule 4 0 s
      else
        let s := endBootState 1 2 s
        if s.boot.cause = 2 ∨ s.boot.cause = 3 then applyDefaults s else s)

/-- Memory whose contents are lost: a migration is over, and every line is 0. -/
def clearMemory (s : State) : State :=
  let s := match s.mem.migration with
    | some m => releaseAlert (.retire m.from_) (finishMigration m s)
    | none => s
  { s with boot := { s.boot with initMemory := false } }

/-- The channels run, and memory serves. -/
def serveMemory (s : State) : State :=
  let train : Bool := s.mem.selfRefresh || s.boot.owedMem
  let s := updLoop 2 (fun x => { x with st := .locked }) (if train then trainAll s else s)
  let s := { s with mem := { s.mem with selfRefresh := false }, boot := { s.boot with memReady := true, owedMem := false } }
  if s.mem.migration.isNone then nextRetirement s else s

/-- The converters and the lanes are up: the first frames are deposited from the next boundary on.
DEDUCED (log entry 7). -/
def convertersUp (s : State) : State :=
  let f := s.nextBoundary
  let s := forEach 8 staffInput { s with inp := { s.inp with running := true, nextFrame := f } }
  { s with trg := { s.trg with lifted := List.replicate 8 f, tails := List.replicate 8 [] } }

/-- Idle is reached: VCORE control begins, and MODULE_READY is written (R64, R550). DEDUCED (log entry 7). -/
def reachIdle (i : Nat) (s : State) : State :=
  let s := endBootState i 4 (startVcore s)
  record 0x0041 (s.boot.durations.map r2) s

/-- What follows once memory serves: the grid starts, where it does not run, and the start-up calibration, where no
calibration values stand. DEDUCED (log entry 37). -/
def leaveMemoryState (s : State) : State :=
  let s := startGrid (serveMemory s)
  if s.cal.done then reachIdle 2 (convertersUp s)
  else askHold { endBootState 2 3 s with cal := { s.cal with startup := 1 } }

/-- MEMORY_INITIALISED: boot state 2 ends. Where contents were lost, failed ranks are mapped out first (R410, R411). -/
def execMemoryInitialised (at_ : Nat) (locked : Bool) (s : State) : Result :=
  let s := advance at_ s
  .next (
    if ¬ s.awake ∨ s.boot.st ≠ 2 ∨ s.boot.downing.isSome ∨ (¬ locked ∧ (s.boot.initMemory ∨ ¬ s.time.gridOn)) then s
    else if ¬ s.boot.initMemory then leaveMemoryState s
    else
      let s := clearMemory s
      if s.failedRanks.isEmpty then leaveMemoryState s
      else if 6 < s.removals then haltModule 3 0 (record 0x0C0B [] s)
      else leaveMemoryState (remap s))

/-- CAL_STARTUP_DONE: the corrections of the start-up calibration come into force, and Idle is reached (R139). -/
def execCalStartupDone (ended : StartupEnd) (s : State) : Result :=
  let s := advance ended.at_ s
  .next (
    if s.boot.st ≠ 3 ∨ s.cal.startup ≠ 5 ∨ ¬ s.sampleLocked ∨ ¬ s.awake then s
    else
      let s := finishStartup ended.tables s
      let lifted := List.replicate 8 s.inp.nextFrame
      reachIdle 3 { s with trg := { s.trg with lifted := lifted } })

/-! ### The watchdog and the firmware restart (R536, R538, R540, R549) -/

/-- WATCHDOG_EXPIRY: a restart with cause 3. -/
def execWatchdogExpiry (at_ : Nat) (s : State) : Result :=
  let s := advance at_ s
  .next (
    if ¬ s.awake ∨ s.boot.downing.isSome ∨ s.boot.st < 2 ∨ 6 < s.boot.st then s
    else
      let keep := s.boot.watchdog.filter fun u => s.time.ps < u + 600 * psPerS
      warmStart 3 { s with boot := { s.boot with watchdog := s.time.ps :: keep } })

def sysRestartCmd : Cmd :=
  { opcode := 0x000A, classC := true, lengths := lenIs 40, checks := fun _ q => [within 0 0 (q.u8 0), reserved q 1 7]
    reject := fun s _ => firstRejection [rejectWhen s.boot.subsystem.isSome BUSY,
      rejectWhen (s.boot.st = 6 ∧ s.boot.haltCause = 1 ∧ 97 * 256 ≤ s.pwr.tj) WRONG_STATE]
    act := fun w _ s =>
      let s := reply w OK [] s
      if s.boot.downing.isSome then s else warmStart 2 s }
def execSysRestart (q : Request) (s : State) : Result := .next (runRequest sysRestartCmd q s)

end Sys2Proof.Machine
end

