-- ==== Sys2Proof/Machine/Events.lean ====
section
/-! DEFINITION. The event recorder: the store takes what is staged, the copier, the commands that read it, and the
clear of the ring (R463, R494 to R508, R514). -/

namespace Sys2Proof.Machine

/-! ### EVT_GET_STATUS (R463) -/

def lowest : List Nat → Option Nat
  | [] => none
  | n :: l => some (l.foldl min n)

def highest : List Nat → Option Nat
  | [] => none
  | n :: l => some (l.foldl max n)

def StoreArea.seqs (a : StoreArea) : List Nat := a.records.map fun r => r.2.seq
def StoreArea.bytes (a : StoreArea) : Nat := (a.records.map fun r => r.2.size).sum

/-- Sequence numbers that the head area holds. -/
def EventState.headSeqs (e : EventState) : List Nat := e.first.seqs ++ e.journal.seqs

/-- The status; a bound of an area that holds no record is a free value, since R463 gives none. -/
def evtStatusBytes (s : State) : List Byte :=
  let e := s.evt
  u64 ((lowest e.headSeqs).getD (Config.free s.free)) ++ u64 ((highest e.headSeqs).getD (Config.free (s.free + 1)))
    ++ u64 ((lowest e.ring.seqs).getD (Config.free (s.free + 2))) ++ u64 e.lostTotal
    ++ u32 (e.first.bytes + e.journal.bytes) ++ u32 e.ring.bytes ++ u32 e.used ++ u32 e.first.full.toNat ++ zeros 16

def evtGetStatusCmd : Cmd :=
  readClearCmd 0x0E01 32 (fun _ _ => []) (fun s _ => evtStatusBytes s) (fun _ s => { s with free := s.free + 3 })
def execEvtGetStatus (q : Request) (s : State) : Result := .next (runRequest evtGetStatusCmd q s)

/-! ### EVT_READ (R507) -/

/-- Records packed whole into `room` bytes, starting `off` bytes into the first: the bytes, the next sequence number
and the next offset. `after` is the number after the last record packed. -/
def packRecords : List Record → Nat → Nat → Nat → List Byte × Nat × Nat
  | [], _, _, after => ([], after, 0)
  | r :: rs, off, room, after =>
    let b := r.bytes.drop off
    if room = 0 then ([], after, 0)
    else if room < b.length then (b.take room, r.seq, off + room)
    else
      let (t, n, o) := packRecords rs 0 (room - b.length) (r.seq + 1)
      (b ++ t, n, o)

/-- The reply of a read; with nothing held from From up, the first sequence returned is a free value.
DEDUCED (log entry 43). -/
def evtReadBytes (s : State) (from_ off room : Nat) : List Byte :=
  match s.evt.heldFrom from_ with
  | [] => u64 (Config.free s.free) ++ u64 from_ ++ zeros 8
  | r :: rs =>
    let (b, n, o) := packRecords (r :: rs) (if r.seq = from_ then off else 0) room from_
    u64 r.seq ++ u64 n ++ u16 o ++ zeros 6 ++ b

/-- Offset lies in the record that From names, where that is held. -/
def evtOffsetOk (s : State) (from_ off : Nat) : Bool :=
  (s.evt.heldFrom from_).head?.all fun r => r.seq ≠ from_ || decide (off < r.size)

def evtReadCmd : Cmd :=
  readClearCmd 0x0E02 48
    (fun s q => [allowed (evtOffsetOk s (q.u64 0) (q.u16 8)), firstFailure [notZero (q.u16 10), within 1 4040 (q.u16 10)],
      reserved q 12 4])
    (fun s q => evtReadBytes s (q.u64 0) (q.u16 8) (q.u16 10)) (fun _ s => { s with free := s.free + 1 })
def execEvtRead (q : Request) (s : State) : Result := .next (runRequest evtReadCmd q s)

/-! ### EVT_SET_COPY and the copier (R508) -/

/-- The first record that will be stored from now on. -/
def EventState.nextStored (e : EventState) : Nat :=
  match e.fifo with
  | [] => e.nextSeq
  | r :: _ => r.seq

/-- The pigeonhole to receive copies; naming the one that receives them already changes nothing.
DEDUCED (log entry 44). -/
def setCopy (target : Option Nat) (s : State) : State :=
  if s.evt.copyTo = target then s
  else { s with evt := { s.evt with copyTo := target, copyNext := s.evt.nextStored } }

/-- A target of copies: entries of at least 4,096 bytes (R360, R508). -/
def copyTarget (s : State) (n : Nat) : Bool :=
  match s.ph n with
  | none => false
  | some p => 4096 ≤ p.entrySize

/-- DEDUCED (log entry 44). -/
def evtSetCopyCmd : Cmd :=
  setCmd 0x0E03 40
    (fun s q => [firstFailure [phField q 0, allowed (¬ q.bit 4 0 || copyTarget s (q.u32 0))], reservedBits q 4 1, reserved q 5 3])
    (fun _ _ => none)
    (fun q s => setCopy (if q.bit 4 0 then some (q.u32 0) else none) s)
def execEvtSetCopy (q : Request) (s : State) : Result := .next (runRequest evtSetCopyCmd q s)

/-- The copier places the next record held (R508): one entry, under the policy of its pigeonhole. -/
def copyRecord (s : State) : State :=
  match s.evt.copyTo, s.evt.heldFrom s.evt.copyNext with
  | some n, r :: _ =>
    if s.evt.copyWaits then s
    else
      let s := offer n { writer := .copier, entries := [r.bytes] } { s with evt := { s.evt with copyNext := r.seq + 1 } }
      { s with evt := { s.evt with copyWaits := s.waitsOn n .copier } }
  | _, _ => s

def execRecordCopied (at_ : Nat) (s : State) : Result :=
  let s := advance at_ s
  .next (if s.awake then copyRecord s else s)

/-! ### The store takes a record (R501 to R503) -/

/-- The page of a part becomes the one of a failed copy, which ends what it holds. -/
def StoreArea.spoil (page : Nat) (a : StoreArea) : StoreArea :=
  { a with page := page, off := 0
           records := if a.page = page ∧ a.off ≠ 0 then a.records else a.records.filter fun x => x.1 ≠ page }

/-- A read-back that differs: the page that holds the failed copy is retired. -/
def EventState.retirePage (ps page size : Nat) (e : EventState) : EventState :=
  let e := e.refill ps
  let e := { e with retired := page :: e.retired, bucket := e.bucket - size, attempts := e.attempts + 1 }
  if ringStart ≤ page then { e with ring := e.ring.spoil page }
  else if firstEnd < page then { e with journal := e.journal.spoil page }
  else { e with first := e.first.spoil page }

/-- After three failed attempts the record is dropped. -/
def dropOldest (r : Record) (s : State) : State :=
  let s := dropRecord r { s with evt := { s.evt with fifo := s.evt.fifo.drop 1, attempts := 0 } }
  { s with evt := EventState.watch s.time.ps s.evt }

/-- The failed write of the oldest record. -/
def failWrite (r : Record) (s : State) : State :=
  let page := tryPage r s.evt
  let s := { s with evt := s.evt.retirePage s.time.ps page r.size }
  let n := s.evt.attempts
  let s := record 0x0E02 [r4 page, r4 n] s
  if 3 ≤ n then dropOldest r s else s

/-- A record staged after a clear began waits for it (R514). -/
def State.storeHolds (s : State) (r : Record) : Bool :=
  match s.evt.clears with
  | [] => false
  | (_, _, last) :: _ => decide (last < r.seq)

def execRecordWrite (at_ : Nat) (good : Bool) (s : State) : Result :=
  let s := advance at_ s
  match s.evt.fifo with
  | [] => .next s
  | r :: _ =>
    .next (if ¬ s.awake ∨ s.storeHolds r then s
      else if good then { s with evt := takeOldest s.time.ps s.evt } else failWrite r s)

/-! ### RECORDS_LOST (R502) -/

/-- TAI time as the 8 bytes of a record's field. -/
def timeWord (t : Int) : Nat := (t % 2 ^ 64).toNat

/-- RECORDS_LOST (R502): the FIFO has held less than 524,288 bytes for 10 ms. -/
def execRecordsLost (at_ : Nat) (s : State) : Result :=
  let s := advance at_ s
  match s.evt.loss with
  | none => .next s
  | some l =>
    .next (if (s.evt.lowSince.all fun t => decide (s.time.ps < t + 10 * psPerMs)) ∨ ¬ s.records then s
      else
        releaseAlert .recordsLost (carrying (record 0x0E01
          (lossFields l.count l.first l.last l.firstTick l.lastTick (timeWord l.firstTime) (timeWord l.lastTime)))
          { s with evt := { s.evt with loss := none } }))

/-! ### EVT_CLEAR_RING and RING_CLEARED (R514) -/

/-- The proposal that a countersigned request carries out. -/
def State.proposalOf (s : State) (w : Waiter) : Option Proposal :=
  match w.inner with
  | none => none
  | some x => s.prot.proposals.find? fun p => p.number = x.1

def evtClearRingCmd : Cmd :=
  { opcode := 0x0E04, classC := true, lengths := lenIs 32, checks := fun _ _ => []
    reject := fun _ _ => none
    act := fun w _ s =>
      let d := ((s.proposalOf w).map (·.digest)).getD []
      { s with evt := { s.evt with clears := s.evt.clears ++ [(w, d, s.evt.nextSeq - 1)] } } }
def execEvtClearRing (q : Request) (s : State) : Result := .next (runRequest evtClearRingCmd q s)

/-- RING_CLEARED, the first record of the emptied ring, and in the journal too while that has room.
DEDUCED (log entry 43). -/
def placeCleared (r : Record) (e : EventState) : EventState :=
  let e := placeRing r { e with ring := { page := ringStart } }
  match placeJournal r e with
  | some e => e
  | none => { e with journal := { e.journal with full := true } }

/-- The body of RING_CLEARED; the bounds of a range that holds no record are free values. -/
def clearedFields (w : Waiter) (d : List Byte) (s : State) : List RecField :=
  let (p, ps, pi, cs, ci) := w.inner.getD (0, 0, 0, 0, 0)
  [r8 ((lowest s.evt.ring.seqs).getD (Config.free s.free)), r8 ((highest s.evt.ring.seqs).getD (Config.free (s.free + 1))),
    r4 p, rb d, r1 ps, r1 cs, r4 pi, r4 ci]

/-- The ring is emptied. DEDUCED (log entry 43). -/
def clearRing (w : Waiter) (d : List Byte) (s : State) : State :=
  let e := s.evt
  let r : Record := { type := 0x0E03, seq := e.nextSeq, epoch := s.time.epoch, boot := e.boots % 65536, tick := s.time.tick,
                      time := s.now, body := bodyOf (clearedFields w d s) }
  let e := { e with nextSeq := e.nextSeq + 1, ceiling := raiseCeiling e.nextSeq e.ceiling, clears := e.clears.drop 1 }
  reply w OK [] { s with evt := placeCleared r e, free := s.free + 2 }

def execRingCleared (at_ : Nat) (s : State) : Result :=
  let s := advance at_ s
  match s.evt.clears with
  | [] => .next s
  | (w, d, last) :: _ => .next (if ¬ s.awake ∨ s.evt.fifo.any fun r => decide (r.seq ≤ last) then s else clearRing w d s)

end Sys2Proof.Machine
end

