-- ==== Sys2Proof/Machine/Keys.lean ====
section
/-! DEFINITION. Keys, the protected set and the firmware image (R463, R464, R468, R509 to R513). -/

namespace Sys2Proof.Machine

/-- The module's serial number as a byte string (R465). -/
def serialBytes : List Byte := u64 Config.serial.toNat

/-! ### Proposals that are open (R512) -/

/-- How long a proposal stays open (R511, R512). -/
def proposalLife : Nat := 120 * psPerS

def Proposal.open_ (ps : Nat) (p : Proposal) : Bool := ps < p.repliedAt + proposalLife

def State.openProposals (s : State) : List Proposal := s.prot.proposals.filter (Proposal.open_ s.time.ps)

/-- A proposal ends without having been carried out: 1 time, 2 key removed (R512). -/
def expireProposal (n cause : Nat) (s : State) : State :=
  carrying (record 0x0E08 [r1 cause]) { s with prot := { s.prot with
    proposals := s.prot.proposals.filter fun p => p.number ≠ n, expired := n :: s.prot.expired } }

/-- PROTECTED_EXPIRED (R512): 120 s after the reply. -/
def execProtectedExpired (at_ : Nat) (proposal : Nat) (s : State) : Result :=
  let s := advance at_ s
  .next (if s.records ∧ s.prot.proposals.any fun p => p.number = proposal && ! p.open_ s.time.ps then expireProposal proposal 1 s else s)

/-! ### Key slots (R463, R468, R509) -/

def State.key (s : State) (n : Nat) : Option KeySlot := s.prot.keys.getD n none

def setKey (n : Nat) (k : Option KeySlot) (s : State) : State :=
  { s with prot := { s.prot with keys := updAt s.prot.keys n fun _ => k } }

/-- Whether a change was countersigned, as its record holds it. -/
def countersigned (w : Waiter) : RecField := r4 w.inner.isSome.toNat

/-- DEDUCED (log entry 45). -/
def keyEnrolCmd : Cmd :=
  { opcode := 0x0E05, classC := true, lengths := lenIs 80
    checks := fun _ q => [within 0 7 (q.u8 0), reserved q 1 7]
    reject := fun s q => rejectWhen (s.key (q.u8 0)).isSome WRONG_STATE
    act := fun w q s =>
      let k : KeySlot := { key := q.bytes 8 32, label := q.bytes 40 8 }
      reply w OK [] (record 0x0E04 [r1 (q.u8 0), rb k.key, rb k.label, countersigned w] (setKey (q.u8 0) (some k) s)) }
def execKeyEnrol (q : Request) (s : State) : Result := .next (runRequest keyEnrolCmd q s)

/-- Open proposals of a slot, but for the one that is being carried out. -/
def State.proposalsOf (s : State) (slot : Nat) (w : Waiter) : List Nat :=
  (s.openProposals.filter fun p => p.slot = slot && w.inner.all fun x => p.number ≠ x.1).map (·.number)

/-- Empty a slot; the open proposals of its key end (R512). An empty slot stays as it is. DEDUCED (log entry 45). -/
def removeKey (w : Waiter) (slot : Nat) (s : State) : State :=
  match s.key slot with
  | none => s
  | some k =>
    forAll (s.proposalsOf slot w) (fun n s => expireProposal n 2 s)
      (record 0x0E05 [r1 slot, rb k.key, countersigned w] (setKey slot none s))

/-- DEDUCED (log entry 45). -/
def keyRemoveCmd : Cmd :=
  { opcode := 0x0E06, classC := true, lengths := lenIs 40
    checks := fun _ q => [within 0 7 (q.u8 0), reserved q 1 7]
    reject := fun s q =>
      let left := if (s.key (q.u8 0)).isSome then s.keyCount - 1 else s.keyCount
      rejectWhen (left < 2) WRONG_STATE
    act := fun w q s => reply w OK [] (removeKey w (q.u8 0) s) }
def execKeyRemove (q : Request) (s : State) : Result := .next (runRequest keyRemoveCmd q s)

/-- A record of KEY_LIST. -/
def keyRecord (n : Nat) (k : Option KeySlot) : List Byte :=
  u8 n ++ match k with
    | none => zeros 47
    | some k => u8 1 ++ zeros 6 ++ toLen 32 k.key ++ toLen 8 k.label

def keyListCmd : Cmd :=
  readCmd 0x0E07 32 (fun _ _ => []) (fun s _ => (List.range 8).flatMap fun n => keyRecord n (s.key n))
def execKeyList (q : Request) (s : State) : Result := .next (runRequest keyListCmd q s)

/-! ### The protected set (R464) -/

/-- Opcodes of class R (R444 to R450). -/
def classR : List Nat := [
  0x0003, 0x0004, 0x0007, 0x0101, 0x0102, 0x0107, 0x0203, 0x0303, 0x0305, 0x0407, 0x0508, 0x0604, 0x0605, 0x0704, 0x0806,
  0x090A, 0x090B, 0x0A01, 0x0A06, 0x0A07, 0x0B06, 0x0B08, 0x0B0C, 0x0B0E, 0x0B10, 0x0C04, 0x0D06, 0x0E01, 0x0E02, 0x0E07,
  0x0E0B, 0x0F04, 0x0F05]

/-- Class C opcodes that PROT_SET_PROTECTED may not name. -/
def neverProtected : List Nat := [0x0001, 0x0002, 0x0E0C, 0x0E08, 0x0E09]

def isClassC (opcode : Nat) : Bool := allocated opcode && ! classR.contains opcode

/-- The protected set. -/
def State.protectedSet (s : State) : List Nat := (fixedProtected ++ s.prot.added).foldl (fun l n => insertNat n l) []

/-- The set with an opcode added or removed. -/
def changeProtected (opcode : Nat) (add : Bool) (l : List Nat) : List Nat :=
  if add then insertNat opcode l else l.filter (· ≠ opcode)

/-- Change the set, with PROTECTED_SET_CHANGED where it changes (R513). DEDUCED (log entry 46). -/
def setProtected (opcode : Nat) (add : Bool) (s : State) : State :=
  if s.protectedSet.contains opcode = add then s
  else record 0x0E09 [r2 opcode, r4 add.toNat]
    { s with prot := { s.prot with added := changeProtected opcode add s.prot.added } }

def protSetProtectedCmd : Cmd :=
  setCmd 0x0E0A 40
    (fun _ q =>
      let op := q.u16 0
      [allowed (isClassC op && ! neverProtected.contains op),
        firstFailure [within 0 1 (q.u8 2), allowed (q.u8 2 = 1 || ! fixedProtected.contains op)], reserved q 3 5])
    (fun _ _ => none)
    (fun q s => setProtected (q.u16 0) (q.u8 2 = 1) s)
def execProtSetProtected (q : Request) (s : State) : Result := .next (runRequest protSetProtectedCmd q s)

def protGetProtectedCmd : Cmd :=
  readCmd 0x0E0B 32 (fun _ _ => [])
    (fun s _ => u16 s.protectedSet.length ++ zeros 6 ++ s.protectedSet.flatMap u16)
def execProtGetProtected (q : Request) (s : State) : Result := .next (runRequest protGetProtectedCmd q s)

/-! ### The firmware image (R463) -/

def stagingSize : Nat := 33554432

/-- Bytes of the staging buffer. -/
def stagedBytes (m : List (Nat × Byte)) (n : Nat) : List Byte := (List.range n).map fun i => readCell m i

def fwWriteCmd : Cmd :=
  { opcode := 0x0E0C, classC := true, lengths := fun l => decide (49 ≤ l ∧ l ≤ 4096)
    checks := fun _ q =>
      let off := q.u32 0
      let n := q.u16 4
      [within 0 (stagingSize - 1) off,
        firstFailure [notZero n, within 1 4048 n, allowed (off + n ≤ stagingSize), failWhen (q.length ≠ 48 + n) BAD_LENGTH],
        reserved q 6 10]
    reject := fun s _ => rejectWhen (s.openProposals.any fun p => p.opcode = 0x0E0D) BUSY
    act := fun w q s =>
      reply w OK [] { s with prot := { s.prot with staging := writeCells s.prot.staging (q.u32 0) (q.bytes 16 (q.u16 4)) } } }
def execFwWrite (q : Request) (s : State) : Result := .next (runRequest fwWriteCmd q s)

/-- The digest matches the staged image, and its signature verifies. DESIGN CHOICE (log entry 24). -/
def imageGood (s : State) (n : Nat) (digest : List Byte) : Bool :=
  let b := stagedBytes s.prot.staging n
  decide (sha256 b = digest) && Config.imageSigned b

/-- DEDUCED (log entry 46). -/
def fwCommitCmd : Cmd :=
  { opcode := 0x0E0D, classC := true, lengths := lenIs 72
    checks := fun s q => [firstFailure [notZero (q.u32 0), within 1 stagingSize (q.u32 0)], reserved q 4 4,
      allowed (imageGood s (q.u32 0) (q.bytes 8 32))]
    reject := fun _ _ => none
    act := fun w q s =>
      reply w OK [] (record 0x0E0A [] { s with prot := { s.prot with image := some (q.u32 0, q.bytes 8 32) } }) }
def execFwCommit (q : Request) (s : State) : Result := .next (runRequest fwCommitCmd q s)

end Sys2Proof.Machine
end

