-- ==== Sys2Proof/Machine/Lanes.lean ====
section
/-! DEFINITION. An input lane lifts a frame and takes it through its five stages (R28): trigger evaluation, decimation, the
pending stores of the hamper and of capture, and the engine taps. -/

namespace Sys2Proof.Machine

/-- The first tick that an engine sees of an output (R337): in the filtered mode, less the group delay. -/
def State.engineTick (s : State) (n : Nat) (p : Position) : Nat :=
  if (s.fin n).mode = 3 ∧ s.groupDelay ≠ 0xFFFFFFFF then p.tick - s.groupDelay * s.flt.period / 1024 else p.tick

/-- The datum that an output gives to the taps of its input (R340). -/
def State.datumOf (s : State) (n : Nat) (p : Position) : Datum :=
  { values := p.values, tick := s.engineTick n p, gap := p.noData, suspect := p.suspect, unsettled := p.unsettled
    overrange := p.overrange, stopped := decide ((s.input n).stopped ≠ 0) }

/-- An output joins the pending store of its group, under the group's numbering. -/
def storePosition (n : Nat) (p : Position) (g : Nat) (s : State) : State :=
  let x := s.sg g
  if x.armed ∧ x.everArmed ∧ x.config.mask.testBit n ∧ (s.watches g p.tick ∨ s.watches g (p.tick + s.positionSpacing n - 1)) then
    updSg g (fun x => { x with positions := updAt x.positions n fun l =>
      l ++ [{ p with k := p.k + x.shifts.getD n 0 }] }) s
  else s

/-- The outputs that a frame gives go to the groups and to the taps. -/
def deliverPositions (n : Nat) (l : List Position) (s : State) : State :=
  pushData 0 n (l.map (s.datumOf n)) (forAll l (fun p => forEach 4 (storePosition n p)) s)

/-- The fills of the groups that a lane stores for are brought up to the present tick. -/
def endFills (lane : Nat) (s : State) : State :=
  forEach 4 (fun g s => if (s.sg g).config.mask.testBit lane then endFill g s.time.tick s else s) s

/-- LANE_LIFTS_FRAME (R28): the oldest frame of the input's letterbox, unless the lane waits (R44). -/
def execLaneLiftsFrame (at_ lane : Nat) (s : State) : Result :=
  let s := endFills lane (advance at_ s)
  .next (match (s.input lane).letterbox with
    | [] => s
    | f :: rest =>
      if s.laneWaits lane then s
      else
        let s := updInput lane (fun x => { x with letterbox := rest }) s
        let s := stageOne lane f s
        let before := (s.fin lane).laneMode
        let (s, out) := decimateFrame lane f s
        let s := passGaps lane (leaveDecimated lane before f.index (stageOneDecimated lane out s))
        let s := deliverPositions lane out s
        let s := forEach 4 (fun g s => if (s.sg g).config.mask.testBit lane then prunePositions g (handReady g s) else s) s
        reviewStops (evaluate s))

end Sys2Proof.Machine
end

