-- ==== Sys2Proof/Machine/PowerStates.lean ====
section
/-! DEFINITION. Standby and deep standby, the resets of a subsystem, and the writes of IRQ_STATUS and BOOT_STATE (R428, R429,
R531 to R535, R539, R540). -/

namespace Sys2Proof.Machine

/-! ### Entry to Standby and exit from it (R532, R533) -/

/-- A tach gate runs (R531). -/
def State.gateRuns (s : State) : Bool := s.edge.tachs.any fun x => x.gate.running

/-- Entry, steps 1 and 2. DEDUCED (log entry 40). -/
def beginEntry (w : Waiter) (s : State) : State :=
  let s := stopPorts true (idleAccumulators (stopEngines s))
  { s with boot := { s.boot with transition := some (false, 0, some w) } }

/-- Exit, step 1. DEDUCED (log entry 40). -/
def beginExit (cause : Nat) (w : Option Waiter) (s : State) : State :=
  let s := trainAll s
  { s with mem := { s.mem with selfRefresh := false }
           boot := { s.boot with transition := some (true, cause, w), owedMem := false } }

/-- A request for a power state is carried out against the present state (R531). DEDUCED (log entry 40). -/
def settlePower (x : Nat × Bool × Waiter) (s : State) : State :=
  let w := x.2.2
  match s.boot.st, x.1 with
  | 4, 0 => reply w OK [] s
  | 5, 0 => beginExit 0 (some w) s
  | 5, 1 => reply w OK [] s
  | 4, 1 => if s.anyArmed ∨ s.gateRuns then reply w WRONG_STATE [] s else beginEntry w s
  | 4, 2 | 5, 2 =>
    if s.anyArmed ∨ s.gateRuns then reply w WRONG_STATE [] s
    else
      let s := reply w OK [] s
      { s with boot := { s.boot with deepAfter := some x.2.1 } }
  | _, _ => reply w WRONG_STATE [] s

/-- A request for a power state waits while a transition is under way. DEDUCED (log entry 40). -/
def takePower (x : Nat × Bool × Waiter) (s : State) : State :=
  if s.boot.transition.isSome then { s with boot := { s.boot with queued := s.boot.queued ++ [x] } }
  else settlePower x s

/-- A WAKE edge in Standby starts the exit; during an entry it waits for its end. DEDUCED (log entry 40). -/
def wake (s : State) : State :=
  match s.boot.transition with
  | some (false, _, _) => { s with boot := { s.boot with wakeQueued := true } }
  | some (true, _, _) => s
  | none => if s.boot.st = 5 then beginExit 1 none s else s

/-- A transition has completed: what waited for it follows. DEDUCED (log entry 40). -/
def endTransition (w : Option Waiter) (s : State) : State :=
  let q := s.boot.queued
  let woken := s.boot.wakeQueued
  let s := replyOpt w OK [] { s with boot := { s.boot with transition := none, queued := [], wakeQueued := false } }
  let s := forAll q takePower s
  if woken then wake s else s

/-- DEDUCED (log entry 25). -/
def sysSetPowerStateCmd : Cmd :=
  { opcode := 0x000C, classC := true, lengths := lenIs 40
    checks := fun _ q => [within 0 2 (q.u8 0), reservedBits q 1 1, reserved q 2 6]
    reject := fun s q => firstRejection [
      rejectWhen (s.boot.st ≠ 4 ∧ s.boot.st ≠ 5) WRONG_STATE,
      rejectWhen s.anyArmed WRONG_STATE,
      rejectWhen (q.u8 0 ≠ 0 ∧ s.boot.transition.isNone ∧ s.gateRuns) WRONG_STATE]
    act := fun w q s => takePower (q.u8 0, q.bit 1 0, w) s }
def execSysSetPowerState (q : Request) (s : State) : Result := .next (runRequest sysSetPowerStateCmd q s)

def execWakeEdge (at_ : Nat) (s : State) : Result :=
  let s := advance at_ s
  .next (if s.awake ∧ s.boot.downing.isNone then wake s else s)

/-- The staging buffer has drained: no calibration, spill, clearing or rate change is left to end. -/
def State.drained (s : State) : Bool :=
  s.cal.foregrounds.isEmpty && s.ham.spill.isNone && (s.ham.accs.all fun x => x.clearing.isNone) && s.mem.change.isNone && s.mem.waits.isNone

/-- STANDBY_ENTRY_COMPLETE: steps 3 to 5 of R532. -/
def execStandbyEntryComplete (at_ : Nat) (s : State) : Result :=
  let s := advance at_ s
  .next (match s.boot.transition with
    | some (false, cause, w) =>
      if ¬ s.drained then s
      else
        let s := record 0x0043 [r4 4, r4 5, r1 cause] (memorySleep (convertersDown (idleAccumulators s)))
        endTransition w (setBootState 5 s)
    | _ => s)

/-- Ports marked for their return train (R533 step 3); none comes up while the link loop's ramp runs (R95). -/
def returnPorts (s : State) : State :=
  forEach 16 (fun p s =>
    if (s.port p).marked ∧ (s.port p).st = .down then
      let s := updPort p (fun x => { x with marked := false }) s
      if s.clk.lnkRamp.running then s else setPortState p .training s
    else s) s

/-- STANDBY_EXIT_COMPLETE: steps 2 to 4 of R533. -/
def execStandbyExitComplete (at_ : Nat) (s : State) : Result :=
  let s := advance at_ s
  .next (match s.boot.transition with
    | some (true, cause, w) =>
      let s := convertersUp s
      let s := syncInputs s.enabledInputs 4 (128 * s.nextBoundary) s.flt.anchor s
      let s := returnPorts (settleAll (runOwed s))
      let s := record 0x0043 [r4 5, r4 4, r1 cause] s
      let s := setBootState 4 s
      endTransition w (if s.mem.migration.isNone then nextRetirement s else s)
    | _ => s)

/-- DEEP_STANDBY_ENTRY (R534): everything stops, POWER_STATE_CHANGED and the last record follow; the heater stays on or goes
off as the request asked. -/
def execDeepStandbyEntry (at_ : Nat) (s : State) : Result :=
  let s := advance at_ s
  .next (match s.boot.deepAfter with
    | none => s
    | some heater =>
      let armed := s.armedMap
      let s := record 0x0043 [r4 s.boot.st, r4 8, r1 0] (memorySleep (stopForSleep s))
      let s := sleepModule (lastRecord 1 armed s)
      let c := s.clk
      { s with boot := { s.boot with deepAfter := none, transition := none, queued := [], wakeQueued := false
                                     powerDown := false, memHeld := true }
               clk := { c with heater := c.heater && heater, ovenReady := c.ovenReady && heater
                               heaterPower := if heater then c.heaterPower else 0 } })

/-! ### Subsystem resets (R539) -/

/-- The settings of the trigger system return to their defaults; what its lanes and its bus have under way goes on. -/
def defaultTrigger (s : State) : State :=
  let s := lowerMarkers s
  let x := s.trg
  { s with trg := { x with
    comparators := x.comparators.map fun c => { c with waits := c.waits ++ [(0, 0, 8, s.nextBoundary)] }
    slots := x.slots.map fun c => { c with waits := c.waits ++ [({}, s.nextBoundary)] }
    busWait := 20, markers := List.replicate 4 {}
    groups := x.groups.map fun g => { counts := g.counts, spanFill := g.spanFill, spanRearm := g.spanRearm
                                      spanPrefill := g.spanPrefill, accepted := g.accepted, fillEnd := g.fillEnd
                                      rearmEnd := g.rearmEnd, readyTick := g.readyTick, short := g.short } } }

/-- Inputs whose decimation mode or factor differs from the default. -/
def State.decimating (s : State) : List Nat := (List.range 8).filter fun n => (s.fin n).mode ≠ 0 || (s.fin n).factor ≠ 1

/-- The filter chain is stopped and unset, and every input is in the sample mode; the loaded coefficients stay (R176).
DEDUCED (log entry 42). -/
def defaultFilter (s : State) : State :=
  let l := s.decimating
  let s := failFilterSync s
  let s := forAll l (fun n => updFin n fun x => { x with mode := 0, factor := 1 }) s
  let s := { s with flt := { inputs := s.flt.inputs.map FilterInput.stop, anchor := s.flt.anchor, startup := s.flt.startup,
                             coefs := s.flt.coefs } }
  if l.isEmpty then s else syncInputs l 3 (128 * s.nextBoundary) s.flt.anchor s

/-- Gates end, with an aborted result where they run, and every tach setting is the default. -/
def defaultEdges (s : State) : State :=
  let s := abortGates s
  { s with edge := { s.edge with tachs := s.edge.tachs.map fun x => { gate := { results := x.gate.results } } } }

/-- Every accumulator is freed (R299). -/
def freeAccumulators (s : State) : State :=
  let s := idleAccumulators s
  { s with ham := { s.ham with accs := List.replicate 64 {} } }

/-- Every input is enabled in the normal mode; those that this changes are answered for. -/
def defaultInputs (l : List Nat) (s : State) : State :=
  let s := forAll l (fun n => updInput n fun x => { x with enabled := true, letterbox := [] }) s
  { s with inp := { s.inp with pairs := List.replicate 4 false } }

/-- The converters and their lanes run. -/
def State.convertersRun (s : State) : Bool := s.inp.running && s.cal.done

/-- Subsystem 0. The reply waits for the calibrations of R119, which wait in turn where the converters are down.
DEDUCED (log entry 42). -/
def resetAcquisition (w : Waiter) (s : State) : State :=
  let changed := s.owedInputs
  let s := freeAccumulators (defaultEdges (defaultTrigger s))
  let s := { s with seg := s.seg.map fun x => { x with config := {} } }
  let s := defaultFilter (defaultInputs changed s)
  if changed.isEmpty then reply w OK [] s
  else if s.convertersRun then
    let s := syncInputs changed 4 (128 * s.nextBoundary) s.flt.anchor s
    startForeground { kind := .enable, inputs := changed, waiter := some w, subsystem := true }
      { s with boot := { s.boot with subsystem := some 0, owedCal := [] } }
  else reply w OK [] { s with boot := { s.boot with owedCal := changed } }

/-- Subsystem 1: the port is Down at its defaults; its counts go on. DEDUCED (log entry 42). -/
def resetPort (p : Nat) (s : State) : State :=
  let s := portDown p s
  let s := clearAlarms p (fun _ => true) s
  let s := releaseAlerts (fun a => a = .damuxFault p ∨ a = .damuxHead p ∨ a = .damuxBreak p) s
  let s := updPort p (fun x => { crcErrors := x.crcErrors, otherDiscards := x.otherDiscards, letterboxDiscards := x.letterboxDiscards
                                 nextSeq := x.nextSeq, forwardSignal := x.forwardSignal, returnSignal := x.returnSignal }) s
  noteAccumulators (fun a => a.config.kind = 1 && a.config.port = p) s

/-- Subsystem 2: the rate is code 0; the pass through self-refresh and the training wait where memory does not run.
DEDUCED (log entry 42). -/
def resetMemory (s : State) : State :=
  let s := { s with mem := { s.mem with rate := 0, step := none } }
  if s.memServes then trainAll s else { s with boot := { s.boot with owedMem := true } }

/-- Subsystem 3. -/
def resetEngines (s : State) : State := forAll (s.eng.jobs.map (·.1)) deleteJob s

/-- What SYS_RESET_SUBSYSTEM does, after its record. DEDUCED (log entry 42). -/
def resetSubsystem (w : Waiter) (q : Request) (s : State) : State :=
  let s := record 0x0042 [r4 (q.u8 0), r1 (q.u8 1)] s
  match q.u8 0 with
  | 0 => resetAcquisition w s
  | 1 => reply w OK [] (resetPort (q.u8 1) s)
  | 2 => reply w OK [] (resetMemory s)
  | _ => reply w OK [] (resetEngines s)

def sysResetSubsystemCmd : Cmd :=
  { opcode := 0x000B, classC := true, lengths := lenIs 40
    checks := fun _ q => [within 0 3 (q.u8 0), if q.u8 0 = 1 then within 0 15 (q.u8 1) else reserved q 1 1, reserved q 2 6]
    reject := fun s q => firstRejection [
      rejectWhen (q.u8 0 = 0 ∧ s.lockHeld) WRONG_STATE,
      rejectWhen ((q.u8 0 = 0 ∨ q.u8 0 = 2) ∧ s.anyArmed) WRONG_STATE,
      rejectWhen s.boot.subsystem.isSome BUSY,
      rejectWhen (q.u8 0 = 0 ∧ (s.calibrating ∨ s.ham.spill.isSome ∨ s.ham.accs.any fun a => a.clearing.isSome)) BUSY,
      rejectWhen (q.u8 0 = 2 ∧ (s.mem.migration.isSome ∨ s.mem.change.isSome ∨ s.mem.waits.isSome)) BUSY]
    act := resetSubsystem }
def execSysResetSubsystem (q : Request) (s : State) : Result := .next (runRequest sysResetSubsystemCmd q s)

/-! ### IRQ_STATUS and BOOT_STATE (R428, R429) -/

/-- Bits written as 1 are cleared (W1C). -/
def clearBits (old v : Word) : Word := old &&& ~~~v

def execIrqStatusWrite (at_ : Nat) (v : Word) (s : State) : Result :=
  let s := advance at_ s
  .next (if s.bar0Serves then { s with boot := { s.boot with irq := clearBits s.boot.irq v } } else s)

def execBootStateWrite (at_ : Nat) (v : Word) (s : State) : Result :=
  let s := advance at_ s
  .next (if s.bar0Serves then clearFlags (v.getLsbD 8) (v.getLsbD 9) s else s)

end Sys2Proof.Machine
end

