-- ==== Sys2Proof/Machine/Ed25519.lean ====
section
/-! DEFINITION. Ed25519 verification (RFC 8032), which countersigned changes use (R465, R467, R509). Keys, signatures and digests are byte strings (R5). -/

namespace Sys2Proof.Machine

/-! ### The field and the curve -/

/-- The field's prime, the group's order and the curve's constant. -/
def edP : Nat := 2 ^ 255 - 19
def edL : Nat := 2 ^ 252 + 27742317777372353535851937790883648493
def edD : Nat := 0x52036cee2b6ffe738cc740797779e89800700a4d4141d8ab75eb4dca135978a3

/-- `x ^ n` in the field, for an exponent of at most `fuel` bits. -/
def edPow : Nat → Nat → Nat → Nat
  | 0, _, _ => 1
  | fuel + 1, n, x =>
    let y := edPow fuel (n / 2) (x * x % edP)
    if n % 2 = 1 then x * y % edP else y

def edSub (a b : Nat) : Nat := (a + (edP - b % edP)) % edP

/-- A point in extended homogeneous coordinates. -/
structure EdPoint where
  x : Nat
  y : Nat
  z : Nat
  t : Nat
deriving DecidableEq, Repr

def edZero : EdPoint := ⟨0, 1, 1, 0⟩

def edAdd (p q : EdPoint) : EdPoint :=
  let a := edSub p.y p.x * edSub q.y q.x % edP
  let b := (p.y + p.x) * (q.y + q.x) % edP
  let c := p.t * 2 * edD % edP * q.t % edP
  let d := p.z * 2 * q.z % edP
  let e := edSub b a
  let f := edSub d c
  let g := (d + c) % edP
  let h := (b + a) % edP
  ⟨e * f % edP, g * h % edP, f * g % edP, e * h % edP⟩

/-- `n` times a point, for a scalar of at most `fuel` bits. -/
def edMul : Nat → Nat → EdPoint → EdPoint
  | 0, _, _ => edZero
  | fuel + 1, n, p =>
    let q := edMul fuel (n / 2) (edAdd p p)
    if n % 2 = 1 then edAdd p q else q

/-- The same point of the curve. -/
def edSame (p q : EdPoint) : Bool := decide (p.x * q.z % edP = q.x * p.z % edP ∧ p.y * q.z % edP = q.y * p.z % edP)

/-- The x that belongs to a y and a sign (RFC 8032, 5.1.3). -/
def edRecover (y sign : Nat) : Option Nat :=
  let x2 := edSub (y * y % edP) 1 * edPow 255 (edP - 2) ((edD * (y * y % edP) + 1) % edP) % edP
  let r := edPow 255 ((edP + 3) / 8) x2
  let x := if r * r % edP = x2 then r else r * edPow 255 ((edP - 1) / 4) 2 % edP
  if x * x % edP ≠ x2 ∨ (x = 0 ∧ sign = 1) then none
  else some (if x % 2 = sign then x else edP - x)

/-- The point that 32 bytes encode. DEDUCED (log entry 23). -/
def edDecode (b : List Byte) : Option EdPoint :=
  let n := ofLe b
  let y := n % 2 ^ 255
  if b.length ≠ 32 ∨ edP ≤ y then none
  else (edRecover y (n / 2 ^ 255)).map fun x => ⟨x, y, 1, x * y % edP⟩

/-- The base point. -/
def edBase : EdPoint :=
  let x := 0x216936d3cd6e53fec0a4e231fdd6dc5c692cc7609525a7b2c9562d608f25d51a
  let y := 0x6666666666666666666666666666666666666666666666666666666666666658
  ⟨x, y, 1, x * y % edP⟩

/-- Eight times a point. -/
def edEight (p : EdPoint) : EdPoint :=
  let p := edAdd p p
  let p := edAdd p p
  edAdd p p

/-- The equation 8 S B = 8 R + 8 k A of RFC 8032, 5.1.7. DEDUCED (log entry 23). -/
def edHolds (a r : EdPoint) (s k : Nat) : Bool :=
  edSame (edEight (edMul 253 s edBase)) (edAdd (edEight r) (edEight (edMul 253 k a)))

/-- Whether an Ed25519 signature verifies: key, message, signature. DEDUCED (log entry 23). -/
def ed25519 (key message signature : List Byte) : Bool :=
  let s := ofLe (signature.drop 32)
  match edDecode key, edDecode (signature.take 32) with
  | some a, some r =>
    decide (signature.length = 64 ∧ s < edL)
      && edHolds a r s (ofLe (sha512 (signature.take 32 ++ key ++ message)) % edL)
  | _, _ => false

end Sys2Proof.Machine
end

