-- ==== Sys2Proof/Machine/Sync.lean ====
section
/-! DEFINITION. Systems of many modules: the commands of group 0x0D, the sync stream, reports, probes, the check, the
coordinated arm and the domain reset (R470 to R493). -/

namespace Sys2Proof.Machine

/-- The system tick of a local tick, and the local tick of a system tick (R482). -/
def State.systemTick (s : State) (t : Nat) : Int := (t : Int) + s.sync.delta
def State.localTick (s : State) (t : Int) : Nat := (t - s.sync.delta).toNat

/-! ### SYNC_CONFIGURE (R460) -/

def configureFields (q : Request) : List Check :=
  [within 0 4095 (q.u16 0), within 0 2 (q.u8 2), reserved q 3 1,
    if q.u8 2 = 2 then counted 4096 (q.u16 4) else reserved q 4 2, reserved q 6 2, counted 1000000 (q.u32 8), reserved q 12 4]

/-- The state of a module whose role and ID are set (R486): a refused module stays refused. -/
def SyncState.afterConfigure (role id : Nat) (x : SyncState) : Nat :=
  if role = 0 then 0 else if x.st = 3 then 3 else if x.st = 2 ∧ x.role = role ∧ x.id = id then 2 else 1

/-- A delay calibration that a change of role overtakes ends, and who waits for it is answered. -/
def endDelayRun (s : State) : State :=
  match s.sync.delayRun with
  | some r => reply r.waiter WRONG_STATE [] { s with sync := { s.sync with delayRun := none } }
  | none => s

/-- So does a check. -/
def endChecking (s : State) : State :=
  match s.sync.check with
  | some c => reply c.waiter WRONG_STATE (zeros 8) { s with sync := { s.sync with check := none } }
  | none => s

/-- The time-unaligned flag of segments is about to change: what stood before the present tick is kept (R267, R487). -/
def keepAlignment (s : State) : State :=
  { s with sync := { s.sync with alignPast := (s.time.tick, s.sync.unaligned || s.sync.lost) :: s.sync.alignPast } }

/-- A module takes its role, ID, members and bound. Only a member has a delay to compensate. -/
def takeRole (q : Request) (s : State) : State :=
  let s := keepAlignment s
  let x := s.sync
  let role := q.u8 2
  let same : Bool := decide (x.role = role)
  { s with sync := { x with
      id := q.u16 0, role := role, members := if role = 2 then q.u16 4 else 1, bound := q.u32 8
      st := x.afterConfigure role (q.u16 0), delta := if role = 1 then x.delta else 0
      lost := same && x.lost, unaligned := same && x.unaligned, offset := if same then x.offset else 0
      lastFrame := if role = 1 then some (x.lastFrame.getD s.time.ps) else none
      frameLock := same && x.frameLock, agreed := same && x.agreed
      reports := if same then x.reports else [], echoes := if same then x.echoes else []
      commands := if same then x.commands else [] } }

/-- What the old role had under way ends where the role changes. DEDUCED (log entry 61). -/
def configureSync (q : Request) (s : State) : State :=
  takeRole q (if s.sync.role = q.u8 2 then s else releaseAlert .syncLost (endChecking (endDelayRun s)))

def syncConfigureCmd : Cmd :=
  setCmd 0x0D01 48 (fun _ q => configureFields q)
    (fun s q => firstRejection [
      rejectWhen (s.anyArmed ∨ s.lockHeld) WRONG_STATE,
      rejectWhen (q.u8 2 ≠ 0 ∧ s.clk.lnkRamp.running) WRONG_STATE])
    configureSync
def execSyncConfigure (q : Request) (s : State) : Result := .next (runRequest syncConfigureCmd q s)

/-! ### Delay calibration (R481, R482) -/

def delayPayload (delay compensation : Int) (above : Bool) : List Byte :=
  i32 delay ++ i32 compensation ++ u16 above.toNat ++ zeros 6

def syncCalibrateDelayCmd : Cmd :=
  { opcode := 0x0D02, classC := true, lengths := lenIs 40
    checks := fun _ q => [reserved q 0 8]
    reject := fun s _ => rejectWhen (s.sync.role = 0 ∨ s.anyArmed ∨ s.sync.delayRun.isSome) WRONG_STATE
    act := fun w _ s =>
      if s.sync.role = 2 then reply w OK (delayPayload 0 0 false) s
      else { s with sync := { s.sync with delayRun := some { waiter := w } } } }
def execSyncCalibrateDelay (q : Request) (s : State) : Result := .next (runRequest syncCalibrateDelayCmd q s)

/-- A time in 1/16 tick, now. -/
def State.now16 (s : State) : Nat := 16 * s.time.tick + 16 * s.time.rem / (5 * 10 ^ 20)

/-- A frame with its CRC-32C. -/
def withCrc (b : List Byte) : List Byte := b ++ u32 (crc32c b)

/-- A member sends its probe, stamped at its land. -/
def sendProbe (r : DelayRun) (s : State) : State :=
  emit .trigbus [0x03] (withCrc (u16 (s.sync.id % 4096 + 4096 * (r.number % 16))))
    { s with sync := { s.sync with delayRun := some { r with sent := some (r.number, s.now16), waited := 0 } } }

/-- The difference of two 32-bit times in 1/16 tick. -/
def diff32 (a b : Nat) : Int := signed 32 ((a + 2 ^ 32 - b % 2 ^ 32) % 2 ^ 32)

/-- Δ from a valid marker: round(marker tick + dt - t4), t4 in 1/16 tick of the local grid (R482). -/
def State.markerDelta (s : State) (f : SyncFrame) (t4 : Nat) : Int :=
  let m : Int := (f.markerTick * 65536 + f.markerFrac : Nat)
  roundDiv (m * 1000000 + s.delayTicks s.sync.delayPs * 65536 - (t4 * 4096 : Nat) * 1000000) (65536 * 1000000)

/-- The member has its 16 exchanges: it compensates a delay of 2,000 ns or less (R482). DEDUCED (log entry 61). -/
def finishDelay (r : DelayRun) (f : SyncFrame) (t4 : Nat) (s : State) : State :=
  let d := roundDiv (r.ds.sum * 250000) (32 * 16 * s.clk.core : Nat)
  let above : Bool := decide (2000000 < d)
  let undone := (List.range 2).map fun i => s.clk.phase.getD i 0 + s.sync.stepped.getD i 0
  let s := if above then
      { s with clk := { s.clk with phase := undone }
               sync := { s.sync with delayRun := none, delayPs := d, calibrated := false, stepped := [0, 0] } }
    else
      let s := stepDelay { s with sync := { s.sync with delayRun := none, delayPs := d, calibrated := true } }
      { s with sync := { s.sync with delta := s.markerDelta f t4 } }
  let s := record 0x0D03 [ri4 d, ri8 (s.delayTicks d / 1000000), ri8 s.sync.delta] s
  reply r.waiter OK (delayPayload d (if above then 0 else d) above) s

/-- A valid frame brings the echo of the member's probe, or the third without it asks for another (R481). -/
def takeEcho (f : SyncFrame) (t4 : Nat) (s : State) : State :=
  match s.sync.delayRun with
  | none => s
  | some r => match r.sent with
    | none => s
    | some (number, t1) =>
      match f.echoes.find? fun e => e.1 = s.sync.id ∧ e.2.1 = number % 16 with
      | some e =>
        let t3 := f.markerTick * 16 + f.markerFrac / 4096
        let d := (t4 : Int) - t1 - diff32 (t3 % 2 ^ 32) e.2.2
        let r := { r with sent := none, number := r.number + 1, ds := d :: r.ds }
        if 16 ≤ r.ds.length then finishDelay r f t4 s
        else { s with sync := { s.sync with delayRun := some r } }
      | none =>
        let sent := if 2 ≤ r.waited then none else r.sent
        { s with sync := { s.sync with delayRun := some { r with sent := sent, waited := r.waited + 1 } } }

/-- PROBE_RECEIVED (R481): the leader queues the echo. -/
def execProbeReceived (at_ id number stamp : Nat) (crcGood : Bool) (s : State) : Result :=
  let s := advance at_ s
  .next (
    if s.sync.role ≠ 2 then s
    else if ¬ crcGood then { s with trg := { s.trg with crcErrors := satInc 32 s.trg.crcErrors } }
    else { s with sync := { s.sync with echoes := s.sync.echoes ++ [(id % 4096, number % 16, stamp % 2 ^ 32)] } })

/-! ### Reports (R478, R480) -/

/-- Groups that the module holds pending. -/
def State.pendingMap (s : State) : Nat := ofBits (s.seg.map fun x => decide (x.state = .pending))

/-- Sample and system loops are locked to SYNCIN. -/
def State.lockedToTree (s : State) : Bool :=
  [s.loop 0, s.loop 1].all fun l => decide (l.st = .locked ∧ l.source = 2)

/-- The report's bits: groups ready, delay calibrated, loops locked to SYNCIN, time-unaligned. -/
def State.reportBits (s : State) : Nat :=
  (if s.sync.lost then 0 else s.pendingMap % 16) + 16 * ofBits [s.sync.calibrated, s.lockedToTree, s.sync.unaligned]

def State.scopeDigest (s : State) : List Byte := sha256 s.scopeRecord

/-- A member sends a report. -/
def sendReport (s : State) : State :=
  let b := u16 (s.sync.id % 4096) ++ u16 s.sync.checkSeen ++ u8 fwMajor ++ u8 s.fwMinor
    ++ u16 s.fwPatch ++ u8 s.boot.st ++ u8 s.reportBits ++ u16 s.time.epoch ++ i32 s.sync.offset
    ++ i32 s.sync.delayPs ++ s.scopeDigest
  emit .trigbus [0x02] (withCrc b) { s with sync := { s.sync with bits := s.reportBits, reported := false } }

/-- REPORT_BITS_CHANGED (R480). -/
def execReportBitsChanged (at_ : Nat) (s : State) : Result :=
  let s := advance at_ s
  .next (if s.sync.role = 1 ∧ s.awake ∧ s.reportBits ≠ s.sync.bits then sendReport s else s)

/-- SYNC_REPORT_SLOT (R480): the report, and ahead of it the probe of a delay calibration that has none under way (R481). -/
def execSyncReportSlot (at_ : Nat) (s : State) : Result :=
  let s := advance at_ s
  .next (
    if s.sync.role ≠ 1 ∨ ¬ s.awake then s
    else sendReport (match s.sync.delayRun with
      | some r => if r.sent.isNone then sendProbe r s else s
      | none => s))

/-! ### The leader: reports, the check and the arm (R486, R490) -/

/-- Modules whose latest report shows group `g` ready. -/
def State.readyFor (s : State) (g : Nat) : Nat := (s.sync.reports.filter fun r => r.bits.testBit g).length

/-- A report replaces the module's earlier one. Under a check, one that differs from an earlier report of the same ID stays
beside it: two modules carry that ID (R486). -/
def addReport (r : SyncReport) (checking : Option Nat) (l : List SyncReport) : List SyncReport :=
  let other (x : SyncReport) : Bool :=
    decide (x.module ≠ r.module) || (checking = some r.checkSeq && x.checkSeq = r.checkSeq
      && decide ((x.fwMajor, x.fwMinor, x.fwPatch, x.delay, x.digest) ≠ (r.fwMajor, r.fwMinor, r.fwPatch, r.delay, r.digest)))
  r :: l.filter other

/-- TRIGBUS_REPORT_RECEIVED (R478). -/
def execTrigbusReportReceived (at_ : Nat) (r : SyncReport) (s : State) : Result :=
  let s := advance at_ s
  .next (
    if s.sync.role ≠ 2 then s
    else if ¬ r.crcGood then { s with trg := { s.trg with crcErrors := satInc 32 s.trg.crcErrors } }
    else { s with sync := { s.sync with reports := addReport r (s.sync.check.map (·.sequence)) s.sync.reports } })

def nextCheck (n : Nat) : Nat := if n + 1 = 65536 then 1 else n + 1

/-- A command of the sync stream waits for its frame (R475). -/
def queueSync (c : SyncCommand) (s : State) : State :=
  { s with sync := { s.sync with commands := s.sync.commands ++ [c] } }

/-- DEDUCED (log entry 61). -/
def syncCheckCmd : Cmd :=
  { opcode := 0x0D03, classC := true, lengths := lenIs 32, failLen := 8
    checks := fun _ _ => []
    reject := fun s _ => if s.sync.role ≠ 2 ∨ s.sync.check.isSome then some (WRONG_STATE, zeros 8) else none
    act := fun w _ s =>
      let n := nextCheck s.sync.checkSeq
      queueSync { code := 1, check := n }
        { s with sync := { s.sync with checkSeq := n, check := some { sequence := n, waiter := w } } } }
def execSyncCheck (q : Request) (s : State) : Result := .next (runRequest syncCheckCmd q s)

/-- Reports under a check. -/
def State.reportsUnder (s : State) (n : Nat) : List SyncReport := s.sync.reports.filter fun r => r.checkSeq = n

/-- The cause of one report (R486); 0 where it agrees. -/
def State.reportCause (s : State) (l : List SyncReport) (r : SyncReport) : Nat :=
  if r.fwMajor ≠ fwMajor ∨ r.fwMinor ≠ s.fwMinor then 1
  else if r.digest ≠ s.scopeDigest then 2
  else if r.boot ≠ 4 ∨ ¬ r.bits.testBit 4 ∨ ¬ r.bits.testBit 5 ∨ s.sync.members ≤ r.module
      ∨ 1 < (l.filter fun x => x.module = r.module).length ∨ r.module = s.sync.id then 3
  else 0

/-- The cause of a module: the first that holds of its reports, or that it did not answer. The leader answers for itself. -/
def State.moduleCause (s : State) (l : List SyncReport) (m : Nat) : Nat :=
  let mine := (l.filter fun r => r.module = m).map (s.reportCause l)
  let bad := mine.filter (· ≠ 0)
  if m = s.sync.id then (if s.boot.st ≠ 4 ∨ s.sync.members ≤ m ∨ ! mine.isEmpty then 3 else 0)
  else if mine.isEmpty then 4
  else bad.foldl min (bad.headD 0)

/-- The rising list of IDs that the check judges: 0 to n - 1, every module that reported, and the leader.
DEDUCED (log entry 61). -/
def State.judged (s : State) (l : List SyncReport) : List Nat :=
  l.foldl (fun a r => insertNat r.module a) (insertNat s.sync.id (List.range s.sync.members))

/-- Modules that have answered, the leader included. -/
def State.answered (s : State) (l : List SyncReport) : Nat :=
  (l.foldl (fun a r => insertNat r.module a) [s.sync.id]).length

/-- The check is decided: its record, refusals, the verdict and the reply (R461, R486). DEDUCED (log entry 61). -/
def finishCheck (c : SyncChecking) (s : State) : State :=
  let l := s.reportsUnder c.sequence
  let causes := (s.judged l).map fun m => (m, s.moduleCause l m)
  let bad := causes.filter fun x => x.2 ≠ 0
  let reporting := s.answered l
  let first := bad.headD (0xFFFF, 0)
  let patches := (l.filter fun r => r.fwPatch ≠ s.fwPatch).flatMap fun r => [r2 r.module, r4 r.fwPatch]
  let s := record 0x0D05 ([r8 c.sequence, r4 reporting, r4 bad.length] ++ patches) s
  let refused := (bad.filter fun x => x.2 ≠ 4 ∧ x.1 ≠ s.sync.id).map (·.1)
  let s := forAll refused (fun m s => queueSync { code := 2, check := c.sequence, tick := m } s) s
  let s := queueSync { code := 3, check := c.sequence } s
  let s := { s with sync := { s.sync with
    check := none, agreed := bad.isEmpty, st := if bad.isEmpty then 2 else s.sync.st } }
  reply c.waiter (if bad.isEmpty then OK else SYSTEM_DISAGREE)
    (u16 reporting ++ u16 bad.length ++ u16 first.1 ++ u8 first.2 ++ u8 0) s

/-- CHECK_WAIT_END (R486): 520 frames have passed, or every module has answered. -/
def execCheckWaitEnd (at_ : Nat) (s : State) : Result :=
  let s := advance at_ s
  .next (match s.sync.check with
    | none => s
    | some c =>
      if 520 ≤ c.frames ∨ s.sync.members ≤ s.answered (s.reportsUnder c.sequence) then finishCheck c s else s)

/-- DEDUCED (log entry 25). -/
def syncLockCmd : Cmd :=
  setCmd 0x0D04 40 (fun _ q => [within 0 1 (q.u8 0), reserved q 1 7])
    (fun s q => rejectWhen (s.sync.role ≠ 2 ∨ (q.u8 0 = 1 ∧ ¬ (s.sync.agreed ∧ s.sync.st = 2))) WRONG_STATE)
    (fun q s => record (if q.u8 0 = 1 then 0x0D0A else 0x0D0B) []
      { s with sync := { s.sync with lock := decide (q.u8 0 = 1) } })
def execSyncLock (q : Request) (s : State) : Result := .next (runRequest syncLockCmd q s)

/-- The bound of a given tick (R491). -/
def resetAhead (s : State) (t : Nat) : Check :=
  allowed (s.systemTick s.time.tick + s.ticksOfUs 30 ≤ t ∧ (t : Int) ≤ s.systemTick s.time.tick + (2 ^ 40 : Nat))

def syncResetDomainCmd : Cmd :=
  { opcode := 0x0D05, classC := true, lengths := lenIs 48
    checks := fun s q => [reservedBits q 0 1, reserved q 1 7, if q.bit 0 0 then reserved q 8 8 else resetAhead s (q.u64 8)]
    reject := fun s _ => firstRejection [
      rejectWhen (s.sync.role ≠ 2) WRONG_STATE,
      rejectWhen (s.sync.reset.isSome ∨ s.sync.resetWaiter.isSome) BUSY]
    act := fun w q s =>
      queueSync { code := 5, tick := q.u64 8, second := q.bit 0 0 } { s with sync := { s.sync with resetWaiter := some w } } }
def execSyncResetDomain (q : Request) (s : State) : Result := .next (runRequest syncResetDomainCmd q s)

/-- The group that SYNC_GET_STATUS counts ready modules for: the lowest-numbered pending one (R490).
DEDUCED (log entry 61). -/
def State.readyCount (s : State) : Nat :=
  match (List.range 4).find? fun g => (s.sg g).state = .pending with
  | some g => if s.sync.role = 2 then s.readyFor g else 0
  | none => 0

def syncStatusPayload (s : State) : List Byte :=
  let lock := if s.sync.role = 2 then s.sync.lock else s.sync.frameLock
  u16 s.sync.id ++ u8 s.sync.role ++ u8 s.sync.st ++ u16 s.readyCount ++ u16 s.time.epoch ++ i32 s.sync.offset
    ++ u8 (ofBits [s.sync.unaligned, lock]) ++ zeros 3 ++ i32 s.sync.delayPs ++ zeros 12 ++ s.scopeDigest

def syncGetStatusCmd : Cmd := readCmd 0x0D06 32 (fun _ _ => []) fun s _ => syncStatusPayload s
def execSyncGetStatus (q : Request) (s : State) : Result := .next (runRequest syncGetStatusCmd q s)

/-! ### The arm and the domain reset take place (R490, R492) -/

/-- A pending group is armed at its first frame boundary at or after a system tick. -/
def armAt (g : Nat) (t : Nat) (s : State) : State :=
  match (s.sg g).state with
  | .pending => scheduleArm g (frameOf (boundaryAt (s.localTick t))) (s.sg g).armWaiter s
  | _ => s

/-- DEDUCED (log entry 61). -/
def armGroups (groups t : Nat) (s : State) : State := forEach 4 (fun g s => if groups.testBit g then armAt g t s else s) s

/-- The leader queues an arm command for a group of its own that is pending and for which every module is ready. -/
def queueArms (s : State) : State :=
  forEach 4 (fun g s =>
    if (s.sg g).state ≠ .pending then { s with sync := { s.sync with armSent := s.sync.armSent - (if s.sync.armSent.testBit g then 2 ^ g else 0) } }
    else if s.sync.armSent.testBit g ∨ s.readyFor g + 1 < s.sync.members then s
    else queueSync { code := 4, groups := 2 ^ g, tick := s.sync.armTicks.getD g 0, second := true }
      { s with sync := { s.sync with armSent := s.sync.armSent + 2 ^ g } }) s

/-- Every armed group stops with reason 5, and pending ones end (R492 step 1). -/
def resetGroups (tick : Nat) (s : State) : State := forEach 4 (fun g s => endPending g (resetCapture g tick s)) s

/-- SYNC_DOMAIN_RESET (R492): at its tick, groups, filter and gates, in that order. -/
def execSyncDomainReset (at_ : Nat) (s : State) : Result :=
  let s := advance at_ s
  .next (match s.sync.reset with
    | none => s
    | some (t, w) =>
      let local_ := s.localTick t
      if s.time.tick < local_ then s
      else
        let stopped := ofBits (s.seg.map fun x => decide (x.state = .capturing ∨ x.state = .stopping))
        let s := resetGroups local_ { s with sync := { s.sync with reset := none } }
        let s := if s.flt.running then
            syncChain 2 local_ s
          else s
        let s := resetGates local_ s
        replyOpt w OK [] (record 0x0D0C [r8 t, ri8 s.sync.delta, r1 stopped] s))

/-! ### The sync stream (R473 to R476, R484, R487, R493) -/

/-- Ticks of one frame period. -/
def State.frameTicks (s : State) : Nat := s.ticksOfUs 10

/-- The delays of SYS1 in 0.5 ps (R90). -/
def State.markerDelay (s : State) : Nat :=
  let w := (s.clk.outputs.getD 4 0).toNat
  625 * (w / 2 ^ 9 % 256) + w / 2 ^ 17 % 1024

/-- The marker in 1/65,536 tick: now, and the delays of SYS1. -/
def State.markerUnits (s : State) : Nat :=
  (s.systemTick s.time.tick).toNat * 65536 + s.time.rem * 65536 / (5 * 10 ^ 20) + s.markerDelay * s.clk.core * 131072 / 1000000

/-- TAI in ns at the marker edge. -/
def State.markerTime (s : State) : Int := (s.time.tai + s.markerDelay * 5 * 10 ^ 8) / 10 ^ 12

/-- The tick that a command of a frame names: of its own, or of the second frame after it. -/
def commandTick (s : State) (marker : Nat) (c : SyncCommand) : Nat :=
  if c.second then max c.tick (marker + 2 * s.frameTicks) else c.tick

/-- What the leader does itself when it sends a command. -/
def leaderActs (c : SyncCommand) (tick : Nat) (s : State) : State :=
  match c.code with
  | 4 => armGroups c.groups tick s
  | 5 => { s with sync := { s.sync with reset := some (tick, s.sync.resetWaiter), resetWaiter := none } }
  | _ => s

def echoBytes (e : Nat × Nat × Nat) : List Byte := u16 (e.1 % 4096 + 4096 * e.2.1) ++ u32 e.2.2

/-- The 120 bytes of a frame (R474). -/
def syncFrameBytes (s : State) (units : Nat) (c : SyncCommand) (tick : Nat) (echoes : List (Nat × Nat × Nat)) : List Byte :=
  withCrc (u8 1 ++ u8 (ofBits [s.sync.lock, s.sync.check.isSome]) ++ u16 (s.sync.id % 4096) ++ u32 s.sync.frame
    ++ u64 (units / 65536) ++ u16 (units % 65536) ++ u16 s.time.epoch ++ i64 s.markerTime ++ u16 s.clk.core ++ u16 s.sync.members
    ++ u8 c.code ++ u8 c.groups ++ u16 c.check ++ zeros 4 ++ u64 tick ++ u8 echoes.length ++ zeros 3
    ++ toLen 60 (echoes.flatMap echoBytes) ++ zeros 4)

/-- SYNC_FRAME_SEND (R473): one queued command, and at most ten echoes. -/
def execSyncFrameSend (at_ : Nat) (s : State) : Result :=
  let s := advance at_ s
  .next (
    if s.sync.role ≠ 2 ∨ ¬ s.awake then s
    else
      let s := queueArms s
      let units := s.markerUnits
      let c := s.sync.commands.headD { code := 0 }
      let tick := if c.code = 0 ∨ c.code = 1 ∨ c.code = 3 then 0 else commandTick s (units / 65536) c
      let echoes := s.sync.echoes.take 10
      let s := emit .syncout [s.sync.frame % 2 ^ 32, units / 65536, units % 65536, s.time.epoch, s.markerTime.toNat, c.code, tick]
        (syncFrameBytes s units c tick echoes) s
      let s := { s with sync := { s.sync with
        frame := s.sync.frame + 1, commands := s.sync.commands.drop 1, echoes := s.sync.echoes.drop 10
        check := s.sync.check.map fun x => { x with frames := x.frames + 1 } } }
      leaderActs c tick s)

/-- A change of the time-unaligned state is recorded (R487). -/
def setUnaligned (b : Bool) (s : State) : State :=
  if s.sync.unaligned = b then s
  else
    let s := keepAlignment s
    record (if b then 0x0D08 else 0x0D09) (if b then [ri4 s.sync.offset] else [])
      { s with sync := { s.sync with unaligned := b } }

/-- A calibrated member compares Δ with what the marker gives; a difference is a slip (R484). -/
def reviewDelta (f : SyncFrame) (t4 : Nat) (s : State) : State :=
  let d := s.markerDelta f t4
  if ¬ s.sync.calibrated ∨ d = s.sync.delta then s
  else record 0x0D04 [ri8 s.sync.delta, ri8 d, r8 (t4 / 16)] { s with sync := { s.sync with delta := d } }

/-- The time offset at a valid marker, and the time that follows the frame with source 3 (R487).
DEDUCED (log entry 61). -/
def reviewTime (f : SyncFrame) (t4 : Nat) (s : State) : State :=
  let offset := (s.timeAt (t4 / 16)).1 - (f.markerTime + s.sync.delayPs / 1000)
  let s := setUnaligned (decide (s.sync.bound < offset.natAbs)) { s with sync := { s.sync with
    offset := clampInt (-0x80000000) 0x7FFFFFFF offset } }
  if s.time.source = 3 then correctTime (s.now - offset) (steerTime s) else s

/-- A member acts on the command of a frame (R475). -/
def memberActs (f : SyncFrame) (s : State) : State :=
  match f.command with
  | 1 => { s with sync := { s.sync with checkSeen := f.checkSeq, reported := true } }
  | 2 =>
    if f.commandTick % 4096 = s.sync.id ∧ f.checkSeq = s.sync.checkSeen then
      let r := takeFree s
      record 0x0D06 [r1 (r.1 % 3 + 1)] { r.2 with sync := { r.2.sync with st := 3, refusedAt := some f.checkSeq } }
    else s
  | 3 =>
    if f.checkSeq = s.sync.checkSeen ∧ ¬ s.sync.reported ∧ s.sync.refusedAt ≠ some f.checkSeq ∧ s.sync.st ≠ 2 then
      record 0x0D07 [ri8 s.sync.delta] { s with sync := { s.sync with st := 2 } }
    else s
  | 4 => armGroups f.groups f.commandTick s
  | 5 => { s with sync := { s.sync with reset := some (f.commandTick, none) } }
  | _ => s

/-- The tree is back (R493). -/
def restoreSync (s : State) : State :=
  if s.sync.lost then
    let s := keepAlignment s
    releaseAlert .syncLost (record 0x0D02 [] { s with sync := { s.sync with lost := false } })
  else s

/-- SYNC_FRAME_RECEIVED (R476): `marker` is the member's stamp of the marker in 1/16 tick. -/
def execSyncFrameReceived (at_ marker : Nat) (f : SyncFrame) (s : State) : Result :=
  let s := advance at_ s
  .next (
    if s.sync.role ≠ 1 ∨ ¬ s.awake then s
    else if ¬ f.crcGood ∨ ¬ f.markerInPlace then { s with sync := { s.sync with discarded := s.sync.discarded + 1 } }
    else
      let s := { s with sync := { s.sync with
        lastFrame := some s.time.ps, frameCount := f.count, leader := f.leader, frameLock := f.flags.testBit 0 } }
      memberActs f (takeEcho f marker (reviewTime f marker (reviewDelta f marker (restoreSync s)))))

/-- SYNC_LOST (R476, R493): no valid frame for 10 frame periods. -/
def execSyncLost (at_ : Nat) (s : State) : Result :=
  let s := advance at_ s
  .next (
    if s.sync.role ≠ 1 ∨ s.sync.lost ∨ ¬ s.awake ∨ s.time.ps < s.sync.lastFrame.getD 0 + 100 * 1000000 then s
    else
      let s := keepAlignment s
      let s := assertAlert .syncLost (record 0x0D01 [] { s with sync := { s.sync with lost := true } })
      setUnaligned true (forEach 4 endPending s))

end Sys2Proof.Machine
end

