-- ==== Sys2Proof/Machine/Protect.lean ====
section
/-! DEFINITION. Countersigned changes: PROT_PROPOSE and PROT_COUNTERSIGN (R464 to R467, R511, R512). -/

namespace Sys2Proof.Machine

/-- The commands that may be an opcode of the protected set (R464). -/
def protectable : List Cmd :=
  [sysRestartCmd, sysSetMarginFloorCmd, sysSetVcoreModeCmd, sysSetNetworkCmd, sysClearFlagsCmd, sysResetSubsystemCmd,
      sysSetPowerStateCmd]
    ++ [clkSetOutputCmd, clkSetReferenceCmd, clkSetTimeSourceCmd, clkSetTimeCmd, clkStepPhaseCmd, clkSetRampCmd,
      clkSetCoreRateCmd, clkSetCeilingCmd]
    ++ [inpSetEnableCmd, inpSetPairCmd]
    ++ [calRunForegroundCmd, calSetScheduleCmd, calSaveImageCmd, calWriteImageCmd, calRestoreImageCmd]
    ++ [fltConfigureChainCmd, fltLoadFirCmd, fltSetInputCmd, fltStartCmd, fltStopCmd, fltSyncCmd]
    ++ [trigSetComparatorCmd, trigSetConditionCmd, trigSetPatternCmd, trigSetGroupCmd, trigSetBusCmd, trigSetMarkerCmd,
      trigForceCmd]
    ++ [edgeSetInputCmd, edgeSetGateCmd, edgeSetAngleCmd]
    ++ [segConfigureCmd, segArmCmd, segStopCmd]
    ++ [hamConfigureCmd, hamReleaseCmd, hamStartCmd, hamStopCmd, hamSpillCmd]
    ++ [dmxSetPortCmd, dmxEnumerateCmd, dmxEnrolCmd, dmxRemoveHeadCmd, dmxSetHeadCmd, dmxHeadParamCmd, dmxSetRouteCmd,
      dmxSetAlarmGroupCmd, dmxRejoinCmd]
    ++ [engCreateJobCmd, engStartJobCmd, engStopJobCmd, engDeleteJobCmd]
    ++ [phRingConfigureCmd, phRingStartCmd, phRingStopCmd, phStreamConfigureCmd, ptpConfigureCmd, pcieSetClockingCmd,
      phConfigureCmd, phSetPolicyCmd, phSetDrainCmd, phFlushCmd, phReleaseCmd, phBindEdgeCmd]
    ++ [memSetRateCmd, memRetireRankCmd, memRemapCmd]
    ++ [syncConfigureCmd, syncCalibrateDelayCmd, syncCheckCmd, syncLockCmd, syncResetDomainCmd]
    ++ [keyEnrolCmd, keyRemoveCmd, protSetProtectedCmd, fwCommitCmd, evtSetCopyCmd, evtClearRingCmd]
    ++ [auxSetSequenceCmd, auxInjectCmd, auxSetCaptureCmd]

def commandOf (opcode : Nat) : Option Cmd := protectable.find? fun c => c.opcode = opcode

/-- A request as its bytes lay it out (R421): its opcode, and the rest. -/
def parseRequest (b : List Byte) : Nat × Request :=
  (field b 0 2,
    { length := field b 2 2, tag := field b 4 2, hsess := field b 6 1, resv := field b 7 1 + 256 * field b 10 22
      gen := field b 8 2, payload := b.drop 32 })

/-! ### PROT_PROPOSE (R465) -/

/-- The bytes of the inner request. -/
def Request.inner (q : Request) : List Byte := q.bytes 72 (q.length - 104)

/-- Checks 1 and 2 on the inner header. -/
def innerHeader (opcode : Nat) (b : List Byte) (r : Request) : Check :=
  firstFailure [
    failWhen (r.length ≠ b.length) BAD_LENGTH,
    failWhen (r.length < 32 ∨ 4096 < r.length) BAD_LENGTH,
    failWhen (¬ allocated opcode) BAD_OPCODE,
    failWhen (r.resv ≠ 0) RESERVED_NONZERO,
    failWhen (r.hsess ≠ 0 ∨ r.gen ≠ 0) RESERVED_NONZERO]

/-- The slot holds a key under which the signature over a message verifies. -/
def State.signed (s : State) (slot : Nat) (message signature : List Byte) : Bool :=
  match s.key slot with
  | none => false
  | some k => ed25519 k.key message signature

/-- The checks of R466 on the inner request: its header, the membership of its opcode, and its own field checks.
DEDUCED (log entry 46). -/
def innerChecks (s : State) (b : List Byte) : Check :=
  let (opcode, r) := parseRequest b
  match innerHeader opcode b r with
  | some st => some st
  | none =>
    if ¬ s.protectedSet.contains opcode then some OUT_OF_RANGE
    else match commandOf opcode with
      | none => some OUT_OF_RANGE
      | some c => firstFailure (c.checks s r)

/-- The checks of R465, in order. DEDUCED (log entry 46). -/
def proposeChecks (s : State) (q : Request) : Check :=
  firstFailure [
    innerChecks s (Request.inner q),
    failWhen (¬ s.signed (q.u8 0) (sha256 (serialBytes ++ Request.inner q)) (q.bytes 8 64)) COUNTERSIGN_MISMATCH,
    failWhen (8 ≤ s.openProposals.length) RESOURCE_EXHAUSTED]

/-- D (R466). -/
def digestOf (number record slot iface : Nat) (inner : List Byte) : List Byte :=
  sha256 (serialBytes ++ u32 number ++ u64 record ++ u8 slot ++ u8 iface ++ inner)

/-- A proposal opens: PROTECTED_PROPOSED, then the reply (R511 step 2). -/
def openProposal (w : Waiter) (q : Request) (s : State) : State :=
  let b := Request.inner q
  let (opcode, r) := parseRequest b
  let n := s.prot.nextProposal
  let seq := s.evt.nextSeq
  let d := digestOf n seq (q.u8 0) (ifaceOf w.sess) b
  let p : Proposal := { number := n, record := seq, slot := q.u8 0, iface := ifaceOf w.sess, sess := w.sess, opcode := opcode
                        inner := r, digest := d, repliedAt := s.time.ps }
  let s := record 0x0E06 [r4 n, rb d, r1 p.slot, r4 p.iface, r4 p.sess, r2 opcode] s
  reply w OK (u32 n ++ u32 120000 ++ d ++ u64 seq)
    { s with prot := { s.prot with nextProposal := n + 1, proposals := s.prot.proposals ++ [p] } }

def protProposeCmd : Cmd :=
  { opcode := 0x0E08, classC := true, lengths := fun l => decide (136 ≤ l ∧ l ≤ 4096)
    checks := fun _ q => [within 0 7 (q.u8 0), reserved q 1 7]
    reject := fun s q => (proposeChecks s q).map fun st => (st, [])
    act := openProposal }
def execProtPropose (q : Request) (s : State) : Result := .next (runRequest protProposeCmd q s)

/-! ### PROT_COUNTERSIGN (R467) -/

def State.proposal (s : State) (n : Nat) : Option Proposal := s.prot.proposals.find? fun p => p.number = n

/-- The checks of R467, in order. DEDUCED (log entry 46). -/
def countersignChecks (s : State) (q : Request) : Rejection :=
  match s.proposal (q.u32 0) with
  | none => some (if s.prot.expired.contains (q.u32 0) then COUNTERSIGN_EXPIRED else OUT_OF_RANGE, [])
  | some p =>
    firstRejection [
      rejectWhen (¬ p.open_ s.time.ps) COUNTERSIGN_EXPIRED,
      rejectWhen (q.u8 4 = p.slot ∨ ifaceOf q.sess = p.iface ∨ ¬ s.signed (q.u8 4) p.digest (q.bytes 8 64)) COUNTERSIGN_MISMATCH]

/-- The state checks of the inner request, from check 6 of R422 on, and its action; its reply is the countersign's.
DEDUCED (log entry 46). -/
def carryOut (w : Waiter) (p : Proposal) (s : State) : State :=
  let r := { p.inner with sess := w.sess }
  match commandOf p.opcode with
  | none => s
  | some c =>
    if ¬ admits s.boot.st p.opcode then reply w WRONG_STATE [] s
    else match stateChecks c r s with
      | some (st, payload) => reply w st payload (noteRejection c r s)
      | none => c.act w r s

/-- The proposal closes at the moment its countersign is taken (R467). DEDUCED (log entry 46). -/
def countersign (w : Waiter) (q : Request) (s : State) : State :=
  match s.proposal (q.u32 0) with
  | none => s
  | some p =>
    let w := { w with inner := some (p.number, p.slot, p.iface, q.u8 4, ifaceOf w.sess) }
    let s := carryOut w p s
    { s with prot := { s.prot with proposals := s.prot.proposals.filter fun x => x.number ≠ p.number } }

def protCountersignCmd : Cmd :=
  { opcode := 0x0E09, classC := true, lengths := lenIs 104
    checks := fun _ q => [within 0 7 (q.u8 4), reserved q 5 3]
    reject := countersignChecks
    act := countersign }
def execProtCountersign (q : Request) (s : State) : Result := .next (runRequest protCountersignCmd q s)

end Sys2Proof.Machine
end

