-- ==== Sys2Proof/Machine/Sessions.lean ====
section
/-! DEFINITION. Sessions and their mailboxes: doorbells, writes into mailboxes, Ethernet datagrams, opening and closing, and
what the Ethernet ports and SMBus answer (R416 to R437, R556). -/

namespace Sys2Proof.Machine

/-! ### Doorbells (R419, R430, R437) -/

/-- The interface of a doorbell reaches the register logic: BAR0 for sessions 0 to 23, SMBus for 30 and 31. -/
def State.rings (s : State) (n : Nat) : Bool := if n < 24 then s.bar0Serves else (decide (n = 30 ∨ n = 31) && s.awake)

/-- DEDUCED (log entry 47). -/
def doorbellResult (n status : Nat) (s : State) : State := updSession n (fun x => { x with dbResult := status }) s

/-- A doorbell with its reserved bits 0 acts only once sessions are open to it (R431). -/
def doorbell (at_ n : Nat) (reserved : Bool) (act : State → State) (s : State) : Result :=
  let s := advance at_ s
  .next (
    if ¬ s.rings n then s
    else if reserved then doorbellResult n RESERVED_NONZERO s
    else if ¬ s.serves then doorbellResult n WRONG_STATE s
    else act s)

/-- The request that stands in a mailbox. -/
def mailboxRequest (n : Nat) (x : Session) : Nat × Request :=
  let r := parseRequest ((List.range 4096).map (readCell x.mailbox))
  (r.1, { r.2 with sess := n, payload := r.2.body })

/-- Submit: a session takes the request in its mailbox, and holds it until the control processor takes it. -/
def submit (n : Nat) (s : State) : State :=
  let x := s.session n
  match x.st with
  | .closed => doorbellResult n WRONG_STATE s
  | .running => doorbellResult n BUSY s
  | .idle | .replyReady =>
    let r := mailboxRequest n x
    doorbellResult n OK (holdRequest r.1 r.2 s)

def execMbxDoorbellSubmit (at_ n resv : Nat) (s : State) : Result := doorbell at_ n (resv ≠ 0) (submit n) s

/-- Open: only a PCIe session notifies. DEDUCED (log entry 47). -/
def openByDoorbell (n : Nat) (notify : Bool) (vector : Nat) (s : State) : State :=
  if (s.session n).st ≠ .closed then doorbellResult n WRONG_STATE s
  else doorbellResult n OK (openSession n notify vector s)

def execMbxDoorbellOpen (at_ n : Nat) (notify : Bool) (vector resv : Nat) (s : State) : Result :=
  let bad : Bool := resv ≠ 0 ∨ 2047 < vector ∨ (¬ notify ∧ vector ≠ 0) ∨ (24 ≤ n ∧ notify)
  doorbell at_ n bad (openByDoorbell n notify vector) s

/-- Close. -/
def closeByDoorbell (n : Nat) (s : State) : State :=
  if (s.session n).st = .closed then doorbellResult n WRONG_STATE s else doorbellResult n OK (closeSession n 0 s)

def execMbxDoorbellClose (at_ n resv : Nat) (s : State) : Result := doorbell at_ n (resv ≠ 0) (closeByDoorbell n) s

/-! ### BAR0 and SMBus blocks (R425, R426, R437) -/

/-- The session and the offset of a place in a request mailbox of BAR0. -/
def mailboxPlace (off : Nat) : Option (Nat × Nat) :=
  let a := off - 0x10000
  if 0x10000 ≤ off ∧ a / 0x2000 < 24 ∧ a % 0x2000 < 4096 then some (a / 0x2000, a % 0x2000) else none

/-- One byte of a write reaches BAR0: every place that is no request mailbox ignores it. -/
def writeBar0Byte (off : Nat) (b : Byte) (s : State) : State :=
  match mailboxPlace off with
  | none => s
  | some (n, o) => updSession n (fun x => { x with mailbox := writeCells x.mailbox o [b] }) s

/-- A write to BAR0, its byte enables honoured. -/
def writeBar0 : Nat → List Byte → List Bool → State → State
  | _, [], _, s => s
  | off, b :: bs, es, s =>
    writeBar0 (off + 1) bs es.tail (if es.headD false then writeBar0Byte off b s else s)

/-- A block write into a request mailbox over SMBus: it is acknowledged, or refused without effect (R436, R437).
DEDUCED (log entry 47). -/
def writeSmbus (code off : Nat) (bs : List Byte) (pecGood : Bool) (s : State) : State :=
  if (code = 0x20 ∨ code = 0x21) ∧ pecGood ∧ s.awake ∧ 1 ≤ bs.length ∧ bs.length ≤ 240 ∧ off + bs.length ≤ 4096 then
    emit .smbus [1] [] (updSession (30 + (code - 0x20)) (fun x => { x with mailbox := writeCells x.mailbox off bs }) s)
  else emit .smbus [0] [] s

def execRegisterWrite (at_ : Nat) (w : RegWrite) (s : State) : Result :=
  let s := advance at_ s
  .next (match w with
    | .bar0 off bs es => if s.bar0Serves then writeBar0 off bs es s else s
    | .smbus code off bs pecGood => if s.boot.off then s else writeSmbus code off bs pecGood s)

/-- A register of BAR0 as an aligned read of 4 bytes returns it; MBX_DOORBELL_n and every place without a name read 0 (R425,
R426). -/
def State.register (s : State) (off : Nat) : Nat :=
  match off with
  | 0x0 => pmsId
  | 0x4 => s.bootStateWord
  | 0x8 => s.boot.irq.toNat
  | 0x10 => s.auxData
  | 0x14 => s.auxStatus
  | _ =>
    let a := off - 0x200
    if 0x200 ≤ off ∧ a < 192 ∧ a % 4 = 0 then s.mbxStatus (a / 8) / 2 ^ (32 * (a / 4 % 2)) % 2 ^ 32 else 0

/-! ### SMBus timeout (R556) -/

/-- The module releases SMBDAT; the transaction under way has had no effect. -/
def execSmbusTimeout (at_ : Nat) (s : State) : Result :=
  let s := advance at_ s
  .next (if s.boot.off then s else emit .smbus [2] [] s)

/-! ### Opening and closing by request (R417, R418, R444) -/

/-- SYS_OPEN_SESSION fails check 5 of R422 over PCIe and SMBus. -/
def sysOpenSessionCmd : Cmd :=
  { opcode := 0x0001, classC := true, lengths := lenIs 32, checks := fun _ _ => [], reject := fun _ _ => none
    act := fun w _ s => reply w OK [] s }

/-- The lowest free Ethernet session. DEDUCED (log entry 19). -/
def State.freeSession (s : State) : Option Nat := [24, 25, 26, 27, 28, 29].find? fun n => (s.session n).st = .closed

/-- A port takes sessions: the control processor runs, its link is up, and it has an address (R432). -/
def State.takesSessions (s : State) (p : Nat) : Bool :=
  s.serves && (s.xfer.links.getD p {}).up && decide ((s.prot.net.getD p {}).ip ≠ 0)

/-- The port at which an open has arrived: that of the oldest that waits from the same peer with the same tag, or for an open
that arrives and is taken at once the first that takes sessions. DESIGN CHOICE (log entry 18). -/
def State.openPort (s : State) (q : Request) : Option Nat :=
  match s.prot.opens.find? fun x => x.2.peerIp = q.peerIp ∧ x.2.peerPort = q.peerPort ∧ x.2.tag = q.tag with
  | some x => some x.1
  | none => [0, 1].find? s.takesSessions

def dropOpen (q : Request) (s : State) : State :=
  match s.prot.opens.find? fun x => x.2.peerIp = q.peerIp ∧ x.2.peerPort = q.peerPort ∧ x.2.tag = q.tag with
  | none => s
  | some x => { s with prot := { s.prot with opens := s.prot.opens.erase x } }

/-- An open over Ethernet is turned away. DEDUCED (log entry 19). -/
def rejectOpen (status : Nat) (q : Request) (s : State) : State :=
  let q := { q with sess := 24 }
  let w : Waiter := { sess := 0xFF, gen := 0, opcode := 0x0001, tag := q.tag, eventSeq := s.evt.nextSeq
                      peerIp := q.peerIp, peerPort := q.peerPort }
  replyPeer w status (carrying (stageBody 0x0004 (requestBody 0x0001 status q)) s)

/-- The session that an open over Ethernet gets: the open is the first request that it has taken.
DEDUCED (log entry 19). -/
def acceptOpen (n port : Nat) (q : Request) (s : State) : State :=
  let seq := s.evt.nextSeq
  let s := carrying (stageBody 0x0003 (requestBody 0x0001 OK { q with sess := n })) s
  let s := openSession n false 0 s
  let s := updSession n (fun x => { x with
    st := .running, requests := 1, lastTag := some q.tag, lastOp := 0x0001, takenAt := s.time.ps
    peerIp := q.peerIp, peerPort := q.peerPort, peerEth := port }) s
  reply { sess := n, gen := (s.session n).gen, opcode := 0x0001, tag := q.tag, eventSeq := seq } OK [] s

/-- SYS_OPEN_SESSION over Ethernet: Session 0xFF and Generation 0 in the place of check 5 (R422).
DEDUCED (log entry 19). -/
def openOverEthernet (port : Nat) (q : Request) (s : State) : State :=
  let s := dropOpen q s
  match headerChecks 0x0001 (lenIs 32) (q.hsess = 0xFF ∧ q.gen = 0) q s with
  | some st => rejectOpen st q s
  | none => match s.freeSession with
    | none => rejectOpen SESSION_LIMIT q s
    | some n => acceptOpen n port q s

/-- An open waits while the reserve is short (R500). -/
def holdOpen (port : Nat) (q : Request) (s : State) : State :=
  if s.prot.opens.any fun x => Request.plain x.2 = Request.plain q then s
  else { s with prot := { s.prot with opens := s.prot.opens ++ [(port, q)] } }

def execSysOpenSession (q : Request) (s : State) : Result :=
  if 32 ≤ q.sess ∨ ifaceOf q.sess = 1 then
    let s := advance q.time s
    .next (match s.openPort q with
      | none => s
      | some port =>
        if ¬ s.serves then s else if s.canTake then openOverEthernet port q s else holdOpen port q s)
  else .next (runRequest sysOpenSessionCmd q s)

def sysCloseSessionCmd : Cmd :=
  { opcode := 0x0002, classC := true, lengths := lenIs 32, checks := fun _ _ => [], reject := fun _ _ => none
    act := fun w _ s => closeAfterReply w.sess (reply w OK [] s) }
def execSysCloseSession (q : Request) (s : State) : Result := .next (runRequest sysCloseSessionCmd q s)

/-- A request whose opcode the command reference does not allocate (R438). -/
def unallocatedCmd (opcode : Nat) : Cmd :=
  { opcode := opcode, classC := false, lengths := fun _ => true, checks := fun _ _ => [], reject := fun _ _ => none
    act := fun w _ s => reply w BAD_OPCODE [] s }
/-- DESIGN CHOICE (log entry 22). -/
def execUnallocatedOpcodeRequest (opcode : Nat) (q : Request) (s : State) : Result :=
  .next (if allocated opcode then advance q.time s else runRequest (unallocatedCmd opcode) q s)

/-! ### Ethernet (R432 to R435) -/

/-- A port's link is up, and the control processor runs its stack. -/
def State.ethernet (s : State) (port : Nat) : Bool := s.serves && (s.xfer.links.getD port {}).up

def State.netPort (s : State) (port : Nat) : NetPort := s.prot.net.getD port {}

/-- A datagram reaches the session that it names: taken as a submit, answered again, or answered BUSY (R419, R435). -/
def submitDatagram (opcode : Nat) (q : Request) (s : State) : State :=
  let x := s.session q.sess
  let same := x.lastTag = some q.tag ∧ q.gen = x.gen
  match x.st with
  | .closed => s
  | .idle => holdRequest opcode q s
  | .replyReady => if same then resendReply q.sess s else holdRequest opcode q s
  | .running =>
    let waits : Bool := match x.submitted with
      | some r => decide (r.2.tag = q.tag ∧ r.2.gen = q.gen)
      | none => decide same
    if waits then s
    else replyPeer { sess := q.sess, gen := q.gen, opcode := opcode, tag := q.tag, peerIp := q.peerIp, peerPort := q.peerPort } BUSY s

/-- A complete request datagram arrives at the session UDP port. One that names no session of its sender waits for the control
processor, which fails it at check 5 of R422. -/
def takeDatagram (port opcode : Nat) (q : Request) (s : State) : State :=
  if ¬ s.takesSessions port then s
  else if opcode = 0x0001 ∧ q.hsess = 0xFF then holdOpen port q s
  else if q.sess < 32 ∧ ifaceOf q.sess = 1 ∧ s.ofPeer q then submitDatagram opcode q s
  else s

def execSessionDatagram (at_ port opcode : Nat) (q : Request) (s : State) : Result :=
  .next (takeDatagram port opcode q (advance at_ s))

/-- The bytes of a datagram whose fragments are complete, in order of offset. -/
def gather : Nat → Nat → List (Nat × List Byte) → Option (List Byte)
  | 0, _, _ => none
  | fuel + 1, at_, l =>
    match l.find? fun f => f.1 = at_ with
    | none => none
    | some f =>
      if f.2.isEmpty then none
      else if l.length ≤ 1 then some f.2
      else (gather fuel (at_ + f.2.length) (l.filter fun g => g.1 ≠ at_)).map (f.2 ++ ·)

/-- A complete UDP datagram to the session port: its header, then the request (R434). -/
def takeUdp (port sender : Nat) (b : List Byte) (s : State) : State :=
  if ofBe (slice b 2 2) ≠ (s.netPort port).udp then s
  else
    let r := parseRequest (b.drop 8)
    let q := { r.2 with sess := r.2.hsess, peerIp := sender, peerPort := ofBe (slice b 0 2), time := s.time.ps }
    takeDatagram port r.1 q s

/-- A fragment joins its reassembly; a fifth ends it, and so does one that comes too late. DEDUCED (log entry 47). -/
def joinFragment (x : Reassembly) (off : Nat) (last : Bool) (data : List Byte) : Reassembly :=
  { x with fragments := (off, data) :: x.fragments.filter fun f => f.1 ≠ off
           total := if last then some (off + data.length) else x.total }

def State.reassembly (s : State) (port id sender : Nat) : Option Reassembly :=
  s.prot.reassembly.find? fun x => x.id = id ∧ x.port = port ∧ x.sender = sender ∧ s.time.ps ≤ x.since + 100 * psPerMs

def dropReassembly (p : Reassembly → Bool) (s : State) : State :=
  { s with prot := { s.prot with reassembly := s.prot.reassembly.filter fun x => ! p x } }

/-- The offset of a fragment is in units of 8 bytes, as the IPv4 header carries it. DEDUCED (log entry 47). -/
def takeFragment (port id sender offset : Nat) (last : Bool) (data : List Byte) (s : State) : State :=
  let old := s.reassembly port id sender
  let x := joinFragment (old.getD { id := id, port := port, sender := sender, since := s.time.ps }) (8 * offset) last data
  let s := dropReassembly (fun y => decide (y.id = id ∧ y.port = port ∧ y.sender = sender)) s
  if 4 < x.fragments.length then s
  else match gather x.fragments.length 0 x.fragments with
    | some b => if x.total = some b.length then takeUdp port sender b s
        else { s with prot := { s.prot with reassembly := s.prot.reassembly ++ [x] } }
    | none => { s with prot := { s.prot with reassembly := s.prot.reassembly ++ [x] } }

def execIpv4FragmentReceived (at_ port id sender offset : Nat) (last : Bool) (data : List Byte) (s : State) : Result :=
  let s := advance at_ s
  .next (if s.takesSessions port then takeFragment port id sender offset last data s else s)

/-- REASSEMBLY_TIMEOUT: 100 ms after the first fragment, no reply and no record. -/
def execReassemblyTimeout (at_ id : Nat) (s : State) : Result :=
  let s := advance at_ s
  .next (dropReassembly (fun x => decide (x.id = id ∧ x.since + 100 * psPerMs ≤ s.time.ps)) s)

/-- SESSION_TIMEOUT (R433): no valid request within the timeout of the session's port. -/
def execSessionTimeout (at_ n : Nat) (s : State) : Result :=
  let s := advance at_ s
  let x := s.session n
  .next (
    if s.serves ∧ n < 32 ∧ ifaceOf n = 1 ∧ x.lastValid + (s.netPort x.peerEth).timeout * psPerS ≤ s.time.ps then
      closeSession n 2 s
    else s)

/-- The module answers for its own address (R432). -/
def execArpRequest (at_ port target senderIp senderMac : Nat) (s : State) : Result :=
  let s := advance at_ s
  .next (if s.ethernet port ∧ target ≠ 0 ∧ (s.netPort port).ip = target then emit .arp [port, senderIp, senderMac] [] s else s)

def execIcmpEchoRequest (at_ port target sender : Nat) (data : List Byte) (s : State) : Result :=
  let s := advance at_ s
  .next (if s.ethernet port ∧ target ≠ 0 ∧ (s.netPort port).ip = target then emit .icmp [port, sender] data s else s)

end Sys2Proof.Machine
end

