-- ==== Sys2Proof/Machine/Dispatch.lean ====
section
/-! DEFINITION. One arm per command: its meaning over everything but the queue. -/

namespace Sys2Proof.Machine

def exec (i : Instr) (s : State) : Host.Outcome State Fault Refusal :=
  match i with
  | .sysOpenSession q => Sys2Proof.Machine.execSysOpenSession q s
  | .sysCloseSession q => Sys2Proof.Machine.execSysCloseSession q s
  | .sysGetIdentity q => Sys2Proof.Machine.execSysGetIdentity q s
  | .sysGetFabric q => Sys2Proof.Machine.execSysGetFabric q s
  | .sysSetMarginFloor q => Sys2Proof.Machine.execSysSetMarginFloor q s
  | .sysSetVcoreMode q => Sys2Proof.Machine.execSysSetVcoreMode q s
  | .sysGetPower q => Sys2Proof.Machine.execSysGetPower q s
  | .sysSetNetwork q => Sys2Proof.Machine.execSysSetNetwork q s
  | .sysClearFlags q => Sys2Proof.Machine.execSysClearFlags q s
  | .sysRestart q => Sys2Proof.Machine.execSysRestart q s
  | .sysResetSubsystem q => Sys2Proof.Machine.execSysResetSubsystem q s
  | .sysSetPowerState q => Sys2Proof.Machine.execSysSetPowerState q s
  | .clkGetStatus q => Sys2Proof.Machine.execClkGetStatus q s
  | .clkGetOutput q => Sys2Proof.Machine.execClkGetOutput q s
  | .clkSetOutput q => Sys2Proof.Machine.execClkSetOutput q s
  | .clkSetReference q => Sys2Proof.Machine.execClkSetReference q s
  | .clkSetTimeSource q => Sys2Proof.Machine.execClkSetTimeSource q s
  | .clkSetTime q => Sys2Proof.Machine.execClkSetTime q s
  | .clkGetPps q => Sys2Proof.Machine.execClkGetPps q s
  | .clkStepPhase q => Sys2Proof.Machine.execClkStepPhase q s
  | .clkSetRamp q => Sys2Proof.Machine.execClkSetRamp q s
  | .clkSetCoreRate q => Sys2Proof.Machine.execClkSetCoreRate q s
  | .clkSetCeiling q => Sys2Proof.Machine.execClkSetCeiling q s
  | .inpSetEnable q => Sys2Proof.Machine.execInpSetEnable q s
  | .inpSetPair q => Sys2Proof.Machine.execInpSetPair q s
  | .inpGetStatus q => Sys2Proof.Machine.execInpGetStatus q s
  | .calRunForeground q => Sys2Proof.Machine.execCalRunForeground q s
  | .calSetSchedule q => Sys2Proof.Machine.execCalSetSchedule q s
  | .calGetQuality q => Sys2Proof.Machine.execCalGetQuality q s
  | .calSaveImage q => Sys2Proof.Machine.execCalSaveImage q s
  | .calReadImage q => Sys2Proof.Machine.execCalReadImage q s
  | .calWriteImage q => Sys2Proof.Machine.execCalWriteImage q s
  | .calRestoreImage q => Sys2Proof.Machine.execCalRestoreImage q s
  | .fltConfigureChain q => Sys2Proof.Machine.execFltConfigureChain q s
  | .fltLoadFir q => Sys2Proof.Machine.execFltLoadFir q s
  | .fltSetInput q => Sys2Proof.Machine.execFltSetInput q s
  | .fltStart q => Sys2Proof.Machine.execFltStart q s
  | .fltStop q => Sys2Proof.Machine.execFltStop q s
  | .fltSync q => Sys2Proof.Machine.execFltSync q s
  | .fltGetStatus q => Sys2Proof.Machine.execFltGetStatus q s
  | .trigSetComparator q => Sys2Proof.Machine.execTrigSetComparator q s
  | .trigSetCondition q => Sys2Proof.Machine.execTrigSetCondition q s
  | .trigSetPattern q => Sys2Proof.Machine.execTrigSetPattern q s
  | .trigSetGroup q => Sys2Proof.Machine.execTrigSetGroup q s
  | .trigSetBus q => Sys2Proof.Machine.execTrigSetBus q s
  | .trigSetMarker q => Sys2Proof.Machine.execTrigSetMarker q s
  | .trigForce q => Sys2Proof.Machine.execTrigForce q s
  | .trigGetStatus q => Sys2Proof.Machine.execTrigGetStatus q s
  | .edgeSetInput q => Sys2Proof.Machine.execEdgeSetInput q s
  | .edgeSetGate q => Sys2Proof.Machine.execEdgeSetGate q s
  | .edgeSetAngle q => Sys2Proof.Machine.execEdgeSetAngle q s
  | .edgeReadStamps q => Sys2Proof.Machine.execEdgeReadStamps q s
  | .edgeGetResults q => Sys2Proof.Machine.execEdgeGetResults q s
  | .segConfigure q => Sys2Proof.Machine.execSegConfigure q s
  | .segArm q => Sys2Proof.Machine.execSegArm q s
  | .segStop q => Sys2Proof.Machine.execSegStop q s
  | .segGetStatus q => Sys2Proof.Machine.execSegGetStatus q s
  | .hamConfigure q => Sys2Proof.Machine.execHamConfigure q s
  | .hamRelease q => Sys2Proof.Machine.execHamRelease q s
  | .hamStart q => Sys2Proof.Machine.execHamStart q s
  | .hamStop q => Sys2Proof.Machine.execHamStop q s
  | .hamSpill q => Sys2Proof.Machine.execHamSpill q s
  | .hamGetStatus q => Sys2Proof.Machine.execHamGetStatus q s
  | .dmxSetPort q => Sys2Proof.Machine.execDmxSetPort q s
  | .dmxEnumerate q => Sys2Proof.Machine.execDmxEnumerate q s
  | .dmxEnrol q => Sys2Proof.Machine.execDmxEnrol q s
  | .dmxRemoveHead q => Sys2Proof.Machine.execDmxRemoveHead q s
  | .dmxSetHead q => Sys2Proof.Machine.execDmxSetHead q s
  | .dmxHeadParam q => Sys2Proof.Machine.execDmxHeadParam q s
  | .dmxSetRoute q => Sys2Proof.Machine.execDmxSetRoute q s
  | .dmxSetAlarmGroup q => Sys2Proof.Machine.execDmxSetAlarmGroup q s
  | .dmxRejoin q => Sys2Proof.Machine.execDmxRejoin q s
  | .dmxGetStatus q => Sys2Proof.Machine.execDmxGetStatus q s
  | .dmxGetHeads q => Sys2Proof.Machine.execDmxGetHeads q s
  | .engGetCatalogue q => Sys2Proof.Machine.execEngGetCatalogue q s
  | .engCreateJob q => Sys2Proof.Machine.execEngCreateJob q s
  | .engStartJob q => Sys2Proof.Machine.execEngStartJob q s
  | .engStopJob q => Sys2Proof.Machine.execEngStopJob q s
  | .engDeleteJob q => Sys2Proof.Machine.execEngDeleteJob q s
  | .engGetStatus q => Sys2Proof.Machine.execEngGetStatus q s
  | .engGetJob q => Sys2Proof.Machine.execEngGetJob q s
  | .phConfigure q => Sys2Proof.Machine.execPhConfigure q s
  | .phSetPolicy q => Sys2Proof.Machine.execPhSetPolicy q s
  | .phSetDrain q => Sys2Proof.Machine.execPhSetDrain q s
  | .phFlush q => Sys2Proof.Machine.execPhFlush q s
  | .phRelease q => Sys2Proof.Machine.execPhRelease q s
  | .phRead q => Sys2Proof.Machine.execPhRead q s
  | .phBindEdge q => Sys2Proof.Machine.execPhBindEdge q s
  | .phGetStatus q => Sys2Proof.Machine.execPhGetStatus q s
  | .phRingConfigure q => Sys2Proof.Machine.execPhRingConfigure q s
  | .phRingStart q => Sys2Proof.Machine.execPhRingStart q s
  | .phRingStop q => Sys2Proof.Machine.execPhRingStop q s
  | .phRingStatus q => Sys2Proof.Machine.execPhRingStatus q s
  | .phStreamConfigure q => Sys2Proof.Machine.execPhStreamConfigure q s
  | .phStreamStatus q => Sys2Proof.Machine.execPhStreamStatus q s
  | .ptpConfigure q => Sys2Proof.Machine.execPtpConfigure q s
  | .ptpGetStatus q => Sys2Proof.Machine.execPtpGetStatus q s
  | .pcieSetClocking q => Sys2Proof.Machine.execPcieSetClocking q s
  | .memSetRate q => Sys2Proof.Machine.execMemSetRate q s
  | .memRetireRank q => Sys2Proof.Machine.execMemRetireRank q s
  | .memRemap q => Sys2Proof.Machine.execMemRemap q s
  | .memGetStatus q => Sys2Proof.Machine.execMemGetStatus q s
  | .syncConfigure q => Sys2Proof.Machine.execSyncConfigure q s
  | .syncCalibrateDelay q => Sys2Proof.Machine.execSyncCalibrateDelay q s
  | .syncCheck q => Sys2Proof.Machine.execSyncCheck q s
  | .syncLock q => Sys2Proof.Machine.execSyncLock q s
  | .syncResetDomain q => Sys2Proof.Machine.execSyncResetDomain q s
  | .syncGetStatus q => Sys2Proof.Machine.execSyncGetStatus q s
  | .evtGetStatus q => Sys2Proof.Machine.execEvtGetStatus q s
  | .evtRead q => Sys2Proof.Machine.execEvtRead q s
  | .evtSetCopy q => Sys2Proof.Machine.execEvtSetCopy q s
  | .evtClearRing q => Sys2Proof.Machine.execEvtClearRing q s
  | .keyEnrol q => Sys2Proof.Machine.execKeyEnrol q s
  | .keyRemove q => Sys2Proof.Machine.execKeyRemove q s
  | .keyList q => Sys2Proof.Machine.execKeyList q s
  | .protPropose q => Sys2Proof.Machine.execProtPropose q s
  | .protCountersign q => Sys2Proof.Machine.execProtCountersign q s
  | .protSetProtected q => Sys2Proof.Machine.execProtSetProtected q s
  | .protGetProtected q => Sys2Proof.Machine.execProtGetProtected q s
  | .fwWrite q => Sys2Proof.Machine.execFwWrite q s
  | .fwCommit q => Sys2Proof.Machine.execFwCommit q s
  | .auxSetSequence q => Sys2Proof.Machine.execAuxSetSequence q s
  | .auxInject q => Sys2Proof.Machine.execAuxInject q s
  | .auxSetCapture q => Sys2Proof.Machine.execAuxSetCapture q s
  | .auxGetCapture q => Sys2Proof.Machine.execAuxGetCapture q s
  | .auxGetMonitors q => Sys2Proof.Machine.execAuxGetMonitors q s
  | .mbxDoorbellSubmit at_ n resv => Sys2Proof.Machine.execMbxDoorbellSubmit at_ n resv s
  | .mbxDoorbellOpen at_ n notify vector resv => Sys2Proof.Machine.execMbxDoorbellOpen at_ n notify vector resv s
  | .mbxDoorbellClose at_ n resv => Sys2Proof.Machine.execMbxDoorbellClose at_ n resv s
  | .irqStatusWrite at_ v => Sys2Proof.Machine.execIrqStatusWrite at_ v s
  | .bootStateWrite at_ v => Sys2Proof.Machine.execBootStateWrite at_ v s
  | .auxDataRead at_ => Sys2Proof.Machine.execAuxDataRead at_ s
  | .auxStatusWrite at_ v => Sys2Proof.Machine.execAuxStatusWrite at_ v s
  | .registerWrite at_ w => Sys2Proof.Machine.execRegisterWrite at_ w s
  | .msixUnmask at_ vec => Sys2Proof.Machine.execMsixUnmask at_ vec s
  | .bar2Read at_ addr len corrected => Sys2Proof.Machine.execBar2Read at_ addr len corrected s
  | .bar2Write at_ addr data => Sys2Proof.Machine.execBar2Write at_ addr data s
  | .sessionDatagram at_ port opcode q => Sys2Proof.Machine.execSessionDatagram at_ port opcode q s
  | .reassemblyTimeout at_ id => Sys2Proof.Machine.execReassemblyTimeout at_ id s
  | .sessionTimeout at_ n => Sys2Proof.Machine.execSessionTimeout at_ n s
  | .arpRequest at_ port target senderIp senderMac => Sys2Proof.Machine.execArpRequest at_ port target senderIp senderMac s
  | .icmpEchoRequest at_ port target sender data => Sys2Proof.Machine.execIcmpEchoRequest at_ port target sender data s
  | .powerOnReset at_ => Sys2Proof.Machine.execPowerOnReset at_ s
  | .vauxLeavesTolerance at_ => Sys2Proof.Machine.execVauxLeavesTolerance at_ s
  | .railsFall at_ loss => Sys2Proof.Machine.execRailsFall at_ loss s
  | .powerDown at_ => Sys2Proof.Machine.execPowerDown at_ s
  | .powerDownDone at_ => Sys2Proof.Machine.execPowerDownDone at_ s
  | .powergoodRestored at_ memHeld => Sys2Proof.Machine.execPowergoodRestored at_ memHeld s
  | .pinReset at_ => Sys2Proof.Machine.execPinReset at_ s
  | .nresetRise at_ straps memHeld => Sys2Proof.Machine.execNresetRise at_ straps memHeld s
  | .wakeEdge at_ => Sys2Proof.Machine.execWakeEdge at_ s
  | .deepStandbyEntry at_ => Sys2Proof.Machine.execDeepStandbyEntry at_ s
  | .standbyEntryComplete at_ => Sys2Proof.Machine.execStandbyEntryComplete at_ s
  | .standbyExitComplete at_ => Sys2Proof.Machine.execStandbyExitComplete at_ s
  | .imageCheckDone at_ check digest => Sys2Proof.Machine.execImageCheckDone at_ check digest s
  | .firmwareStarted at_ => Sys2Proof.Machine.execFirmwareStarted at_ s
  | .memoryInitialised at_ locked => Sys2Proof.Machine.execMemoryInitialised at_ locked s
  | .calStartupStep at_ step trims => Sys2Proof.Machine.execCalStartupStep at_ step trims s
  | .calStartupDone ended => Sys2Proof.Machine.execCalStartupDone ended s
  | .watchdogExpiry at_ => Sys2Proof.Machine.execWatchdogExpiry at_ s
  | .pePerstnAsserted at_ => Sys2Proof.Machine.execPePerstnAsserted at_ s
  | .hotReset at_ => Sys2Proof.Machine.execHotReset at_ s
  | .busMasterEnableCleared at_ => Sys2Proof.Machine.execBusMasterEnableCleared at_ s
  | .pcieLinkDown at_ => Sys2Proof.Machine.execPcieLinkDown at_ s
  | .tjReading at_ tj => Sys2Proof.Machine.execTjReading at_ tj s
  | .marginWindow at_ caps sensed => Sys2Proof.Machine.execMarginWindow at_ caps sensed s
  | .pmbusTransaction at_ acked fault value => Sys2Proof.Machine.execPmbusTransaction at_ acked fault value s
  | .ovenReady at_ temp => Sys2Proof.Machine.execOvenReady at_ temp s
  | .ovenTimeout at_ temp power => Sys2Proof.Machine.execOvenTimeout at_ temp power s
  | .ovenUnsettled at_ temp => Sys2Proof.Machine.execOvenUnsettled at_ temp s
  | .ovenFault at_ temp => Sys2Proof.Machine.execOvenFault at_ temp s
  | .sourceAbsent at_ source => Sys2Proof.Machine.execSourceAbsent at_ source s
  | .sourcePresent at_ source offset => Sys2Proof.Machine.execSourcePresent at_ source offset s
  | .refSwitched at_ loop => Sys2Proof.Machine.execRefSwitched at_ loop s
  | .clockLockLost at_ loop frozen => Sys2Proof.Machine.execClockLockLost at_ loop frozen s
  | .clockRelocked at_ loop slip => Sys2Proof.Machine.execClockRelocked at_ loop slip s
  | .clkRampSegmentEnd at_ loop => Sys2Proof.Machine.execClkRampSegmentEnd at_ loop s
  | .coreRateRampEnd at_ => Sys2Proof.Machine.execCoreRateRampEnd at_ s
  | .clockRateChanged at_ => Sys2Proof.Machine.execClockRateChanged at_ s
  | .coreRateLockTimeout at_ => Sys2Proof.Machine.execCoreRateLockTimeout at_ s
  | .phaseStepDone at_ => Sys2Proof.Machine.execPhaseStepDone at_ s
  | .ppsinEdge at_ reading => Sys2Proof.Machine.execPpsinEdge at_ reading s
  | .ppsLost at_ => Sys2Proof.Machine.execPpsLost at_ s
  | .frameDeposit at_ lanes => Sys2Proof.Machine.execFrameDeposit at_ lanes s
  | .laneLiftsFrame at_ lane => Sys2Proof.Machine.execLaneLiftsFrame at_ lane s
  | .headLaneLift at_ => Sys2Proof.Machine.execHeadLaneLift at_ s
  | .overdriveDetected at_ input negative first last excess => Sys2Proof.Machine.execOverdriveDetected at_ input negative first last excess s
  | .rotationShadowStart at_ core => Sys2Proof.Machine.execRotationShadowStart at_ core s
  | .rotationTrim at_ trim => Sys2Proof.Machine.execRotationTrim at_ trim s
  | .coreReady at_ core => Sys2Proof.Machine.execCoreReady at_ core s
  | .seamStart at_ input => Sys2Proof.Machine.execSeamStart at_ input s
  | .seamTest at_ input overlap => Sys2Proof.Machine.execSeamTest at_ input overlap s
  | .seamDone at_ input => Sys2Proof.Machine.execSeamDone at_ input s
  | .seamRetry at_ input => Sys2Proof.Machine.execSeamRetry at_ input s
  | .temperatureReading at_ input temp => Sys2Proof.Machine.execTemperatureReading at_ input temp s
  | .calMaxInterval at_ input => Sys2Proof.Machine.execCalMaxInterval at_ input s
  | .calForegroundDone at_ trims => Sys2Proof.Machine.execCalForegroundDone at_ trims s
  | .inputCalibrationDone at_ trims => Sys2Proof.Machine.execInputCalibrationDone at_ trims s
  | .calRestored at_ => Sys2Proof.Machine.execCalRestored at_ s
  | .filterSync at_ => Sys2Proof.Machine.execFilterSync at_ s
  | .triggerClassified at_ group => Sys2Proof.Machine.execTriggerClassified at_ group s
  | .fillEnd at_ group => Sys2Proof.Machine.execFillEnd at_ group s
  | .reArmEnd at_ group => Sys2Proof.Machine.execReArmEnd at_ group s
  | .tokenGain at_ => Sys2Proof.Machine.execTokenGain at_ s
  | .preFillEnd at_ group => Sys2Proof.Machine.execPreFillEnd at_ group s
  | .holdoffEnd at_ group => Sys2Proof.Machine.execHoldoffEnd at_ group s
  | .sequenceWindowClose at_ group => Sys2Proof.Machine.execSequenceWindowClose at_ group s
  | .triginEdge at_ n rising tick => Sys2Proof.Machine.execTriginEdge at_ n rising tick s
  | .trigbusMessageReceived at_ m => Sys2Proof.Machine.execTrigbusMessageReceived at_ m s
  | .markerEdge at_ marker => Sys2Proof.Machine.execMarkerEdge at_ marker s
  | .tachEdge at_ n rising reading => Sys2Proof.Machine.execTachEdge at_ n rising reading s
  | .tachSettingTakesEffect at_ n => Sys2Proof.Machine.execTachSettingTakesEffect at_ n s
  | .interpolatorRefresh at_ source interp c1 c2 => Sys2Proof.Machine.execInterpolatorRefresh at_ source interp c1 c2 s
  | .linearityTableBuilt at_ source interp table => Sys2Proof.Machine.execLinearityTableBuilt at_ source interp table s
  | .tdcTableStale at_ source interp => Sys2Proof.Machine.execTdcTableStale at_ source interp s
  | .gateStart at_ n => Sys2Proof.Machine.execGateStart at_ n s
  | .gateEnd at_ n => Sys2Proof.Machine.execGateEnd at_ n s
  | .armFrame at_ group => Sys2Proof.Machine.execArmFrame at_ group s
  | .armHoldTimeout at_ group => Sys2Proof.Machine.execArmHoldTimeout at_ group s
  | .groupDisarm at_ group => Sys2Proof.Machine.execGroupDisarm at_ group s
  | .postmarkFill at_ group => Sys2Proof.Machine.execPostmarkFill at_ group s
  | .strandWritten at_ group input => Sys2Proof.Machine.execStrandWritten at_ group input s
  | .postmarkWritten at_ group => Sys2Proof.Machine.execPostmarkWritten at_ group s
  | .hamperClearingEnd at_ acc => Sys2Proof.Machine.execHamperClearingEnd at_ acc s
  | .segmentCombined at_ acc => Sys2Proof.Machine.execSegmentCombined at_ acc s
  | .spillDone at_ => Sys2Proof.Machine.execSpillDone at_ s
  | .roundStart at_ port => Sys2Proof.Machine.execRoundStart at_ port s
  | .slotWindowEnd at_ port position => Sys2Proof.Machine.execSlotWindowEnd at_ port position s
  | .damuxSlotReceived at_ port window arrival frame => Sys2Proof.Machine.execDamuxSlotReceived at_ port window arrival frame s
  | .discoveryReply at_ port inWindow roundTrip head crcGood => Sys2Proof.Machine.execDiscoveryReply at_ port inWindow roundTrip head crcGood s
  | .beaconReturned at_ port => Sys2Proof.Machine.execBeaconReturned at_ port s
  | .rediscovery at_ port => Sys2Proof.Machine.execRediscovery at_ port s
  | .portTrainingEnd at_ port forward back => Sys2Proof.Machine.execPortTrainingEnd at_ port forward back s
  | .portTrainingRetry at_ port => Sys2Proof.Machine.execPortTrainingRetry at_ port s
  | .damuxLaneSignalLost at_ port returnEnd => Sys2Proof.Machine.execDamuxLaneSignalLost at_ port returnEnd s
  | .damuxBreakRepaired at_ port => Sys2Proof.Machine.execDamuxBreakRepaired at_ port s
  | .blockRelease at_ job => Sys2Proof.Machine.execBlockRelease at_ job s
  | .chunkArrival at_ job => Sys2Proof.Machine.execChunkArrival at_ job s
  | .taskComplete at_ engine => Sys2Proof.Machine.execTaskComplete at_ engine s
  | .engineAbort at_ engine elapsed => Sys2Proof.Machine.execEngineAbort at_ engine elapsed s
  | .engineFault at_ engine => Sys2Proof.Machine.execEngineFault at_ engine s
  | .blockedWriterResumes at_ ph => Sys2Proof.Machine.execBlockedWriterResumes at_ ph s
  | .entryCommitted at_ ph => Sys2Proof.Machine.execEntryCommitted at_ ph s
  | .drainDeadlineEvaluation at_ => Sys2Proof.Machine.execDrainDeadlineEvaluation at_ s
  | .hostRingDelivery at_ ring => Sys2Proof.Machine.execHostRingDelivery at_ ring s
  | .consumerReadCompletion at_ ring success value => Sys2Proof.Machine.execConsumerReadCompletion at_ ring success value s
  | .consumerReadTimeout at_ ring => Sys2Proof.Machine.execConsumerReadTimeout at_ ring s
  | .coalescingTime at_ ring => Sys2Proof.Machine.execCoalescingTime at_ ring s
  | .stampBatchClose at_ source => Sys2Proof.Machine.execStampBatchClose at_ source s
  | .streamDatagramSent at_ stream => Sys2Proof.Machine.execStreamDatagramSent at_ stream s
  | .pauseFrame at_ port quanta => Sys2Proof.Machine.execPauseFrame at_ port quanta s
  | .ethernetLinkDown at_ port => Sys2Proof.Machine.execEthernetLinkDown at_ port s
  | .ethernetLinkUp at_ port => Sys2Proof.Machine.execEthernetLinkUp at_ port s
  | .ptpMessageReceived at_ port m => Sys2Proof.Machine.execPtpMessageReceived at_ port m s
  | .delayReqInterval at_ => Sys2Proof.Machine.execDelayReqInterval at_ s
  | .ptpLost at_ => Sys2Proof.Machine.execPtpLost at_ s
  | .refresh at_ channel bank => Sys2Proof.Machine.execRefresh at_ channel bank s
  | .patrolScrub at_ outcome => Sys2Proof.Machine.execPatrolScrub at_ outcome s
  | .memUncorrectable at_ addr requester => Sys2Proof.Machine.execMemUncorrectable at_ addr requester s
  | .memPrivilegedError at_ region page ph => Sys2Proof.Machine.execMemPrivilegedError at_ region page ph s
  | .trainingStep at_ => Sys2Proof.Machine.execTrainingStep at_ s
  | .extraTrainingStep at_ channel => Sys2Proof.Machine.execExtraTrainingStep at_ channel s
  | .trainingPause at_ good width height temp => Sys2Proof.Machine.execTrainingPause at_ good width height temp s
  | .memRateChanged at_ => Sys2Proof.Machine.execMemRateChanged at_ s
  | .memoryLoopLockTimeout at_ => Sys2Proof.Machine.execMemoryLoopLockTimeout at_ s
  | .migrationUnitCopied at_ corrected poisoned => Sys2Proof.Machine.execMigrationUnitCopied at_ corrected poisoned s
  | .rankRetired at_ => Sys2Proof.Machine.execRankRetired at_ s
  | .recordWrite at_ good => Sys2Proof.Machine.execRecordWrite at_ good s
  | .recordsLost at_ => Sys2Proof.Machine.execRecordsLost at_ s
  | .recordCopied at_ => Sys2Proof.Machine.execRecordCopied at_ s
  | .ringCleared at_ => Sys2Proof.Machine.execRingCleared at_ s
  | .protectedExpired at_ proposal => Sys2Proof.Machine.execProtectedExpired at_ proposal s
  | .sequenceConversionDue at_ => Sys2Proof.Machine.execSequenceConversionDue at_ s
  | .housekeepingConversionDue at_ => Sys2Proof.Machine.execHousekeepingConversionDue at_ s
  | .conversionDone at_ code => Sys2Proof.Machine.execConversionDone at_ code s
  | .calibrationHoldEnd at_ => Sys2Proof.Machine.execCalibrationHoldEnd at_ s
  | .syncFrameSend at_ => Sys2Proof.Machine.execSyncFrameSend at_ s
  | .syncFrameReceived at_ marker f => Sys2Proof.Machine.execSyncFrameReceived at_ marker f s
  | .syncLost at_ => Sys2Proof.Machine.execSyncLost at_ s
  | .syncReportSlot at_ => Sys2Proof.Machine.execSyncReportSlot at_ s
  | .reportBitsChanged at_ => Sys2Proof.Machine.execReportBitsChanged at_ s
  | .trigbusReportReceived at_ r => Sys2Proof.Machine.execTrigbusReportReceived at_ r s
  | .probeReceived at_ id number stamp crcGood => Sys2Proof.Machine.execProbeReceived at_ id number stamp crcGood s
  | .checkWaitEnd at_ => Sys2Proof.Machine.execCheckWaitEnd at_ s
  | .syncDomainReset at_ => Sys2Proof.Machine.execSyncDomainReset at_ s
  | .pcieLinkTraining at_ => Sys2Proof.Machine.execPcieLinkTraining at_ s
  | .pePerstnReleased at_ => Sys2Proof.Machine.execPePerstnReleased at_ s
  | .busMasterEnableSet at_ => Sys2Proof.Machine.execBusMasterEnableSet at_ s
  | .msixMask at_ vec => Sys2Proof.Machine.execMsixMask at_ vec s
  | .unallocatedOpcodeRequest opcode q => Sys2Proof.Machine.execUnallocatedOpcodeRequest opcode q s
  | .ipv4FragmentReceived at_ port id sender offset last data => Sys2Proof.Machine.execIpv4FragmentReceived at_ port id sender offset last data s
  | .smbusTimeout at_ => Sys2Proof.Machine.execSmbusTimeout at_ s
  | .pauseTimeExpiry at_ port => Sys2Proof.Machine.execPauseTimeExpiry at_ port s
  | .vovenApplied at_ => Sys2Proof.Machine.execVovenApplied at_ s
  | .vovenRemoved at_ => Sys2Proof.Machine.execVovenRemoved at_ s
  | .railsRemoved at_ memory => Sys2Proof.Machine.execRailsRemoved at_ memory s
  | .trigbusFrameSent at_ => Sys2Proof.Machine.execTrigbusFrameSent at_ s
  | .consumerWordReread at_ ring => Sys2Proof.Machine.execConsumerWordReread at_ ring s
  | .jtagTckEdge at_ rising tms tdi lands => Sys2Proof.Machine.execJtagTckEdge at_ rising tms tdi lands s
  | .trstnAsserted at_ => Sys2Proof.Machine.execTrstnAsserted at_ s

end Sys2Proof.Machine
end

