-- ==== Sys2Proof/WellFormed.lean ====
section
/-! DEFINITION. Which commands can be formed at all: every number in the range of the thing it numbers, every field of
a request in its header's width. A field whose value the module itself checks may hold anything its width admits. -/

namespace Sys2Proof

/-- Header fields in their widths, and no more payload than a mailbox holds (R421). -/
def Request.wf (q : Request) : Bool :=
  decide (q.sess < 32 ∧ q.length < 65536 ∧ q.tag < 65536 ∧ q.hsess < 256 ∧ q.resv < 2 ^ 184 ∧ q.gen < 65536 ∧
    q.peerIp < 2 ^ 32 ∧ q.peerPort < 65536 ∧ q.payload.length ≤ 4064)

/-- An open over Ethernet names no session yet (R417). -/
def Request.wfOpen (q : Request) : Bool := Request.wf { q with sess := min q.sess 31 }

/-- A write inside BAR0 with one enable per byte (R425), or a block of at most 240 bytes (R437). -/
def RegWrite.wf (w : RegWrite) : Bool :=
  match w with
  | .bar0 off bs es => decide (off + bs.length ≤ 0x40000 ∧ es.length = bs.length)
  | .smbus code off bs _ => decide (code < 256 ∧ off < 65536 ∧ bs.length ≤ 240)

/-- A session that has a doorbell: PCIe or SMBus (R416). -/
def hasDoorbell (n : Nat) : Bool := decide (n < 24 ∨ n = 30 ∨ n = 31)

def Instr.wf (i : Instr) : Bool :=
  match i with
  | .sysOpenSession q => q.wfOpen
  | .sysCloseSession q => q.wf
  | .sysGetIdentity q => q.wf
  | .sysGetFabric q => q.wf
  | .sysSetMarginFloor q => q.wf
  | .sysSetVcoreMode q => q.wf
  | .sysGetPower q => q.wf
  | .sysSetNetwork q => q.wf
  | .sysClearFlags q => q.wf
  | .sysRestart q => q.wf
  | .sysResetSubsystem q => q.wf
  | .sysSetPowerState q => q.wf
  | .clkGetStatus q => q.wf
  | .clkGetOutput q => q.wf
  | .clkSetOutput q => q.wf
  | .clkSetReference q => q.wf
  | .clkSetTimeSource q => q.wf
  | .clkSetTime q => q.wf
  | .clkGetPps q => q.wf
  | .clkStepPhase q => q.wf
  | .clkSetRamp q => q.wf
  | .clkSetCoreRate q => q.wf
  | .clkSetCeiling q => q.wf
  | .inpSetEnable q => q.wf
  | .inpSetPair q => q.wf
  | .inpGetStatus q => q.wf
  | .calRunForeground q => q.wf
  | .calSetSchedule q => q.wf
  | .calGetQuality q => q.wf
  | .calSaveImage q => q.wf
  | .calReadImage q => q.wf
  | .calWriteImage q => q.wf
  | .calRestoreImage q => q.wf
  | .fltConfigureChain q => q.wf
  | .fltLoadFir q => q.wf
  | .fltSetInput q => q.wf
  | .fltStart q => q.wf
  | .fltStop q => q.wf
  | .fltSync q => q.wf
  | .fltGetStatus q => q.wf
  | .trigSetComparator q => q.wf
  | .trigSetCondition q => q.wf
  | .trigSetPattern q => q.wf
  | .trigSetGroup q => q.wf
  | .trigSetBus q => q.wf
  | .trigSetMarker q => q.wf
  | .trigForce q => q.wf
  | .trigGetStatus q => q.wf
  | .edgeSetInput q => q.wf
  | .edgeSetGate q => q.wf
  | .edgeSetAngle q => q.wf
  | .edgeReadStamps q => q.wf
  | .edgeGetResults q => q.wf
  | .segConfigure q => q.wf
  | .segArm q => q.wf
  | .segStop q => q.wf
  | .segGetStatus q => q.wf
  | .hamConfigure q => q.wf
  | .hamRelease q => q.wf
  | .hamStart q => q.wf
  | .hamStop q => q.wf
  | .hamSpill q => q.wf
  | .hamGetStatus q => q.wf
  | .dmxSetPort q => q.wf
  | .dmxEnumerate q => q.wf
  | .dmxEnrol q => q.wf
  | .dmxRemoveHead q => q.wf
  | .dmxSetHead q => q.wf
  | .dmxHeadParam q => q.wf
  | .dmxSetRoute q => q.wf
  | .dmxSetAlarmGroup q => q.wf
  | .dmxRejoin q => q.wf
  | .dmxGetStatus q => q.wf
  | .dmxGetHeads q => q.wf
  | .engGetCatalogue q => q.wf
  | .engCreateJob q => q.wf
  | .engStartJob q => q.wf
  | .engStopJob q => q.wf
  | .engDeleteJob q => q.wf
  | .engGetStatus q => q.wf
  | .engGetJob q => q.wf
  | .phConfigure q => q.wf
  | .phSetPolicy q => q.wf
  | .phSetDrain q => q.wf
  | .phFlush q => q.wf
  | .phRelease q => q.wf
  | .phRead q => q.wf
  | .phBindEdge q => q.wf
  | .phGetStatus q => q.wf
  | .phRingConfigure q => q.wf
  | .phRingStart q => q.wf
  | .phRingStop q => q.wf
  | .phRingStatus q => q.wf
  | .phStreamConfigure q => q.wf
  | .phStreamStatus q => q.wf
  | .ptpConfigure q => q.wf
  | .ptpGetStatus q => q.wf
  | .pcieSetClocking q => q.wf
  | .memSetRate q => q.wf
  | .memRetireRank q => q.wf
  | .memRemap q => q.wf
  | .memGetStatus q => q.wf
  | .syncConfigure q => q.wf
  | .syncCalibrateDelay q => q.wf
  | .syncCheck q => q.wf
  | .syncLock q => q.wf
  | .syncResetDomain q => q.wf
  | .syncGetStatus q => q.wf
  | .evtGetStatus q => q.wf
  | .evtRead q => q.wf
  | .evtSetCopy q => q.wf
  | .evtClearRing q => q.wf
  | .keyEnrol q => q.wf
  | .keyRemove q => q.wf
  | .keyList q => q.wf
  | .protPropose q => q.wf
  | .protCountersign q => q.wf
  | .protSetProtected q => q.wf
  | .protGetProtected q => q.wf
  | .fwWrite q => q.wf
  | .fwCommit q => q.wf
  | .auxSetSequence q => q.wf
  | .auxInject q => q.wf
  | .auxSetCapture q => q.wf
  | .auxGetCapture q => q.wf
  | .auxGetMonitors q => q.wf
  | .mbxDoorbellSubmit _ n resv => decide (hasDoorbell n ∧ resv < 2 ^ 32)
  | .mbxDoorbellOpen _ n _ vector resv => decide (hasDoorbell n ∧ vector < 4096 ∧ resv < 2 ^ 32)
  | .mbxDoorbellClose _ n resv => decide (hasDoorbell n ∧ resv < 2 ^ 32)
  | .irqStatusWrite _ _ => true
  | .bootStateWrite _ _ => true
  | .auxDataRead _ => true
  | .auxStatusWrite _ _ => true
  | .registerWrite _ w => w.wf
  | .msixUnmask _ vec => decide (vec < 2048)
  | .bar2Read _ _ len _ => decide (1 ≤ len)
  | .bar2Write _ _ _ => true
  | .sessionDatagram _ port opcode q => decide (port < 2 ∧ opcode < 65536 ∧ q.wf)
  | .reassemblyTimeout _ id => decide (id < 65536)
  | .sessionTimeout _ n => decide (24 ≤ n ∧ n ≤ 29)
  | .arpRequest _ port target senderIp senderMac => decide (port < 2 ∧ target < 2 ^ 32 ∧ senderIp < 2 ^ 32 ∧ senderMac < 2 ^ 48)
  | .icmpEchoRequest _ port target sender _ => decide (port < 2 ∧ target < 2 ^ 32 ∧ sender < 2 ^ 32)
  | .powerOnReset _ => true
  | .vauxLeavesTolerance _ => true
  | .railsFall _ _ => true
  | .powerDown _ => true
  | .powerDownDone _ => true
  | .powergoodRestored _ _ => true
  | .pinReset _ => true
  | .nresetRise _ straps _ => decide (straps < 8)
  | .wakeEdge _ => true
  | .deepStandbyEntry _ => true
  | .standbyEntryComplete _ => true
  | .standbyExitComplete _ => true
  | .imageCheckDone _ _ digest => decide (digest.length = 32)
  | .firmwareStarted _ => true
  | .memoryInitialised _ _ => true
  | .calStartupStep _ step trims => decide (2 ≤ step ∧ step ≤ 5 ∧ trims.all (fun x => x.core < 24))
  | .calStartupDone _ => true
  | .watchdogExpiry _ => true
  | .pePerstnAsserted _ => true
  | .hotReset _ => true
  | .busMasterEnableCleared _ => true
  | .pcieLinkDown _ => true
  | .tjReading _ _ => true
  | .marginWindow _ _ _ => true
  | .pmbusTransaction _ _ _ _ => true
  | .ovenReady _ _ => true
  | .ovenTimeout _ _ _ => true
  | .ovenUnsettled _ _ => true
  | .ovenFault _ _ => true
  | .sourceAbsent _ source => decide (1 ≤ source ∧ source ≤ 2)
  | .sourcePresent _ source _ => decide (1 ≤ source ∧ source ≤ 2)
  | .refSwitched _ loop => decide (loop < 4)
  | .clockLockLost _ loop _ => decide (loop < 4)
  | .clockRelocked _ loop _ => decide (loop < 4)
  | .clkRampSegmentEnd _ loop => decide (loop < 4)
  | .coreRateRampEnd _ => true
  | .clockRateChanged _ => true
  | .coreRateLockTimeout _ => true
  | .phaseStepDone _ => true
  | .ppsinEdge _ _ => true
  | .ppsLost _ => true
  | .frameDeposit _ lanes => decide (lanes.length ≤ 8)
  | .laneLiftsFrame _ lane => decide (lane < 8)
  | .headLaneLift _ => true
  | .overdriveDetected _ input _ _ _ _ => decide (input < 8)
  | .rotationShadowStart _ core => decide (core < 24)
  | .rotationTrim _ trim => decide (trim.core < 24)
  | .coreReady _ core => decide (core < 24)
  | .seamStart _ input => decide (input < 8)
  | .seamTest _ input _ => decide (input < 8)
  | .seamDone _ input => decide (input < 8)
  | .seamRetry _ input => decide (input < 8)
  | .temperatureReading _ input _ => decide (input < 8)
  | .calMaxInterval _ input => decide (input < 8)
  | .calForegroundDone _ trims => decide (trims.all (fun x => x.core < 24))
  | .inputCalibrationDone _ trims => decide (trims.all (fun x => x.core < 24))
  | .calRestored _ => true
  | .filterSync _ => true
  | .triggerClassified _ group => decide (group < 4)
  | .fillEnd _ group => decide (group < 4)
  | .reArmEnd _ group => decide (group < 4)
  | .tokenGain _ => true
  | .preFillEnd _ group => decide (group < 4)
  | .holdoffEnd _ group => decide (group < 4)
  | .sequenceWindowClose _ group => decide (group < 4)
  | .triginEdge _ n _ _ => decide (n < 4)
  | .trigbusMessageReceived _ _ => true
  | .markerEdge _ marker => decide (marker < 4)
  | .tachEdge _ n _ _ => decide (n < 8)
  | .tachSettingTakesEffect _ n => decide (n < 8)
  | .interpolatorRefresh _ source interp _ _ => decide (source < 9 ∧ interp < 2)
  | .linearityTableBuilt _ source interp table => decide (source < 9 ∧ interp < 2 ∧ table.length = 256)
  | .tdcTableStale _ source interp => decide (source < 9 ∧ interp < 2)
  | .gateStart _ n => decide (n < 8)
  | .gateEnd _ n => decide (n < 8)
  | .armFrame _ group => decide (group < 4)
  | .armHoldTimeout _ group => decide (group < 4)
  | .groupDisarm _ group => decide (group < 4)
  | .postmarkFill _ group => decide (group < 4)
  | .strandWritten _ group input => decide (group < 4 ∧ input < 8)
  | .postmarkWritten _ group => decide (group < 4)
  | .hamperClearingEnd _ acc => decide (acc < 64)
  | .segmentCombined _ acc => decide (acc < 64)
  | .spillDone _ => true
  | .roundStart _ port => decide (port < 16)
  | .slotWindowEnd _ port position => decide (port < 16 ∧ position < 256)
  | .damuxSlotReceived _ port _ _ _ => decide (port < 16)
  | .discoveryReply _ port _ _ _ _ => decide (port < 16)
  | .beaconReturned _ port => decide (port < 16)
  | .rediscovery _ port => decide (port < 16)
  | .portTrainingEnd _ port _ _ => decide (port < 16)
  | .portTrainingRetry _ port => decide (port < 16)
  | .damuxLaneSignalLost _ port _ => decide (port < 16)
  | .damuxBreakRepaired _ port => decide (port < 16)
  | .blockRelease _ job => decide (job < 16384)
  | .chunkArrival _ job => decide (job < 16384)
  | .taskComplete _ engine => decide (engine < 128)
  | .engineAbort _ engine _ => decide (engine < 128)
  | .engineFault _ engine => decide (engine < 128)
  | .blockedWriterResumes _ ph => decide (ph < 1048576)
  | .entryCommitted _ ph => decide (ph < 1048576)
  | .drainDeadlineEvaluation _ => true
  | .hostRingDelivery _ ring => decide (ring < 4096)
  | .consumerReadCompletion _ ring _ _ => decide (ring < 4096)
  | .consumerReadTimeout _ ring => decide (ring < 4096)
  | .coalescingTime _ ring => decide (ring < 4096)
  | .stampBatchClose _ source => decide (source < 8)
  | .streamDatagramSent _ stream => decide (stream < 256)
  | .pauseFrame _ port quanta => decide (port < 2 ∧ quanta < 65536)
  | .ethernetLinkDown _ port => decide (port < 2)
  | .ethernetLinkUp _ port => decide (port < 2)
  | .ptpMessageReceived _ port _ => decide (port < 2)
  | .delayReqInterval _ => true
  | .ptpLost _ => true
  | .refresh _ channel bank => decide (channel < 24 ∧ bank < 32)
  | .patrolScrub _ _ => true
  | .memUncorrectable _ _ _ => true
  | .memPrivilegedError _ _ _ ph => decide (ph < 1048576)
  | .trainingStep _ => true
  | .extraTrainingStep _ channel => decide (channel < 24)
  | .trainingPause _ _ _ _ _ => true
  | .memRateChanged _ => true
  | .memoryLoopLockTimeout _ => true
  | .migrationUnitCopied _ _ _ => true
  | .rankRetired _ => true
  | .recordWrite _ _ => true
  | .recordsLost _ => true
  | .recordCopied _ => true
  | .ringCleared _ => true
  | .protectedExpired _ _ => true
  | .sequenceConversionDue _ => true
  | .housekeepingConversionDue _ => true
  | .conversionDone _ code => decide (code < 65536)
  | .calibrationHoldEnd _ => true
  | .syncFrameSend _ => true
  | .syncFrameReceived _ _ _ => true
  | .syncLost _ => true
  | .syncReportSlot _ => true
  | .reportBitsChanged _ => true
  | .trigbusReportReceived _ _ => true
  | .probeReceived _ id _ _ _ => decide (id < 256)
  | .checkWaitEnd _ => true
  | .syncDomainReset _ => true
  | .pcieLinkTraining _ => true
  | .pePerstnReleased _ => true
  | .busMasterEnableSet _ => true
  | .msixMask _ vec => decide (vec < 2048)
  | .unallocatedOpcodeRequest opcode q => decide (opcode < 65536 ∧ q.wf)
  | .ipv4FragmentReceived _ port id sender offset _ _ => decide (port < 2 ∧ id < 65536 ∧ sender < 2 ^ 32 ∧ offset < 8192)
  | .smbusTimeout _ => true
  | .pauseTimeExpiry _ port => decide (port < 2)
  | .vovenApplied _ => true
  | .vovenRemoved _ => true
  | .railsRemoved _ _ => true
  | .trigbusFrameSent _ => true
  | .consumerWordReread _ ring => decide (ring < 4096)
  | .jtagTckEdge _ _ _ _ _ => true
  | .trstnAsserted _ => true

end Sys2Proof
end

