-- ==== Sys2Proof/Safety.lean ====
section
/-! DEFINITION. The terms that claims about the block use: what stays true of its state over every command, when a
request is accepted, and what its reply is. -/

namespace Sys2Proof.Machine

/-! ### What every command keeps -/

/-- The numbered parts of the module: as many of each as the spec gives it. -/
def Sized (s : State) : Prop :=
  s.sess.length = 32 ∧ s.clk.loops.length = 4 ∧ s.pwr.lanes.length = 9 ∧
  s.inp.inputs.length = 8 ∧ s.inp.cores.length = 24 ∧ s.inp.pairs.length = 4 ∧ s.cal.inputs.length = 8 ∧
  s.flt.inputs.length = 8 ∧ s.trg.comparators.length = 16 ∧ s.trg.slots.length = 32 ∧ s.trg.groups.length = 4 ∧
  s.trg.markers.length = 4 ∧ s.seg.length = 4 ∧ s.edge.tachs.length = 8 ∧ s.edge.sources.length = 9 ∧
  s.aux.captures.length = 16 ∧ s.mem.channels.length = 24 ∧ s.ham.accs.length = 64 ∧ s.dmx.ports.length = 16 ∧
  s.eng.engines.length = 128 ∧ s.xfer.links.length = 2 ∧ s.xfer.ptp.length = 2 ∧ s.prot.net.length = 2 ∧
  s.prot.keys.length = 8

/-- Every state that commands lead to from a state like this is like this: the numbered parts are all there, and memory is
in its canonical form. -/
def Inv (s : State) : Prop := Sized s ∧ Memory.wf s.mem.cells = true

/-! ### What a command leaves alone -/

/-- The kinds of state that the frame of a command is stated over. -/
inductive Kind where
  /-- the eight key slots -/
  | keys
  /-- the opcodes added to the protected set -/
  | opcodes
  /-- the open proposals and the next number -/
  | proposals
  /-- the network settings of the two ports -/
  | network
  /-- the committed firmware image -/
  | image
  /-- the firmware staging buffer -/
  | staging
  /-- the margin floor -/
  | floor
  /-- the VCORE control mode, the fixed voltage and the regulator address -/
  | vcore
  /-- the flags of BOOT_STATE that software clears -/
  | flags
  /-- the boot state -/
  | boot
  /-- the straps taken at the end of reset -/
  | straps
  /-- the choice of the PCIe reference clock -/
  | clocking
  /-- bus mastering and the unmasked vectors -/
  | busMaster
  /-- the control words of the clock outputs -/
  | outputs
  /-- the core rate and the ceiling -/
  | rates
  /-- whether the oven is ready -/
  | oven
  /-- the discipline source and its port -/
  | timeSource
  /-- the epoch of wall time -/
  | epoch
  /-- the PPSIN stamps -/
  | ppsStamps
  /-- the inputs -/
  | inputs
  /-- the converter cores -/
  | cores
  /-- the calibration schedule -/
  | schedule
  /-- the calibration generation -/
  | generation
  /-- the decimation chains and their coefficients -/
  | filters
  /-- the decimation state of the inputs -/
  | filterInputs
  /-- the sixteen comparators -/
  | comparators
  /-- the thirty-two condition slots -/
  | conditions
  /-- the trigger side of the groups -/
  | groups
  /-- the four markers -/
  | markers
  /-- the trigger bus wait -/
  | busWait
  /-- the capture side of the groups -/
  | segments
  /-- the tachometers, angles and gates -/
  | tachs
  /-- the hamper accumulators -/
  | accumulators
  /-- the damux ports, their heads and slots -/
  | heads
  /-- the pigeonholes -/
  | pigeonholes
  /-- the host rings -/
  | rings
  /-- the streams -/
  | streams
  /-- the PTP ports -/
  | ptp
  /-- acquisition memory, byte for byte, and its poisoned lines -/
  | memory
  /-- the ranks and the rank map -/
  | ranks
  /-- the conversion sequence -/
  | sequence
  /-- the role, identity and members in a system of modules -/
  | membership
  /-- the calibrated delay to the leader -/
  | delay
  /-- the lock of the system, a protected setting -/
  | lock
  /-- the event store: first part, ring, journal -/
  | store
  /-- the pigeonhole that takes copies of records -/
  | copy
  /-- the boundary-scan registers -/
  | scan
deriving DecidableEq, Repr

/-- State of this kind is the same in both states. -/
def Kind.same (k : Kind) (s t : State) : Prop :=
  match k with
  | .keys => t.prot.keys = s.prot.keys
  | .opcodes => t.prot.added = s.prot.added
  | .proposals => (t.prot.proposals, t.prot.nextProposal) =
      (s.prot.proposals, s.prot.nextProposal)
  | .network => t.prot.net = s.prot.net
  | .image => t.prot.image = s.prot.image
  | .staging => t.prot.staging = s.prot.staging
  | .floor => t.pwr.floor = s.pwr.floor
  | .vcore => (t.pwr.mode, t.pwr.fixed, t.pwr.regulator) =
      (s.pwr.mode, s.pwr.fixed, s.pwr.regulator)
  | .flags => (t.boot.cfgDefaulted, t.boot.memPreserved) =
      (s.boot.cfgDefaulted, s.boot.memPreserved)
  | .boot => t.boot.st = s.boot.st
  | .straps => t.boot.straps = s.boot.straps
  | .clocking => t.pcie.clockingSet = s.pcie.clockingSet
  | .busMaster => (t.pcie.busMaster, t.pcie.unmasked) =
      (s.pcie.busMaster, s.pcie.unmasked)
  | .outputs => t.clk.outputs = s.clk.outputs
  | .rates => (t.clk.core, t.clk.ceiling) =
      (s.clk.core, s.clk.ceiling)
  | .oven => t.clk.ovenReady = s.clk.ovenReady
  | .timeSource => (t.time.source, t.time.port) =
      (s.time.source, s.time.port)
  | .epoch => t.time.epoch = s.time.epoch
  | .ppsStamps => t.time.pps = s.time.pps
  | .inputs => t.inp.inputs = s.inp.inputs
  | .cores => t.inp.cores = s.inp.cores
  | .schedule => (t.cal.continuous, t.cal.maxInterval, t.cal.threshold) =
      (s.cal.continuous, s.cal.maxInterval, s.cal.threshold)
  | .generation => t.cal.generation = s.cal.generation
  | .filters => (t.flt.config, t.flt.coefs) =
      (s.flt.config, s.flt.coefs)
  | .filterInputs => t.flt.inputs = s.flt.inputs
  | .comparators => t.trg.comparators = s.trg.comparators
  | .conditions => t.trg.slots = s.trg.slots
  | .groups => t.trg.groups = s.trg.groups
  | .markers => t.trg.markers = s.trg.markers
  | .busWait => t.trg.busWait = s.trg.busWait
  | .segments => t.seg = s.seg
  | .tachs => t.edge.tachs = s.edge.tachs
  | .accumulators => t.ham.accs = s.ham.accs
  | .heads => t.dmx.ports = s.dmx.ports
  | .pigeonholes => t.xfer.phs = s.xfer.phs
  | .rings => t.xfer.rings = s.xfer.rings
  | .streams => t.xfer.streams = s.xfer.streams
  | .ptp => t.xfer.ptp = s.xfer.ptp
  | .memory => (t.mem.cells, t.mem.poisoned) =
      (s.mem.cells, s.mem.poisoned)
  | .ranks => (t.mem.ranks, t.mem.map) =
      (s.mem.ranks, s.mem.map)
  | .sequence => t.aux.seq = s.aux.seq
  | .membership => (t.sync.id, t.sync.role, t.sync.members) =
      (s.sync.id, s.sync.role, s.sync.members)
  | .delay => (t.sync.delayPs, t.sync.calibrated) =
      (s.sync.delayPs, s.sync.calibrated)
  | .lock => t.sync.lock = s.sync.lock
  | .store => (t.evt.first, t.evt.ring, t.evt.journal) =
      (s.evt.first, s.evt.ring, s.evt.journal)
  | .copy => t.evt.copyTo = s.evt.copyTo
  | .scan => (t.jtag.dr, t.jtag.ir, t.jtag.latches, t.jtag.instruction, t.jtag.st) =
      (s.jtag.dr, s.jtag.ir, s.jtag.latches, s.jtag.instruction, s.jtag.st)

/-- Rows that hold the module in reset, or start it from there. -/
def coldRow (i : Instr) : Bool :=
  match i with
  | .powerOnReset .. | .vauxLeavesTolerance .. | .railsFall .. | .powerDown .. | .powerDownDone .. | .powergoodRestored ..
  | .pinReset .. | .nresetRise .. => true
  | _ => false

/-- Those, and the rows that restart the firmware. PROT_COUNTERSIGN carries out any request that a proposal can hold. -/
def restartRow (i : Instr) : Bool :=
  coldRow i || match i with
  | .sysRestart .. | .watchdogExpiry .. | .protCountersign .. => true
  | _ => false

/-- Those, and the rows that may halt the module. -/
def haltRow (i : Instr) : Bool :=
  restartRow i || match i with
  | .tjReading .. | .memoryLoopLockTimeout .. | .firmwareStarted .. | .memoryInitialised .. => true
  | _ => false

/-- The rows that may change state of this kind. -/
def Kind.changedBy (k : Kind) (i : Instr) : Bool :=
  match k with
  | .keys => match i with
    | .keyEnrol .. | .keyRemove .. | .protCountersign .. => true
    | _ => false
  | .opcodes => match i with
    | .protCountersign .. | .protSetProtected .. => true
    | _ => false
  | .proposals => restartRow i || match i with
    | .keyRemove .. | .protPropose .. | .protectedExpired .. => true
    | _ => false
  | .network => match i with
    | .sysSetNetwork .. | .protCountersign .. => true
    | _ => false
  | .image => match i with
    | .protCountersign .. | .fwCommit .. => true
    | _ => false
  | .staging => restartRow i || match i with
    | .fwWrite .. => true
    | _ => false
  | .floor => restartRow i || match i with
    | .sysSetMarginFloor .. => true
    | _ => false
  | .vcore => match i with
    | .sysSetVcoreMode .. | .protCountersign .. => true
    | _ => false
  | .flags => restartRow i || match i with
    | .sysClearFlags .. | .bootStateWrite .. => true
    | _ => false
  | .boot => haltRow i || match i with
    | .deepStandbyEntry .. | .standbyEntryComplete .. | .standbyExitComplete .. | .imageCheckDone .. | .calStartupDone .. => true
    | _ => false
  | .straps => match i with
    | .nresetRise .. => true
    | _ => false
  | .clocking => match i with
    | .pcieSetClocking .. | .protCountersign .. => true
    | _ => false
  | .busMaster => coldRow i || match i with
    | .msixUnmask .. | .deepStandbyEntry .. | .pePerstnAsserted .. | .hotReset .. | .busMasterEnableCleared ..
    | .pcieLinkDown .. | .busMasterEnableSet .. | .msixMask .. => true
    | _ => false
  | .outputs => coldRow i || match i with
    | .clkSetOutput .. | .protCountersign .. | .firmwareStarted .. => true
    | _ => false
  | .rates => coldRow i || match i with
    | .clkSetCoreRate .. | .clkSetCeiling .. | .protCountersign .. | .firmwareStarted .. => true
    | _ => false
  | .oven => match i with
    | .powerOnReset .. | .vauxLeavesTolerance .. | .deepStandbyEntry .. | .ovenReady .. | .ovenUnsettled .. | .ovenFault .. => true
    | _ => false
  | .timeSource => restartRow i || match i with
    | .clkSetTimeSource .. => true
    | _ => false
  | .epoch => coldRow i || match i with
    | .clkSetTime .. | .protCountersign .. | .ppsinEdge .. | .ptpMessageReceived .. | .syncFrameReceived .. => true
    | _ => false
  | .ppsStamps => restartRow i || match i with
    | .ppsinEdge .. => true
    | _ => false
  | .inputs => haltRow i || match i with
    | .sysResetSubsystem .. | .clkSetReference .. | .clkSetRamp .. | .clkSetCoreRate .. | .inpSetEnable .. | .inpSetPair ..
    | .calRunForeground .. | .calRestoreImage .. | .deepStandbyEntry .. | .standbyEntryComplete .. | .standbyExitComplete ..
    | .calStartupDone .. | .sourceAbsent .. | .clockLockLost .. | .clockRelocked .. | .clockRateChanged ..
    | .coreRateLockTimeout .. | .frameDeposit .. | .laneLiftsFrame .. | .overdriveDetected .. | .rotationTrim ..
    | .coreReady .. | .seamStart .. | .seamTest .. | .seamDone .. | .seamRetry .. | .temperatureReading ..
    | .calMaxInterval .. | .calForegroundDone .. | .inputCalibrationDone .. | .armFrame .. | .conversionDone .. => true
    | _ => false
  | .cores => haltRow i || match i with
    | .clkSetReference .. | .clkSetRamp .. | .clkSetCoreRate .. | .inpSetEnable .. | .deepStandbyEntry ..
    | .standbyEntryComplete .. | .standbyExitComplete .. | .calStartupStep .. | .calStartupDone .. | .sourceAbsent ..
    | .clockLockLost .. | .clockRelocked .. | .clockRateChanged .. | .coreRateLockTimeout .. | .rotationShadowStart ..
    | .rotationTrim .. | .coreReady .. | .seamTest .. | .seamDone .. | .temperatureReading .. | .calMaxInterval ..
    | .calForegroundDone .. | .inputCalibrationDone .. | .calRestored .. => true
    | _ => false
  | .schedule => restartRow i || match i with
    | .calSetSchedule .. => true
    | _ => false
  | .generation => coldRow i || match i with
    | .calStartupDone .. | .clockRelocked .. | .clockRateChanged .. | .calForegroundDone .. | .calRestored .. => true
    | _ => false
  | .filters => restartRow i || match i with
    | .sysResetSubsystem .. | .fltConfigureChain .. | .fltLoadFir .. => true
    | _ => false
  | .filterInputs => restartRow i || match i with
    | .sysResetSubsystem .. | .inpSetEnable .. | .inpSetPair .. | .fltSetInput .. | .fltStart .. | .fltStop ..
    | .standbyExitComplete .. | .firmwareStarted .. | .frameDeposit .. | .laneLiftsFrame .. | .filterSync .. | .armFrame ..
    | .syncDomainReset .. => true
    | _ => false
  | .comparators => haltRow i || match i with
    | .sysResetSubsystem .. | .inpSetEnable .. | .inpSetPair .. | .trigSetComparator .. | .deepStandbyEntry ..
    | .standbyEntryComplete .. | .standbyExitComplete .. | .calStartupDone .. | .frameDeposit .. | .laneLiftsFrame ..
    | .calForegroundDone .. | .inputCalibrationDone .. => true
    | _ => false
  | .conditions => restartRow i || match i with
    | .sysResetSubsystem .. | .trigSetCondition .. | .laneLiftsFrame .. | .headLaneLift .. | .triggerClassified ..
    | .sequenceWindowClose .. | .groupDisarm .. => true
    | _ => false
  | .groups => haltRow i || match i with
    | .sysResetSubsystem .. | .trigSetPattern .. | .trigSetGroup .. | .trigForce .. | .trigGetStatus .. | .segStop ..
    | .deepStandbyEntry .. | .laneLiftsFrame .. | .headLaneLift .. | .triggerClassified .. | .reArmEnd .. | .tokenGain ..
    | .holdoffEnd .. | .sequenceWindowClose .. | .trigbusMessageReceived .. | .armFrame .. | .groupDisarm ..
    | .postmarkWritten .. | .syncDomainReset .. => true
    | _ => false
  | .markers => haltRow i || match i with
    | .sysResetSubsystem .. | .clkSetOutput .. | .trigSetMarker .. | .trigGetStatus .. | .laneLiftsFrame .. | .headLaneLift ..
    | .triggerClassified .. | .reArmEnd .. | .tokenGain .. | .preFillEnd .. | .sequenceWindowClose .. | .markerEdge ..
    | .armFrame .. | .groupDisarm .. | .postmarkWritten .. => true
    | _ => false
  | .busWait => restartRow i || match i with
    | .sysResetSubsystem .. | .trigSetBus .. => true
    | _ => false
  | .segments => haltRow i || match i with
    | .sysResetSubsystem .. | .clkSetTime .. | .segConfigure .. | .segArm .. | .segStop .. | .memRemap .. | .deepStandbyEntry ..
    | .standbyExitComplete .. | .calStartupDone .. | .ppsinEdge .. | .frameDeposit .. | .laneLiftsFrame ..
    | .calForegroundDone .. | .inputCalibrationDone .. | .triggerClassified .. | .fillEnd .. | .reArmEnd .. | .armFrame ..
    | .armHoldTimeout .. | .groupDisarm .. | .postmarkFill .. | .strandWritten .. | .postmarkWritten ..
    | .ptpMessageReceived .. | .syncFrameSend .. | .syncFrameReceived .. | .syncLost .. | .syncDomainReset .. => true
    | _ => false
  | .tachs => restartRow i || match i with
    | .sysResetSubsystem .. | .clkSetCoreRate .. | .edgeSetInput .. | .edgeSetGate .. | .edgeSetAngle .. | .firmwareStarted ..
    | .clockRelocked .. | .clockRateChanged .. | .tachEdge .. | .tachSettingTakesEffect .. | .gateStart .. | .gateEnd ..
    | .syncDomainReset .. => true
    | _ => false
  | .accumulators => haltRow i || match i with
    | .sysResetSubsystem .. | .sysSetPowerState .. | .segStop .. | .hamConfigure .. | .hamRelease .. | .hamStart ..
    | .hamStop .. | .dmxSetPort .. | .dmxRemoveHead .. | .memRemap .. | .deepStandbyEntry .. | .standbyEntryComplete ..
    | .standbyExitComplete .. | .laneLiftsFrame .. | .headLaneLift .. | .triggerClassified .. | .armFrame .. | .groupDisarm ..
    | .postmarkWritten .. | .hamperClearingEnd .. | .segmentCombined .. | .roundStart .. | .slotWindowEnd ..
    | .damuxSlotReceived .. | .damuxLaneSignalLost .. | .syncDomainReset .. => true
    | _ => false
  | .heads => haltRow i || match i with
    | .sysResetSubsystem .. | .sysSetPowerState .. | .dmxSetPort .. | .dmxEnumerate .. | .dmxEnrol .. | .dmxRemoveHead ..
    | .dmxSetHead .. | .dmxHeadParam .. | .dmxSetRoute .. | .dmxSetAlarmGroup .. | .dmxRejoin .. | .phRelease ..
    | .memRemap .. | .deepStandbyEntry .. | .standbyEntryComplete .. | .standbyExitComplete .. | .headLaneLift ..
    | .roundStart .. | .slotWindowEnd .. | .damuxSlotReceived .. | .discoveryReply .. | .beaconReturned .. | .rediscovery ..
    | .portTrainingEnd .. | .portTrainingRetry .. | .damuxLaneSignalLost .. | .damuxBreakRepaired .. => true
    | _ => false
  | .pigeonholes => haltRow i || match i with
    | .sysResetSubsystem .. | .sysSetPowerState .. | .clkSetCoreRate .. | .edgeSetGate .. | .phConfigure .. | .phSetPolicy ..
    | .phSetDrain .. | .phFlush .. | .phRelease .. | .phRead .. | .phBindEdge .. | .memRemap .. | .deepStandbyEntry ..
    | .standbyEntryComplete .. | .standbyExitComplete .. | .ppsinEdge .. | .headLaneLift .. | .tachEdge .. | .gateStart ..
    | .gateEnd .. | .postmarkWritten .. | .taskComplete .. | .engineAbort .. | .engineFault .. | .blockedWriterResumes ..
    | .entryCommitted .. | .drainDeadlineEvaluation .. | .hostRingDelivery .. | .stampBatchClose .. | .streamDatagramSent ..
    | .patrolScrub .. | .memUncorrectable .. | .memPrivilegedError .. | .recordCopied .. | .syncDomainReset .. => true
    | _ => false
  | .rings => haltRow i || match i with
    | .phRingConfigure .. | .phRingStart .. | .phRingStop .. | .deepStandbyEntry .. | .pePerstnAsserted .. | .hotReset ..
    | .busMasterEnableCleared .. | .pcieLinkDown .. | .hostRingDelivery .. | .consumerReadCompletion ..
    | .consumerReadTimeout .. | .coalescingTime .. | .consumerWordReread .. => true
    | _ => false
  | .streams => haltRow i || match i with
    | .phStreamConfigure .. | .streamDatagramSent .. | .pauseFrame .. | .ethernetLinkDown .. | .pauseTimeExpiry .. => true
    | _ => false
  | .ptp => restartRow i || match i with
    | .ptpConfigure .. | .ptpMessageReceived .. | .delayReqInterval .. | .ptpLost .. => true
    | _ => false
  | .memory => match i with
    | .sysResetSubsystem .. | .sysSetPowerState .. | .clkSetCoreRate .. | .edgeSetGate .. | .phSetPolicy .. | .phFlush ..
    | .phRead .. | .phBindEdge .. | .memRemap .. | .protCountersign .. | .powerOnReset .. | .vauxLeavesTolerance ..
    | .railsFall .. | .powerDown .. | .powerDownDone .. | .powergoodRestored .. | .nresetRise .. | .deepStandbyEntry ..
    | .standbyEntryComplete .. | .standbyExitComplete .. | .firmwareStarted .. | .memoryInitialised .. | .tjReading ..
    | .ppsinEdge .. | .headLaneLift .. | .tachEdge .. | .gateStart .. | .gateEnd .. | .postmarkFill .. | .strandWritten ..
    | .postmarkWritten .. | .spillDone .. | .taskComplete .. | .engineAbort .. | .engineFault .. | .blockedWriterResumes ..
    | .drainDeadlineEvaluation .. | .hostRingDelivery .. | .stampBatchClose .. | .streamDatagramSent .. | .patrolScrub ..
    | .memUncorrectable .. | .memPrivilegedError .. | .memoryLoopLockTimeout .. | .migrationUnitCopied .. | .recordCopied ..
    | .syncDomainReset .. | .railsRemoved .. => true
    | _ => false
  | .ranks => match i with
    | .memRetireRank .. | .memRemap .. | .protCountersign .. | .bar2Read .. | .powerOnReset .. | .standbyExitComplete ..
    | .memoryInitialised .. | .patrolScrub .. | .memUncorrectable .. | .trainingPause .. | .memRateChanged ..
    | .migrationUnitCopied .. | .rankRetired .. => true
    | _ => false
  | .sequence => haltRow i || match i with
    | .auxSetSequence .. | .sequenceConversionDue .. | .conversionDone .. => true
    | _ => false
  | .membership => match i with
    | .syncConfigure .. | .protCountersign .. => true
    | _ => false
  | .delay => restartRow i || match i with
    | .syncFrameReceived .. => true
    | _ => false
  | .lock => match i with
    | .syncLock .. | .protCountersign .. => true
    | _ => false
  | .store => match i with
    | .sysRestart .. | .protCountersign .. | .railsFall .. | .powerDown .. | .powerDownDone .. | .powergoodRestored ..
    | .nresetRise .. | .deepStandbyEntry .. | .firmwareStarted .. | .memoryInitialised .. | .watchdogExpiry .. | .tjReading ..
    | .memoryLoopLockTimeout .. | .recordWrite .. | .ringCleared .. => true
    | _ => false
  | .copy => restartRow i || match i with
    | .phRelease .. | .memRemap .. | .evtSetCopy .. | .memoryInitialised .. => true
    | _ => false
  | .scan => match i with
    | .powerOnReset .. | .jtagTckEdge .. | .trstnAsserted .. => true
    | _ => false

/-! ### Requests -/

/-- The request that a row of the table brings, with what the command reference says of its opcode. The rows that bring none,
and an open, which names no session yet, have none here. -/
def requestOf (i : Instr) : Option (Cmd × Request) :=
  match i with
  | .sysCloseSession q => some (sysCloseSessionCmd, q)
  | .sysGetIdentity q => some (sysGetIdentityCmd, q)
  | .sysGetFabric q => some (sysGetFabricCmd, q)
  | .sysSetMarginFloor q => some (sysSetMarginFloorCmd, q)
  | .sysSetVcoreMode q => some (sysSetVcoreModeCmd, q)
  | .sysGetPower q => some (sysGetPowerCmd, q)
  | .sysSetNetwork q => some (sysSetNetworkCmd, q)
  | .sysClearFlags q => some (sysClearFlagsCmd, q)
  | .sysRestart q => some (sysRestartCmd, q)
  | .sysResetSubsystem q => some (sysResetSubsystemCmd, q)
  | .sysSetPowerState q => some (sysSetPowerStateCmd, q)
  | .clkGetStatus q => some (clkGetStatusCmd, q)
  | .clkGetOutput q => some (clkGetOutputCmd, q)
  | .clkSetOutput q => some (clkSetOutputCmd, q)
  | .clkSetReference q => some (clkSetReferenceCmd, q)
  | .clkSetTimeSource q => some (clkSetTimeSourceCmd, q)
  | .clkSetTime q => some (clkSetTimeCmd, q)
  | .clkGetPps q => some (clkGetPpsCmd, q)
  | .clkStepPhase q => some (clkStepPhaseCmd, q)
  | .clkSetRamp q => some (clkSetRampCmd, q)
  | .clkSetCoreRate q => some (clkSetCoreRateCmd, q)
  | .clkSetCeiling q => some (clkSetCeilingCmd, q)
  | .inpSetEnable q => some (inpSetEnableCmd, q)
  | .inpSetPair q => some (inpSetPairCmd, q)
  | .inpGetStatus q => some (inpGetStatusCmd, q)
  | .calRunForeground q => some (calRunForegroundCmd, q)
  | .calSetSchedule q => some (calSetScheduleCmd, q)
  | .calGetQuality q => some (calGetQualityCmd, q)
  | .calSaveImage q => some (calSaveImageCmd, q)
  | .calReadImage q => some (calReadImageCmd, q)
  | .calWriteImage q => some (calWriteImageCmd, q)
  | .calRestoreImage q => some (calRestoreImageCmd, q)
  | .fltConfigureChain q => some (fltConfigureChainCmd, q)
  | .fltLoadFir q => some (fltLoadFirCmd, q)
  | .fltSetInput q => some (fltSetInputCmd, q)
  | .fltStart q => some (fltStartCmd, q)
  | .fltStop q => some (fltStopCmd, q)
  | .fltSync q => some (fltSyncCmd, q)
  | .fltGetStatus q => some (fltGetStatusCmd, q)
  | .trigSetComparator q => some (trigSetComparatorCmd, q)
  | .trigSetCondition q => some (trigSetConditionCmd, q)
  | .trigSetPattern q => some (trigSetPatternCmd, q)
  | .trigSetGroup q => some (trigSetGroupCmd, q)
  | .trigSetBus q => some (trigSetBusCmd, q)
  | .trigSetMarker q => some (trigSetMarkerCmd, q)
  | .trigForce q => some (trigForceCmd, q)
  | .trigGetStatus q => some (trigGetStatusCmd, q)
  | .edgeSetInput q => some (edgeSetInputCmd, q)
  | .edgeSetGate q => some (edgeSetGateCmd, q)
  | .edgeSetAngle q => some (edgeSetAngleCmd, q)
  | .edgeReadStamps q => some (edgeReadStampsCmd, q)
  | .edgeGetResults q => some (edgeGetResultsCmd, q)
  | .segConfigure q => some (segConfigureCmd, q)
  | .segArm q => some (segArmCmd, q)
  | .segStop q => some (segStopCmd, q)
  | .segGetStatus q => some (segGetStatusCmd, q)
  | .hamConfigure q => some (hamConfigureCmd, q)
  | .hamRelease q => some (hamReleaseCmd, q)
  | .hamStart q => some (hamStartCmd, q)
  | .hamStop q => some (hamStopCmd, q)
  | .hamSpill q => some (hamSpillCmd, q)
  | .hamGetStatus q => some (hamGetStatusCmd, q)
  | .dmxSetPort q => some (dmxSetPortCmd, q)
  | .dmxEnumerate q => some (dmxEnumerateCmd, q)
  | .dmxEnrol q => some (dmxEnrolCmd, q)
  | .dmxRemoveHead q => some (dmxRemoveHeadCmd, q)
  | .dmxSetHead q => some (dmxSetHeadCmd, q)
  | .dmxHeadParam q => some (dmxHeadParamCmd, q)
  | .dmxSetRoute q => some (dmxSetRouteCmd, q)
  | .dmxSetAlarmGroup q => some (dmxSetAlarmGroupCmd, q)
  | .dmxRejoin q => some (dmxRejoinCmd, q)
  | .dmxGetStatus q => some (dmxGetStatusCmd, q)
  | .dmxGetHeads q => some (dmxGetHeadsCmd, q)
  | .engGetCatalogue q => some (engGetCatalogueCmd, q)
  | .engCreateJob q => some (engCreateJobCmd, q)
  | .engStartJob q => some (engStartJobCmd, q)
  | .engStopJob q => some (engStopJobCmd, q)
  | .engDeleteJob q => some (engDeleteJobCmd, q)
  | .engGetStatus q => some (engGetStatusCmd, q)
  | .engGetJob q => some (engGetJobCmd, q)
  | .phConfigure q => some (phConfigureCmd, q)
  | .phSetPolicy q => some (phSetPolicyCmd, q)
  | .phSetDrain q => some (phSetDrainCmd, q)
  | .phFlush q => some (phFlushCmd, q)
  | .phRelease q => some (phReleaseCmd, q)
  | .phRead q => some (phReadCmd, q)
  | .phBindEdge q => some (phBindEdgeCmd, q)
  | .phGetStatus q => some (phGetStatusCmd, q)
  | .phRingConfigure q => some (phRingConfigureCmd, q)
  | .phRingStart q => some (phRingStartCmd, q)
  | .phRingStop q => some (phRingStopCmd, q)
  | .phRingStatus q => some (phRingStatusCmd, q)
  | .phStreamConfigure q => some (phStreamConfigureCmd, q)
  | .phStreamStatus q => some (phStreamStatusCmd, q)
  | .ptpConfigure q => some (ptpConfigureCmd, q)
  | .ptpGetStatus q => some (ptpGetStatusCmd, q)
  | .pcieSetClocking q => some (pcieSetClockingCmd, q)
  | .memSetRate q => some (memSetRateCmd, q)
  | .memRetireRank q => some (memRetireRankCmd, q)
  | .memRemap q => some (memRemapCmd, q)
  | .memGetStatus q => some (memGetStatusCmd, q)
  | .syncConfigure q => some (syncConfigureCmd, q)
  | .syncCalibrateDelay q => some (syncCalibrateDelayCmd, q)
  | .syncCheck q => some (syncCheckCmd, q)
  | .syncLock q => some (syncLockCmd, q)
  | .syncResetDomain q => some (syncResetDomainCmd, q)
  | .syncGetStatus q => some (syncGetStatusCmd, q)
  | .evtGetStatus q => some (evtGetStatusCmd, q)
  | .evtRead q => some (evtReadCmd, q)
  | .evtSetCopy q => some (evtSetCopyCmd, q)
  | .evtClearRing q => some (evtClearRingCmd, q)
  | .keyEnrol q => some (keyEnrolCmd, q)
  | .keyRemove q => some (keyRemoveCmd, q)
  | .keyList q => some (keyListCmd, q)
  | .protPropose q => some (protProposeCmd, q)
  | .protCountersign q => some (protCountersignCmd, q)
  | .protSetProtected q => some (protSetProtectedCmd, q)
  | .protGetProtected q => some (protGetProtectedCmd, q)
  | .fwWrite q => some (fwWriteCmd, q)
  | .fwCommit q => some (fwCommitCmd, q)
  | .auxSetSequence q => some (auxSetSequenceCmd, q)
  | .auxInject q => some (auxInjectCmd, q)
  | .auxSetCapture q => some (auxSetCaptureCmd, q)
  | .auxGetCapture q => some (auxGetCaptureCmd, q)
  | .auxGetMonitors q => some (auxGetMonitorsCmd, q)
  | .sysOpenSession _ => none
  | .mbxDoorbellSubmit _ _ _ => none
  | .mbxDoorbellOpen _ _ _ _ _ => none
  | .mbxDoorbellClose _ _ _ => none
  | .irqStatusWrite _ _ => none
  | .bootStateWrite _ _ => none
  | .auxDataRead _ => none
  | .auxStatusWrite _ _ => none
  | .registerWrite _ _ => none
  | .msixUnmask _ _ => none
  | .bar2Read _ _ _ _ => none
  | .bar2Write _ _ _ => none
  | .sessionDatagram _ _ _ _ => none
  | .reassemblyTimeout _ _ => none
  | .sessionTimeout _ _ => none
  | .arpRequest _ _ _ _ _ => none
  | .icmpEchoRequest _ _ _ _ _ => none
  | .powerOnReset _ => none
  | .vauxLeavesTolerance _ => none
  | .railsFall _ _ => none
  | .powerDown _ => none
  | .powerDownDone _ => none
  | .powergoodRestored _ _ => none
  | .pinReset _ => none
  | .nresetRise _ _ _ => none
  | .wakeEdge _ => none
  | .deepStandbyEntry _ => none
  | .standbyEntryComplete _ => none
  | .standbyExitComplete _ => none
  | .imageCheckDone _ _ _ => none
  | .firmwareStarted _ => none
  | .memoryInitialised _ _ => none
  | .calStartupStep _ _ _ => none
  | .calStartupDone _ => none
  | .watchdogExpiry _ => none
  | .pePerstnAsserted _ => none
  | .hotReset _ => none
  | .busMasterEnableCleared _ => none
  | .pcieLinkDown _ => none
  | .tjReading _ _ => none
  | .marginWindow _ _ _ => none
  | .pmbusTransaction _ _ _ _ => none
  | .ovenReady _ _ => none
  | .ovenTimeout _ _ _ => none
  | .ovenUnsettled _ _ => none
  | .ovenFault _ _ => none
  | .sourceAbsent _ _ => none
  | .sourcePresent _ _ _ => none
  | .refSwitched _ _ => none
  | .clockLockLost _ _ _ => none
  | .clockRelocked _ _ _ => none
  | .clkRampSegmentEnd _ _ => none
  | .coreRateRampEnd _ => none
  | .clockRateChanged _ => none
  | .coreRateLockTimeout _ => none
  | .phaseStepDone _ => none
  | .ppsinEdge _ _ => none
  | .ppsLost _ => none
  | .frameDeposit _ _ => none
  | .laneLiftsFrame _ _ => none
  | .headLaneLift _ => none
  | .overdriveDetected _ _ _ _ _ _ => none
  | .rotationShadowStart _ _ => none
  | .rotationTrim _ _ => none
  | .coreReady _ _ => none
  | .seamStart _ _ => none
  | .seamTest _ _ _ => none
  | .seamDone _ _ => none
  | .seamRetry _ _ => none
  | .temperatureReading _ _ _ => none
  | .calMaxInterval _ _ => none
  | .calForegroundDone _ _ => none
  | .inputCalibrationDone _ _ => none
  | .calRestored _ => none
  | .filterSync _ => none
  | .triggerClassified _ _ => none
  | .fillEnd _ _ => none
  | .reArmEnd _ _ => none
  | .tokenGain _ => none
  | .preFillEnd _ _ => none
  | .holdoffEnd _ _ => none
  | .sequenceWindowClose _ _ => none
  | .triginEdge _ _ _ _ => none
  | .trigbusMessageReceived _ _ => none
  | .markerEdge _ _ => none
  | .tachEdge _ _ _ _ => none
  | .tachSettingTakesEffect _ _ => none
  | .interpolatorRefresh _ _ _ _ _ => none
  | .linearityTableBuilt _ _ _ _ => none
  | .tdcTableStale _ _ _ => none
  | .gateStart _ _ => none
  | .gateEnd _ _ => none
  | .armFrame _ _ => none
  | .armHoldTimeout _ _ => none
  | .groupDisarm _ _ => none
  | .postmarkFill _ _ => none
  | .strandWritten _ _ _ => none
  | .postmarkWritten _ _ => none
  | .hamperClearingEnd _ _ => none
  | .segmentCombined _ _ => none
  | .spillDone _ => none
  | .roundStart _ _ => none
  | .slotWindowEnd _ _ _ => none
  | .damuxSlotReceived _ _ _ _ _ => none
  | .discoveryReply _ _ _ _ _ _ => none
  | .beaconReturned _ _ => none
  | .rediscovery _ _ => none
  | .portTrainingEnd _ _ _ _ => none
  | .portTrainingRetry _ _ => none
  | .damuxLaneSignalLost _ _ _ => none
  | .damuxBreakRepaired _ _ => none
  | .blockRelease _ _ => none
  | .chunkArrival _ _ => none
  | .taskComplete _ _ => none
  | .engineAbort _ _ _ => none
  | .engineFault _ _ => none
  | .blockedWriterResumes _ _ => none
  | .entryCommitted _ _ => none
  | .drainDeadlineEvaluation _ => none
  | .hostRingDelivery _ _ => none
  | .consumerReadCompletion _ _ _ _ => none
  | .consumerReadTimeout _ _ => none
  | .coalescingTime _ _ => none
  | .stampBatchClose _ _ => none
  | .streamDatagramSent _ _ => none
  | .pauseFrame _ _ _ => none
  | .ethernetLinkDown _ _ => none
  | .ethernetLinkUp _ _ => none
  | .ptpMessageReceived _ _ _ => none
  | .delayReqInterval _ => none
  | .ptpLost _ => none
  | .refresh _ _ _ => none
  | .patrolScrub _ _ => none
  | .memUncorrectable _ _ _ => none
  | .memPrivilegedError _ _ _ _ => none
  | .trainingStep _ => none
  | .extraTrainingStep _ _ => none
  | .trainingPause _ _ _ _ _ => none
  | .memRateChanged _ => none
  | .memoryLoopLockTimeout _ => none
  | .migrationUnitCopied _ _ _ => none
  | .rankRetired _ => none
  | .recordWrite _ _ => none
  | .recordsLost _ => none
  | .recordCopied _ => none
  | .ringCleared _ => none
  | .protectedExpired _ _ => none
  | .sequenceConversionDue _ => none
  | .housekeepingConversionDue _ => none
  | .conversionDone _ _ => none
  | .calibrationHoldEnd _ => none
  | .syncFrameSend _ => none
  | .syncFrameReceived _ _ _ => none
  | .syncLost _ => none
  | .syncReportSlot _ => none
  | .reportBitsChanged _ => none
  | .trigbusReportReceived _ _ => none
  | .probeReceived _ _ _ _ _ => none
  | .checkWaitEnd _ => none
  | .syncDomainReset _ => none
  | .pcieLinkTraining _ => none
  | .pePerstnReleased _ => none
  | .busMasterEnableSet _ => none
  | .msixMask _ _ => none
  | .unallocatedOpcodeRequest _ _ => none
  | .ipv4FragmentReceived _ _ _ _ _ _ _ => none
  | .smbusTimeout _ => none
  | .pauseTimeExpiry _ _ => none
  | .vovenApplied _ => none
  | .vovenRemoved _ => none
  | .railsRemoved _ _ => none
  | .trigbusFrameSent _ => none
  | .consumerWordReread _ _ => none
  | .jtagTckEdge _ _ _ _ _ => none
  | .trstnAsserted _ => none

/-- The module as the control processor finds it once the session has handed the request over and its header has passed
(R420, R423, R433). -/
def served (c : Cmd) (q : Request) (s : State) : State :=
  updSession q.sess (fun x => { x with lastValid := max s.time.ps q.time }) (takeRequest c.opcode q (advance q.time s))

/-- The session hands the request over: the control processor runs and may take it, the session is open and free, and the
request repeats no earlier one (R419, R420, R431, R435, R500). -/
def handsOver (c : Cmd) (q : Request) (s : State) : Bool :=
  let u := advance q.time s
  u.serves && decide (q.sess < 32) && (decide (ifaceOf q.sess ≠ 1) || u.ofPeer q) && ! isRepeat q u && readyFor c.opcode q u
    && u.canTake && u.turnOf q.sess

/-- The outcome of the header checks of R422. -/
def headerOutcome (c : Cmd) (q : Request) (s : State) : Check :=
  let v := takeRequest c.opcode q (advance q.time s)
  headerChecks c.opcode c.lengths (namesSession c.opcode q v) q v

/-- A request that its session hands over and that passes every check of R13: header, fields, the protected set and the state. -/
def accepts (c : Cmd) (q : Request) (s : State) : Bool :=
  let v := served c q s
  handsOver c q s && (headerOutcome c q s).isNone && (firstFailure (c.checks v q)).isNone && ! needsCountersign c.opcode v
    && (stateChecks c q v).isNone

/-- A request for an opcode of the protected set that its session hands over and that passes its header and field checks: it may
run only as the inner request of a countersigned proposal (R464). -/
def asksCountersign (c : Cmd) (q : Request) (s : State) : Bool :=
  let v := served c q s
  handsOver c q s && (headerOutcome c q s).isNone && (firstFailure (c.checks v q)).isNone && needsCountersign c.opcode v

/-- Why a request that its session hands over is not accepted: the status and the payload of its rejection (R13, R422, R464). -/
def turnedAway (c : Cmd) (q : Request) (s : State) : Rejection :=
  match headerOutcome c q s with
  | some st => some (st, [])
  | none =>
    let v := served c q s
    match firstFailure (c.checks v q) with
    | some st => some (st, c.failBytes v q)
    | none => if needsCountersign c.opcode v then some (NEEDS_COUNTERSIGN, zeros c.failLen) else stateChecks c q v

/-- Who waits for the reply of a request. -/
def waiterOf (c : Cmd) (q : Request) (s : State) : Waiter :=
  { sess := q.sess, gen := (s.session q.sess).gen, opcode := c.opcode, tag := q.tag }

/-- The session of `q` holds a reply to it: opcode, length, tag, status and payload at their places (R423), and STATE is 3. -/
def answers (c : Cmd) (q : Request) (status : Nat) (payload : List Byte) (t : State) : Prop :=
  (t.session q.sess).st = .replyReady ∧
  ∃ head tail : List Byte, (t.session q.sess).reply = head ++ payload ++ tail ∧ head.length = 32 ∧
    head.take 8 = u16 c.opcode ++ u16 (32 + payload.length) ++ u16 q.tag ++ u16 status

end Sys2Proof.Machine
end

