-- ==== Sys2Proof/Certificates/Slice0/Obligations.lean ====
section
/-! DEFINITION. The statements about the block, from the numbered rules of its spec. -/

open Sys2Proof Sys2Proof.Machine

/-- Opening over Ethernet and closing by request. An open over Ethernet that its header checks admit gives the lowest free
Ethernet session: its generation rises, it holds the open's address and the port that the open came to, it counts one
request, and the reply to the open names it. SYS_CLOSE_SESSION, once accepted, leaves its session Closed and every
other session's state as it was. (R417, R418, R422, R433, R444) -/
def Obligations.SessionsOpenAndClose : Prop :=
  (∀ q s n port, Sized s → (32 ≤ q.sess ∨ ifaceOf q.sess = 1) → (advance q.time s).serves = true →
    (advance q.time s).canTake = true → (advance q.time s).openPort q = some port →
    headerChecks 0x0001 (lenIs 32) (q.hsess = 0xFF ∧ q.gen = 0) q (dropOpen q (advance q.time s)) = none →
    s.freeSession = some n →
    ∃ t, exec (.sysOpenSession q) s = .next t ∧ answers sysOpenSessionCmd { q with sess := n } OK [] t ∧
      (t.session n).gen = nextGen (s.session n).gen ∧ (t.session n).requests = 1 ∧ (t.session n).peerIp = q.peerIp ∧
      (t.session n).peerPort = q.peerPort ∧ (t.session n).peerEth = port) ∧
  (∀ q s, Sized s → accepts sysCloseSessionCmd q s = true →
    ∃ t, exec (.sysCloseSession q) s = .next t ∧ (t.session q.sess).st = .closed ∧
      ∀ n, n ≠ q.sess → (t.session n).st = (s.session n).st)

/-- Margin floor, VCORE mode, network and flags take what a request gives. Each of SYS_SET_MARGIN_FLOOR,
SYS_SET_VCORE_MODE, SYS_SET_NETWORK and SYS_CLEAR_FLAGS, once accepted, completes with a reply OK without payload. The
floor is the request's; the mode is the request's, control is no longer lost, the regulator address is taken except in
the External mode, and the Fixed mode commands the request's VCORE; the port's network settings are the request's,
big-endian addresses included, and no other port's; the two flags are cleared where the request says so and stay
otherwise. (R36, R63, R432, R444, R453, R455) -/
def Obligations.SystemSettings : Prop :=
  (∀ q s, Sized s → accepts sysSetMarginFloorCmd q s = true →
    ∃ t, exec (.sysSetMarginFloor q) s = .next t ∧ answers sysSetMarginFloorCmd q OK [] t ∧ t.pwr.floor = q.u16 0) ∧
  (∀ q s, Sized s → accepts sysSetVcoreModeCmd q s = true →
    ∃ t, exec (.sysSetVcoreMode q) s = .next t ∧ answers sysSetVcoreModeCmd q OK [] t ∧ t.pwr.mode = q.u8 0 ∧
      t.pwr.lost = false ∧ t.pwr.regulator = (if q.u8 0 = 2 then s.pwr.regulator else q.u8 1) ∧
      t.pwr.commanded = (if q.u8 0 = 1 then q.u16 2 else s.pwr.commanded)) ∧
  (∀ q s, Sized s → accepts sysSetNetworkCmd q s = true →
    ∃ t, exec (.sysSetNetwork q) s = .next t ∧ answers sysSetNetworkCmd q OK [] t ∧
      t.prot.net.getD (q.u8 0) {} = { mac := ofBe (q.bytes 16 6), ip := ofBe (q.bytes 4 4), prefixLen := q.u8 1,
                                       gateway := ofBe (q.bytes 8 4), udp := q.u16 12, timeout := q.u16 14 } ∧
      ∀ p, p ≠ q.u8 0 → t.prot.net.getD p {} = s.prot.net.getD p {}) ∧
  (∀ q s, Sized s → accepts sysClearFlagsCmd q s = true →
    ∃ t, exec (.sysClearFlags q) s = .next t ∧ answers sysClearFlagsCmd q OK [] t ∧
      t.boot.cfgDefaulted = (s.boot.cfgDefaulted && ! q.bit 0 0) ∧ t.boot.memPreserved = (s.boot.memPreserved && ! q.bit 0 1))

/-- Restart, subsystem resets and power states by request. SYS_RESTART, once accepted, leaves boot state 0 with cause 2
and every session Closed. SYS_RESET_SUBSYSTEM takes the memory to data rate code 0 with subsystem 2, the named port
Down with subsystem 1, and deletes every job with subsystem 3; with subsystem 0 every accumulator and capture
configuration is at its default, and every comparator takes its default from the next frame boundary on, where no
calibration has to follow. SYS_SET_POWER_STATE begins the entry to Standby from Idle and the exit from Standby, notes
a deep standby with its oven flag, and answers OK where the state is the present one, when no transition is under way;
it waits behind one that is. (R444, R531, R534, R536, R539) -/
def Obligations.PowerRequests : Prop :=
  (∀ q s, Sized s → accepts sysRestartCmd q s = true →
    ∃ t, exec (.sysRestart q) s = .next t ∧ t.boot.st = 0 ∧ t.boot.cause = 2 ∧ ∀ n, (t.session n).st = .closed) ∧
  (∀ q s, Sized s → accepts sysResetSubsystemCmd q s = true →
    ∃ t, exec (.sysResetSubsystem q) s = .next t ∧
      (q.u8 0 = 2 → t.mem.rate = 0) ∧ (q.u8 0 = 1 → (t.port (q.u8 1)).st = .down) ∧ (q.u8 0 = 3 → t.eng.jobs = []) ∧
      (q.u8 0 = 0 → s.owedInputs = [] → t.trg.comparators = (s.trg.comparators.map fun c =>
          { c with waits := c.waits ++ [(0, 0, 8, (served sysResetSubsystemCmd q s).nextBoundary)] }) ∧ t.ham.accs = List.replicate 64 {} ∧
        ∀ g, (t.sg g).config = {})) ∧
  (∀ q s, Sized s → accepts sysSetPowerStateCmd q s = true → s.boot.transition = none →
    ∃ t, exec (.sysSetPowerState q) s = .next t ∧
      (s.boot.st = 4 → q.u8 0 = 0 → answers sysSetPowerStateCmd q OK [] t ∧ t.boot.transition = none) ∧
      (s.boot.st = 5 → q.u8 0 = 0 → ∃ w, t.boot.transition = some (true, 0, some w)) ∧
      (s.boot.st = 4 → q.u8 0 = 1 → ∃ w, t.boot.transition = some (false, 0, some w)) ∧
      (s.boot.st = 5 → q.u8 0 = 1 → answers sysSetPowerStateCmd q OK [] t ∧ t.boot.transition = none) ∧
      (q.u8 0 = 2 → answers sysSetPowerStateCmd q OK [] t ∧ t.boot.deepAfter = some (q.bit 1 0))) ∧
  (∀ q s x, Sized s → accepts sysSetPowerStateCmd q s = true → s.boot.transition = some x →
    ∃ t w, exec (.sysSetPowerState q) s = .next t ∧ t.boot.transition = some x ∧
      t.boot.queued = s.boot.queued ++ [(q.u8 0, q.bit 1 0, w)])

/-- What the reads of groups 0x00 and 0x01 answer. Each read of the system and of the clocks, once accepted, completes
with a reply OK whose payload is read from the module as the request finds it: the identity, the nine lane records
with the safe rate and the floor, the power figures, the clock status, the twelve control words of the outputs, the
PPSIN stamps. SYS_GET_FABRIC and CLK_GET_STATUS clear the "since last read" copies of the session that reads, and of
no other: the least margin reads its largest value again, and the peak what the letterboxes hold. (R35, R84, R89,
R108, R444, R445, R451, R452, R454) -/
def Obligations.SystemReads : Prop :=
  (∀ q s, Sized s → accepts sysGetIdentityCmd q s = true →
    ∃ t, exec (.sysGetIdentity q) s = .next t ∧ answers sysGetIdentityCmd q OK (identityBytes s) t) ∧
  (∀ q s, Sized s → accepts sysGetFabricCmd q s = true →
    ∃ t, exec (.sysGetFabric q) s = .next t ∧
      answers sysGetFabricCmd q OK ((List.range 9).flatMap (laneRecord s (s.session q.sess).since) ++ u32 s.safeRate
        ++ u16 s.pwr.floor ++ zeros 2) t ∧
      (t.session q.sess).since = { (s.session q.sess).since with
        minMargin := List.replicate 9 0xFFFF, peak := s.occupancies, overflow := List.replicate 9 false } ∧
      ∀ n, n ≠ q.sess → (t.session n).since = (s.session n).since) ∧
  (∀ q s, Sized s → accepts sysGetPowerCmd q s = true →
    ∃ t, exec (.sysGetPower q) s = .next t ∧ answers sysGetPowerCmd q OK (powerBytes s) t) ∧
  (∀ q s, Sized s → accepts clkGetStatusCmd q s = true →
    ∃ t, exec (.clkGetStatus q) s = .next t ∧ answers clkGetStatusCmd q OK (clkStatusPayload (served clkGetStatusCmd q s) q) t ∧
      (t.session q.sess).since = { (s.session q.sess).since with lockLost := List.replicate 4 false } ∧
      ∀ n, n ≠ q.sess → (t.session n).since = (s.session n).since) ∧
  (∀ q s, Sized s → accepts clkGetOutputCmd q s = true →
    ∃ t, exec (.clkGetOutput q) s = .next t ∧ answers clkGetOutputCmd q OK (s.clk.outputs.flatMap fun w => u32 w.toNat) t) ∧
  (∀ q s, Sized s → accepts clkGetPpsCmd q s = true →
    ∃ t, exec (.clkGetPps q) s = .next t ∧ answers clkGetPpsCmd q OK (stampList s.time.pps) t)

/-- What the settings of group 0x01 change. Each setting of the clocks, once accepted, completes with its effect: an
output takes the control word; a loop takes its source and policy, REFIN its frequency, and the reply gives the
source's offset; the time source and its port are taken, and free running ends steering; a time is corrected by
slewing within 1 µs, by a step with a new epoch beyond it, or set for the next PPSIN edge; a phase step is under way;
a sample-loop ramp runs from its first segment or ends, a link-loop ramp waits for link training; a core rate that
differs makes the sample loop ramp to it, the same rate is answered at once; the ceiling is taken. (R81, R85, R86,
R91, R92, R94, R95, R102, R103, R104, R445, R456) -/
def Obligations.ClockSettings : Prop :=
  (∀ q s, Sized s → accepts clkSetOutputCmd q s = true →
    ∃ t, exec (.clkSetOutput q) s = .next t ∧ answers clkSetOutputCmd q OK [] t ∧
      t.clk.outputs = s.clk.outputs.set (q.u8 0) (BitVec.ofNat 32 (q.u32 4))) ∧
  (∀ q s, Sized s → accepts clkSetReferenceCmd q s = true →
    ∃ t, exec (.clkSetReference q) s = .next t ∧ answers clkSetReferenceCmd q OK (offsetPayload s (q.u8 1)) t ∧
      (t.loop (q.u8 0)).source = q.u8 1 ∧ (t.loop (q.u8 0)).fallBack = decide (q.u8 2 = 1) ∧
      t.clk.refin100 = decide (q.u8 3 = 1)) ∧
  (∀ q s, Sized s → accepts clkSetTimeSourceCmd q s = true →
    ∃ t, exec (.clkSetTimeSource q) s = .next t ∧ answers clkSetTimeSourceCmd q OK [] t ∧ t.time.source = q.u8 0 ∧
      t.time.port = q.u8 1 ∧ (q.u8 0 = 0 → t.time.steer = 0 ∧ t.time.slew = 0)) ∧
  (∀ q s, Sized s → accepts clkSetTimeCmd q s = true →
    ∃ t, exec (.clkSetTime q) s = .next t ∧ answers clkSetTimeCmd q OK [] t ∧
      (q.bit 0 0 = true → t.time.nextSecond = some ((q.u64 8 : Nat) : Int)) ∧
      (q.bit 0 0 = false →
        let d : Int := q.u64 8 * 10 ^ 12 - (advance q.time s).time.tai
        if d.natAbs ≤ 10 ^ 15 then t.time.slew = d ∧ t.time.epoch = s.time.epoch ∧ t.time.tai = (advance q.time s).time.tai
        else t.time.tai = q.u64 8 * 10 ^ 12 ∧ t.time.epoch = (s.time.epoch + 1) % 65536 ∧ t.time.slew = 0)) ∧
  (∀ q s, Sized s → accepts clkStepPhaseCmd q s = true →
    ∃ t w, exec (.clkStepPhase q) s = .next t ∧ t.clk.step = some (q.u8 0, q.i16 2, w)) ∧
  (∀ q s, Sized s → accepts clkSetRampCmd q s = true →
    ∃ t, exec (.clkSetRamp q) s = .next t ∧ answers clkSetRampCmd q OK [] t ∧
      (q.u8 0 = 3 → t.clk.lnkRamp.next = some (if q.u8 1 = 1 then rampSegments q else [])) ∧
      (q.u8 0 = 0 → q.u8 1 = 0 → t.clk.smpRamp.running = false) ∧
      (q.u8 0 = 0 → q.u8 1 = 1 → t.clk.smpRamp = { segments := rampSegments q, running := true })) ∧
  (∀ q s, Sized s → accepts clkSetCoreRateCmd q s = true →
    ∃ t, exec (.clkSetCoreRate q) s = .next t ∧ t.clk.core = q.u16 0 ∧
      (s.clk.core = q.u16 0 → answers clkSetCoreRateCmd q OK [] t ∧ t.clk.change = s.clk.change) ∧
      (s.clk.core ≠ q.u16 0 → (t.loop 0).st = .ramping ∧
        ∃ w, t.clk.change = some { old := s.clk.core, slew := q.u8 2, accepted := max s.time.ps q.time, waiter := some w })) ∧
  (∀ q s, Sized s → accepts clkSetCeilingCmd q s = true →
    ∃ t, exec (.clkSetCeiling q) s = .next t ∧ answers clkSetCeilingCmd q OK [] t ∧ t.clk.ceiling = q.u16 0)

/-- What the events of the loops and references change. A loop that loses lock coasts, holds its frozen frequency and has
its loss reported; a loop that relocks is locked; one that falls back takes the oven and notes where it fell from. A
source that goes absent leaves its loops coasting and is no longer measured; one that appears has its offset, and
loops that coasted for want of it relock, or resume their change; one outside 50 ppm is measured and not present. A
ramp goes on to its next segment or ends; a change of the core rate ends its ramp, then ends with the sample loop
locked, or fails with it coasting; a phase step that ends has moved its loop. PPSIN is lost when its source has no
edge. (R82, R83, R87, R92, R93, R96, R97, R100, R104, R107) -/
def Obligations.LoopEvents : Prop :=
  (∀ a l f s, Sized s → l < 4 → (s.loop l).st ≠ .gated →
    ∃ t, exec (.clockLockLost a l f) s = .next t ∧ (t.loop l).st = .coasting ∧ (t.loop l).frozen = f ∧ (t.loop l).reported = true) ∧
  (∀ a l slip s, Sized s → l < 4 → ((s.loop l).st = .relocking ∨ (s.loop l).st = .coasting) → (l = 0 → s.clk.change = none) →
    (l = 2 → s.mem.change = none) →
    ∃ t, exec (.clockRelocked a l slip) s = .next t ∧ (t.loop l).st = .locked ∧ (t.loop l).reported = false) ∧
  (∀ a l s, Sized s → l < 4 → (s.loop l).fallBack = true → (s.loop l).st = .coasting → (s.loop l).source ≠ 0 →
    s.sourcePresent (s.loop l).source = false →
    ∃ t, exec (.refSwitched a l) s = .next t ∧ (t.loop l).source = 0 ∧ (t.loop l).fellBack = true ∧
      (t.loop l).fellFrom = (s.loop l).source ∧ (t.loop l).st = (if l = 0 ∧ s.clk.change.isSome = true then .ramping
        else if l = 2 ∧ s.mem.change.isSome = true then .gated else .relocking)) ∧
  (∀ a src s, Sized s → (src = 1 ∨ src = 2) → (s.sourceOffset src).isSome = true →
    ∃ t, exec (.sourceAbsent a src) s = .next t ∧ t.sourceOffset src = none ∧ t.sourcePresent src = false ∧
      ∀ l, l < 4 → (s.loop l).source = src → (s.loop l).st ≠ .gated → (t.loop l).st = .coasting) ∧
  (∀ a src v s, Sized s → (src = 1 ∨ src = 2) → v.natAbs ≤ 50000 →
    ∃ t, exec (.sourcePresent a src v) s = .next t ∧ t.sourceOffset src = some v ∧ t.sourcePresent src = true ∧
      ∀ l, l < 4 → (s.loop l).source = src → (s.loop l).st = .coasting → (s.loop l).cause = 1 →
        (t.loop l).st = (if l = 0 ∧ s.clk.change.isSome = true then .ramping
          else if l = 2 ∧ s.mem.change.isSome = true then .gated else .relocking)) ∧
  (∀ a src v s, (src = 1 ∨ src = 2) → 50000 < v.natAbs →
    ∃ t, exec (.sourcePresent a src v) s = .next t ∧ t.sourceOffset src = some v ∧ t.sourcePresent src = false ∧
      t.clk.loops = (advance a s).clk.loops) ∧
  (∀ a s, s.clk.smpRamp.running = true →
    ∃ t, exec (.clkRampSegmentEnd a 0) s = .next t ∧
      match nextSegment s.clk.smpRamp with
      | some i => t.clk.smpRamp = { s.clk.smpRamp with current := i, running := true }
      | none => t.clk.smpRamp.running = false) ∧
  (∀ a s, s.clk.lnkRamp.running = true →
    ∃ t, exec (.clkRampSegmentEnd a 3) s = .next t ∧
      match nextSegment s.clk.lnkRamp with
      | some i => t.clk.lnkRamp = { s.clk.lnkRamp with current := i }
      | none => t.clk.lnkRamp.running = false) ∧
  (∀ a s c, s.clk.change = some c → c.ramping = true → (s.loop 0).st = .ramping →
    ∃ t, exec (.coreRateRampEnd a) s = .next t ∧ t.clk.change = some { c with ramping := false } ∧
      t.time.freq = s.clk.core * 10 ^ 9 ∧ t.time.slope = 0) ∧
  (∀ a s c, Sized s → s.clk.change = some c → c.ramping = false → (s.loop 0).st = .ramping →
    ∃ t, exec (.clockRateChanged a) s = .next t ∧ t.clk.change = none ∧ (t.loop 0).st = .locked) ∧
  (∀ a s c, Sized s → s.clk.change = some c → c.ramping = false →
    ∃ t, exec (.coreRateLockTimeout a) s = .next t ∧ t.clk.change = none ∧ (t.loop 0).st = .coasting) ∧
  (∀ a s l n w, s.clk.step = some (l, n, w) →
    ∃ t, exec (.phaseStepDone a) s = .next t ∧ t.clk.step = none ∧ t.clk.phase = updAt s.clk.phase l (· + n)) ∧
  (∀ a s, s.time.source = 1 → s.time.ppsLost = false → (advance a s).ppsPresent = false →
    ∃ t, exec (.ppsLost a) s = .next t ∧ t.time.ppsLost = true)

/-- What the requests of group 0x02 do. INP_SET_ENABLE, once accepted, leaves the input on or off as asked: at once where
nothing changes and where it goes off, and with a calibration of that input under way where it comes on. INP_SET_PAIR
leaves the pair in the mode asked, with a calibration of both inputs under way where that changes. INP_GET_STATUS
answers with the eight records and clears its session's flags, and no other's. (R117, R118, R119, R137, R446) -/
def Obligations.InputRequests : Prop :=
  (∀ q s, Sized s → accepts inpSetEnableCmd q s = true →
    ∃ t, exec (.inpSetEnable q) s = .next t ∧ (t.input (q.u8 0)).enabled = decide (q.u8 1 = 1) ∧
      ((s.input (q.u8 0)).enabled = decide (q.u8 1 = 1) → answers inpSetEnableCmd q OK [] t ∧ t.inp = s.inp) ∧
      ((s.input (q.u8 0)).enabled = true → q.u8 1 = 0 → answers inpSetEnableCmd q OK [] t) ∧
      ((s.input (q.u8 0)).enabled = false → q.u8 1 = 1 →
        ∃ f ∈ t.cal.foregrounds, f.kind = .enable ∧ f.inputs = [q.u8 0])) ∧
  (∀ q s, Sized s → accepts inpSetPairCmd q s = true →
    ∃ t, exec (.inpSetPair q) s = .next t ∧ t.paired (q.u8 0) = decide (q.u8 1 = 1) ∧
      (s.paired (q.u8 0) = decide (q.u8 1 = 1) → answers inpSetPairCmd q OK [] t ∧ t.inp = s.inp) ∧
      (s.paired (q.u8 0) ≠ decide (q.u8 1 = 1) →
        ∃ f ∈ t.cal.foregrounds, f.kind = .enable ∧ f.inputs = [2 * q.u8 0, 2 * q.u8 0 + 1])) ∧
  (∀ q s, Sized s → accepts inpGetStatusCmd q s = true →
    ∃ t, exec (.inpGetStatus q) s = .next t ∧
      answers inpGetStatusCmd q OK ((List.range 8).flatMap (inputRecord (served inpGetStatusCmd q s) q.sess)) t ∧
      (t.session q.sess).since = { (s.session q.sess).since with
        overrange := List.replicate 8 false, excess := List.replicate 8 false } ∧
      ∀ n, n ≠ q.sess → (t.session n).since = (s.session n).since)

/-- What the requests of group 0x03 do. CAL_RUN_FOREGROUND, once accepted, has a commanded calibration of its input under
way. CAL_SET_SCHEDULE takes mode, threshold and interval, and every input's path follows the mode. CAL_GET_QUALITY
answers with the section asked. CAL_SAVE_IMAGE puts the image of the present values into the session's buffer and
answers with its size and digest; CAL_READ_IMAGE answers with the bytes of the buffer asked; CAL_WRITE_IMAGE changes
those bytes of the buffer and no others; CAL_RESTORE_IMAGE has a restore of the buffer under way. (R141, R144, R154,
R155, R158, R160, R161, R162) -/
def Obligations.CalibrationRequests : Prop :=
  (∀ q s, Sized s → accepts calRunForegroundCmd q s = true →
    ∃ t, exec (.calRunForeground q) s = .next t ∧ ∃ f ∈ t.cal.foregrounds, f.kind = .commanded ∧ f.inputs = [q.u8 0]) ∧
  (∀ q s, Sized s → accepts calSetScheduleCmd q s = true →
    ∃ t, exec (.calSetSchedule q) s = .next t ∧ answers calSetScheduleCmd q OK [] t ∧ t.cal.continuous = decide (q.u8 0 = 1) ∧
      t.cal.threshold = q.u16 2 ∧ t.cal.maxInterval = q.u32 4 ∧
      t.cal.inputs = s.cal.inputs.map fun x => { x with continuous := decide (q.u8 0 = 1) }) ∧
  (∀ q s, Sized s → accepts calGetQualityCmd q s = true →
    ∃ t, exec (.calGetQuality q) s = .next t ∧
      answers calGetQualityCmd q OK (qualityPayload (served calGetQualityCmd q s) q) t) ∧
  (∀ q s, Sized s → accepts calSaveImageCmd q s = true →
    ∃ t, exec (.calSaveImage q) s = .next t ∧
      answers calSaveImageCmd q OK (u32 11744 ++ zeros 4 ++ (imageBytes (served calSaveImageCmd q s)).drop 11712) t ∧
      (t.session q.sess).image = imageBytes (served calSaveImageCmd q s)) ∧
  (∀ q s, Sized s → accepts calReadImageCmd q s = true →
    ∃ t, exec (.calReadImage q) s = .next t ∧
      answers calReadImageCmd q OK (slice (s.session q.sess).image (q.u16 0) (q.u16 2)) t) ∧
  (∀ q s, Sized s → accepts calWriteImageCmd q s = true →
    ∃ t, exec (.calWriteImage q) s = .next t ∧ answers calWriteImageCmd q OK [] t ∧
      (t.session q.sess).image = overlay (s.session q.sess).image (q.u16 0) (q.bytes 8 (q.u16 2))) ∧
  (∀ q s, Sized s → accepts calRestoreImageCmd q s = true →
    ∃ t, exec (.calRestoreImage q) s = .next t ∧ t.cal.restoring = toLen 11744 (s.session q.sess).image ∧
      ∃ f ∈ t.cal.foregrounds, f.kind = .restore ∧ f.inputs = s.enabledInputs)

/-- What the events of calibration change. A step of the start-up calibration follows the one before it; its end leaves
boot state 4 with generation 1 and the converters running. A commanded calibration that ends raises the generation and
is no longer under way; so does a restore, which takes the image's alignment; a calibration of R119 ends. A
temperature reading joins its input's latest 100; an input whose longest interval is over starts a pass. (R139, R143,
R145, R148, R153, R162) -/
def Obligations.CalibrationEvents : Prop :=
  (∀ a n trims s, s.cal.startup ≠ 0 → n = s.cal.startup + 1 → n ≤ 5 → (n ≤ 4 → s.sampleLocked = true) →
    ∃ t, exec (.calStartupStep a n trims) s = .next t ∧ t.cal.startup = n) ∧
  (∀ e s, Sized s → s.boot.st = 3 → s.cal.startup = 5 → s.sampleLocked = true → s.awake = true →
    ∃ t, exec (.calStartupDone e) s = .next t ∧ t.boot.st = 4 ∧ t.cal.generation = 1 ∧ t.cal.done = true ∧
      t.cal.startup = 0 ∧ t.inp.running = true) ∧
  (∀ a trims s f, s.cal.foregrounds.find? (fun f => f.kind = .commanded ∧ ¬ f.deferred) = some f →
    ∃ t, exec (.calForegroundDone a trims) s = .next t ∧ t.cal.generation = nextGeneration s.cal.generation ∧
      t.cal.foregrounds = s.cal.foregrounds.erase f) ∧
  (∀ a trims s f, s.cal.foregrounds.find? (fun f => f.kind = .enable ∧ ¬ f.deferred) = some f →
    ∃ t, exec (.inputCalibrationDone a trims) s = .next t ∧ t.cal.foregrounds = s.cal.foregrounds.erase f ∧
      (f.subsystem = true → t.boot.subsystem = none)) ∧
  (∀ a s f, s.cal.foregrounds.find? (fun f => f.kind = .restore ∧ ¬ f.deferred) = some f →
    ∃ t, exec (.calRestored a) s = .next t ∧ t.cal.generation = nextGeneration s.cal.generation ∧
      t.cal.foregrounds = s.cal.foregrounds.erase f ∧
      t.cal.alignment = (List.range 8).map fun n => fieldInt s.cal.restoring (0x950 + 8 * n) 4) ∧
  (∀ a n temp s, Sized s → n < 8 →
    ∃ t, exec (.temperatureReading a n temp) s = .next t ∧ (t.inCal n).readings = (temp :: (s.inCal n).readings).take 100) ∧
  (∀ a n s, Sized s → n < 8 → (s.inCal n).lastStart + s.cal.maxInterval * psPerS ≤ max s.time.ps a → s.calPath n = 0 →
    s.enabled n = true → s.inp.running = true → (s.inCal n).pass = none →
    ∃ t, exec (.calMaxInterval a n) s = .next t ∧ (t.inCal n).pass.isSome = true ∧ (t.inCal n).lastStart = max s.time.ps a)

/-- What the events of the converters change. An overdrive interval is covered by those that its input keeps. A rotating
core goes from reference to shadowing, then, with good figures and slices to spare, has its corrections loaded, else
it is faulty; after that it is ready. A seam starts or is retried between the ready core and the core that has been
live longest, in agreement with the locked sample loop and outside windows; its test keeps its figures and passes it
or has it retried; a seam that passed puts the incoming core on the outgoing core's phase, and the count rises. (R115,
R120, R122, R123, R124, R127, R128, R129, R131) -/
def Obligations.RotationAndSeams : Prop :=
  (∀ a n neg first last ex s, Sized s → n < 8 → s.enabled n = true →
    ∃ t, exec (.overdriveDetected a n neg first last ex) s = .next t ∧
      ∃ o ∈ (t.input n).overdrives, o.first ≤ first ∧ last ≤ o.last ∧ (ex = true → o.excess = true)) ∧
  (∀ a c s, Sized s → c < 24 → (s.core c).st = .rotating → (s.core c).step = 1 → s.sampleLocked = true →
    ∃ t, exec (.rotationShadowStart a c) s = .next t ∧ (t.core c).step = 2 ∧ (t.core c).st = .rotating) ∧
  (∀ a x s, Sized s → x.core < 24 → (s.core x.core).st = .rotating → (s.core x.core).step = 2 → s.sampleLocked = true →
    ∃ t, exec (.rotationTrim a x) s = .next t ∧
      if x.failing.length ≤ (s.core x.core).sparesLeft ∧ trimFault x = 0 then
        (t.core x.core).step = 3 ∧ (t.core x.core).loaded = some (x.gain, x.offset, x.tap) ∧
          (t.core x.core).sparesLeft + x.failing.length = (s.core x.core).sparesLeft
      else (t.core x.core).st = .faulty) ∧
  (∀ a c s, Sized s → c < 24 → (s.core c).st = .rotating → (s.core c).step = 3 → (s.inCal (s.inputOf c)).pass = none →
    ∃ t, exec (.coreReady a c) s = .next t ∧ (t.core c).st = .ready ∧ (t.core c).step = 0) ∧
  (∀ a n s i o, Sized s → n < 8 → s.enabled n = true → (s.input n).seam = none → (s.input n).retry = false →
    (s.passSeams n = true ∨ s.calPath n = 1 ∨ s.calPath n = 2) → s.readyCore n = some i → longestLive s n = some o →
    s.sampleLocked = true → (advance a s).inWindow n (advance a s).time.tick = false →
    ∃ t, exec (.seamStart a n) s = .next t ∧
      (t.input n).seam = some { incoming := i, outgoing := o, f0 := (advance a s).nextBoundary }) ∧
  (∀ a n s i o, Sized s → n < 8 → s.enabled n = true → (s.input n).seam = none → (s.input n).retry = true →
    s.readyCore n = some i → longestLive s n = some o → s.sampleLocked = true →
    (advance a s).inWindow n (advance a s).time.tick = false →
    ∃ t, exec (.seamRetry a n) s = .next t ∧ (t.input n).retry = false ∧
      (t.input n).seam = some { incoming := i, outgoing := o, f0 := (advance a s).nextBoundary }) ∧
  (∀ a n l s x, Sized s → n < 8 → (s.input n).seam = some x →
    ∃ t, exec (.seamTest a n l) s = .next t ∧ (t.input n).lastRms = seamRms (s.overlap x l) ∧
      (t.input n).lastMean = seamMean (s.overlap x l) ∧ (t.input n).lastBound = seamBound (s.overlap x l) ∧
      if seamPasses (s.overlap x l) = true then (t.input n).seam = some { x with passed := true }
      else (t.input n).seam = none ∧ (t.input n).retry = true ∧ (t.input n).failed = (s.input n).failed + 1) ∧
  (∀ a n s x, Sized s → n < 8 → (s.input n).seam = some x → x.passed = true → x.incoming < 24 → x.incoming ≠ x.outgoing →
    ∃ t, exec (.seamDone a n) s = .next t ∧ (t.input n).seam = none ∧ (t.input n).seams = (s.input n).seams + 1 ∧
      (t.core x.incoming).st = .live ∧ (t.core x.incoming).phase = (s.core x.outgoing).phase)

/-- Frames go into the letterboxes and out of them. A frame that is due is deposited for every input that delivers and has
room, and the next frame is due; the lane that lifts takes the oldest frame of its input's letterbox and leaves the
others, unless it waits for room behind it. (R24, R26, R28, R41) -/
def Obligations.FramesMove : Prop :=
  (∀ a lanes s, Sized s → (advance a s).frameDue = true →
    ∃ t, exec (.frameDeposit a lanes) s = .next t ∧ t.inp.nextFrame = s.inp.nextFrame + 1 ∧
      ∀ n, n < 8 → s.enabled n = true → (s.input n).stopped = 0 → (s.input n).letterbox.length < 4096 →
        ∃ f, (t.input n).letterbox = (s.input n).letterbox ++ [f] ∧ f.index = s.inp.nextFrame) ∧
  (∀ a n s f rest, Sized s → n < 8 → (s.input n).letterbox = f :: rest → (endFills n (advance a s)).laneWaits n = false →
    ∃ t, exec (.laneLiftsFrame a n) s = .next t ∧ (t.input n).letterbox = rest) ∧
  (∀ a n s, (endFills n (advance a s)).laneWaits n = true →
    exec (.laneLiftsFrame a n) s = .next (endFills n (advance a s)))

/-- What the requests of group 0x04 do. FLT_CONFIGURE_CHAIN, FLT_LOAD_FIR and FLT_SET_INPUT, once accepted, take their
settings, and the lane of the input of FLT_SET_INPUT is to reset at the next frame on the present grid. FLT_START
starts the chain and re-anchors it at the next frame, where the lanes of all inputs reset and take up the chain;
FLT_STOP stops it, and no lane feeds it any more. FLT_SYNC schedules a reset at its tick, and its reply waits for it;
FILTER_SYNC carries it out with the new anchor for all inputs. FLT_GET_STATUS answers with the chain and the inputs,
and clears its session's saturation and reset flags. (R166, R175, R177, R179, R180, R181, R182, R183, R187, R189) -/
def Obligations.FilterRequests : Prop :=
  (∀ q s, Sized s → accepts fltConfigureChainCmd q s = true →
    ∃ t, exec (.fltConfigureChain q) s = .next t ∧ answers fltConfigureChainCmd q OK [] t ∧
      t.flt = { s.flt with config := q.u8 0, period := q.u32 4,
                           stages := if q.u8 0 = 4 then q.u8 1 else if q.u8 0 = 0 then 0 else if q.u8 0 = 1 then 1 else 2
                           shifts := [q.u8 8, q.u8 9, q.u8 10, q.u8 11] }) ∧
  (∀ q s, Sized s → accepts fltLoadFirCmd q s = true →
    ∃ t, exec (.fltLoadFir q) s = .next t ∧ answers fltLoadFirCmd q OK [] t ∧
      t.flt = { s.flt with coefs := (List.range 96).map fun i => q.i32 (4 * i) }) ∧
  (∀ q s, Sized s → accepts fltSetInputCmd q s = true →
    ∃ t, exec (.fltSetInput q) s = .next t ∧ answers fltSetInputCmd q OK [] t ∧
      t.fin (q.u8 0) = FilterInput.expect (s.enabled (q.u8 0)) (128 * (served fltSetInputCmd q s).nextBoundary) s.flt.anchor false
        { s.fin (q.u8 0) with mode := q.u8 1, factor := q.u32 4 } ∧
      ∀ n, n ≠ q.u8 0 → t.fin n = s.fin n) ∧
  (∀ q s, Sized s → accepts fltStartCmd q s = true →
    ∃ t, exec (.fltStart q) s = .next t ∧ answers fltStartCmd q OK [] t ∧ t.flt.running = true ∧
      let f := (served fltStartCmd q s).nextBoundary
      t.flt.anchor = 128 * f ∧ ∀ n, n < 8 → t.fin n = FilterInput.expect (s.enabled n) (128 * f) (128 * f) true (s.fin n)) ∧
  (∀ q s, Sized s → accepts fltStopCmd q s = true →
    ∃ t, exec (.fltStop q) s = .next t ∧ answers fltStopCmd q OK [] t ∧ t.flt = { s.flt with running := false, inputs := s.flt.inputs.map FilterInput.stop }) ∧
  (∀ q s, Sized s → accepts fltSyncCmd q s = true →
    ∃ t, exec (.fltSync q) s = .next t ∧ (t.session q.sess).st = .running ∧
      ∃ w, w.sess = q.sess ∧ w.tag = q.tag ∧ t.flt.scheduled = some (syncTick (served fltSyncCmd q s) q, w)) ∧
  (∀ a s t0 w, Sized s → s.flt.scheduled = some (t0, w) → t0 ≤ (advance a s).time.tick →
    ∃ t, exec (.filterSync a) s = .next t ∧ t.flt.scheduled = none ∧ t.flt.anchor = t0 ∧
      ∀ n, n < 8 → t.fin n = FilterInput.expect (s.enabled n) t0 t0 false (s.fin n)) ∧
  (∀ q s, Sized s → accepts fltGetStatusCmd q s = true →
    ∃ t, exec (.fltGetStatus q) s = .next t ∧
      answers fltGetStatusCmd q OK (filterPayload (served fltGetStatusCmd q s) q) t ∧
      (t.session q.sess).since = { (s.session q.sess).since with
        fltSat := List.replicate 8 false, fltSync := List.replicate 8 false } ∧
      ∀ n, n ≠ q.sess → (t.session n).since = (s.session n).since)

/-- What the requests of group 0x05 do. TRIG_SET_COMPARATOR and TRIG_SET_CONDITION, once accepted, wait behind the
settings that wait already and take effect at the next frame boundary. TRIG_SET_PATTERN sets one pattern of its group
and leaves the other; TRIG_SET_GROUP, TRIG_SET_BUS and TRIG_SET_MARKER take their settings, and the marker's edges
that were due are dropped; a marker that follows a group or a slot takes its level, and every other one goes low.
TRIG_FORCE queues a trigger of code 0x0340 at the next frame that is deposited. TRIG_GET_STATUS answers with the
conditions and the four groups. (R192, R195, R200, R201, R204, R213, R227, R228, R229, R230) -/
def Obligations.TriggerSettings : Prop :=
  (∀ q s, Sized s → accepts trigSetComparatorCmd q s = true →
    ∃ t, exec (.trigSetComparator q) s = .next t ∧ answers trigSetComparatorCmd q OK [] t ∧
      t.comparator (q.u8 0) (q.u8 1) = { s.comparator (q.u8 0) (q.u8 1) with
        waits := (s.comparator (q.u8 0) (q.u8 1)).waits ++ [(q.u8 2, q.i16 4, q.u16 6, (served trigSetComparatorCmd q s).nextBoundary)] } ∧
      ∀ n c, c < 2 → (n, c) ≠ (q.u8 0, q.u8 1) → t.comparator n c = s.comparator n c) ∧
  (∀ q s, Sized s → accepts trigSetConditionCmd q s = true →
    ∃ t, exec (.trigSetCondition q) s = .next t ∧ answers trigSetConditionCmd q OK [] t ∧
      t.slot (q.u8 0) = { s.slot (q.u8 0) with
        waits := (s.slot (q.u8 0)).waits ++
          [({ type := q.u8 1, source := q.u8 2, options := q.u8 3, low := q.u32 4, high := q.u32 8, stretch := q.u16 12 },
            (served trigSetConditionCmd q s).nextBoundary)] } ∧
      ∀ i, i ≠ q.u8 0 → t.slot i = s.slot i) ∧
  (∀ q s, Sized s → accepts trigSetPatternCmd q s = true →
    ∃ t, exec (.trigSetPattern q) s = .next t ∧ answers trigSetPatternCmd q OK [] t ∧
      let p : Pattern := { any_ := q.u8 2 = 1, care := q.u32 4, value := q.u32 8 }
      t.tg (q.u8 0) = (if q.u8 1 = 0 then { s.tg (q.u8 0) with a := p } else { s.tg (q.u8 0) with b := p }) ∧
      ∀ g, g ≠ q.u8 0 → t.tg g = s.tg g) ∧
  (∀ q s, Sized s → accepts trigSetGroupCmd q s = true →
    ∃ t, exec (.trigSetGroup q) s = .next t ∧ answers trigSetGroupCmd q OK [] t ∧
      t.tg (q.u8 0) = { s.tg (q.u8 0) with flags := q.u8 1, busGroups := q.u8 2, window := q.u32 4, holdoff := q.u32 8 } ∧
      ∀ g, g ≠ q.u8 0 → t.tg g = s.tg g) ∧
  (∀ q s, Sized s → accepts trigSetBusCmd q s = true →
    ∃ t, exec (.trigSetBus q) s = .next t ∧ answers trigSetBusCmd q OK [] t ∧ t.trg = { s.trg with busWait := q.u16 0 }) ∧
  (∀ q s, Sized s → accepts trigSetMarkerCmd q s = true →
    ∃ t, exec (.trigSetMarker q) s = .next t ∧ answers trigSetMarkerCmd q OK [] t ∧
      (t.marker (q.u8 0)).mode = q.u8 1 ∧ (t.marker (q.u8 0)).select = q.u8 2 ∧ (t.marker (q.u8 0)).width = q.u32 4 ∧
      (t.marker (q.u8 0)).delay = q.u32 8 ∧ (t.marker (q.u8 0)).due = [] ∧
      (t.marker (q.u8 0)).level = (if q.u8 1 = 4 then
          decide ((served trigSetMarkerCmd q s).groupState (q.u8 2) (served trigSetMarkerCmd q s).classifiedTo = .ready)
        else if q.u8 1 = 5 then (s.slot (q.u8 2)).value else false) ∧
      ∀ m, m ≠ q.u8 0 → t.marker m = s.marker m) ∧
  (∀ q s, Sized s → accepts trigForceCmd q s = true →
    ∃ t, exec (.trigForce q) s = .next t ∧ (t.session q.sess).st = .running ∧
      ∃ x ∈ (t.tg (q.u8 0)).queue, x.order = 2 ∧ x.code = 0x0340 ∧ x.instant = 128 * s.inp.nextFrame * 65536 ∧
        x.waiter.isSome = true) ∧
  (∀ q s, Sized s → accepts trigGetStatusCmd q s = true →
    ∃ t, exec (.trigGetStatus q) s = .next t ∧
      answers trigGetStatusCmd q OK (trigPayload (served trigGetStatusCmd q s) q) t)

/-- What the events of a group's cycle change. The earliest trigger that waits is classified: in Ready it is accepted,
starts a segment that fills under the next sequence number and counts as accepted; in Fill it counts as missed there;
under holdoff it counts as held off. Fill ends behind its last tick. Re-arm ends five frames after the frame in which
Fill ended, with a token, which it takes, where no other group is in Re-arm and it is known which groups take one (log
entry 74); the group is Ready there, or, gated, once its pre-trigger positions are stored. The bucket gains a token,
to 8 at most, at the next frame whose index is a multiple of 8. At the end of Pre-fill the ready markers of the group
rise within 20 to 30 ns. Holdoff ends once every tick up to its end is classified, and a sequence window in which
nothing has happened ends at its end and counts a timeout. (R205, R206, R207, R208, R209, R210, R212, R213, R223) -/
def Obligations.TriggerCycle : Prop :=
  (∀ a g s q rest, Sized s → g < 4 →
    let v := settleTokens (evaluate (advance a s))
    let u := settleGroup g (q.instant / 65536) (updTg g (fun t => { t with queue := rest }) v)
    (v.tg g).queue = q :: rest → v.mayClassify g q = true → (u.sg g).stopTick = none → (u.sg g).abortTick = none →
    ∃ t, exec (.triggerClassified a g) s = .next t ∧
      (u.groupState g (q.instant / 65536) = .ready → heldOff (u.tg g) q = false →
        (t.tg g).accepted = some q.instant ∧ (t.tg g).counts.accepted = satInc 64 (u.tg g).counts.accepted ∧
        (t.sg g).nextSeq = (u.sg g).nextSeq + 1 ∧
        ∃ f, (t.sg g).filling = some f ∧ f.sequence = (u.sg g).nextSeq ∧ f.trigger = q) ∧
      (u.groupState g (q.instant / 65536) = .fill → heldOff (u.tg g) q = false → q.order ≠ 2 →
        (t.tg g).counts.fill = satInc 32 (u.tg g).counts.fill ∧ (t.tg g).spanFill = satInc 32 (u.tg g).spanFill ∧
        t.sg g = u.sg g) ∧
      (u.groupState g (q.instant / 65536) ≠ .disarmed → heldOff (u.tg g) q = true →
        (t.tg g).counts.heldOff = satInc 32 (u.tg g).counts.heldOff ∧ (t.tg g).holdLeft = (u.tg g).holdLeft - 1 ∧
        t.sg g = u.sg g)) ∧
  (∀ a g s f, Sized s → g < 4 → (s.sg g).filling = some f → f.fillEnd < (advance a s).time.tick →
    ∃ t, exec (.fillEnd a g) s = .next t ∧ (t.sg g).filling = none ∧
      (t.sg g).writing = (s.sg g).writing ++ [{ f with filled := (s.sg g).filled, landed := (s.sg g).landed }]) ∧
  (∀ a g s i, Sized s → g < 4 →
    let due := frameOf (s.tg g).fillEnd + 5
    let store := frameOf ((s.tg g).fillEnd + 1)
    (s.sg g).filling = none → (s.sg g).stopTick = none → (s.tg g).accepted = some i → (s.tg g).rearmEnd = none →
    s.watches g (128 * due) = true → 0 < s.trg.tokens → s.trg.tokenFrame ≤ due →
    (∀ h, h < 4 → h ≠ g → (s.tg h).accepted = none ∨ (s.tg h).rearmEnd.isSome = true) →
    due ≤ (advance a s).tokensKnown →
    ∃ t, exec (.reArmEnd a g) s = .next t ∧ t.trg.tokens = s.tokensAt due - 1 ∧ t.trg.tokenFrame = due ∧
      (t.tg g).rearmEnd = some (128 * due) ∧
      (t.tg g).readyTick = some (128 * if (s.tg g).flags.testBit 1 then max due (store + s.preFill g store) else due)) ∧
  (∀ a s,
    let u := settleTokens (advance a s)
    let f := u.trg.tokenFrame / 8 * 8 + 8
    f ≤ u.tokensKnown →
    ∃ t, exec (.tokenGain a) s = .next t ∧ t.trg.tokens = min 8 (u.trg.tokens + 1) ∧ t.trg.tokenFrame = f) ∧
  (∀ a g s r, Sized s → g < 4 → (s.tg g).readyTick = some r → (s.tg g).flags.testBit 1 = true → r ≤ (advance a s).time.tick →
    ∃ t, exec (.preFillEnd a g) s = .next t ∧
      ∀ m, m < 4 → (s.marker m).mode = 4 → (s.marker m).select = g →
        ∃ e ∈ (t.marker m).due, e.2 = true ∧ max s.time.ps a + 20000 ≤ e.1 ∧ e.1 ≤ max s.time.ps a + 30000) ∧
  (∀ a g s e, Sized s → g < 4 → (s.tg g).holdEnd = some e → e ≤ (advance a s).classifiedTo * 65536 →
    ∃ t, exec (.holdoffEnd a g) s = .next t ∧ t.tg g = { s.tg g with holdEnd := none }) ∧
  (∀ a g s e, Sized s → g < 4 →
    let u := advance a s
    let v := evalTo u.knownTo u.evalFuel u
    (v.tg g).hits = [] → (v.tg g).seqEnd = some e → e < v.settledTo * 65536 →
    ∃ t, exec (.sequenceWindowClose a g) s = .next t ∧ (t.tg g).seqEnd = none ∧
      (t.tg g).counts.timeouts = satInc 32 (v.tg g).counts.timeouts)

/-- What trigger inputs, the trigger bus and markers do. TRIGIN_EDGE sets the level of its input, and the edge waits to be
evaluated at its tick, or at the first tick that is still to be evaluated. A good message of the trigger bus counts,
and a group that is armed with bus in for the sender's group queues a trigger of it unless it comes too late or from
the module itself; a message with a bad CRC counts as an error and no more. The oldest message of the queue goes out
as a frame. A marker takes the level of its first edge that is due. (R221, R224, R225, R226, R228, R479) -/
def Obligations.TriggerSources : Prop :=
  (∀ a n rising tick s, n < 4 → n < s.trg.trigin.length → s.trg.trigin.getD n false ≠ rising →
    ∃ t, exec (.triginEdge a n rising tick) s = .next t ∧ t.trg.trigin = s.trg.trigin.set n rising ∧
      t.trg.events = s.trg.events ++ [{ tick := max tick s.trg.horizon, source := .trigin n rising
                                        instant := max tick s.trg.horizon * 65536 }]) ∧
  (∀ a m s, Sized s → crc32c ((triggerFrame m.module m.group m.index m.fraction m.code).take 14) = m.crc →
    ∃ t, exec (.trigbusMessageReceived a m) s = .next t ∧ t.trg.messages = satInc 32 s.trg.messages ∧
      t.trg.crcErrors = s.trg.crcErrors ∧
      ∀ g, g < 4 → m.module ≠ s.sync.id → s.armed g = true → (s.tg g).flags.testBit 3 = true →
        (s.tg g).busGroups.testBit m.group = true → s.watches g ((m.index : Int) - s.sync.delta).toNat = true →
        (advance a s).time.tick ≤ ((m.index : Int) - s.sync.delta).toNat + s.ticksOfUs s.trg.busWait →
        ∃ x ∈ (t.tg g).queue, x.order = 1 ∧ x.bus = some (m.module, m.group) ∧
          x.instant = ((m.index : Int) - s.sync.delta).toNat * 65536 + m.fraction) ∧
  (∀ a m s, crc32c ((triggerFrame m.module m.group m.index m.fraction m.code).take 14) ≠ m.crc →
    ∃ t, exec (.trigbusMessageReceived a m) s = .next t ∧ t.trg = { s.trg with crcErrors := satInc 16 s.trg.crcErrors }) ∧
  (∀ a s m rest, s.trg.out = m :: rest →
    ∃ t, exec (.trigbusFrameSent a) s = .next t ∧ t.trg.out = rest ∧
      t.sent = { land := .trigbus, args := [1], data := triggerFrame s.sync.id m.group m.index m.fraction m.code } :: s.sent) ∧
  (∀ a m s e rest, Sized s → m < 4 → (s.marker m).due = e :: rest → e.1 ≤ max s.time.ps a →
    ∃ t, exec (.markerEdge a m) s = .next t ∧ t.marker m = { s.marker m with level := e.2, due := rest })

/-- What the requests of group 0x07 do. SEG_CONFIGURE, once accepted, sets its group's configuration and leaves the other
groups alone. SEG_ARM schedules its group for its arm frame, or leaves it pending where the module has a role in a
system; its reply waits. SEG_STOP takes a capturing group to stopping with reason 1, or with abort to reason 2 without
the segment that fills, and its reply waits; on a group that stops already it only waits, or with abort takes the
segment that fills away. SEG_GET_STATUS answers with the four groups. (R253, R254, R262, R264, R265, R278, R459, R489) -/
def Obligations.SegmentRequests : Prop :=
  (∀ q s, Sized s → accepts segConfigureCmd q s = true →
    ∃ t, exec (.segConfigure q) s = .next t ∧ answers segConfigureCmd q OK [] t ∧
      t.sg (q.u8 0) = { s.sg (q.u8 0) with config := segRequest q } ∧ ∀ g, g ≠ q.u8 0 → t.sg g = s.sg g) ∧
  (∀ q s, Sized s → accepts segArmCmd q s = true →
    ∃ t, exec (.segArm q) s = .next t ∧ (t.session q.sess).st = .running ∧
      (s.sync.st = 0 → (t.sg (q.u8 0)).state = .scheduled ∧
        (t.sg (q.u8 0)).armNext = (served segArmCmd q s).armFrameOf q) ∧
      (s.sync.st ≠ 0 → (t.sg (q.u8 0)).state = .pending) ∧
      (∃ w, (t.sg (q.u8 0)).armWaiter = some w ∧ w.sess = q.sess ∧ w.tag = q.tag) ∧
      ∀ g, g ≠ q.u8 0 → t.sg g = s.sg g) ∧
  (∀ q s, Sized s → accepts segStopCmd q s = true → (s.sg (q.u8 0)).state = .capturing →
    ∃ t, exec (.segStop q) s = .next t ∧ (t.session q.sess).st = .running ∧ (t.sg (q.u8 0)).state = .stopping ∧
      (t.sg (q.u8 0)).reason = (if q.bit 1 0 then 2 else 1) ∧ (q.bit 1 0 = true → (t.sg (q.u8 0)).filling = none) ∧
      (t.sg (q.u8 0)).stopTick = some (served segStopCmd q s).time.tick ∧
      ∃ w, (t.sg (q.u8 0)).stopWaiters = (s.sg (q.u8 0)).stopWaiters ++ [w] ∧ w.sess = q.sess ∧ w.tag = q.tag) ∧
  (∀ q s, Sized s → accepts segStopCmd q s = true → (s.sg (q.u8 0)).state = .stopping →
    ∃ t, exec (.segStop q) s = .next t ∧ (t.session q.sess).st = .running ∧ (t.sg (q.u8 0)).state = .stopping ∧
      ∃ w, w.sess = q.sess ∧ w.tag = q.tag ∧ (t.sg (q.u8 0)).stopWaiters = (s.sg (q.u8 0)).stopWaiters ++ [w] ∧
        (q.bit 1 0 = false → t.sg (q.u8 0) = { s.sg (q.u8 0) with stopWaiters := (s.sg (q.u8 0)).stopWaiters ++ [w] }) ∧
        (q.bit 1 0 = true → (t.sg (q.u8 0)).filling = none)) ∧
  (∀ q s, Sized s → accepts segGetStatusCmd q s = true →
    ∃ t, exec (.segGetStatus q) s = .next t ∧
      answers segGetStatusCmd q OK ((List.range 4).flatMap (segRecord (served segGetStatusCmd q s))) t)

/-- What the events of segmented capture change. At its arm frame a scheduled group captures: the capture count rises, its
numbers start at the next sequence number and every input of its mask is active. A pending group whose hold does not
lift in time is disarmed. The oldest segment that lacks an input's strands gets them once they are all in hand and the
hold has passed. A postmark that has to be filled with 0 is filled, once no earlier segment of its slot still waits
for its own. With all strands in memory the oldest segment gets its side record and postmark, and counts as written. A
stopping group with nothing in hand, every trigger before its stop frame classified, is disarmed behind that frame,
with its reason. (R263, R264, R265, R274, R275, R459, R493) -/
def Obligations.SegmentEvents : Prop :=
  (∀ a g s, Sized s → g < 4 → (s.sg g).state = .scheduled → 128 * (s.sg g).armNext ≤ (advance a s).time.tick →
    ∃ t, exec (.armFrame a g) s = .next t ∧ (t.sg g).state = .capturing ∧ (t.sg g).captures = (s.sg g).captures + 1 ∧
      (t.sg g).firstSeq = (s.sg g).nextSeq ∧ (t.sg g).active = (s.sg g).config.mask ∧ (t.sg g).config = (s.sg g).config ∧
      (t.sg g).armFrame = (s.sg g).armNext ∧ (t.sg g).armWaiter = none) ∧
  (∀ a g s, Sized s → g < 4 → (s.sg g).state = .pending →
    ∃ t, exec (.armHoldTimeout a g) s = .next t ∧ t.sg g = { s.sg g with state := .disarmed, armWaiter := none }) ∧
  (∀ a g n s f, Sized s → g < 4 → s.memServes = true → (s.sg g).config.mask.testBit n = true → (s.sg g).armed = true →
    (s.sg g).filling = none → (s.sg g).lacking n = some f → f.filled = true →
    f.fillEnd + s.holdTicks g ≤ (advance a s).time.tick → s.strandsReady g n f = true →
    ∃ t, exec (.strandWritten a g n) s = .next t ∧
      (t.sg g).writing = (s.sg g).writing.map fun h => if h.sequence = f.sequence then { h with written := n :: h.written } else h) ∧
  (∀ a g s f, Sized s → g < 4 → s.memServes = true → (s.sg g).filling = none →
    (s.sg g).writing.find? (fun f => ! f.filled) = some f → (s.sg g).slotBusy f.slot f.sequence = false →
    ∃ t, exec (.postmarkFill a g) s = .next t ∧ t.memBytes ((s.sg g).config.postmarkAt f.slot) 64 = zeros 64 ∧
      (t.sg g).writing = (s.sg g).writing.map fun h => if h.sequence = f.sequence then { h with filled := true } else h) ∧
  (∀ a g s f rest, Sized s → g < 4 → s.memServes = true → (s.sg g).filling = none → (s.sg g).writing = f :: rest →
    f.filled = true → (∀ n ∈ inputsIn f.mask, f.written.contains n = true) →
    ∃ t, exec (.postmarkWritten a g) s = .next t ∧ (t.sg g).written = (s.sg g).written + 1 ∧
      (t.sg g).lastWritten = f.sequence ∧ ((s.sg g).state = .capturing → (t.sg g).writing = rest)) ∧
  (∀ a g s u, Sized s → g < 4 → u = evaluate (advance a s) → (u.sg g).state = .stopping → (u.sg g).filling = none →
    (u.sg g).writing = [] → 128 * u.stopFrame g ≤ u.time.tick → u.allClassified g (u.stopFrame g) = true →
    ∃ t, exec (.groupDisarm a g) s = .next t ∧ (t.sg g).state = .disarmed ∧ (t.sg g).lastReason = (u.sg g).reason ∧
      (t.sg g).stopWaiters = [] ∧ (t.sg g).config = (u.sg g).config)

/-- What the requests of group 0x06 do. EDGE_SET_INPUT, once accepted, leaves its setting to take effect. EDGE_SET_GATE
with mode 0 leaves no gate that waits, runs or restarts, and a running one yields an aborted result; otherwise it
leaves a gate that waits for its start. EDGE_SET_ANGLE puts its reference at its start. EDGE_READ_STAMPS and
EDGE_GET_RESULTS answer with the latest stamps and gate results. (R232, R233, R240, R241, R242, R244, R245, R246,
R457) -/
def Obligations.EdgeRequests : Prop :=
  (∀ q s, Sized s → accepts edgeSetInputCmd q s = true →
    ∃ t, exec (.edgeSetInput q) s = .next t ∧ answers edgeSetInputCmd q OK [] t ∧
      t.tach (q.u8 0) = { s.tach (q.u8 0) with
        waits := some { enable := q.bit 1 0, terminate := q.bit 1 1, threshold := q.i16 2, hysteresis := q.u8 4 } } ∧
      ∀ n, n ≠ q.u8 0 → t.tach n = s.tach n) ∧
  (∀ q s, Sized s → accepts edgeSetGateCmd q s = true →
    ∃ t, exec (.edgeSetGate q) s = .next t ∧ answers edgeSetGateCmd q OK [] t ∧
      (q.u8 1 = 0 → (t.tach (q.u8 0)).gate.waits = false ∧ (t.tach (q.u8 0)).gate.restart = false ∧
        (t.tach (q.u8 0)).gate.mode = 0 ∧ (t.tach (q.u8 0)).gate.running = false ∧
        ((s.tach (q.u8 0)).gate.running = true →
          ∃ b, (t.tach (q.u8 0)).gate.results = (b :: (s.tach (q.u8 0)).gate.results).take 16)) ∧
      (q.u8 1 ≠ 0 → (t.tach (q.u8 0)).gate = { (s.tach (q.u8 0)).gate with
        mode := q.u8 1, direction := q.u8 2, lengthUs := q.u32 4, stride := q.u16 8, waits := true, restart := false
        start := if q.bit 3 0 = true then 128 * (served edgeSetGateCmd q s).nextBoundary else q.u64 16 })) ∧
  (∀ q s, Sized s → accepts edgeSetAngleCmd q s = true →
    ∃ t, exec (.edgeSetAngle q) s = .next t ∧ answers edgeSetAngleCmd q OK [] t ∧
      (t.tach (q.u8 0)).angle = (if q.u8 1 = 0 then {} else
        { on := true, direction := q.u8 2, index := q.u8 3, indexDir := (if q.u8 3 = 0xFF then 1 else q.u8 4), teeth := q.u16 6 }) ∧
      ∀ n, n ≠ q.u8 0 → t.tach n = s.tach n) ∧
  (∀ q s, Sized s → accepts edgeReadStampsCmd q s = true →
    ∃ t, exec (.edgeReadStamps q) s = .next t ∧
      answers edgeReadStampsCmd q OK (newestFirst 16 (s.edgeSource (q.u8 0)).stamps) t) ∧
  (∀ q s, Sized s → accepts edgeGetResultsCmd q s = true →
    ∃ t, exec (.edgeGetResults q) s = .next t ∧
      answers edgeGetResultsCmd q OK (newestFirst 64 (s.tach (q.u8 0)).gate.results) t)

/-- What edges and the events of edge timing change. An edge of an enabled tach input that finds an interpolator ready
leaves the newest of at most 16 stamps, and the interpolator is ready again 40 ns later; with none ready the edge is
lost and counts. A PPSIN edge is stamped likewise, and a valid one is the valid edge. An edge of PPSIN outside its
bounds is stamped and no more. A setting that waits comes into force; a ready interpolator takes a fresh pair; a table
takes effect and is stale once only after 600 s; a gate that waits starts at its start, and a single gate ends with a
result at its end. (R84, R86, R233, R235, R237, R238, R239, R240, R241, R243) -/
def Obligations.EdgeEvents : Prop :=
  (∀ a n rising r s i, Sized s → n < 8 → (s.tach n).set.enable = true → (s.tach n).level ≠ some rising →
    (s.edgeSource n).ready (max s.time.ps a) = some i → i < (s.edgeSource n).interps.length →
    ∃ t, exec (.tachEdge a n rising r) s = .next t ∧ (t.tach n).level = some rising ∧ (t.edgeSource n).lost = 0 ∧
      (t.edgeSource n).turn = 1 - i ∧ ((t.edgeSource n).interp i).readyAt = max s.time.ps a + 40000 ∧
      ∃ b, (t.edgeSource n).stamps = (b :: (s.edgeSource n).stamps).take 16 ∧ b.length = 16) ∧
  (∀ a n rising r s, Sized s → n < 8 → (s.tach n).set.enable = true → (s.tach n).level ≠ some rising →
    (s.edgeSource n).ready (max s.time.ps a) = none →
    ∃ t, exec (.tachEdge a n rising r) s = .next t ∧ (t.tach n).level = some rising ∧
      t.edgeSource n = { s.edgeSource n with lost := satInc 16 (s.edgeSource n).lost }) ∧
  (∀ a r s, Sized s → (match s.time.ppsEdge with
      | none => True
      | some p => 2 * psPerS ≤ max s.time.ps a - p ∨ ((((max s.time.ps a : Nat) : Int) - p) - psPerS).natAbs ≤ 100000000) →
    ∃ t, exec (.ppsinEdge a r) s = .next t ∧ t.time.ppsEdge = some (max s.time.ps a)) ∧
  (∀ a r s p, Sized s → s.time.ppsEdge = some p → ¬ 2 * psPerS ≤ max s.time.ps a - p →
    100000000 < ((((max s.time.ps a : Nat) : Int) - p) - psPerS).natAbs →
    ∃ t, exec (.ppsinEdge a r) s = .next t ∧ t.time.ppsEdge = some p ∧ t.time.source = s.time.source ∧ t.time.slew = (advance a s).time.slew ∧
      t.time.tai = (advance a s).time.tai) ∧
  (∀ a n s set, Sized s → n < 8 → (s.tach n).waits = some set →
    ∃ t, exec (.tachSettingTakesEffect a n) s = .next t ∧
      t.tach n = { s.tach n with set := set, waits := none, level := none } ∧ (t.edgeSource n).lost = 0) ∧
  (∀ a n i c1 c2 s, Sized s → n < 9 → i ≤ 1 → i < (s.edgeSource n).interps.length →
    ((s.edgeSource n).interp 0).readyAt ≤ max s.time.ps a → ((s.edgeSource n).interp 1).readyAt ≤ max s.time.ps a →
    ∃ t, exec (.interpolatorRefresh a n i c1 c2) s = .next t ∧
      (t.edgeSource n).interp i = { (s.edgeSource n).interp i with pair := some (c1, c2) }) ∧
  (∀ a n i l s, Sized s → n < 9 → i < (s.edgeSource n).interps.length →
    ∃ t rms peak, exec (.linearityTableBuilt a n i l) s = .next t ∧ (t.edgeSource n).interp i =
      { (s.edgeSource n).interp i with table := l, builtAt := max s.time.ps a, stale := false, rms := rms, peak := peak }) ∧
  (∀ a n i s, Sized s → n < 9 → i ≤ 1 → i < (s.edgeSource n).interps.length → ((s.edgeSource n).interp i).stale = false →
    ((s.edgeSource n).interp i).builtAt + 600 * psPerS < max s.time.ps a →
    ∃ t, exec (.tdcTableStale a n i) s = .next t ∧ (t.edgeSource n).interp i = { (s.edgeSource n).interp i with stale := true }) ∧
  (∀ a n s, Sized s → n < 8 → (s.tach n).gate.waits = true → (s.tach n).gate.start ≤ (advance a s).time.tick →
    (advance a s).time.tick < (s.tach n).gate.start + (s.tach n).gate.length s.clk.core →
    ∃ t, exec (.gateStart a n) s = .next t ∧ (t.tach n).gate = (s.tach n).gate.open_ (s.tach n).gate.start s.clk.core) ∧
  (∀ a n s, Sized s → n < 8 → (s.tach n).gate.waits = false → (s.tach n).gate.running = true → (s.tach n).gate.mode ≠ 2 →
    (s.tach n).gate.end_ ≤ (advance a s).time.tick →
    ∃ t, exec (.gateEnd a n) s = .next t ∧ (t.tach n).gate.running = false ∧
      ∃ b, (t.tach n).gate.results = (b :: (s.tach n).gate.results).take 16)

/-- What the requests of group 0x08 do. HAM_CONFIGURE, once accepted, leaves its accumulator Idle, with its configuration,
what fixes the meaning of its positions, the mask, span and format of its source and the pages that they need, and
nothing else of what it was; it answers with its pages and those free. HAM_RELEASE leaves it Free. HAM_START empties
its cells and counts and begins a clearing, and replies later. HAM_STOP notes the frame boundary after the present
tick: where no segment before it can come any more, and no other accumulator stops, it is Idle at once with reason 1,
or 2 with a successor, and the reply is OK; otherwise it runs on to that boundary and the reply waits; a successor
named runs from there in both cases. HAM_SPILL begins a spill, and replies later. HAM_GET_STATUS answers with the
pages and the 64 accumulators. Each leaves every other accumulator as it was. (R282, R283, R284, R285, R286, R295,
R300) -/
def Obligations.HamperRequests : Prop :=
  (∀ q s, Sized s → accepts hamConfigureCmd q s = true →
    let c := accRequest q
    let g := (s.sg c.group).config
    ∃ t, exec (.hamConfigure q) s = .next t ∧
      t.acc (q.u8 0) = { st := .idle, config := c, snapshot := s.accSnapshot c, mask := if c.kind = 0 then g.mask else 0
                         span := if c.kind = 0 then g.span else c.headSpan, format := s.accFormat c, pages := accPages c g } ∧
      answers hamConfigureCmd q OK (u16 (accPages c g) ++ u16 t.pagesFree ++ zeros 4) t ∧
      ∀ a, a ≠ q.u8 0 → t.acc a = s.acc a) ∧
  (∀ q s, Sized s → accepts hamReleaseCmd q s = true →
    ∃ t, exec (.hamRelease q) s = .next t ∧ answers hamReleaseCmd q OK [] t ∧ t.acc (q.u8 0) = {} ∧
      ∀ a, a ≠ q.u8 0 → t.acc a = s.acc a) ∧
  (∀ q s, Sized s → accepts hamStartCmd q s = true →
    ∃ t w, exec (.hamStart q) s = .next t ∧ (t.session q.sess).st = .running ∧ w.sess = q.sess ∧ w.tag = q.tag ∧
      t.acc (q.u8 0) = { s.acc (q.u8 0) with
        segments := 0, sums := [], envelope := [], bins := [], firstSeq := 0, lastSeq := 0, skipped := [0, 0, 0, 0, 0]
        saturated := 0, sumSaturated := false, binSaturated := false, overrange := false, suspectIn := false
        unsettledIn := false, byCount := false, noSuccessor := false, clearing := some (q.bit 1 0, w) } ∧
      ∀ a, a ≠ q.u8 0 → t.acc a = s.acc a) ∧
  (∀ q s, Sized s → accepts hamStopCmd q s = true → (∀ a, a ≠ q.u8 0 → (s.acc a).stopping = none) →
    let stop := 128 * (served hamStopCmd q s).nextBoundary
    ∃ t w, exec (.hamStop q) s = .next t ∧ w.sess = q.sess ∧ w.tag = q.tag ∧
      ((served hamStopCmd q s).stopComplete (s.acc (q.u8 0)) stop = true →
        answers hamStopCmd q OK [] t ∧ t.acc (q.u8 0) = { s.acc (q.u8 0) with
          st := .idle, stopping := none, waiting := [], cut := none, held := []
          lastReason := if q.bit 1 0 then 2 else 1 }) ∧
      ((served hamStopCmd q s).stopComplete (s.acc (q.u8 0)) stop = false →
        (t.session q.sess).st = .running ∧ t.acc (q.u8 0) = { s.acc (q.u8 0) with
          stopping := some (stop, if q.bit 1 0 then some (q.u8 2) else none, w) }) ∧
      (q.bit 1 0 = true → t.acc (q.u8 2) = { s.acc (q.u8 2) with st := .running, from_ := stop * 65536 }) ∧
      ∀ a, a ≠ q.u8 0 → (q.bit 1 0 = true → a ≠ q.u8 2) → t.acc a = s.acc a) ∧
  (∀ q s, Sized s → accepts hamSpillCmd q s = true →
    ∃ t w, exec (.hamSpill q) s = .next t ∧ (t.session q.sess).st = .running ∧ w.sess = q.sess ∧ w.tag = q.tag ∧
      t.ham = { s.ham with
        spill := some { acc := q.u8 0, sections := q.u8 1, dest := q.u64 8, size := q.u64 16, waiter := w } }) ∧
  (∀ q s, Sized s → accepts hamGetStatusCmd q s = true →
    ∃ t, exec (.hamGetStatus q) s = .next t ∧ answers hamGetStatusCmd q OK (hamPayload s q) t ∧ t.ham = s.ham)

/-- What the events of the hamper change. The end of a clearing makes its accumulator Ready or Running from the next
frame. A segment that a running accumulator holds is skipped and counts under its reason, or is combined: the segment
count rises and its number is the last one. With the segment that brings the count of its configuration the
accumulator is Idle with reason 4, and a Ready successor of equal configuration runs from behind that segment's
trigger on, with the segments that wait. A spill that ends has written the size it answers with, its header first, and
is over. (R285, R286, R287, R288, R289, R290, R292, R295, R297) -/
def Obligations.HamperEvents : Prop :=
  (∀ a n s standby w, Sized s → n < 64 → (s.acc n).clearing = some (standby, w) →
    ∃ t, exec (.hamperClearingEnd a n) s = .next t ∧ t.acc n = { s.acc n with
      clearing := none, st := if standby = true then .ready else .running, from_ := 128 * (advance a s).nextBoundary * 65536 }) ∧
  (∀ a n s f rest, Sized s → n < 64 → (s.acc n).waiting = f :: rest → (s.acc n).st = .running → (s.acc n).stopping = none →
    ((s.acc n).config.count = 0 ∨ (s.acc n).segments + 1 < (s.acc n).config.count) →
    ∃ t, exec (.segmentCombined a n) s = .next t ∧ (t.acc n).waiting = rest ∧ (t.acc n).st = .running ∧
      match skipReason f (s.acc n) with
      | some r => t.acc n = { s.acc n with waiting := rest, skipped := updAt (s.acc n).skipped r (satInc 32) }
      | none => t.acc n = (combineSegment f { s.acc n with waiting := rest }).acc ∧
          (t.acc n).segments = (s.acc n).segments + 1 ∧ (t.acc n).lastSeq = f.sequence ∧ (t.acc n).skipped = (s.acc n).skipped) ∧
  (∀ a n s f rest c, Sized s → n < 64 → (s.acc n).waiting = f :: rest → (s.acc n).st = .running → (s.acc n).stopping = none →
    (s.acc n).config.count = (s.acc n).segments + 1 → skipReason f (s.acc n) = none →
    c < 64 → c = (s.acc n).config.chain → (s.acc c).st = .ready → (s.acc c).stopping = none →
    sameConfig (s.acc n).config (s.acc c).config = true →
    ∃ t, exec (.segmentCombined a n) s = .next t ∧ (t.acc n).st = .idle ∧ (t.acc n).lastReason = 4 ∧ (t.acc n).byCount = true ∧
      (t.acc n).segments = (s.acc n).config.count ∧ (t.acc n).lastSeq = f.sequence ∧ (t.acc n).waiting = [] ∧
      (t.acc c).st = .running ∧ (t.acc c).from_ = f.instant + 1 ∧ (t.acc c).waiting = rest) ∧
  (∀ a s p, Sized s → s.ham.spill = some p → s.memServes = true → p.dest + spillSize (s.acc p.acc) p.sections ≤ s.userSize →
    s.userSize ≤ addressSpace →
    ∃ t, exec (.spillDone a) s = .next t ∧ t.ham.spill = none ∧
      t.memBytes p.dest 64 = spillHeader p (s.acc p.acc))

/-- What the requests of group 0x09 do. DMX_SET_PORT, once accepted, takes its port down, or has its settings taken: at
once on a port that was down, which trains, else at the next round start; it answers with the cost and the budget of
the port's round. DMX_ENUMERATE starts a walk, and replies later. DMX_ENROL enters a discovered head into the round as
Enrolled and answers with its position; DMX_REMOVE_HEAD removes one. DMX_SET_HEAD and DMX_HEAD_PARAM queue their
beacon command and reply later. DMX_SET_ROUTE, DMX_SET_ALARM_GROUP and DMX_REJOIN take their settings, the last for
the next round start. DMX_GET_STATUS and DMX_GET_HEADS answer with the ports and the heads. Each leaves the other
ports as they were. (R312, R314, R316, R317, R318, R320, R322, R325, R327, R328, R329) -/
def Obligations.DamuxRequests : Prop :=
  (∀ q s, Sized s → accepts dmxSetPortCmd q s = true → q.u8 1 = 0 →
    (∀ c w, c ∈ (s.port (q.u8 0)).commands → c.waiter = some w → w.sess ≠ q.sess) →
    (∀ e w, (s.port (q.u8 0)).enum = some e → e.waiter = some w → w.sess ≠ q.sess) →
    ∃ t, exec (.dmxSetPort q) s = .next t ∧ (t.port (q.u8 0)).st = .down ∧
      answers dmxSetPortCmd q OK (costPayload (t.port (q.u8 0)).heads (t.port (q.u8 0)).wanted) t ∧
      ∀ p, p ≠ q.u8 0 → t.port p = s.port p) ∧
  (∀ q s, Sized s → accepts dmxSetPortCmd q s = true → q.u8 1 ≠ 0 →
    ∃ t, exec (.dmxSetPort q) s = .next t ∧
      (t.port (q.u8 0)).st = (if (s.port (q.u8 0)).st = .down then .training else (s.port (q.u8 0)).st) ∧
      ((s.port (q.u8 0)).st = .down → (t.port (q.u8 0)).expectClosed = q.bit 2 0 ∧ (t.port (q.u8 0)).auto = q.bit 2 1 ∧
        (t.port (q.u8 0)).picked = decide (q.u16 4 = 0)) ∧
      ((s.port (q.u8 0)).st ≠ .down → (t.port (q.u8 0)).newFlags = some (q.bit 2 0, q.bit 2 1, decide (q.u16 4 = 0))) ∧
      (if q.u16 4 = 0 then pickPeriod (s.port (q.u8 0)) (s.port (q.u8 0)).heads = some (t.port (q.u8 0)).wanted
       else (t.port (q.u8 0)).wanted = q.u16 4) ∧
      (t.port (q.u8 0)).heads = (s.port (q.u8 0)).heads ∧
      answers dmxSetPortCmd q OK (costPayload (s.port (q.u8 0)).heads (t.port (q.u8 0)).wanted) t ∧
      ∀ p, p ≠ q.u8 0 → t.port p = s.port p) ∧
  (∀ q s, Sized s → accepts dmxEnumerateCmd q s = true →
    ∃ t w, exec (.dmxEnumerate q) s = .next t ∧ (t.session q.sess).st = .running ∧ w.sess = q.sess ∧ w.tag = q.tag ∧
      t.port (q.u8 0) = { s.port (q.u8 0) with
        st := .enumerating, enum := some { fromReturn := false, waiter := some w }, discovery := false, replied := false } ∧
      ∀ p, p ≠ q.u8 0 → t.port p = s.port p) ∧
  (∀ q s h, Sized s → accepts dmxEnrolCmd q s = true → s.discovered (q.u8 0) (q.u64 8) = some h →
    ∃ t, exec (.dmxEnrol q) s = .next t ∧ answers dmxEnrolCmd q OK (u8 h.position ++ zeros 7) t ∧
      t.head (q.u8 0) h.position =
        { s.head (q.u8 0) h.position with st := .enrolled, inRoster := true, enable := false } ∧
      (∀ i, i ≠ h.position → t.head (q.u8 0) i = s.head (q.u8 0) i) ∧ ∀ p, p ≠ q.u8 0 → t.port p = s.port p) ∧
  (∀ q s, Sized s → accepts dmxRemoveHeadCmd q s = true →
    (∀ c w, c ∈ (s.port (q.u8 0)).commands → c.target = q.u8 1 → c.waiter = some w → w.sess ≠ q.sess) →
    ∃ t, exec (.dmxRemoveHead q) s = .next t ∧ answers dmxRemoveHeadCmd q OK [] t ∧
      (t.port (q.u8 0)).heads = (s.port (q.u8 0)).heads.filter (fun h => h.position ≠ q.u8 1) ∧
      ∀ p, p ≠ q.u8 0 → t.port p = s.port p) ∧
  (∀ q s, Sized s → accepts dmxSetHeadCmd q s = true →
    ∃ t, exec (.dmxSetHead q) s = .next t ∧ (t.session q.sess).st = .running ∧
      (t.port (q.u8 0)).heads = (s.port (q.u8 0)).heads ∧
      (∃ c ∈ (t.port (q.u8 0)).commands, c.target = q.u8 1 ∧ c.opcode = 3 ∧
        c.arg = toLen 12 (u8 (q.u8 2) ++ u8 (q.u8 3) ++ u8 (q.u8 4)) ∧
        c.stream = some (q.u8 2, q.u8 3, decide (q.u8 4 = 1)) ∧ ∃ w, c.waiter = some w ∧ w.sess = q.sess ∧ w.tag = q.tag) ∧
      ∀ p, p ≠ q.u8 0 → t.port p = s.port p) ∧
  (∀ q s, Sized s → accepts dmxHeadParamCmd q s = true →
    ∃ t w, exec (.dmxHeadParam q) s = .next t ∧ (t.session q.sess).st = .running ∧ w.sess = q.sess ∧ w.tag = q.tag ∧
      t.port (q.u8 0) = { s.port (q.u8 0) with
        commands := (s.port (q.u8 0)).commands ++ [{ target := q.u8 1, opcode := 4, arg := q.bytes 4 12
                                                     sequence := (s.port (q.u8 0)).nextSeq, waiter := some w }]
        nextSeq := ((s.port (q.u8 0)).nextSeq + 1) % 65536 } ∧
      ∀ p, p ≠ q.u8 0 → t.port p = s.port p) ∧
  (∀ q s, Sized s → accepts dmxSetRouteCmd q s = true →
    ∃ t, exec (.dmxSetRoute q) s = .next t ∧ answers dmxSetRouteCmd q OK [] t ∧
      t.head (q.u8 0) (q.u8 1) = { s.head (q.u8 0) (q.u8 1) with
        routePh := if q.bit 2 0 = true then some (q.u32 4) else none
        routeRing := if q.bit 2 1 = true then some (q.u64 8, q.u64 16, 0) else none } ∧
      (∀ i, i ≠ q.u8 1 → t.head (q.u8 0) i = s.head (q.u8 0) i) ∧ ∀ p, p ≠ q.u8 0 → t.port p = s.port p) ∧
  (∀ q s, Sized s → accepts dmxSetAlarmGroupCmd q s = true →
    ∃ t, exec (.dmxSetAlarmGroup q) s = .next t ∧ answers dmxSetAlarmGroupCmd q OK [] t ∧
      (let h := s.head (q.u8 0) (q.u8 1)
       t.head (q.u8 0) (q.u8 1) = { h with newMasks := some ((h.newMasks.getD h.masks).set (q.u8 2) (q.u8 3)) }) ∧
      (∀ i, i ≠ q.u8 1 → t.head (q.u8 0) i = s.head (q.u8 0) i) ∧ ∀ p, p ≠ q.u8 0 → t.port p = s.port p) ∧
  (∀ q s, Sized s → accepts dmxRejoinCmd q s = true →
    ∃ t, exec (.dmxRejoin q) s = .next t ∧ answers dmxRejoinCmd q OK [] t ∧
      (t.port (q.u8 0)).heads = (s.port (q.u8 0)).heads.map (fun h => { h with nextEnd := some false }) ∧
      ∀ p, p ≠ q.u8 0 → t.port p = s.port p) ∧
  (∀ q s, Sized s → accepts dmxGetStatusCmd q s = true →
    ∃ t, exec (.dmxGetStatus q) s = .next t ∧ answers dmxGetStatusCmd q OK (dmxPayload (served dmxGetStatusCmd q s) q) t ∧
      (t.session q.sess).since = { (s.session q.sess).since with dmxFull := List.replicate 16 false } ∧ t.dmx = s.dmx) ∧
  (∀ q s, Sized s → accepts dmxGetHeadsCmd q s = true →
    ∃ t, exec (.dmxGetHeads q) s = .next t ∧ answers dmxGetHeadsCmd q OK
      ((List.range (q.u8 2)).flatMap fun i => headRecord (s.head (q.u8 0) (q.u8 1 + i))) t ∧ t.dmx = s.dmx)

/-- What rounds and slots change. A round start raises the round number; a new period and changed settings take effect,
and each head is served from the end chosen for it. A head with a command that went out four times in vain is lost
there. A slot window that ends without a slot counts as missed for its head, one whose slot was discarded does not,
and a head is lost only at the sixteenth round in a row. A slot whose CRC fails is discarded and counted; one that
passes every check joins the port's letterbox, answers for its head and sets its alarm bits. The head lane takes the
oldest slot of the next letterbox that holds one, unless both pending copies of an accumulator on that head are full.
(R31, R293, R307, R311, R312, R314, R316, R323, R327) -/
def Obligations.DamuxRounds : Prop :=
  (∀ a p s, Sized s → p < 16 → (s.port p).rounds = true → (s.port p).expired = [] → (s.port p).enum = none →
    ∃ t, exec (.roundStart a p) s = .next t ∧ (t.port p).round = ((s.port p).round + 1) % 2 ^ 32 ∧
      (t.port p).period = (s.port p).wanted ∧ (t.port p).newPeriod = none ∧ (t.port p).discovery = (s.port p).rediscover ∧
      (t.port p).rediscover = false ∧ (t.port p).roundAt = max s.time.ps a ∧ (t.port p).newFlags = none ∧
      (∀ x, (s.port p).newFlags = some x →
        (t.port p).expectClosed = x.1 ∧ (t.port p).auto = x.2.1 ∧ (t.port p).picked = x.2.2) ∧
      (t.port p).heads = (s.port p).heads.map fun h => { h with
        returnEnd := h.nextEnd.getD h.returnEnd, nextEnd := none, answered := false, spoilt := false }) ∧
  (∀ a p i s, Sized s → p < 16 → (s.port p).rounds = true → (s.port p).expired = [i] → (s.port p).enum = none →
    ((s.head p i).st = .enrolled ∨ (s.head p i).st = .streaming) →
    ∃ t, exec (.roundStart a p) s = .next t ∧ (t.head p i).st = .unresponsive ∧ (t.head p i).before = (s.head p i).st) ∧
  (∀ a p i s, Sized s → p < 16 → (s.port p).rounds = true → (s.head p i).scheduled = true → (s.head p i).answered = false →
    (s.head p i).silent < 15 →
    ∃ t, exec (.slotWindowEnd a p i) s = .next t ∧
      t.head p i = (if (s.head p i).spoilt then { s.head p i with silent := (s.head p i).silent + 1 }
        else { s.head p i with silent := (s.head p i).silent + 1, missed := satInc 16 (s.head p i).missed, late := 0 })) ∧
  (∀ a p i s, Sized s → p < 16 → (s.port p).rounds = true → ((s.head p i).st = .enrolled ∨ (s.head p i).st = .streaming) →
    (s.head p i).answered = false → (s.head p i).silent = 15 →
    ∃ t, exec (.slotWindowEnd a p i) s = .next t ∧ (t.head p i).st = .unresponsive ∧ (t.head p i).before = (s.head p i).st) ∧
  (∀ a p i d f s, Sized s → p < 16 → (s.port p).rounds = true → (s.head p i).scheduled = true → (s.head p i).answered = false →
    f.crcGood = false →
    ∃ t, exec (.damuxSlotReceived a p i d f) s = .next t ∧ (t.port p).crcErrors = satInc 32 (s.port p).crcErrors ∧
      (t.head p i).crcErrors = satInc 16 (s.head p i).crcErrors ∧ (t.head p i).spoilt = true ∧
      (t.port p).letterbox = (s.port p).letterbox) ∧
  (∀ a p i d f s, Sized s → p < 16 → (s.port p).rounds = true → (s.head p i).scheduled = true → (s.head p i).answered = false →
    f.crcGood = true → d.natAbs ≤ 2500 → f.position = i → f.round = (s.port p).round →
    f.stream = streamByte (s.head p i).k (s.head p i).channels → f.inWindow = true →
    f.count ≤ (if (s.head p i).enable = true then slotMax (s.head p i).k (s.port p).period else 0) →
    ((s.port p).letterbox.map fun l => frameBytes l.frame).sum + frameBytes f ≤ 65536 →
    ∃ t, exec (.damuxSlotReceived a p i d f) s = .next t ∧ (t.head p i).answered = true ∧ (t.head p i).silent = 0 ∧
      (t.head p i).alarm = f.status % 256 ∧ (t.head p i).masks = (s.head p i).newMasks.getD (s.head p i).masks ∧
      ∃ l, (t.port p).letterbox = (s.port p).letterbox ++ [l] ∧ l.frame.position = i ∧ l.frame.status = f.status ∧
        l.tick = (advance a s).time.tick) ∧
  (∀ a p s l rest, Sized s → p < 16 → s.dmx.nextPort = p → (s.port p).letterbox = l :: rest →
    ∃ t, exec (.headLaneLift a) s = .next t ∧
      (s.headWaits p l.frame.position = false → (t.port p).letterbox = rest ∧ t.dmx.nextPort = (p + 1) % 16) ∧
      (s.headWaits p l.frame.position = true → t = advance a s))

/-- What discovery, training and breaks change. A discovery reply gives a head its place, its descriptor and its path
delay. A beacon that comes back shows a closed chain and ends the forward walk. A running port with unresponsive heads
has discovery open in a round. Training ends in enumeration or in Faulted, and a faulted port trains again. A forward
signal that is lost is a break at link 0 while the return end holds, else the port is faulted; a repaired break is
cleared, and both ends of a closed chain carry signal again. (R313, R318, R319, R321, R322) -/
def Obligations.DamuxChains : Prop :=
  (∀ a p rt d s i, Sized s → p < 16 → (s.port p).rounds = true → (s.port p).discovery = true → (rt - d.turnaround) / 2 ≤ 200000 →
    (s.port p).place d.serial = some i →
    ∃ t, exec (.discoveryReply a p true rt d true) s = .next t ∧ (t.head p i).desc = d ∧
      (t.head p i).pathDelay = (rt - d.turnaround) / 2 ∧ (t.port p).replied = true) ∧
  (∀ a p s, Sized s → p < 16 → (s.port p).rounds = true →
    ∃ t, exec (.beaconReturned a p) s = .next t ∧ (t.port p).closed = true ∧
      ∀ e, (s.port p).enum = some e → e.fromReturn = false → (t.port p).enum = none ∧ (t.port p).st = .running) ∧
  (∀ a p s, Sized s → p < 16 → (s.port p).rounds = true → (s.port p).heads.any (fun h => h.st = .unresponsive) = true →
    ∃ t, exec (.rediscovery a p) s = .next t ∧ t.port p = { s.port p with rediscover := true }) ∧
  (∀ a p forward back s, Sized s → p < 16 → ((s.port p).st = .training ∨ (s.port p).st = .faulted) →
    ∃ t, exec (.portTrainingEnd a p forward back) s = .next t ∧ (t.port p).returnSignal = back ∧
      (forward = true → (t.port p).st = .enumerating ∧ (t.port p).enum = some { fromReturn := false, waiter := none }) ∧
      (forward = false → (t.port p).st = .faulted)) ∧
  (∀ a p s, Sized s → p < 16 → (s.port p).st = .faulted →
    ∃ t, exec (.portTrainingRetry a p) s = .next t ∧
      t.port p = { s.port p with forwardSignal := false, returnSignal := false }) ∧
  (∀ a p s, Sized s → p < 16 → (s.port p).rounds = true →
    ∃ t, exec (.damuxLaneSignalLost a p false) s = .next t ∧
      if (s.port p).returnSignal = true then (t.port p).st = (s.port p).st ∧ (t.port p).forwardSignal = false ∧
        ((s.port p).broken.contains 0 = false → (t.port p).breakLink = some ((s.port p).breakLink.getD 0))
      else (t.port p).st = .faulted) ∧
  (∀ a p s, Sized s → p < 16 → (s.port p).rounds = true →
    ∃ t, exec (.damuxLaneSignalLost a p true) s = .next t ∧ t.port p = { s.port p with returnSignal := false }) ∧
  (∀ a p s, Sized s → p < 16 → (s.port p).rounds = true →
    ∃ t, exec (.damuxBreakRepaired a p) s = .next t ∧
      t.port p = { s.port p with breakLink := none, broken := [], forwardSignal := true
                                 returnSignal := (s.port p).returnSignal || (s.port p).closed } ∧
      ((s.port p).breakLink.isSome = true → AlertSource.damuxBreak p ∉ t.pwr.alert))

/-- What the requests of group 0x0A do. ENG_CREATE_JOB, once accepted, makes the job on its engine, running where it is
asked to start, and answers with its figures. ENG_START_JOB starts a job whose sources are as they were when it was
made; ENG_STOP_JOB stops one with reason 1, and answers once its engine computes no block of it; ENG_DELETE_JOB
deletes one with its tasks. ENG_GET_CATALOGUE, ENG_GET_STATUS and ENG_GET_JOB answer with the catalogue, 64 engines
and the job. (R332, R333, R335, R336, R353, R356, R357) -/
def Obligations.EngineRequests : Prop :=
  (∀ q s, Sized s → accepts engGetCatalogueCmd q s = true →
    ∃ t, exec (.engGetCatalogue q) s = .next t ∧ answers engGetCatalogueCmd q OK (u8 9 ++ zeros 7 ++
      (List.range 9).flatMap fun k => u8 (k + 1) ++ u8 (Config.kernelVersion (k + 1)).toNat ++ zeros 2) t) ∧
  (∀ q s, Sized s → accepts engCreateJobCmd q s = true →
    ∃ t, exec (.engCreateJob q) s = .next t ∧
      let e := s.engineFor (jobRequest q) (q.u8 5)
      answers engCreateJobCmd q OK (jobPayload s (jobRequest q) e 0) t ∧
      ∃ j, t.job (q.u32 0) = some j ∧ j.config = jobRequest q ∧ j.engine = e ∧ j.running = q.bit 7 1) ∧
  (∀ q s, Sized s → accepts engStartJobCmd q s = true →
    (∀ x ∈ s.eng.jobs, x.1 = q.u32 0 → s.jobSnapshot x.2.config = x.2.snapshot) →
    ∃ t, exec (.engStartJob q) s = .next t ∧ answers engStartJobCmd q OK [] t ∧
      t.job (q.u32 0) = (s.job (q.u32 0)).map Job.begin) ∧
  (∀ q s, Sized s → accepts engStopJobCmd q s = true →
    ∃ t j, exec (.engStopJob q) s = .next t ∧ t.job (q.u32 0) = some j ∧ j.running = false ∧ j.stopReason = 1 ∧
      ∀ k, s.job (q.u32 0) = some k → (∀ x ∈ s.eng.jobs, x.2.stopping = none) → s.computes (q.u32 0) k = false →
        answers engStopJobCmd q OK [] t) ∧
  (∀ q s, Sized s → accepts engDeleteJobCmd q s = true →
    ∃ t, exec (.engDeleteJob q) s = .next t ∧ t.job (q.u32 0) = none ∧
      (∀ e, e < 128 → ∀ x ∈ (t.engine e).tasks, x.job ≠ q.u32 0) ∧
      ∀ k, s.job (q.u32 0) = some k → k.stopping = none → answers engDeleteJobCmd q OK [] t) ∧
  (∀ q s, Sized s → accepts engGetStatusCmd q s = true →
    ∃ t, exec (.engGetStatus q) s = .next t ∧ t.free = s.free + 64 ∧ answers engGetStatusCmd q OK
      ((List.range 64).flatMap fun i => engineRecord (served engGetStatusCmd q s) i (64 * q.u8 0 + i)) t) ∧
  (∀ q s, Sized s → accepts engGetJobCmd q s = true →
    ∃ t, exec (.engGetJob q) s = .next t ∧ answers engGetJobCmd q OK
      (match s.job (q.u32 0) with | some j => jobRecord j | none => zeros 64) t)

/-- What the events of the engines change. The mover drains the taps of a job's sources first. A block that is released
becomes a task of its job's engine, with its release plus T as the deadline; so does a chunk that arrives. A task that
completes frees its engine's vector unit: a release that is not the last of its result counts, and the last one uses
up the result's number. An abort counts for its engine and its job and uses up a number. A faulty engine has no tasks,
and no running job stays on it. (R337, R338, R345, R346, R350, R351, R354) -/
def Obligations.EngineEvents : Prop :=
  (∀ a n s i j b rest, Sized s → s.job n = some i → (drainSources i (advance a s)).job n = some j → j.ready = b :: rest →
    j.engine < 128 →
    ∃ t, exec (.blockRelease a n) s = .next t ∧ (∃ k, t.job n = some k ∧ k.ready = rest ∧ k.lastRelease = some (max s.time.ps a)) ∧
      ∃ x : Task, ((t.engine j.engine).current = some x ∨ x ∈ (t.engine j.engine).tasks) ∧ x.job = n ∧ x.chunk = false ∧
        x.block.values = b.values ∧ x.deadline = max s.time.ps a + spacingPs j.cost.t) ∧
  (∀ a n s i j, Sized s → s.job n = some i → (drainSources i (advance a s)).job n = some j → 0 < j.chunks → j.engine < 128 →
    ∃ t, exec (.chunkArrival a n) s = .next t ∧ (∃ k, t.job n = some k ∧ k.chunks = j.chunks - 1) ∧
      ∃ x : Task, ((t.engine j.engine).current = some x ∨ x ∈ (t.engine j.engine).tasks) ∧ x.job = n ∧ x.chunk = true ∧
        x.deadline = max s.time.ps a + spacingPs j.cost.tc) ∧
  (∀ a e s x j, Sized s → (s.engine e).current = some x → x.chunk = false → s.job x.job = some j →
    ∃ t k, exec (.taskComplete a e) s = .next t ∧ t.job x.job = some k ∧
      if j.count + 1 < j.config.releases then k.count = j.count + 1 ∧ k.sequence = j.sequence
      else k.count = 0 ∧ k.sequence = j.sequence + 1) ∧
  (∀ a e s x, Sized s → (s.engine e).current = some x → x.chunk = true → (s.engine e).tasks = [] →
    ∃ t, exec (.taskComplete a e) s = .next t ∧ (t.engine e).current = none ∧ (t.engine e).tasks = []) ∧
  (∀ a e n s x j, Sized s → (s.engine e).current = some x → x.chunk = false → s.job x.job = some j →
    ∃ t k, exec (.engineAbort a e n) s = .next t ∧ (t.engine e).aborts = satInc 32 (s.engine e).aborts ∧
      t.job x.job = some k ∧ k.aborts = satInc 32 j.aborts ∧ k.sequence = j.sequence + 1) ∧
  (∀ a e s, Sized s → e < 128 → (s.engine e).faulty = false →
    ∃ t, exec (.engineFault a e) s = .next t ∧ (t.engine e).faulty = true ∧ (t.engine e).tasks = [] ∧
      ∀ n j, t.job n = some j → j.engine = e → j.running = false)

/-- What the pigeonhole requests do. PH_CONFIGURE, once accepted, makes its pigeonhole as asked, with no entries, and
leaves the others alone. PH_SET_POLICY and PH_SET_DRAIN set the policy and the drain, PH_FLUSH removes the entries and
counts them, PH_RELEASE leaves the pigeonhole Free with nothing bound to it. PH_READ answers with the oldest committed
entry and, with consume, removes it. PH_BIND_EDGE binds a source to the pigeonhole, or takes its bindings away.
PH_GET_STATUS answers with the descriptor. (R359, R361, R364, R365, R366, R367, R368, R385) -/
def Obligations.PigeonholeRequests : Prop :=
  (∀ q s, Sized s → accepts phConfigureCmd q s = true →
    ∃ t, exec (.phConfigure q) s = .next t ∧ answers phConfigureCmd q OK [] t ∧
      t.ph (q.u32 0) = some { policy := q.u8 4, kind := q.u8 5, entrySize := q.u32 8, depth := q.u32 12, base := q.u64 16
                              size := q.u64 24, deadline := q.u32 32, target := q.u32 36 } ∧
      ∀ n, n ≠ q.u32 0 → t.ph n = s.ph n) ∧
  (∀ q s, Sized s → accepts phSetPolicyCmd q s = true →
    ∃ t p, exec (.phSetPolicy q) s = .next t ∧ t.ph (q.u32 0) = some p ∧ p.policy = q.u8 4 ∧ p.deadline = q.u32 8 ∧
      p.switched = false ∧
      ∀ k, s.ph (q.u32 0) = some k → k.waiting = [] → answers phSetPolicyCmd q OK [] t ∧
        t.ph (q.u32 0) = some { k with policy := q.u8 4, deadline := q.u32 8, switched := false }) ∧
  (∀ q s, Sized s → accepts phSetDrainCmd q s = true →
    ∃ t, exec (.phSetDrain q) s = .next t ∧ answers phSetDrainCmd q OK [] t ∧
      t.ph (q.u32 0) = (s.ph (q.u32 0)).map fun p => { p with kind := q.u8 4, target := q.u32 8 }) ∧
  (∀ q s p, Sized s → accepts phFlushCmd q s = true → s.ph (q.u32 0) = some p → p.waiting = [] →
    ∃ t, exec (.phFlush q) s = .next t ∧ answers phFlushCmd q OK [] t ∧
      t.ph (q.u32 0) = some { p with entries := [], flushed := satInc 32 p.flushed p.entries.length }) ∧
  (∀ q s p, Sized s → accepts phFlushCmd q s = true → s.ph (q.u32 0) = some p →
    ∃ t k, exec (.phFlush q) s = .next t ∧ t.ph (q.u32 0) = some k ∧ k.flushed = satInc 32 p.flushed p.entries.length) ∧
  (∀ q s, Sized s → accepts phReleaseCmd q s = true →
    ∃ t, exec (.phRelease q) s = .next t ∧ t.ph (q.u32 0) = none ∧ (∀ b ∈ t.xfer.edges, b.2.2.ph ≠ q.u32 0) ∧
      t.evt.copyTo ≠ some (q.u32 0) ∧ (∀ n j, t.job n = some j → j.config.ph = q.u32 0 → j.running = false) ∧
      ∀ k, s.ph (q.u32 0) = some k → k.waiting = [] → answers phReleaseCmd q OK [] t) ∧
  (∀ q s p, Sized s → accepts phReadCmd q s = true → s.mem.poisoned = [] → s.ph (q.u32 0) = some p → p.waiting = [] →
    ∃ t, exec (.phRead q) s = .next t ∧ answers phReadCmd q OK (readPayload s q p) t ∧
      t.ph (q.u32 0) = some (match p.committed with
        | e :: _ => if q.bit 4 0 = true then { p with entries := p.entries.drop 1, delivered := some e.seq } else p
        | [] => p)) ∧
  (∀ q s, Sized s → accepts phBindEdgeCmd q s = true →
    ∃ t, exec (.phBindEdge q) s = .next t ∧ answers phBindEdgeCmd q OK [] t ∧
      (q.u8 5 ≠ 2 → t.edgeBind (q.u8 4) (q.u8 5) = some { ph := q.u32 0 }) ∧
      (q.u8 5 = 2 → ∀ b ∈ t.xfer.edges, b.1 = q.u8 4 → b.2.2.ph ≠ q.u32 0)) ∧
  (∀ q s, Sized s → accepts phGetStatusCmd q s = true →
    ∃ t, exec (.phGetStatus q) s = .next t ∧ answers phGetStatusCmd q OK
      (match s.ph (q.u32 0) with | some p => phDescriptor (served phGetStatusCmd q s) (q.u32 0) p | none => zeros 64) t)

/-- What the events of pigeonholes change. A commit marks the oldest entry that was not committed. A writer that waits
goes on where its entries fit: they are placed together under the next numbers. A missed drain deadline switches a
blocking pigeonhole to drop-newest, outside Standby. A stamp batch closes 100 µs after its first stamp, not before,
and leaves none open. (R361, R362, R363, R364, R368) -/
def Obligations.PigeonholeEvents : Prop :=
  (∀ a n s p, Sized s → s.ph n = some p →
    ∃ t, exec (.entryCommitted a n) s = .next t ∧ t.ph n = some { p with
      entries := updAt p.entries p.committed.length fun e => { e with committed := some (max s.time.ps a) } }) ∧
  (∀ a n s p o, Sized s → s.ph n = some p → p.waiting = [o] → p.entries.length + o.entries.length ≤ p.depth →
    ∃ t k, exec (.blockedWriterResumes a n) s = .next t ∧ t.ph n = some k ∧ k.waiting = [] ∧
      k.entries.length = p.entries.length + o.entries.length ∧ k.nextSeq = p.nextSeq + o.entries.length) ∧
  (∀ a n s p, Sized s → s.boot.st ≠ 5 → s.ph n = some p → p.missed (max s.time.ps a) = true →
    ∃ t k, exec (.drainDeadlineEvaluation a) s = .next t ∧ t.ph n = some k ∧ k.policy = 2 ∧ k.switched = true) ∧
  (∀ a n s b, Sized s → s.edgeBind n 0 = some b → b.batch ≠ [] → b.opened + 100000000 ≤ max s.time.ps a →
    ∃ t k, exec (.stampBatchClose a n) s = .next t ∧ t.edgeBind n 0 = some k ∧ k.batch = [] ∧ k.ph = b.ph) ∧
  (∀ a n s b, s.edgeBind n 0 = some b → max s.time.ps a < b.opened + 100000000 →
    exec (.stampBatchClose a n) s = .next (advance a s))

/-- What the requests for rings, streams, PTP and the PCI Express clock do. PH_RING_CONFIGURE, once accepted, leaves its
ring stopped with its configuration; PH_RING_START runs it with its counts at 0 and releases its hold of ALERTn;
PH_RING_STOP stops it. PH_STREAM_CONFIGURE and PTP_CONFIGURE set their stream and port; PCIE_SET_CLOCKING sets the
mode that the next link training takes up. The status requests answer with the records asked. (R371, R372, R378, R379,
R381, R382, R386) -/
def Obligations.DeliveryRequests : Prop :=
  (∀ q s, Sized s → accepts phRingConfigureCmd q s = true →
    ∃ t, exec (.phRingConfigure q) s = .next t ∧ answers phRingConfigureCmd q OK [] t ∧
      t.ring (q.u16 0) = some { notify := q.bit 2 0, relaxed := q.bit 2 1, slotSize := q.u32 4, slots := q.u32 8, vector := q.u16 12
                                data := q.u64 16, status := q.u64 24, consumer := q.u64 32, coalesceCount := q.u32 40
                                coalesceUs := q.u32 44 } ∧
      ∀ n, n ≠ q.u16 0 → t.ring n = s.ring n) ∧
  (∀ q s, Sized s → accepts phRingStartCmd q s = true →
    ∃ t, exec (.phRingStart q) s = .next t ∧ answers phRingStartCmd q OK [] t ∧
      t.ring (q.u16 0) = (s.ring (q.u16 0)).map HostRing.start ∧ AlertSource.hostRing (q.u16 0) ∉ t.pwr.alert) ∧
  (∀ q s, Sized s → accepts phRingStopCmd q s = true →
    ∃ t, exec (.phRingStop q) s = .next t ∧ answers phRingStopCmd q OK [] t ∧
      t.ring (q.u16 0) = (s.ring (q.u16 0)).map fun r => { r with st := .stopped, reading := none }) ∧
  (∀ q s, Sized s → accepts phRingStatusCmd q s = true →
    ∃ t, exec (.phRingStatus q) s = .next t ∧ answers phRingStatusCmd q OK
      ((List.range (min (q.u16 2) (4096 - q.u16 0))).flatMap fun i => ringRecord s (q.u16 0 + i)) t) ∧
  (∀ q s, Sized s → accepts phStreamConfigureCmd q s = true →
    ∃ t x, exec (.phStreamConfigure q) s = .next t ∧ answers phStreamConfigureCmd q OK [] t ∧ t.stream (q.u8 0) = some x ∧
      x.enabled = q.bit 2 0 ∧ x.port = q.u8 1 ∧ x.tagged = q.bit 2 1 ∧ x.dscp = q.u8 3 ∧ x.mac = q.bytes 4 6 ∧ x.tag = q.u16 10 ∧
      x.ip = ofBe (q.bytes 12 4) ∧ x.destPort = q.u16 16 ∧ x.sourcePort = q.u16 18 ∧ x.mtu = q.u16 20 ∧ x.rate = q.u32 24 ∧
      (q.bit 2 0 = true → ((s.stream (q.u8 0)).getD {}).enabled = false → x.sent = 0 ∧ x.bytes = 0 ∧ x.paused = 0)) ∧
  (∀ q s, Sized s → accepts phStreamStatusCmd q s = true →
    ∃ t, exec (.phStreamStatus q) s = .next t ∧ answers phStreamStatusCmd q OK
      ((List.range (q.u8 1)).flatMap fun i => streamRecord (served phStreamStatusCmd q s) (q.u8 0 + i)) t) ∧
  (∀ q s, Sized s → accepts ptpConfigureCmd q s = true →
    ∃ t, exec (.ptpConfigure q) s = .next t ∧ answers ptpConfigureCmd q OK [] t ∧ t.ptpPort (q.u8 0) =
      { enabled := q.bit 3 0, domain := q.u8 1, transport := q.u8 2, logInterval := q.i8 4, lastPair := some (max s.time.ps q.time) }) ∧
  (∀ q s, Sized s → accepts ptpGetStatusCmd q s = true →
    ∃ t, exec (.ptpGetStatus q) s = .next t ∧
      let x := s.ptpPort (q.u8 0)
      answers ptpGetStatusCmd q OK (u8 (x.state (s.ethLink (q.u8 0)).up) ++ zeros 7 ++ be 8 (x.master.getD 0) ++ i64 x.offset
        ++ i64 x.delay ++ u32 x.syncs ++ zeros 4) t) ∧
  (∀ q s, Sized s → accepts pcieSetClockingCmd q s = true →
    ∃ t, exec (.pcieSetClocking q) s = .next t ∧ answers pcieSetClockingCmd q OK [] t ∧ t.pcie.clockingSet = q.u8 0 ∧
      t.pcie.clocking = s.pcie.clocking)

/-- What the events of host rings change. A delivery of the ring that has the turn writes the oldest committed entry of
the ring's next pigeonhole into the next slot, then its status record, and the ring's count rises; the entry is gone.
A full ring reads the consumer word instead, and reads it again. A completion that is in range frees the slots it
covers; one out of range or without success faults the ring; so does the third read that times out. The ring's message
goes out when the coalescing time has passed since the first record it covers, and not before. (R53, R373, R374, R376,
R377, R378) -/
def Obligations.RingEvents : Prop :=
  (∀ a n ph s r p e rest, Sized s → s.memServes = true → s.pcie.linkUp = true → s.pcie.busMaster = true → s.mem.poisoned = [] →
    s.ring n = some r → r.st = .running → r.produced - r.cached ≠ r.slots → s.ringTurn n = true → nextAfter r.served (s.offering 1 n) = some ph →
    s.ph ph = some p → p.committed = e :: rest → p.waiting = [] →
    ∃ t k, exec (.hostRingDelivery a n) s = .next t ∧ t.ring n = some k ∧ k.produced = r.produced + 1 ∧ k.served = some ph ∧ t.xfer.served = some n ∧
      t.ph ph = some { p with entries := p.entries.drop 1, delivered := some e.seq } ∧
      ({ land := .hostWrite, args := [(r.data + r.produced % r.slots * r.slotSize) % 2 ^ 64], data := s.entryBytes p e } : Emission) ∈ t.sent ∧
      ({ land := .hostWrite, args := [(r.status + 16 * (r.produced % r.slots)) % 2 ^ 64]
         data := statusRecord ph (p.lossAt e) (decide (r.produced / r.slots % 2 = 0)) e } : Emission) ∈ t.sent) ∧
  (∀ a n ph s r, Sized s → s.memServes = true → s.pcie.linkUp = true → s.pcie.busMaster = true → s.mem.poisoned = [] →
    s.ring n = some r → r.st = .running → r.produced - r.cached = r.slots → nextAfter r.served (s.offering 1 n) = some ph →
    r.reading = none → r.readAt = none →
    ∃ t, exec (.hostRingDelivery a n) s = .next t ∧ t.ring n = some { r with reading := some 0, readAt := some (max s.time.ps a) }) ∧
  (∀ a n s r, Sized s → s.boot.st ≠ 5 → s.ring n = some r → r.st = .running → r.produced - r.cached = r.slots →
    (s.offering 1 n).isEmpty = false → r.reading = none → (∀ u, r.readAt = some u → u + 2000000 ≤ max s.time.ps a) →
    ∃ t, exec (.consumerWordReread a n) s = .next t ∧ t.ring n = some { r with reading := some 0, readAt := some (max s.time.ps a) }) ∧
  (∀ a n ok v s r, Sized s → s.ring n = some r → r.st = .running → r.reading.isSome = true →
    ∃ t, exec (.consumerReadCompletion a n ok v) s = .next t ∧ t.ring n = some (
      if ok = false then { r with st := .faulted, cause := 2, reading := none }
      else if v < r.cached ∨ r.produced < v then { r with st := .faulted, cause := 3, reading := none }
      else { r with cached := v, reading := none })) ∧
  (∀ a n s r k, Sized s → s.ring n = some r → r.reading = some k →
    ∃ t, exec (.consumerReadTimeout a n) s = .next t ∧ t.ring n = some (
      if k < 2 then { r with reading := some (k + 1), readAt := some (max s.time.ps a) }
      else { r with st := .faulted, cause := 1, reading := none })) ∧
  (∀ a n s r, Sized s → s.ring n = some r → r.notify = true → 0 < r.uncovered →
    r.since + r.coalesceUs * 1000000 ≤ max s.time.ps a → ∃ t, exec (.coalescingTime a n) s = .next t ∧
      t.ring n = some { r with messages := (r.messages + 1) % 2 ^ 32, uncovered := 0 }) ∧
  (∀ a n s r, s.ring n = some r → max s.time.ps a < r.since + r.coalesceUs * 1000000 →
    exec (.coalescingTime a n) s = .next (advance a s))

/-- What the events of Ethernet streams, links and PTP change. A stream that may send and has its port's turn sends the
oldest committed entry of its next pigeonhole, and its counts rise. A pause frame pauses its port for its quanta, and
with 0 or at the end of the time, and not before it, the pause is over. A link goes down or comes up. An Announce
gives its port the best master heard; a Sync of the master counts, a Delay_Req goes out for each port that has one,
and a port without a pair for 3 s is lost. (R85, R86, R380, R381, R382, R383) -/
def Obligations.EthernetEvents : Prop :=
  (∀ a n ph s x p e rest, Sized s → s.memServes = true → s.mem.poisoned = [] → s.stream n = some x → x.enabled = true →
    s.portSends x.port = true → x.ready ≤ max s.time.ps a → (advance a s).streamTurn x.port n = true → nextAfter x.served (s.offering 2 n) = some ph →
    s.ph ph = some p → p.committed = e :: rest → p.waiting = [] →
    ∃ t k, exec (.streamDatagramSent a n) s = .next t ∧ t.stream n = some k ∧ k.sent = x.sent + 1 ∧ k.bytes = x.bytes + 48 + e.length ∧
      k.ready = max s.time.ps a + x.frameBytes e.length * 8000000 / max 1 x.rate ∧ (t.ethLink x.port).served = some n ∧
      t.ph ph = some { p with entries := p.entries.drop 1, delivered := some e.seq } ∧
      ∃ o ∈ t.sent, o.land = .datagram ∧ o.data.drop 48 = s.entryBytes p e) ∧
  (∀ a p quanta s, Sized s → p < 2 → (s.ethLink p).up = true →
    ∃ t, exec (.pauseFrame a p quanta) s = .next t ∧
      (t.ethLink p).pausedSince = (if quanta = 0 then none else some (max s.time.ps a)) ∧
      (t.ethLink p).pauseEnd = max s.time.ps a + quanta * 20480) ∧
  (∀ a p s, Sized s → p < 2 → (s.ethLink p).pauseEnd ≤ max s.time.ps a →
    ∃ t, exec (.pauseTimeExpiry a p) s = .next t ∧ (t.ethLink p).pausedSince = none) ∧
  (∀ a p s, max s.time.ps a < (s.ethLink p).pauseEnd → exec (.pauseTimeExpiry a p) s = .next (advance a s)) ∧
  (∀ a p s, Sized s → p < 2 → (s.ethLink p).up = true →
    ∃ t, exec (.ethernetLinkDown a p) s = .next t ∧ (t.ethLink p).up = false ∧ (t.ethLink p).pausedSince = none) ∧
  (∀ a p s, Sized s → p < 2 → s.clk.lnkRamp.running = false → s.boot.nresetLow = false → s.boot.off = false → s.boot.st ≠ 8 →
    ∃ t, exec (.ethernetLinkUp a p) s = .next t ∧ (t.ethLink p).up = true) ∧
  (∀ a p m quality s, Sized s → p < 2 → (s.ptpPort p).enabled = true → (s.ethLink p).up = true →
    ∃ t, exec (.ptpMessageReceived a p (.announce m quality)) s = .next t ∧
      (t.ptpPort p).masters = insertKey m quality (s.ptpPort p).masters ∧
      (t.ptpPort p).master = (bestMaster (insertKey m quality (s.ptpPort p).masters)).map (·.1)) ∧
  (∀ a p m n o r s, Sized s → p < 2 → (s.ptpPort p).enabled = true → (s.ethLink p).up = true → (s.ptpPort p).master = some m →
    ∃ t, exec (.ptpMessageReceived a p (.sync m n false o r)) s = .next t ∧
      (t.ptpPort p).syncs = satInc 32 (s.ptpPort p).syncs ∧ (t.ptpPort p).sync = some (o, r) ∧
      (t.ptpPort p).offset = r - o - (s.ptpPort p).delay) ∧
  (∀ a p s, Sized s → p < 2 → (s.ptpPort p).enabled = true → (s.ptpPort p).master.isSome = true → (s.ptpPort p).sync.isSome = true →
    (s.ethLink p).up = true →
    ∃ t, exec (.delayReqInterval a) s = .next t ∧ (t.ptpPort p).sequence = ((s.ptpPort p).sequence + 1) % 65536 ∧
      (t.ptpPort p).request = some ((s.ptpPort p).sequence, (advance a s).now)) ∧
  (∀ a p s, Sized s → p < 2 → (s.ptpPort p).enabled = true → (s.ptpPort p).lost = false →
    (s.ptpPort p).lastPair.getD 0 + 3 * psPerS ≤ max s.time.ps a →
    ∃ t, exec (.ptpLost a) s = .next t ∧ (t.ptpPort p).lost = true)

/-- What the events of the PCI Express function change. When the link goes down, the function is reset or PE_PERSTn
asserts, no ring runs on, Bus Master Enable and the vectors' masks are as reset, and sessions 0 to 23 are Closed. A
cleared Bus Master Enable stops the rings and closes no session. Training brings the link up in the mode set.
Unmasking a vector whose bit is pending clears the bit. (R95, R371, R377, R378, R418, R545) -/
def Obligations.PcieEvents : Prop :=
  (∀ i, (∃ a, i = .pcieLinkDown a ∨ i = .hotReset a ∨ i = .pePerstnAsserted a) → ∀ s, Sized s →
    ∃ t, exec i s = .next t ∧ t.pcie.linkUp = false ∧ t.pcie.busMaster = false ∧ t.pcie.unmasked = [] ∧
      (∀ r ∈ t.xfer.rings, r.2.st ≠ .running) ∧ ∀ n, n < 24 → (t.session n).st = .closed) ∧
  (∀ a s, Sized s → ∃ t, exec (.pcieLinkDown a) s = .next t ∧ t.pcie.perst = s.pcie.perst) ∧
  (∀ a s, Sized s → ∃ t, exec (.hotReset a) s = .next t ∧ t.pcie.perst = s.pcie.perst) ∧
  (∀ a s, Sized s → ∃ t, exec (.pePerstnAsserted a) s = .next t ∧ t.pcie.perst = true) ∧
  (∀ a s, Sized s → ∃ t, exec (.pePerstnReleased a) s = .next t ∧ t.pcie = { s.pcie with perst := false }) ∧
  (∀ a s, Sized s → s.pcie.busMaster = true →
    ∃ t, exec (.busMasterEnableCleared a) s = .next t ∧ t.pcie.busMaster = false ∧ (∀ r ∈ t.xfer.rings, r.2.st ≠ .running) ∧
      ∀ n, (t.session n).st = (s.session n).st) ∧
  (∀ a s, Sized s → s.pcie.linkUp = true →
    ∃ t, exec (.busMasterEnableSet a) s = .next t ∧ t.pcie = { s.pcie with busMaster := true } ∧ t.xfer = s.xfer) ∧
  (∀ a v s, Sized s → s.pcie.linkUp = true → v < 2048 → s.pcie.unmasked.contains v = false →
    ∃ t, exec (.msixUnmask a v) s = .next t ∧ v ∈ t.pcie.unmasked ∧ v ∉ t.pcie.pending ∧
      t.sent = if s.pcie.pending.contains v = true ∧ s.pcie.busMaster = true then { land := .msix, args := [v], data := [] } :: s.sent
        else s.sent) ∧
  (∀ a v s, Sized s → ∃ t, exec (.msixMask a v) s = .next t ∧ t.pcie = { s.pcie with unmasked := s.pcie.unmasked.filter (· ≠ v) }) ∧
  (∀ a s, Sized s → s.pcie.perst = false → s.boot.nresetLow = false → s.boot.off = false → s.boot.st ≠ 8 →
    ∃ t, exec (.pcieLinkTraining a) s = .next t ∧ t.pcie.linkUp = true ∧ t.pcie.clocking = s.pcie.clockingSet ∧
      t.clk.lnkRamp = s.clk.lnkRamp.train)

/-- What the requests for acquisition memory do. MEM_SET_RATE, once accepted, answers at once where memory runs at that
rate; waits for a training step under way; and otherwise gates the memory loop, loads the timing set not in use and
changes the rate. MEM_RETIRE_RANK starts a migration to the lowest-numbered spare and asserts ALERTn. MEM_REMAP marks
the failed ranks removed, rebuilds the map from the active ranks, clears memory and unsets the groups whose areas run
past the new end. MEM_GET_STATUS answers with the status. (R401, R402, R404, R405, R409, R410, R411, R415) -/
def Obligations.MemoryRequests : Prop :=
  (∀ q s, Sized s → accepts memSetRateCmd q s = true →
    ∃ t, exec (.memSetRate q) s = .next t ∧
      (s.mem.rate = q.u8 0 → answers memSetRateCmd q OK (ratePayload (served memSetRateCmd q s) q) t ∧ t.mem = s.mem) ∧
      (s.mem.rate ≠ q.u8 0 → s.mem.step.isSome = true →
        (t.session q.sess).st = .running ∧ ∃ w, w.sess = q.sess ∧ w.tag = q.tag ∧ t.mem = { s.mem with waits := some (q.u8 0, w) }) ∧
      (s.mem.rate ≠ q.u8 0 → s.mem.step = none →
        (t.session q.sess).st = .running ∧ (t.loop 2).st = .gated ∧
        ∃ w, w.sess = q.sess ∧ w.tag = q.tag ∧ t.mem = { s.mem with change := some (q.u8 0, some w, false), channels := t.mem.channels } ∧
          ∀ c, c < 24 → t.channel c = (s.channel c).load c (q.u8 0))) ∧
  (∀ q s b rest slot, Sized s → s.mem.ranks.length = 48 → accepts memRetireRankCmd q s = true → s.spares = b :: rest →
    s.mem.slotHeld (q.u8 0) = some slot →
    ∃ t, exec (.memRetireRank q) s = .next t ∧ answers memRetireRankCmd q OK [] t ∧
      t.mem.migration = some { from_ := q.u8 0, to_ := b, slot := slot } ∧ (t.rank (q.u8 0)).st = .migratingOut ∧
      (t.rank b).st = .migratingIn ∧ AlertSource.retire (q.u8 0) ∈ t.pwr.alert ∧ t.mem.cells = s.mem.cells ∧
      ∀ k, k ≠ q.u8 0 → k ≠ b → t.rank k = s.rank k) ∧
  (∀ q s, Sized s → s.mem.ranks.length = 48 → s.mem.migration = none → (s.xfer.phs.all fun p => p.2.waiting.isEmpty) = true →
    accepts memRemapCmd q s = true →
    ∃ t, exec (.memRemap q) s = .next t ∧ answers memRemapCmd q OK [] t ∧ t.mem.cells = [] ∧ t.mem.poisoned = [] ∧
      t.mem.map = s.ranksIn (· = .active) ∧
      (∀ k, k < 48 → t.rank k = if (s.rank k).st = .failed then { s.rank k with st := .removed } else s.rank k) ∧
      ∀ g, g < 4 → (t.sg g).config = if (s.sg g).config.past t.userSize then {} else (s.sg g).config) ∧
  (∀ q s, Sized s → accepts memGetStatusCmd q s = true →
    ∃ t, exec (.memGetStatus q) s = .next t ∧ answers memGetStatusCmd q OK (memPayload (served memGetStatusCmd q s)) t)

/-- What errors, scrubbing, migration, training and rate changes of memory do. A user-region line that fails its re-read
is poisoned and counts against the rank that serves it, and memory contents stay, whoever asked but for a drain. A
privileged page that fails is listed. The scrubber goes on line by line and rank by rank. A read through BAR2 returns
the data up to the first poisoned line or the end, with the completion's status, and changes no byte; a write through
BAR2 is discarded and logged as an Unsupported Request. A refresh leaves its bank, its time and the rate that the
hotter die needs with its channel. A training step begins on the next channel in turn, and an extra one on its own
channel, at most one between two regular ones. A good pause goes on until the step has what it wants, and then its
values are the channel's; a bad one goes on twice, and the third abandons the step with the channel's values as they
were. A rate change ends with the new rate, on the other set in every channel, the loop locked; a loop that does not
lock halts the module. A migration copies unit by unit, and with the last the spare holds the slot. (R394, R395, R396,
R397, R398, R399, R400, R403, R405, R406, R412, R413) -/
def Obligations.MemoryErrors : Prop :=
  (∀ a addr r s, Sized s → s.mem.ranks.length = 48 → s.memServes = true → addr < s.userSize → (∀ ph, r ≠ .drain ph) →
    s.servingRank (64 * (addr / 64)) < 48 →
    ∃ t, exec (.memUncorrectable a addr r) s = .next t ∧ addr / 64 ∈ t.mem.poisoned ∧ t.mem.cells = s.mem.cells ∧
      (t.rank (s.servingRank (64 * (addr / 64)))).uncorrectable
        = satInc 32 (s.rank (s.servingRank (64 * (addr / 64)))).uncorrectable) ∧
  (∀ a region page ph s, Sized s → s.memServes = true →
    ∃ t, exec (.memPrivilegedError a region page ph) s = .next t ∧ (region, page) ∈ t.mem.privileged ∧
      ∀ x, x ∈ s.mem.privileged → x ∈ t.mem.privileged) ∧
  (∀ a o s, Sized s → s.memServes = true →
    ∃ t, exec (.patrolScrub a o) s = .next t ∧
      t.mem.scrubLine = (if s.mem.scrubLine + 1 < 2 ^ 26 then s.mem.scrubLine + 1 else 0) ∧
      t.mem.scrubRank = if s.mem.scrubLine + 1 < 2 ^ 26 then s.mem.scrubRank else (s.mem.scrubRank + 1) % 48) ∧
  (∀ a addr len l s, Sized s → s.pcie.linkUp = true → addr + len ≤ 256 * 2 ^ 30 →
    ∃ t, exec (.bar2Read a addr len l) s = .next t ∧ t.mem.cells = s.mem.cells ∧
      ∃ o ∈ t.sent, o.land = .bar2 ∧ o.args = [(s.bar2Outcome addr len).2] ∧ o.data = s.memBytes addr (s.bar2Outcome addr len).1) ∧
  (∀ a addr data s, Sized s → s.pcie.linkUp = true → addr + data.length ≤ 256 * 2 ^ 30 →
    ∃ t, exec (.bar2Write a addr data) s = .next t ∧ t.mem = s.mem ∧ ({ land := .aer, args := [3] } : Emission) ∈ t.sent) ∧
  (∀ a c b s, Sized s → c < 24 → s.memServes = true →
    ∃ t, exec (.refresh a c b) s = .next t ∧ (t.channel c).bank = b ∧ (t.channel c).refreshed = max s.time.ps a ∧
      (t.channel c).refreshRate = s.refreshRate c ∧
      ∀ n, n ≠ c → t.channel n = s.channel n) ∧
  (∀ a s, Sized s → s.trains = true →
    ∃ t n, exec (.trainingStep a) s = .next t ∧ 1 ≤ n ∧ n ≤ 8 ∧ t.mem.step = some { channel := s.mem.nextChannel, wanted := n } ∧
      t.mem.nextChannel = (s.mem.nextChannel + 1) % 24 ∧ t.mem.extra = false) ∧
  (∀ a c s, Sized s → s.trains = true → s.mem.extra = false → c < 24 →
    ∃ t n, exec (.extraTrainingStep a c) s = .next t ∧ 1 ≤ n ∧ n ≤ 8 ∧ t.mem.step = some { channel := c, wanted := n } ∧
      t.mem.nextChannel = s.mem.nextChannel ∧ t.mem.extra = true) ∧
  (∀ a good w h temp s x, Sized s → s.mem.step = some x → x.channel < 24 → s.mem.waits = none →
    ∃ t, exec (.trainingPause a good w h temp) s = .next t ∧
      (good = true → x.wanted ≤ 1 ∨ 8 ≤ x.pauses + 1 → t.mem.step = none ∧
        t.channel x.channel = { s.channel x.channel with
          width := w, height := h, failed := 0, temp := temp, delays := (t.channel x.channel).delays, refs := (t.channel x.channel).refs
          trained := insertKey s.mem.rate ((t.channel x.channel).delays, (t.channel x.channel).refs) (s.channel x.channel).trained }) ∧
      (good = true → ¬ (x.wanted ≤ 1 ∨ 8 ≤ x.pauses + 1) → t.channel x.channel = s.channel x.channel ∧
        ∃ y, t.mem.step = some y ∧ y.channel = x.channel ∧ y.pauses = x.pauses + 1 ∧ y.wanted = x.wanted - 1 ∧ y.failures = 0) ∧
      (good = false → 2 ≤ x.failures ∨ 8 ≤ x.pauses + 1 → t.mem.step = none ∧
        t.channel x.channel = { s.channel x.channel with failed := satInc 8 (s.channel x.channel).failed }) ∧
      (good = false → ¬ (2 ≤ x.failures ∨ 8 ≤ x.pauses + 1) → t.channel x.channel = s.channel x.channel ∧
        t.mem.step = some { x with pauses := x.pauses + 1, failures := x.failures + 1 })) ∧
  (∀ a s rate w d, Sized s → s.mem.change = some (rate, w, d) → (s.loop 2).st = .gated →
    ∃ t, exec (.memRateChanged a) s = .next t ∧ t.mem.rate = rate ∧ t.mem.setB = (! s.mem.setB) ∧ t.mem.change = none ∧
      (t.loop 2).st = .locked ∧ t.mem.cells = s.mem.cells ∧ ∀ c, c < 24 → t.channel c = (s.channel c).swap) ∧
  (∀ a s, Sized s → s.mem.change.isSome = true → ∃ t, exec (.memoryLoopLockTimeout a) s = .next t ∧ t.boot.st = 6) ∧
  (∀ a c p s m, Sized s → s.mem.migration = some m → s.memServes = true → m.units < 2 ^ 20 →
    ∃ t, exec (.migrationUnitCopied a c p) s = .next t ∧
      t.mem.migration = some { m with units := m.units + 1, poisoned := m.poisoned + p }) ∧
  (∀ a s m, Sized s → s.mem.ranks.length = 48 → s.mem.migration = some m → s.mem.due = [] → 2 ^ 20 ≤ m.units →
    m.from_ < 48 → m.to_ < 48 → m.from_ ≠ m.to_ →
    ∃ t, exec (.rankRetired a) s = .next t ∧ t.mem.migration = none ∧ t.mem.map = s.mem.map.set m.slot m.to_ ∧
      (t.rank m.from_).st = .retired ∧ (t.rank m.to_).st = .active ∧ AlertSource.retire m.from_ ∉ t.pwr.alert)

/-- What the event recorder's requests do. EVT_GET_STATUS and EVT_READ answer with what the recorder holds. EVT_SET_COPY
names the pigeonhole that receives copies, or none. EVT_CLEAR_RING, asked on its own, is answered NEEDS_COUNTERSIGN
and clears nothing. (R463, R464, R507, R508, R514) -/
def Obligations.EventRequests : Prop :=
  (∀ q s, Sized s → accepts evtGetStatusCmd q s = true →
    ∃ t, exec (.evtGetStatus q) s = .next t ∧ answers evtGetStatusCmd q OK (evtStatusBytes s) t) ∧
  (∀ q s, Sized s → accepts evtReadCmd q s = true →
    ∃ t, exec (.evtRead q) s = .next t ∧ answers evtReadCmd q OK (evtReadBytes s (q.u64 0) (q.u16 8) (q.u16 10)) t) ∧
  (∀ q s, Sized s → accepts evtSetCopyCmd q s = true →
    ∃ t, exec (.evtSetCopy q) s = .next t ∧ answers evtSetCopyCmd q OK [] t ∧
      t.evt.copyTo = if q.bit 4 0 then some (q.u32 0) else none) ∧
  (∀ q s, Sized s → asksCountersign evtClearRingCmd q s = true →
    ∃ t, exec (.evtClearRing q) s = .next t ∧ answers evtClearRingCmd q NEEDS_COUNTERSIGN [] t ∧ t.evt.clears = s.evt.clears ∧
      t.evt.ring = s.evt.ring)

/-- What the events of the event recorder change. A record written well leaves the staging FIFO and is held in the store;
one that reads back wrong retires its page and stays first in the FIFO, until the third failure. RECORDS_LOST, written
once the FIFO has held less than 524,288 bytes for 10 ms, holds the loss, ends it and releases ALERTn. The copier
places the next record held into its pigeonhole. A clear of the ring leaves one record in it, RING_CLEARED. (R494,
R499, R501, R502, R503, R508, R514) -/
def Obligations.EventStore : Prop :=
  (∀ a s r rest, Sized s → s.awake = true → s.evt.fifo = r :: rest → s.storeHolds r = false → s.evt.retired = [] →
    s.evt.ring.full = false → s.evt.ring.page ≤ 65535 →
    ∃ t, exec (.recordWrite a true) s = .next t ∧ t.evt.fifo = rest ∧
      (r ∈ t.evt.first.records.map (·.2) ∨ r ∈ t.evt.journal.records.map (·.2) ∨ r ∈ t.evt.ring.records.map (·.2))) ∧
  (∀ a s r rest, Sized s → s.awake = true → s.evt.fifo = r :: rest → s.storeHolds r = false →
    ∃ t, exec (.recordWrite a false) s = .next t ∧ tryPage r s.evt ∈ t.evt.retired ∧
      t.evt.attempts = (if s.evt.attempts < 2 then s.evt.attempts + 1 else 0) ∧
      (s.evt.attempts < 2 → t.evt.fifo.head? = some r)) ∧
  (∀ a s l b, Sized s → s.evt.loss = some l → s.evt.lowSince = some b → b + 10 * psPerMs ≤ a → s.records = true → s.evt.opening = [] →
    s.evt.used + 8192 ≤ fifoSize →
    ∃ t r, exec (.recordsLost a) s = .next t ∧ t.evt.loss = none ∧ AlertSource.recordsLost ∉ t.pwr.alert ∧
      t.evt.fifo = s.evt.fifo ++ [r] ∧ r.type = 0x0E01 ∧ r.seq = s.evt.nextSeq ∧
      r.body = bodyOf (lossFields l.count l.first l.last l.firstTick l.lastTick (timeWord l.firstTime) (timeWord l.lastTime))) ∧
  (∀ a s n r rest p, Sized s → s.awake = true → s.evt.copyTo = some n → s.evt.copyWaits = false →
    s.evt.heldFrom s.evt.copyNext = r :: rest → s.ph n = some p → p.waiting = [] → p.entries.length < p.depth →
    ∃ t k, exec (.recordCopied a) s = .next t ∧ t.evt.copyNext = r.seq + 1 ∧ t.ph n = some k ∧ k.nextSeq = p.nextSeq + 1 ∧
      k.entries.length = p.entries.length + 1) ∧
  (∀ a s w d last rest, Sized s → s.awake = true → s.evt.clears = (w, d, last) :: rest → (∀ r ∈ s.evt.fifo, last < r.seq) →
    s.evt.retired = [] →
    ∃ t p r, exec (.ringCleared a) s = .next t ∧ t.evt.clears = rest ∧ t.evt.ring.records = [(p, r)] ∧ r.type = 0x0E03 ∧
      r.seq = s.evt.nextSeq ∧ t.evt.first = s.evt.first)

/-- What key, protection and firmware requests do. KEY_ENROL, while fewer than two keys are enrolled, fills its slot and
no other. KEY_LIST and PROT_GET_PROTECTED list the slots and the protected set. PROT_PROPOSE opens a proposal whose
number, digest and record its reply gives. FW_WRITE puts its bytes into the staging buffer. The opcodes of the fixed
set, asked on their own, are answered NEEDS_COUNTERSIGN, FW_COMMIT only where digest and signature of the staged image
are right and OUT_OF_RANGE otherwise, and change no key, no protected opcode, no image and no lock. A proposal that
expires, 120 s after its reply and not before, is open no longer. (R463, R464, R465, R466, R468, R509, R512) -/
def Obligations.KeyRequests : Prop :=
  (∀ q s, Sized s → accepts keyEnrolCmd q s = true →
    ∃ t, exec (.keyEnrol q) s = .next t ∧ answers keyEnrolCmd q OK [] t ∧
      t.key (q.u8 0) = some { key := q.bytes 8 32, label := q.bytes 40 8 } ∧ ∀ n, n ≠ q.u8 0 → t.key n = s.key n) ∧
  (∀ q s, Sized s → accepts keyListCmd q s = true →
    ∃ t, exec (.keyList q) s = .next t ∧ answers keyListCmd q OK ((List.range 8).flatMap fun n => keyRecord n (s.key n)) t) ∧
  (∀ q s, Sized s → accepts protGetProtectedCmd q s = true →
    ∃ t, exec (.protGetProtected q) s = .next t ∧ answers protGetProtectedCmd q OK
      (u16 s.protectedSet.length ++ zeros 6 ++ s.protectedSet.flatMap u16) t) ∧
  (∀ q s, Sized s → accepts protProposeCmd q s = true →
    ∃ t p, exec (.protPropose q) s = .next t ∧ t.prot.proposals = s.prot.proposals ++ [p] ∧
      t.prot.nextProposal = s.prot.nextProposal + 1 ∧ p.number = s.prot.nextProposal ∧ p.slot = q.u8 0 ∧ p.iface = ifaceOf q.sess ∧
      p.opcode = (parseRequest (Request.inner q)).1 ∧ p.inner = (parseRequest (Request.inner q)).2 ∧
      p.digest = digestOf p.number p.record p.slot p.iface (Request.inner q) ∧ p.repliedAt = max s.time.ps q.time ∧
      answers protProposeCmd q OK (u32 p.number ++ u32 120000 ++ p.digest ++ u64 p.record) t) ∧
  (∀ q s, Sized s → accepts fwWriteCmd q s = true →
    ∃ t, exec (.fwWrite q) s = .next t ∧ answers fwWriteCmd q OK [] t ∧ ∀ a, readCell t.prot.staging a =
      if q.u32 0 ≤ a ∧ a < q.u32 0 + q.u16 4 then (q.bytes 16 (q.u16 4)).getD (a - q.u32 0) 0 else readCell s.prot.staging a) ∧
  (∀ q s, Sized s →
    (asksCountersign keyEnrolCmd q s = true →
      ∃ t, exec (.keyEnrol q) s = .next t ∧ answers keyEnrolCmd q NEEDS_COUNTERSIGN [] t ∧ t.prot = s.prot) ∧
    (asksCountersign keyRemoveCmd q s = true →
      ∃ t, exec (.keyRemove q) s = .next t ∧ answers keyRemoveCmd q NEEDS_COUNTERSIGN [] t ∧ t.prot = s.prot) ∧
    (asksCountersign protSetProtectedCmd q s = true →
      ∃ t, exec (.protSetProtected q) s = .next t ∧ answers protSetProtectedCmd q NEEDS_COUNTERSIGN [] t ∧ t.prot = s.prot) ∧
    (handsOver fwCommitCmd q s = true → headerOutcome fwCommitCmd q s = none → 1 ≤ q.u32 0 → q.u32 0 ≤ stagingSize →
      reserved q 4 4 = none →
      ∃ t, exec (.fwCommit q) s = .next t ∧ t.prot = s.prot ∧ answers fwCommitCmd q
        (if imageGood s (q.u32 0) (q.bytes 8 32) = true then NEEDS_COUNTERSIGN else OUT_OF_RANGE) [] t) ∧
    (asksCountersign syncLockCmd q s = true →
      ∃ t, exec (.syncLock q) s = .next t ∧ answers syncLockCmd q NEEDS_COUNTERSIGN [] t ∧ t.sync = s.sync)) ∧
  (∀ a n s, Sized s → s.records = true → (∃ p ∈ s.prot.proposals, p.number = n ∧ p.repliedAt + 120 * psPerS ≤ max s.time.ps a) →
    ∃ t, exec (.protectedExpired a n) s = .next t ∧ (∀ p ∈ t.prot.proposals, p.number ≠ n) ∧ n ∈ t.prot.expired) ∧
  (∀ a n s, (∀ p ∈ s.prot.proposals, p.number = n → max s.time.ps a < p.repliedAt + 120 * psPerS) →
    exec (.protectedExpired a n) s = .next (advance a s))

/-- What a countersigned proposal carries out. PROT_COUNTERSIGN, once accepted, closes its proposal and carries out the
inner request where the boot state admits it and its own state checks pass. KEY_ENROL fills its slot, KEY_REMOVE
empties it and PROT_SET_PROTECTED puts its opcode into the protected set or takes it out; FW_COMMIT leaves the image
and its digest waiting in the boot store, SYNC_LOCK sets or releases the lock, and EVT_CLEAR_RING waits for the store
and then clears. An inner request that fails a state check gives its status, and the proposal is closed all the same.
(R463, R464, R467, R468, R488, R511, R514) -/
def Obligations.CountersignedChanges : Prop :=
  (∀ q s p, Sized s → accepts protCountersignCmd q s = true → s.proposal (q.u32 0) = some p →
    ∃ t, exec (.protCountersign q) s = .next t ∧ (∀ x ∈ t.prot.proposals, x.number ≠ q.u32 0) ∧
      (admits s.boot.st p.opcode = false → (commandOf p.opcode).isSome = true → answers protCountersignCmd q WRONG_STATE [] t ∧
        t.prot.keys = s.prot.keys)) ∧
  (∀ q s p, Sized s → accepts protCountersignCmd q s = true → s.proposal (q.u32 0) = some p → admits s.boot.st p.opcode = true →
    ∃ t, exec (.protCountersign q) s = .next t ∧
      (p.opcode = 0x0E05 → p.inner.u8 0 < 8 →
        ((s.key (p.inner.u8 0)).isSome = true → answers protCountersignCmd q WRONG_STATE [] t ∧ t.prot.keys = s.prot.keys) ∧
        (s.key (p.inner.u8 0) = none → answers protCountersignCmd q OK [] t ∧
          t.key (p.inner.u8 0) = some { key := p.inner.bytes 8 32, label := p.inner.bytes 40 8 } ∧
          ∀ n, n ≠ p.inner.u8 0 → t.key n = s.key n)) ∧
      (p.opcode = 0x0E06 → (s.key (p.inner.u8 0)).isSome = true →
        (s.keyCount ≤ 2 → answers protCountersignCmd q WRONG_STATE [] t ∧ t.prot.keys = s.prot.keys) ∧
        (2 < s.keyCount → answers protCountersignCmd q OK [] t ∧ t.key (p.inner.u8 0) = none ∧
          (∀ n, n ≠ p.inner.u8 0 → t.key n = s.key n))) ∧
      (p.opcode = 0x0E0A → p.inner.u16 0 ∉ fixedProtected →
        answers protCountersignCmd q OK [] t ∧ t.protectedSet.contains (p.inner.u16 0) = decide (p.inner.u8 2 = 1)) ∧
      (p.opcode = 0x0E0D → answers protCountersignCmd q OK [] t ∧ t.prot.image = some (p.inner.u32 0, p.inner.bytes 8 32)) ∧
      (p.opcode = 0x0D04 →
        (s.sync.role ≠ 2 ∨ (p.inner.u8 0 = 1 ∧ ¬ (s.sync.agreed = true ∧ s.sync.st = 2)) →
          answers protCountersignCmd q WRONG_STATE [] t ∧ t.sync.lock = s.sync.lock) ∧
        (s.sync.role = 2 → (p.inner.u8 0 = 1 → s.sync.agreed = true ∧ s.sync.st = 2) →
          answers protCountersignCmd q OK [] t ∧ t.sync.lock = decide (p.inner.u8 0 = 1))) ∧
      (p.opcode = 0x0E04 → (t.session q.sess).st = .running ∧ ∃ w n, w.sess = q.sess ∧ w.tag = q.tag ∧
        t.evt.clears = s.evt.clears ++ [(w, p.digest, n)]))

/-- What the requests for the auxiliary converter do. AUX_SET_SEQUENCE sets the sequence from the next whole microsecond
on, at once or at the end of a sequence conversion in progress. AUX_INJECT aborts a routine conversion and starts its
own, and its reply waits for the result. AUX_SET_CAPTURE configures its capture and clears it where asked.
AUX_GET_CAPTURE and AUX_GET_MONITORS answer with the capture and the 16 monitors. (R469, R518, R519, R521, R523, R528) -/
def Obligations.AuxiliaryRequests : Prop :=
  (∀ q s, Sized s → accepts auxSetSequenceCmd q s = true →
    ∃ t, exec (.auxSetSequence q) s = .next t ∧ answers auxSetSequenceCmd q OK [] t ∧
      let n : AuxSequence := { run := q.bit 1 0, sources := (List.range (q.u8 0)).map fun j => q.u8 (8 + j), interval := q.u16 2
                               start := (max s.time.ps q.time / 1000000 + 1) * 1000000 }
      if s.aux.sequenceRuns = true then t.aux.seqNew = some n ∧ t.aux.seq = s.aux.seq
      else t.aux.seq = n ∧ t.aux.seqNew = none ∧ t.aux.seqDue = none) ∧
  (∀ q s, Sized s → accepts auxInjectCmd q s = true →
    ∃ t w, exec (.auxInject q) s = .next t ∧ (t.session q.sess).st = .running ∧ t.aux.inject = some (q.u8 0, w) ∧ w.sess = q.sess ∧
      w.tag = q.tag ∧
      ((∀ n, s.aux.running ≠ some (.hold, n)) → (∀ n, s.aux.running ≠ some (.inject, n)) → t.aux.running = some (.inject, q.u8 0)) ∧
      ((∃ n, s.aux.running = some (.hold, n)) → t.aux.running = s.aux.running) ∧
      (∀ n, s.aux.running = some (.sequence, n) ∨ s.aux.running = some (.housekeeping, n) → t.aux.restart = s.aux.running)) ∧
  (∀ q s, Sized s → accepts auxSetCaptureCmd q s = true →
    ∃ t, exec (.auxSetCapture q) s = .next t ∧ answers auxSetCaptureCmd q OK [] t ∧
      (t.capture (q.u8 0)).quantity = q.u8 1 ∧ (t.capture (q.u8 0)).low = q.i32 4 ∧ (t.capture (q.u8 0)).high = q.i32 8 ∧
      (t.capture (q.u8 0)).run = q.bit 2 0 ∧
      (q.u8 1 ≠ 0x28 ∨ q.bit 2 0 = false → q.bit 2 1 = true → (t.capture (q.u8 0)).count = 0 ∧
        (t.capture (q.u8 0)).bins = List.replicate 64 0) ∧
      (q.u8 1 ≠ 0x28 ∨ q.bit 2 0 = false → q.bit 2 1 = false → (t.capture (q.u8 0)).count = (s.capture (q.u8 0)).count)) ∧
  (∀ q s, Sized s → accepts auxGetCaptureCmd q s = true →
    ∃ t, exec (.auxGetCapture q) s = .next t ∧ answers auxGetCaptureCmd q OK (captureBytes (s.capture (q.u8 0))) t) ∧
  (∀ q s, Sized s → accepts auxGetMonitorsCmd q s = true →
    ∃ t, exec (.auxGetMonitors q) s = .next t ∧
      answers auxGetMonitorsCmd q OK ((List.range 16).flatMap fun n => i32 (s.aux.monitors.getD n 0)) t)

/-- What conversions and the registers of their results change. A conversion that falls due starts where the converter is
free and nothing goes first, and waits otherwise; one of a sequence that cannot start within its interval is skipped.
A conversion that ends leaves an injected or sequence result in AUX_DATA, VALID set and OVERRUN set where an unread
result stood, and an injected one answers its request; a housekeeping result goes to its monitor. A hold that ends
frees the converter for what waits. A read of AUX_DATA returns the result and clears VALID; AUX_STATUS bit 1 is
cleared by writing 1. (R430, R515, R518, R519, R520, R521, R522, R523) -/
def Obligations.ConversionEvents : Prop :=
  (∀ a s, Sized s → s.awake = true → s.aux.seq.run = true → s.aux.seq.start ≤ max s.time.ps a →
    ∃ t, exec (.sequenceConversionDue a) s = .next t ∧ t.aux.seq.next = (s.aux.seq.next + 1) % s.aux.seq.sources.length ∧
      t.aux.seq.start = s.aux.seq.start + s.aux.seq.interval * 1000000 ∧
      let source := s.aux.seq.sources.getD (s.aux.seq.next % s.aux.seq.sources.length) 0
      (s.aux.running.isSome = true → t.aux.seqDue = some (source, s.aux.seq.start)) ∧
      (s.aux.running = none → s.aux.inject = none → s.aux.holdWaits = false → s.aux.restart = none → s.aux.due = [] →
        t.aux.running = if max s.time.ps a < s.aux.seq.start + s.aux.seq.interval * 1000000 then some (.sequence, source) else none)) ∧
  (∀ a s, Sized s → s.awake = true →
    ∃ t, exec (.housekeepingConversionDue a) s = .next t ∧ t.aux.nextSource = (s.aux.nextSource + 1) % 16 ∧
      (s.aux.running.isSome = true → t.aux.due = s.aux.due ++ [s.aux.nextSource]) ∧
      (s.aux.running = none → s.aux.inject = none → s.aux.holdWaits = false → s.aux.restart = none → s.aux.due = [] →
        t.aux.running = some (.housekeeping, s.aux.nextSource))) ∧
  (∀ a code s src k w, Sized s → s.aux.running = some (.inject, src) → s.aux.inject = some (k, w) →
    ∃ t, exec (.conversionDone a code) s = .next t ∧ t.aux.inject = none ∧ t.aux.code = min code 65535 ∧ t.aux.source = src ∧
      t.aux.injected = true ∧ t.aux.valid = true ∧ t.aux.overrun = (s.aux.overrun || s.aux.valid) ∧
      ((s.session w.sess).st = .running → (s.session w.sess).gen = w.gen → w.sess < 32 →
        (t.session w.sess).st = .replyReady)) ∧
  (∀ a code s src, Sized s → s.aux.running = some (.sequence, src) →
    ∃ t, exec (.conversionDone a code) s = .next t ∧ t.aux.code = min code 65535 ∧ t.aux.source = src ∧ t.aux.injected = false ∧
      t.aux.valid = true ∧ t.aux.overrun = (s.aux.overrun || s.aux.valid) ∧ t.aux.seq = s.aux.seqNew.getD s.aux.seq) ∧
  (∀ a code s src, Sized s → s.aux.running = some (.housekeeping, src) → src < s.aux.monitors.length →
    ∃ t, exec (.conversionDone a code) s = .next t ∧ t.aux.monitors.getD src 0 = monitorValue src (min code 65535) ∧
      (∀ n, n ≠ src → t.aux.monitors.getD n 0 = s.aux.monitors.getD n 0) ∧ t.aux.code = s.aux.code ∧ t.aux.valid = s.aux.valid) ∧
  (∀ a s n, Sized s → s.awake = true → s.aux.running = some (.hold, n) →
    ∃ t, exec (.calibrationHoldEnd a) s = .next t ∧
      (∀ k w, s.aux.inject = some (k, w) → t.aux.running = some (.inject, k)) ∧
      (s.aux.inject = none → s.aux.holdWaits = false → s.aux.restart = none → s.aux.due = [] → s.aux.seqDue = none →
        t.aux.running = none)) ∧
  (∀ a s, Sized s → s.bar0Serves = true →
    ∃ t, exec (.auxDataRead a) s = .next t ∧ t.aux = { s.aux with valid := false } ∧
      ({ land := .bar0, args := [], data := u32 s.auxData } : Emission) ∈ t.sent) ∧
  (∀ a v s, Sized s → s.bar0Serves = true →
    ∃ t, exec (.auxStatusWrite a v) s = .next t ∧ t.aux = { s.aux with overrun := s.aux.overrun && ! v.getLsbD 1 })

/-- What the requests for systems of many modules do. SYNC_CONFIGURE sets role, ID, members and bound.
SYNC_CALIBRATE_DELAY answers 0 on the leader and starts a run of probes on a member. SYNC_CHECK takes the next check
sequence and queues the command of the check; SYNC_RESET_DOMAIN queues the command of the reset. Both answer later.
SYNC_GET_STATUS answers with the status. (R460, R461, R462, R475, R481, R486, R488, R491) -/
def Obligations.SyncRequests : Prop :=
  (∀ q s, Sized s → accepts syncConfigureCmd q s = true →
    (∀ r, s.sync.delayRun = some r → r.waiter.sess ≠ q.sess) → (∀ c, s.sync.check = some c → c.waiter.sess ≠ q.sess) →
    ∃ t, exec (.syncConfigure q) s = .next t ∧ answers syncConfigureCmd q OK [] t ∧ t.sync.id = q.u16 0 ∧ t.sync.role = q.u8 2 ∧
      t.sync.members = (if q.u8 2 = 2 then q.u16 4 else 1) ∧ t.sync.bound = q.u32 8 ∧
      t.sync.st = s.sync.afterConfigure (q.u8 2) (q.u16 0)) ∧
  (∀ q s, Sized s → accepts syncCalibrateDelayCmd q s = true →
    ∃ t, exec (.syncCalibrateDelay q) s = .next t ∧
      (s.sync.role = 2 → answers syncCalibrateDelayCmd q OK (delayPayload 0 0 false) t) ∧
      (s.sync.role ≠ 2 → (t.session q.sess).st = .running ∧
        ∃ w, w.sess = q.sess ∧ w.tag = q.tag ∧ t.sync.delayRun = some { waiter := w })) ∧
  (∀ q s, Sized s → accepts syncCheckCmd q s = true →
    ∃ t w, exec (.syncCheck q) s = .next t ∧ (t.session q.sess).st = .running ∧ t.sync.checkSeq = nextCheck s.sync.checkSeq ∧
      w.sess = q.sess ∧ w.tag = q.tag ∧ t.sync.check = some { sequence := nextCheck s.sync.checkSeq, waiter := w } ∧
      t.sync.commands = s.sync.commands ++ [{ code := 1, check := nextCheck s.sync.checkSeq }]) ∧
  (∀ q s, Sized s → accepts syncResetDomainCmd q s = true →
    ∃ t w, exec (.syncResetDomain q) s = .next t ∧ (t.session q.sess).st = .running ∧ w.sess = q.sess ∧ w.tag = q.tag ∧
      t.sync.resetWaiter = some w ∧ t.sync.commands = s.sync.commands ++ [{ code := 5, tick := q.u64 8, second := q.bit 0 0 }]) ∧
  (∀ q s, Sized s → accepts syncGetStatusCmd q s = true →
    ∃ t, exec (.syncGetStatus q) s = .next t ∧ answers syncGetStatusCmd q OK (syncStatusPayload (served syncGetStatusCmd q s)) t)

/-- What the stream, the checks and the calibration of a system of modules change. A leader's frame takes one command and
at most ten echoes, and the frame count rises. A member discards a frame with a bad CRC or a misplaced marker, and
takes the leader, the count and the lock from a good one, which also ends the loss of the tree. Without a valid frame
for 10 frame periods the tree is lost, the module time-unaligned and ALERTn asserted. A report goes out in the
member's slot and when its bits change; a delay calibration sends its probe in the slot too. A leader keeps a good
report and queues the echo of a good probe; one with a bad CRC counts. A check that ends agrees exactly where no
module has a cause, and answers its request. A domain reset stops captures at its tick with reason 5, ends what waits
to be armed, and restarts the filter's grid at its tick. (R473, R474, R475, R476, R478, R480, R481, R486, R487, R492,
R493) -/
def Obligations.SyncStream : Prop :=
  (∀ a s, Sized s → s.sync.role = 2 → s.awake = true → (∀ g, g < 4 → (s.sg g).state ≠ .pending) →
    ∃ t, exec (.syncFrameSend a) s = .next t ∧ t.sync.frame = s.sync.frame + 1 ∧ t.sync.commands = s.sync.commands.drop 1 ∧
      t.sync.echoes = s.sync.echoes.drop 10 ∧ (∃ o ∈ t.sent, o.land = .syncout ∧ o.args.head? = some (s.sync.frame % 2 ^ 32) ∧ o.data.length = 120) ∧
      ((s.sync.commands.headD { code := 0 }).code = 5 → t.sync.reset.isSome = true ∧ t.sync.resetWaiter = none)) ∧
  (∀ a m f s, Sized s → s.sync.role = 1 → s.awake = true → f.crcGood = false ∨ f.markerInPlace = false →
    ∃ t, exec (.syncFrameReceived a m f) s = .next t ∧ t.sync = { s.sync with discarded := s.sync.discarded + 1 }) ∧
  (∀ a m f s, Sized s → s.sync.role = 1 → s.awake = true → f.crcGood = true → f.markerInPlace = true →
    ∃ t, exec (.syncFrameReceived a m f) s = .next t ∧ t.sync.lastFrame = some (max s.time.ps a) ∧ t.sync.frameCount = f.count ∧
      t.sync.leader = f.leader ∧ t.sync.frameLock = f.flags.testBit 0 ∧ t.sync.lost = false ∧
      (f.command = 5 → t.sync.reset = some (f.commandTick, none)) ∧ (f.command = 1 → t.sync.checkSeen = f.checkSeq)) ∧
  (∀ a s, Sized s → s.sync.role = 1 → s.awake = true → s.sync.lost = false → s.sync.lastFrame.getD 0 + 100000000 ≤ max s.time.ps a →
    ∃ t, exec (.syncLost a) s = .next t ∧ t.sync.lost = true ∧ t.sync.unaligned = true ∧ AlertSource.syncLost ∈ t.pwr.alert) ∧
  (∀ a s, Sized s → s.sync.role = 1 → s.awake = true → s.sync.delayRun = none →
    ∃ t, exec (.syncReportSlot a) s = .next t ∧ t.sync.bits = s.reportBits ∧ t.sync.reported = false ∧
      ∃ o ∈ t.sent, o.land = .trigbus ∧ o.args = [2] ∧ o.data.length = 56) ∧
  (∀ a s r, Sized s → s.sync.role = 1 → s.awake = true → s.sync.delayRun = some r → r.sent = none →
    ∃ t k, exec (.syncReportSlot a) s = .next t ∧ t.sync.delayRun = some k ∧ k.sent.map (·.1) = some r.number ∧ k.ds = r.ds ∧
      t.sync.bits = s.reportBits ∧ (∃ o ∈ t.sent, o.land = .trigbus ∧ o.args = [3]) ∧ ∃ o ∈ t.sent, o.land = .trigbus ∧ o.args = [2]) ∧
  (∀ a s, Sized s → s.sync.role = 1 → s.awake = true → s.reportBits ≠ s.sync.bits →
    ∃ t, exec (.reportBitsChanged a) s = .next t ∧ t.sync.bits = s.reportBits ∧ ∃ o ∈ t.sent, o.land = .trigbus ∧ o.args = [2]) ∧
  (∀ a r s, Sized s → s.sync.role = 2 →
    ∃ t, exec (.trigbusReportReceived a r) s = .next t ∧
      (r.crcGood = true → t.sync.reports.head? = some r ∧ t.trg = s.trg) ∧
      (r.crcGood = false → t.sync = s.sync ∧ t.trg.crcErrors = satInc 32 s.trg.crcErrors)) ∧
  (∀ a i n stamp good s, Sized s → s.sync.role = 2 →
    ∃ t, exec (.probeReceived a i n stamp good) s = .next t ∧
      (good = true → t.sync.echoes = s.sync.echoes ++ [(i % 4096, n % 16, stamp % 2 ^ 32)] ∧ t.trg = s.trg) ∧
      (good = false → t.sync = s.sync ∧ t.trg.crcErrors = satInc 32 s.trg.crcErrors)) ∧
  (∀ a s c, Sized s → s.sync.check = some c → 520 ≤ c.frames ∨ s.sync.members ≤ s.answered (s.reportsUnder c.sequence) →
    ∃ t, exec (.checkWaitEnd a) s = .next t ∧ t.sync.check = none ∧
      t.sync.agreed = ((s.judged (s.reportsUnder c.sequence)).all fun m => s.moduleCause (s.reportsUnder c.sequence) m = 0) ∧
      (t.sync.agreed = true → t.sync.st = 2) ∧
      ((s.session c.waiter.sess).st = .running → (s.session c.waiter.sess).gen = c.waiter.gen → c.waiter.sess < 32 →
        (t.session c.waiter.sess).st = .replyReady)) ∧
  (∀ a s at_ w, Sized s → s.sync.reset = some (at_, w) → s.localTick at_ ≤ (advance a s).time.tick →
    ∃ t, exec (.syncDomainReset a) s = .next t ∧ t.sync.reset = none ∧
      (s.flt.running = true → t.flt.anchor = s.localTick at_) ∧ (s.flt.running = false → t.flt.anchor = s.flt.anchor) ∧
      ∀ g, g < 4 →
        (t.sg g).state = (match (s.sg g).state with | .capturing | .stopping => .stopping | .pending => .disarmed | x => x) ∧
        ((s.sg g).state = .capturing ∨ (s.sg g).state = .stopping →
          (t.sg g).reason = 5 ∧ (t.sg g).stopTick = some (s.localTick at_)))

/-- What writes of the registers change. A doorbell with a reserved bit set gives RESERVED_NONZERO and does nothing else.
A submit is taken by a session that is Idle or holds a reply, refused BUSY by one that runs a request and WRONG_STATE
by one that is Closed. An open opens a Closed session under its next generation, a close closes an open one; otherwise
both give WRONG_STATE. Writing 1 clears a bit of IRQ_STATUS and the two flags of BOOT_STATE. A write to BAR0 changes
the bytes of a request mailbox that its byte enables select and no other session; a block write over SMBus changes its
mailbox where its PEC is good, and nothing otherwise. (R417, R418, R419, R425, R428, R429, R430, R437) -/
def Obligations.Doorbells : Prop :=
  (∀ a n resv s, Sized s → n < 32 → s.rings n = true → resv ≠ 0 →
    ∃ t, exec (.mbxDoorbellSubmit a n resv) s = .next t ∧ t.session n = { s.session n with dbResult := RESERVED_NONZERO } ∧
      exec (.mbxDoorbellClose a n resv) s = .next t) ∧
  (∀ a n s, Sized s → n < 32 → s.rings n = true → s.serves = true →
    ∃ t, exec (.mbxDoorbellSubmit a n 0) s = .next t ∧ t.session n = (match (s.session n).st with
      | .closed => { s.session n with dbResult := WRONG_STATE }
      | .running => { s.session n with dbResult := BUSY }
      | _ => { s.session n with st := .running, dbResult := OK, submitted := some (mailboxRequest n (s.session n)) }) ∧
      ∀ m, m ≠ n → t.session m = s.session m) ∧
  (∀ a n notify v s, Sized s → n < 24 → v ≤ 2047 → (notify = false → v = 0) → s.rings n = true → s.serves = true →
    ∃ t, exec (.mbxDoorbellOpen a n notify v 0) s = .next t ∧
      ((s.session n).st = .closed → (t.session n).st = .idle ∧ (t.session n).gen = nextGen (s.session n).gen ∧
        (t.session n).requests = 0 ∧ (t.session n).notify = notify ∧ (t.session n).vector = v ∧ (t.session n).dbResult = OK) ∧
      ((s.session n).st ≠ .closed → t.session n = { s.session n with dbResult := WRONG_STATE })) ∧
  (∀ a n s, Sized s → n < 32 → s.rings n = true → s.serves = true →
    ∃ t, exec (.mbxDoorbellClose a n 0) s = .next t ∧ (t.session n).st = .closed ∧
      (t.session n).dbResult = (if (s.session n).st = .closed then WRONG_STATE else OK)) ∧
  (∀ a v s, Sized s → s.bar0Serves = true →
    ∃ t, exec (.irqStatusWrite a v) s = .next t ∧ t.boot = { s.boot with irq := s.boot.irq &&& ~~~v } ∧ t.sess = s.sess) ∧
  (∀ a v s, Sized s → s.bar0Serves = true →
    ∃ t, exec (.bootStateWrite a v) s = .next t ∧ t.boot = { s.boot with
      cfgDefaulted := s.boot.cfgDefaulted && ! v.getLsbD 8, memPreserved := s.boot.memPreserved && ! v.getLsbD 9 }) ∧
  (∀ a n o bs es s, Sized s → n < 24 → o + bs.length ≤ 4096 → s.bar0Serves = true →
    ∃ t, exec (.registerWrite a (.bar0 (0x10000 + 0x2000 * n + o) bs es)) s = .next t ∧ (∀ m, m ≠ n → t.session m = s.session m) ∧
      ∀ k, readCell (t.session n).mailbox k =
        if o ≤ k ∧ k < o + bs.length ∧ es.getD (k - o) false = true then bs.getD (k - o) 0 else readCell (s.session n).mailbox k) ∧
  (∀ a off bs es s, Sized s → off + bs.length ≤ 0x10000 → s.bar0Serves = true →
    exec (.registerWrite a (.bar0 off bs es)) s = .next (advance a s)) ∧
  (∀ a i off bs good s, Sized s → i < 2 → s.awake = true → 1 ≤ bs.length → bs.length ≤ 240 → off + bs.length ≤ 4096 →
    ∃ t, exec (.registerWrite a (.smbus (0x20 + i) off bs good)) s = .next t ∧
      (good = true → ({ land := .smbus, args := [1] } : Emission) ∈ t.sent ∧ ∀ k, readCell (t.session (30 + i)).mailbox k =
        if off ≤ k ∧ k < off + bs.length then bs.getD (k - off) 0 else readCell (s.session (30 + i)).mailbox k) ∧
      (good = false → ({ land := .smbus, args := [0] } : Emission) ∈ t.sent ∧ t.sess = s.sess))

/-- What Ethernet and SMBus bring to the sessions. A request datagram of an open session of its sender is taken as a
submit; a repeat of the one answered gets that reply again, and another while one runs gets BUSY; an open waits for
the control processor. Two fragments that complete a datagram act as the datagram. A reassembly that times out 100 ms
after its first fragment is gone, no other is, and a session without a valid request within its timeout is closed. The
module answers ARP and echo requests for its own address and releases SMBDAT at a timeout. A request with an opcode
that the command reference does not allocate is answered BAD_OPCODE. (R432, R433, R434, R435, R438, R556) -/
def Obligations.EthernetSessions : Prop :=
  (∀ a port opcode q s, Sized s → s.ethernet port = true → (s.netPort port).ip ≠ 0 → q.sess < 32 → ifaceOf q.sess = 1 →
    s.ofPeer q = true → ¬ (opcode = 0x0001 ∧ q.hsess = 0xFF) →
    ∃ t, exec (.sessionDatagram a port opcode q) s = .next t ∧
      ((s.session q.sess).st = .idle ∨ ((s.session q.sess).st = .replyReady ∧ (s.session q.sess).lastTag ≠ some q.tag) →
        t.session q.sess = { s.session q.sess with st := .running, submitted := some (opcode, q) }) ∧
      ((s.session q.sess).st = .replyReady → (s.session q.sess).lastTag = some q.tag → (s.session q.sess).gen = q.gen →
        t.sess = s.sess ∧ ({ land := .datagram, args := [(s.session q.sess).peerEth, (s.session q.sess).peerIp, (s.session q.sess).peerPort]
                             data := (s.session q.sess).reply.take (field (s.session q.sess).reply 2 2) } : Emission) ∈ t.sent) ∧
      ((s.session q.sess).st = .running → (s.session q.sess).submitted = none → (s.session q.sess).lastTag ≠ some q.tag →
        t.sess = s.sess ∧ ∃ o ∈ t.sent, o.land = .datagram ∧ field o.data 6 2 = BUSY ∧ field o.data 4 2 = q.tag % 65536)) ∧
  (∀ a port q s, Sized s → s.ethernet port = true → (s.netPort port).ip ≠ 0 → q.hsess = 0xFF →
    (∀ x ∈ s.prot.opens, Request.plain x.2 ≠ Request.plain q) →
    ∃ t, exec (.sessionDatagram a port 0x0001 q) s = .next t ∧ t.prot.opens = s.prot.opens ++ [(port, q)]) ∧
  (∀ a port i sender off data first x s, Sized s → s.ethernet port = true → (s.netPort port).ip ≠ 0 →
    (advance a s).reassembly port i sender = some x → x.fragments = [(0, first)] → x.total = none → first.length = 8 * off →
    first ≠ [] → data ≠ [] →
    exec (.ipv4FragmentReceived a port i sender off true data) s = .next (takeUdp port sender (first ++ data)
      (dropReassembly (fun y => decide (y.id = i ∧ y.port = port ∧ y.sender = sender)) (advance a s)))) ∧
  (∀ a i s, Sized s → ∃ t, exec (.reassemblyTimeout a i) s = .next t ∧
    ∀ x, x ∈ t.prot.reassembly ↔ x ∈ s.prot.reassembly ∧ (x.id = i → max s.time.ps a < x.since + 100 * psPerMs)) ∧
  (∀ a n s, Sized s → s.serves = true → 24 ≤ n → n < 30 →
    (s.session n).lastValid + (s.netPort (s.session n).peerEth).timeout * psPerS ≤ max s.time.ps a →
    ∃ t, exec (.sessionTimeout a n) s = .next t ∧ (t.session n).st = .closed ∧ ∀ m, m ≠ n → t.session m = s.session m) ∧
  (∀ a port target ip mac s, Sized s → s.ethernet port = true → target ≠ 0 →
    exec (.arpRequest a port target ip mac) s = .next (if (s.netPort port).ip = target then
      emit .arp [port, ip, mac] [] (advance a s) else advance a s)) ∧
  (∀ a port target sender data s, Sized s → s.ethernet port = true → target ≠ 0 →
    exec (.icmpEchoRequest a port target sender data) s = .next (if (s.netPort port).ip = target then
      emit .icmp [port, sender] data (advance a s) else advance a s)) ∧
  (∀ a s, Sized s → s.boot.off = false → exec (.smbusTimeout a) s = .next (emit .smbus [2] [] (advance a s))) ∧
  (∀ op q s, Sized s → allocated op = false → handsOver (unallocatedCmd op) q s = true → 32 ≤ q.length → q.length ≤ 4096 →
    ∃ t, exec (.unallocatedOpcodeRequest op q) s = .next t ∧ answers (unallocatedCmd op) q BAD_OPCODE [] t)

/-- What resets and the supplies change. A power-on reset leaves every session as after power-on and memory without
contents; without VAUX the module is off. A pin reset and a fall of the rails hold the module in reset with every
session Closed, no ALERTn and no FAULTn, keys kept, and memory kept while its rails hold. The rise of nRESET starts
the module, and keeps memory only after a pin reset with the rails held. A power-down stops the capture groups,
empties the staging FIFO and puts memory into self-refresh, and ends in deep standby, from which nPOWERGOOD starts the
module again. (R69, R70, R414, R417, R428, R536, R537, R541) -/
def Obligations.ResetEvents : Prop :=
  (∀ a s, Sized s → ∃ t, exec (.powerOnReset a) s = .next t ∧ t.boot.off = false ∧ t.boot.cause = 0 ∧ t.boot.initMemory = true ∧
    t.sess = List.replicate 32 {} ∧ t.mem.cells = [] ∧ t.prot.keys = s.prot.keys ∧ (s.boot.off = false → t.boot.st = 0)) ∧
  (∀ a s, Sized s → s.boot.off = false → ∃ t, exec (.vauxLeavesTolerance a) s = .next t ∧ t.boot.off = true ∧ t.boot.st = 0 ∧
    t.mem.cells = [] ∧ t.clk.vaux = false ∧ ∀ n, n < 32 → (t.session n).st = .closed) ∧
  (∀ a s, Sized s → s.boot.off = false → s.boot.nresetLow = false →
    ∃ t, exec (.pinReset a) s = .next t ∧ t.boot.st = 0 ∧ t.boot.nresetLow = true ∧ t.boot.pinLow = true ∧
      t.boot.cause = (if s.boot.st = 8 ∧ s.boot.powerDown = false then 4 else 1) ∧ t.pwr.alert = [] ∧ t.pwr.fault = false ∧
      t.mem.cells = s.mem.cells ∧ t.prot.keys = s.prot.keys ∧ t.pcie.linkUp = false ∧
      (∀ n, n < 32 → (t.session n).st = .closed ∧ (t.session n).gen = (s.session n).gen) ∧ ∀ g, g < 4 → (t.sg g).state = .disarmed) ∧
  (∀ a straps held s, Sized s → s.boot.off = false → s.boot.nresetLow = true → s.boot.st ≠ 8 →
    ∃ t, exec (.nresetRise a straps held) s = .next t ∧ t.boot.pinLow = false ∧ t.boot.straps = straps % 8 ∧
      t.boot.nresetLow = (! s.boot.powerGood) ∧
      (s.boot.powerGood = true → (t.loop 1).st = .locked ∧ (t.loop 3).st = .locked ∧ t.boot.cfgDefaulted = true ∧
        t.mem.cells = (if s.boot.cause = 1 ∧ s.boot.memHeld = true ∧ held = true then s.mem.cells else []) ∧
        t.boot.memPreserved = (decide (s.boot.cause = 1 ∧ s.boot.memHeld = true ∧ held = true) && ! s.boot.initMemory))) ∧
  (∀ a loss s, Sized s → s.boot.off = false → s.boot.nresetLow = false → s.boot.st ≠ 8 →
    ∃ t, exec (.railsFall a loss) s = .next t ∧ t.boot.nresetLow = true ∧ t.boot.pinLow = true ∧
      t.pwr.commanded = 750 ∧ t.evt.fifo = [] ∧ t.mem.cells = if loss.memHeld = true then s.mem.cells else []) ∧
  (∀ a s, Sized s → s.boot.off = false → s.boot.st = 8 ∨ s.boot.nresetLow = true →
    ∃ t, exec (.railsRemoved a true) s = .next t ∧ t.mem.cells = [] ∧ t.boot.memHeld = false) ∧
  (∀ a s, Sized s → s.awake = true → s.boot.downing = none → 2 ≤ s.boot.st →
    ∃ t, exec (.powerDown a) s = .next t ∧ t.boot.powerGood = false ∧ t.boot.downing = some 0 ∧ t.evt.fifo = [] ∧
      t.mem.selfRefresh = true ∧ t.inp.running = false ∧ ∀ g, g < 4 → (t.sg g).state = .disarmed) ∧
  (∀ a s, Sized s → s.boot.downing.isSome = true → s.boot.powerGood = false →
    ∃ t, exec (.powerDownDone a) s = .next t ∧ t.boot.st = 8 ∧ t.boot.powerDown = true ∧ t.boot.downing = none ∧
      t.pcie.linkUp = false ∧ t.pwr.alert = [] ∧ t.pwr.fault = false ∧ ∀ n, n < 32 → (t.session n).st = .closed) ∧
  (∀ a held s, Sized s → s.boot.off = false → s.boot.downing = none → s.boot.st = 8 → s.boot.powerDown = true →
    s.boot.pinLow = false →
    ∃ t, exec (.powergoodRestored a held) s = .next t ∧ t.boot.st = 0 ∧ t.boot.cause = 1 ∧ t.boot.nresetLow = false ∧
      t.boot.powerGood = true ∧ t.mem.cells = if s.boot.memHeld = true ∧ held = true then s.mem.cells else [])

/-- What the steps of a start change. An image that passes its check starts the firmware, and another leads to Recovery
with the memory loop locked. The firmware leads to boot state 2, and after the third watchdog restart within 600 s to
Halted with cause 4. Memory that is initialised serves; the grid-tick count runs, and the start-up calibration begins
where no calibration values stand, and Idle is reached where they do. A watchdog expiry starts the module anew with
cause 3, every session Closed, memory and keys kept. (R536, R538, R544, R545, R546, R547) -/
def Obligations.StartUp : Prop :=
  (∀ a d s, Sized s → s.awake = true → s.boot.st = 0 →
    ∃ t, exec (.imageCheckDone a .pass d) s = .next t ∧ t.boot.st = 1) ∧
  (∀ a c d s, Sized s → s.awake = true → s.boot.st = 0 → c ≠ .pass →
    ∃ t, exec (.imageCheckDone a c d) s = .next t ∧ t.boot.st = 7 ∧ (t.loop 2).st = .locked ∧ t.time.gridOn = true) ∧
  (∀ a s, Sized s → s.awake = true → s.boot.st = 1 →
    ∃ t, exec (.firmwareStarted a) s = .next t ∧ (s.boot.watchdogLimit = true → t.boot.st = 6 ∧ t.boot.haltCause = 4 ∧ t.pwr.fault = true) ∧
      (s.boot.watchdogLimit = false → t.boot.st = 2)) ∧
  (∀ a s, Sized s → s.awake = true → s.boot.st = 2 → s.boot.downing = none → s.boot.initMemory = true → s.mem.migration = none →
    s.failedRanks = [] →
    ∃ t, exec (.memoryInitialised a true) s = .next t ∧ t.boot.memReady = true ∧ t.boot.initMemory = false ∧
      t.mem.selfRefresh = false ∧ t.time.gridOn = true ∧ t.boot.st = (if s.cal.done = true then 4 else 3) ∧
      (s.cal.done = false → t.cal.startup = 1)) ∧
  (∀ a s, Sized s → s.awake = true → s.boot.downing = none → 2 ≤ s.boot.st → s.boot.st ≤ 6 →
    ∃ t, exec (.watchdogExpiry a) s = .next t ∧ t.boot.st = 0 ∧ t.boot.cause = 3 ∧ t.boot.watchdog.head? = some (max s.time.ps a) ∧
      t.mem.cells = s.mem.cells ∧ t.prot.keys = s.prot.keys ∧ t.boot.memReady = false ∧ t.boot.memPreserved = (! s.boot.initMemory) ∧
      ∀ n, n < 32 → (t.session n).st = .closed)

/-- What the power states' events change. A WAKE edge in Standby starts the exit, and during an entry it waits for its
end. An entry that completes leaves the converters down and memory in self-refresh in boot state 5; an exit that
completes leaves the converters up in boot state 4. Deep standby closes every session, takes the link down and keeps
the heater on only as asked. (R530, R531, R532, R533, R534) -/
def Obligations.PowerStates : Prop :=
  (∀ a s, Sized s → s.awake = true → s.boot.downing = none →
    ∃ t, exec (.wakeEdge a) s = .next t ∧
      (s.boot.transition = none → s.boot.st = 5 → t.boot.transition = some (true, 1, none) ∧ t.mem.selfRefresh = false) ∧
      (∀ c w, s.boot.transition = some (false, c, w) → t.boot.wakeQueued = true ∧ t.boot.transition = s.boot.transition)) ∧
  (∀ a s c w, Sized s → s.boot.transition = some (false, c, w) → s.drained = true → s.boot.queued = [] → s.boot.wakeQueued = false →
    ∃ t, exec (.standbyEntryComplete a) s = .next t ∧ t.boot.st = 5 ∧ t.boot.transition = none ∧ t.mem.selfRefresh = true ∧
      t.inp.running = false ∧ t.mem.cells = s.mem.cells ∧
      (∀ x, w = some x → (s.session x.sess).st = .running → (s.session x.sess).gen = x.gen → x.sess < 32 →
        (t.session x.sess).st = .replyReady)) ∧
  (∀ a s c w, Sized s → s.boot.transition = some (true, c, w) → s.boot.queued = [] → s.boot.wakeQueued = false →
    ∃ t, exec (.standbyExitComplete a) s = .next t ∧ t.boot.st = 4 ∧ t.boot.transition = none ∧ t.inp.running = true) ∧
  (∀ a s h, Sized s → s.boot.deepAfter = some h →
    ∃ t, exec (.deepStandbyEntry a) s = .next t ∧ t.boot.st = 8 ∧ t.boot.deepAfter = none ∧ t.boot.powerDown = false ∧
      t.pcie.linkUp = false ∧ t.clk.heater = (s.clk.heater && h) ∧ t.evt.fifo = [] ∧ ∀ n, n < 32 → (t.session n).st = .closed)

/-- What the oven, the supplies and the monitors change. OVEN_READY, with the heater's supplies present, sets the ready
flag and ends a timeout; OVEN_TIMEOUT, before the oven is ready, raises ALERTn; OVEN_UNSETTLED clears the ready flag;
OVEN_FAULT switches the heater off for good and raises ALERTn; VOVEN_APPLIED and VOVEN_REMOVED note the heater's
supply, the heater's power is 0 without it, and a timeout can come again once it is back. Each takes the temperature
that it reports. A margin window leaves each lane its measured capacity and the margin it gives over the demand, and
with a lane below the floor the adaptive control commands 5 mV more while it is below 790 mV. A PMBus transaction that
fails, or a STATUS_WORD that reports a fault, ends VCORE control and asserts ALERTn; a good one gives what it reads,
and the next that waits goes out. A junction temperature of 100 °C or more is reported until it falls below 97 °C, and
the tenth reading in a row of 115 °C or more halts the module. (R35, R37, R62, R64, R66, R77, R78, R79, R80, R547) -/
def Obligations.SupplyEvents : Prop :=
  (∀ a temp s, s.clk.ovenReady = false → s.clk.voven = true → s.clk.vaux = true → s.clk.heater = true →
    ∃ t, exec (.ovenReady a temp) s = .next t ∧ t.clk.ovenReady = true ∧ t.clk.ovenTimeout = false ∧ t.clk.island = temp) ∧
  (∀ a temp power s, s.awake = true → s.clk.ovenReady = false → s.clk.ovenTimeout = false →
    ∃ t, exec (.ovenTimeout a temp power) s = .next t ∧ t.clk.ovenTimeout = true ∧ t.clk.island = temp ∧
      t.clk.heaterPower = power ∧ AlertSource.ovenTimeout ∈ t.pwr.alert) ∧
  (∀ a temp s, s.clk.ovenReady = true →
    ∃ t, exec (.ovenUnsettled a temp) s = .next t ∧ t.clk.ovenReady = false ∧ t.clk.island = temp) ∧
  (∀ a temp s, s.awake = true → s.clk.ovenFault = false →
    ∃ t, exec (.ovenFault a temp) s = .next t ∧ t.clk.ovenFault = true ∧ t.clk.heater = false ∧ t.clk.ovenReady = false ∧
      t.clk.heaterPower = 0 ∧ AlertSource.ovenFault ∈ t.pwr.alert) ∧
  (∀ a s, ∃ t, exec (.vovenApplied a) s = .next t ∧ t.clk.voven = true ∧
    t.clk.ovenTimeout = (s.clk.ovenTimeout && s.clk.voven)) ∧
  (∀ a s, ∃ t, exec (.vovenRemoved a) s = .next t ∧ t.clk.voven = false ∧ t.clk.heaterPower = 0) ∧
  (∀ a caps v s, Sized s → s.lanesRun = true →
    ∃ t, exec (.marginWindow a caps v) s = .next t ∧ t.pwr.sensed = v ∧
      (∀ n, n < 9 → (t.lane n).capacity = caps.getD n 0 ∧ (t.lane n).margin = marginOf (caps.getD n 0) (s.demandOf n) ∧
        (t.lane n).below = decide (s.demandOf n ≠ 0 ∧ marginOf (caps.getD n 0) (s.demandOf n) < s.pwr.floor)) ∧
      (s.pwr.adaptive = true → s.pwr.mode = 0 → s.pwr.lost = false →
        (∃ n, n < 9 ∧ s.demandOf n ≠ 0 ∧ marginOf (caps.getD n 0) (s.demandOf n) < s.pwr.floor) →
        t.pwr.commanded = if 790 ≤ s.pwr.commanded then s.pwr.commanded else s.pwr.commanded + 5)) ∧
  (∀ a acked fault v s code value rest, Sized s → s.awake = true → s.pwr.drives = true → s.pwr.pmbus = (code, value) :: rest →
    ∃ t, exec (.pmbusTransaction a acked fault v) s = .next t ∧
      (acked = false ∨ (code = STATUS_WORD ∧ fault = true) → t.pwr.lost = true ∧ t.pwr.pmbus = [] ∧
        AlertSource.vcore ∈ t.pwr.alert ∧ t.pwr.iout = s.pwr.iout) ∧
      (acked = true → (code = STATUS_WORD → fault = false) → t.pwr.lost = false ∧ t.pwr.pmbus = rest ∧
        t.pwr.iout = (if code = READ_IOUT then v else s.pwr.iout) ∧ t.pwr.vout = (if code = READ_VOUT then v else s.pwr.vout) ∧
        t.pwr.vstatus = (if code = STATUS_WORD then v else s.pwr.vstatus) ∧
        t.sent = match rest with
          | [] => s.sent
          | x :: _ => { land := .pmbus, args := [s.pwr.regulator, x.1, x.2], data := [] } :: s.sent)) ∧
  (∀ a tj s, Sized s → s.awake = true → s.boot.downing = none →
    ∃ t, exec (.tjReading a tj) s = .next t ∧ t.pwr.tj = tj ∧
      t.pwr.hot = (if 25600 ≤ tj then true else if tj < 24832 then false else s.pwr.hot) ∧
      (s.boot.st ≠ 6 → 29440 ≤ tj → 9 ≤ s.pwr.halting → t.boot.st = 6 ∧ t.pwr.fault = true) ∧
      (s.boot.st ≠ 6 → 29440 ≤ tj → s.pwr.halting < 9 → t.boot.st = s.boot.st ∧ t.pwr.halting = s.pwr.halting + 1) ∧
      (tj < 29440 → t.pwr.halting = 0 ∧ t.boot.st = s.boot.st))

/-- What the test access port does. A rising edge of TCK takes the TAP to the next state of IEEE 1149.1, captures IDCODE
or the lands in Capture-DR and shifts towards TDO in the Shift states. A falling edge puts the first bit out in the
Shift states and takes the shifted instruction or the boundary cells in the Update states. TRSTn holds
Test-Logic-Reset with IDCODE, and nothing drives the lands. (R557) -/
def Obligations.BoundaryScan : Prop :=
  (∀ a tms tdi lands s, Sized s → s.boot.off = false →
    ∃ t, exec (.jtagTckEdge a true tms tdi lands) s = .next t ∧ t.jtag.st = s.jtag.st.next tms ∧
      t.jtag.instruction = s.jtag.instruction ∧
      (s.jtag.st = .captureDr → s.jtag.instruction = .idcode → t.jtag.dr = bitsOf 32 idcode) ∧
      (s.jtag.st = .captureDr → s.jtag.instruction = .sample ∨ s.jtag.instruction = .extest → t.jtag.dr = lands) ∧
      (s.jtag.st = .captureDr → s.jtag.instruction = .bypass → t.jtag.dr = [false]) ∧
      (∀ b r, s.jtag.st = .shiftDr → s.jtag.dr = b :: r → t.jtag.dr = r ++ [tdi]) ∧
      (∀ b r, s.jtag.st = .shiftIr → s.jtag.ir = b :: r → t.jtag.ir = r ++ [tdi]) ∧
      (s.jtag.st ≠ .captureDr → s.jtag.st ≠ .shiftDr → t.jtag.dr = s.jtag.dr)) ∧
  (∀ a tms tdi lands s, Sized s → s.boot.off = false →
    ∃ t, exec (.jtagTckEdge a false tms tdi lands) s = .next t ∧ t.jtag.st = s.jtag.st ∧ t.jtag.ir = s.jtag.ir ∧ t.jtag.dr = s.jtag.dr ∧
      (s.jtag.st = .updateIr → t.jtag.instruction = decodeTap (ofBits s.jtag.ir)) ∧
      (s.jtag.st = .testLogicReset → t.jtag.instruction = .idcode) ∧
      (s.jtag.st = .updateDr → s.jtag.instruction = .extest → t.jtag.latches = s.jtag.dr) ∧
      (∀ b r, s.jtag.st = .shiftDr → s.jtag.dr = b :: r → ({ land := .tdo, args := [b.toNat] } : Emission) ∈ t.sent)) ∧
  (∀ a s, Sized s → ∃ t, exec (.trstnAsserted a) s = .next t ∧ t.jtag.st = .testLogicReset ∧ t.jtag.instruction = .idcode ∧
    t.jtag.driving = false)

/-- A step runs the command at the front of the queue. Whatever command waits at the front of the queue, a step is exec of
that command on the state with the rest of the queue. With no command waiting the step leaves the state as it is: the
block idles, which is the model's choice (log entry 2), since the spec gives the table no row for a tick. (R420) -/
def Obligations.StepRunsFront : Prop :=
  (∀ c rest s, s.pending = c :: rest → step s = exec c (s.withPending rest)) ∧
  (∀ s, s.pending = [] → step s = .next s)

/-- What the module holds right after a power-on reset. Right after reset every numbered part of the module is there and
memory is in its canonical form; the boot state is 0 and nRESET is low; every session is Closed under generation 0; no
command waits, no record waits in the FIFO, and nothing holds ALERTn or FAULTn. The margin floor is 1,100, VCORE
control is Adaptive, the calibration schedule is threshold 2.0 °C and 3,600 s, the time bound is 100 ns, the module is
standalone, and the session timeouts are 60 s. The output words have their reset fields, every group is disarmed,
every accumulator is Idle or Free as after power-on, every port is Down, every pigeonhole is Free, no key is enrolled,
and the protected set is the fixed one. (R36, R63, R90, R144, R253, R316, R358, R417, R431, R433, R460, R464) -/
def Obligations.AfterPowerOn : Prop :=
  Sys2Proof.Machine.Inv State.reset ∧ State.reset.boot.st = 0 ∧ State.reset.boot.nresetLow = true ∧ State.reset.pending = [] ∧
  (∀ n, n < 32 → State.reset.session n = {} ∧ (State.reset.session n).st = .closed ∧ (State.reset.session n).gen = 0) ∧
  State.reset.evt.fifo = [] ∧ State.reset.pwr.alert = [] ∧ State.reset.pwr.fault = false ∧ State.reset.pwr.floor = 1100 ∧
  State.reset.pwr.mode = 0 ∧ State.reset.cal.continuous = false ∧ State.reset.cal.threshold = 20 ∧ State.reset.cal.maxInterval = 3600 ∧
  State.reset.sync.bound = 100 ∧ State.reset.sync.role = 0 ∧ State.reset.prot.net.map (·.timeout) = [60, 60] ∧
  State.reset.clk.outputs.map (fun w => (w.toNat % 512, w.toNat / 512 % 2 ^ 18, w.toNat.testBit 27, w.toNat / 2 ^ 28)) =
    [(1, 0, true, 0), (32, 0, true, 0), (128, 0, false, 0), (4, 0, true, 0), (32, 0, true, 0), (2, 0, true, 0), (1, 0, true, 0),
     (4, 0, true, 0), (25, 0, true, 0), (16, 0, true, 0), (8, 0, true, 0), (10, 0, true, 0)] ∧
  (∀ g, g < 4 → (State.reset.sg g).state = .disarmed) ∧ (∀ p, p < 16 → (State.reset.port p).st = .down) ∧
  State.reset.xfer.phs = [] ∧ State.reset.prot.keys = List.replicate 8 none ∧ State.reset.protectedSet = fixedProtected

/-- Every step keeps the parts of the module and the canonical form of memory. From every state in which the numbered
parts of the module are all there and memory is in its canonical form (addresses strictly rising and inside the
address space, no entry 0), whatever command waits at the front of the queue, a step that answers a next state answers
one that is again like this. The canonical form is the model's own (log entry 3). (R13, R389, R393, R420) -/
def Obligations.StepKeepsInvariant : Prop :=
  ∀ s t : State, Sys2Proof.Machine.Inv s → step s = .next t → Sys2Proof.Machine.Inv t

/-- Every command completes, and system time never falls. Every command of the table, with any operands and from any
state, answers a next state: no command stops with a fault or a refusal, since what is asked wrongly is answered with
a status and what finds nothing to do changes nothing. A request that its session hands over and that passes every
check is carried out: the next state is that of its acceptance, which is COMMAND_ACCEPTED for a command of class C and
then the command's own action. A command changes nothing in the queue, and system time does not fall and reaches the
command's own time. Along any queue, that many steps therefore empty it. That a command whose time lies before the
present one acts at the present one is the model's choice (log entry 4). (R13, R420, R422) -/
def Obligations.EveryCommandCompletes : Prop :=
  (∀ (i : Instr) (s : State), ∃ t, exec i s = .next t ∧ t.pending = s.pending ∧ s.time.ps ≤ t.time.ps) ∧
  (∀ i c q s, requestOf i = some (c, q) → ∃ t, exec i s = .next t ∧ max s.time.ps q.time ≤ t.time.ps) ∧
  (∀ i c q s, requestOf i = some (c, q) → accepts c q s = true →
    exec i s = .next (acceptRequest c (waiterOf c q s) q (served c q s))) ∧
  (∀ s : State, ∃ t, s.pending.foldl (fun r _ => match r with
    | .next u => step u
    | x => x) (Host.Outcome.next s) = .next t ∧ t.pending = [] ∧ s.time.ps ≤ t.time.ps)

/-- What each command leaves alone. For each of forty-seven kinds of state, a command that is none of the rows which may
change it leaves it exactly as it was. The kinds are the keys, the protected set, the proposals, the network settings,
the firmware image and its staging buffer, the margin floor, the VCORE mode, the flags, the boot state, the straps,
the PCIe clocking, bus mastering, the clock outputs, the core rate, the oven, the time source, the epoch, the PPSIN
stamps, the inputs, the cores, the calibration schedule and generation, the filters, the comparators, conditions,
groups, markers and bus wait, the capture groups, the tachometers, the accumulators, the heads, the pigeonholes,
rings, streams and PTP ports, every byte of acquisition memory, the ranks, the conversion sequence, the membership,
delay and lock of a system of modules, the event store, the pigeonhole of copies, and the boundary-scan registers.
PROT_COUNTERSIGN stands among the rows of every kind that an inner request may change. (R36, R63, R253, R316, R358,
R387, R432, R460, R464, R494, R541, R557) -/
def Obligations.CommandsLeaveAlone : Prop :=
  ∀ (i : Instr) (s t : State), exec i s = .next t → ∀ k : Kind, k.changedBy i = false → k.same s t

/-- What a request that fails a check does. For every request of the table that its session hands over and that fails a
header check, a field check, the check of the protected set or one of its own state checks, in this order, the module
answers with the first failing status and the payload that the command reference gives such a reply, and acts no
further: every kind of state is as it was, and so are every other session and memory. Where the records of the start
are written, one REQUEST_REJECTED record that holds the opcode, the tag, the status and the payload is staged as the
last, under the next sequence number; at most one record goes before it, where the command's own rules name one for
its rejection. (R13, R422, R424, R440, R441, R464, R498) -/
def Obligations.RequestsTurnedAway : Prop :=
  ∀ i c q s status payload, requestOf i = some (c, q) → Sized s → handsOver c q s = true →
    turnedAway c q s = some (status, payload) →
    ∃ t, exec i s = .next t ∧ answers c q status payload t ∧ (∀ k : Kind, k.same s t) ∧
      (∀ n, n ≠ q.sess → t.session n = s.session n) ∧
      (s.evt.opening = [] → ∃ r l, t.evt.fifo = s.evt.fifo ++ l ++ [r] ∧ l.length ≤ 1 ∧ r.type = 0x0004 ∧
        r.body = requestBody c.opcode status q ∧ t.evt.nextSeq = r.seq + 1 ∧
        (c.notes (served c q s) q = none → l = [] ∧ r.seq = s.evt.nextSeq))

/-- The margin floor. The margin floor is one setting: it reads 1,100 in the reset state and after a power-on reset.
SYS_SET_MARGIN_FLOOR with a value from 1,020 to 2,000 sets it to that value, and any other value is rejected and
leaves it. It returns to 1,100 at a pin reset, at the exit from deep standby, and at a firmware and a watchdog
restart, and no other row changes it, so that Standby, subsystem resets and sync-domain resets keep it; a
countersigned proposal may hold SYS_SET_MARGIN_FLOOR. (R36) -/
def Obligations.MarginFloorSetting : Prop :=
  State.reset.pwr.floor = 1100 ∧
  (∀ a s, ∃ t, exec (.powerOnReset a) s = .next t ∧ t.pwr.floor = 1100) ∧
  (∀ q s, Sized s → accepts sysSetMarginFloorCmd q s = true → 1020 ≤ q.u16 0 ∧ q.u16 0 ≤ 2000 ∧
    ∃ t, exec (.sysSetMarginFloor q) s = .next t ∧ answers sysSetMarginFloorCmd q OK [] t ∧ t.pwr.floor = q.u16 0) ∧
  (∀ q s, Sized s → handsOver sysSetMarginFloorCmd q s = true → headerOutcome sysSetMarginFloorCmd q s = none →
    q.u16 0 < 1020 ∨ 2000 < q.u16 0 →
    ∃ t, exec (.sysSetMarginFloor q) s = .next t ∧ answers sysSetMarginFloorCmd q OUT_OF_RANGE [] t ∧ t.pwr.floor = s.pwr.floor) ∧
  (∀ a s, s.boot.off = false → s.boot.nresetLow = false → ∃ t, exec (.pinReset a) s = .next t ∧ t.pwr.floor = 1100) ∧
  (∀ a straps held s, s.boot.off = false → s.boot.st = 8 →
    ∃ t, exec (.nresetRise a straps held) s = .next t ∧ t.pwr.floor = 1100) ∧
  (∀ q s, Sized s → accepts sysRestartCmd q s = true → ∃ t, exec (.sysRestart q) s = .next t ∧ t.pwr.floor = 1100) ∧
  (∀ a s, s.awake = true → s.boot.downing = none → 2 ≤ s.boot.st → s.boot.st ≤ 6 →
    ∃ t, exec (.watchdogExpiry a) s = .next t ∧ t.pwr.floor = 1100) ∧
  (∀ i s t, exec i s = .next t → restartRow i = false → (∀ q, i ≠ .sysSetMarginFloor q) → t.pwr.floor = s.pwr.floor)

/-- Enrolling keys alone, and the last two keys. While fewer than two keys are enrolled, KEY_ENROL never needs a
countersign: handed over, with its header and fields good and its slot empty, it is accepted on its own, enrols the
key and answers OK. A KEY_REMOVE that would leave fewer than two keys enrolled fails its state check with WRONG_STATE;
carried out as the inner request of an accepted countersign, it answers WRONG_STATE and changes no key. (R468) -/
def Obligations.KeysEnrolledAlone : Prop :=
  (∀ q s, Sized s → s.keyCount < 2 → asksCountersign keyEnrolCmd q s = false ∧
    (handsOver keyEnrolCmd q s = true → headerOutcome keyEnrolCmd q s = none → q.u8 0 < 8 → reserved q 1 7 = none →
      s.key (q.u8 0) = none →
      ∃ t, exec (.keyEnrol q) s = .next t ∧ answers keyEnrolCmd q OK [] t ∧
        t.key (q.u8 0) = some { key := q.bytes 8 32, label := q.bytes 40 8 })) ∧
  (∀ q s, s.keyCount < 2 ∨ (s.keyCount = 2 ∧ (s.key (q.u8 0)).isSome = true) → stateChecks keyRemoveCmd q s = some (WRONG_STATE, [])) ∧
  (∀ q s p, Sized s → accepts protCountersignCmd q s = true → s.proposal (q.u32 0) = some p → p.opcode = 0x0E06 →
    s.keyCount < 2 ∨ (s.keyCount = 2 ∧ (s.key (p.inner.u8 0)).isSome = true) →
    ∃ t, exec (.protCountersign q) s = .next t ∧ answers protCountersignCmd q WRONG_STATE [] t ∧ t.prot.keys = s.prot.keys)

/-- How the time keeper starts. At the start that follows a power-on reset or a pin reset, wall time is the Time of the
newest record in the event store plus 1 ns and the epoch is that record's Epoch plus 1, modulo 65,536; with an empty
store both are 0; and the discipline source is Free. A firmware restart and a watchdog restart leave wall time and the
epoch to run on, with no source, no steering and no slewing, and no row but CLK_SET_TIME_SOURCE and the rows of
another restart or reset changes the source, unless a countersigned proposal holds that request. (R542) -/
def Obligations.TimeKeeperStarts : Prop :=
  (∀ a straps held s, s.boot.off = false → s.boot.nresetLow = true → s.boot.st ≠ 8 → s.boot.powerGood = true →
    ∃ t, exec (.nresetRise a straps held) s = .next t ∧ t.time.source = 0 ∧
      (∀ r, s.evt.newest = some r → t.time.tai = (r.time + 1) * 10 ^ 12 ∧ t.time.epoch = (r.epoch + 1) % 65536) ∧
      (s.evt.newest = none → t.time.tai = 0 ∧ t.time.epoch = 0)) ∧
  (∀ q s, Sized s → accepts sysRestartCmd q s = true →
    ∃ t, exec (.sysRestart q) s = .next t ∧ t.time.tai = (advance q.time s).time.tai ∧ t.time.epoch = s.time.epoch ∧
      t.time.source = 0 ∧ t.time.steer = 0 ∧ t.time.slew = 0) ∧
  (∀ a s, s.awake = true → s.boot.downing = none → 2 ≤ s.boot.st → s.boot.st ≤ 6 →
    ∃ t, exec (.watchdogExpiry a) s = .next t ∧ t.time.tai = (advance a s).time.tai ∧ t.time.epoch = s.time.epoch ∧
      t.time.source = 0 ∧ t.time.steer = 0 ∧ t.time.slew = 0) ∧
  (∀ i s t, exec i s = .next t → restartRow i = false → (∀ q, i ≠ .clkSetTimeSource q) → t.time.source = s.time.source)

/-- The session timeout. The session timeout of each port reads 60 s in the reset state. SYS_SET_NETWORK takes a timeout
from 10 to 3,600 s and no other: 0 is rejected with ZERO_FIELD and every other value outside the range with
OUT_OF_RANGE. At SESSION_TIMEOUT, an Ethernet session that has received no valid request within its port's timeout is
closed under R418, with cause 2 in its SESSION_CLOSED record, and a session that has received one stays. (R433) -/
def Obligations.SessionTimeouts : Prop :=
  (State.reset.netPort 0).timeout = 60 ∧ (State.reset.netPort 1).timeout = 60 ∧
  (∀ q s, Sized s → accepts sysSetNetworkCmd q s = true → 10 ≤ q.u16 14 ∧ q.u16 14 ≤ 3600 ∧
    ∃ t, exec (.sysSetNetwork q) s = .next t ∧ (t.netPort (q.u8 0)).timeout = q.u16 14) ∧
  (∀ q s, Sized s → handsOver sysSetNetworkCmd q s = true → headerOutcome sysSetNetworkCmd q s = none →
    firstFailure ((sysSetNetworkCmd.checks s q).take 4) = none → q.u16 14 < 10 ∨ 3600 < q.u16 14 →
    ∃ t, exec (.sysSetNetwork q) s = .next t ∧ t.prot.net = s.prot.net ∧
      answers sysSetNetworkCmd q (if q.u16 14 = 0 then ZERO_FIELD else OUT_OF_RANGE) [] t) ∧
  (∀ a n s, Sized s → s.serves = true → 24 ≤ n → n < 30 → (s.session n).st ≠ .closed →
    (s.session n).lastValid + (s.netPort (s.session n).peerEth).timeout * psPerS ≤ max s.time.ps a →
    ∃ t, exec (.sessionTimeout a n) s = .next t ∧ (t.session n).st = .closed ∧
      (s.evt.opening = [] → s.evt.used + 8192 ≤ fifoSize - fifoReserve →
        ∃ r, t.evt.fifo = s.evt.fifo ++ [r] ∧ r.type = 0x0002 ∧ r.body.take 3 = u8 n ++ u8 1 ++ u8 2)) ∧
  (∀ a n s, max s.time.ps a < (s.session n).lastValid + (s.netPort (s.session n).peerEth).timeout * psPerS →
    exec (.sessionTimeout a n) s = .next (advance a s))

/-- Where bytes reach acquisition memory. A store into acquisition memory changes the bytes from its address on, as many
as it has and as lie in the user region, and reading them gives them back; every other byte reads as before, and
clearing a range zeroes it and no other byte. One entry of a pigeonhole goes to its storage cell, one block of a
head's route to its cell in the ring, and one strand to its 24 bytes and its nibble; POSTMARK_FILL clears the 64 bytes
of one slot's postmark: that of the oldest segment that waits for it, and otherwise that of the segment in Fill or to
come. What stands at every other address stays. (R267, R275, R327, R361, R387, R393) -/
def Obligations.StoresStayInPlace : Prop :=
  (∀ a bs s b, readCell (memWrite a bs s).mem.cells b =
    (let n := min bs.length (min s.userSize addressSpace - a)
     if a ≤ b ∧ b < a + n then bs.getD (b - a) 0 else readCell s.mem.cells b)) ∧
  (∀ a n s b, readCell (memZero a n s).mem.cells b = if a ≤ b ∧ b < a + n then 0 else readCell s.mem.cells b) ∧
  (∀ n bs s p b, s.ph n = some p → (let a := p.base + freeCell p.entries p.entries.length 0 * p.entrySize
    b < a ∨ a + bs.length ≤ b) → readCell (placeEntry n bs s).mem.cells b = readCell s.mem.cells b) ∧
  (∀ c slot rank u r s b, r.1.length = 24 → (let a := c.blockAt slot + 24 * c.strands * rank + 24 * (u % c.strands)
    b < a ∨ a + 24 ≤ b) → b ≠ c.blockAt slot + c.sideBase + rank * c.sideSize + u % c.strands / 2 →
    readCell (writeStrand c slot rank u r s).mem.cells b = readCell s.mem.cells b) ∧
  (∀ at_ g f s b, (advance at_ s).memServes = true →
    (let x := (endFill g (advance at_ s).time.tick (advance at_ s)).sg g
     x.writing.find? (fun f => ! f.filled) = some f ∧
       (b < x.config.postmarkAt f.slot ∨ x.config.postmarkAt f.slot + 64 ≤ b)) →
    ∃ t, exec (.postmarkFill at_ g) s = .next t ∧ readCell t.mem.cells b = readCell s.mem.cells b) ∧
  (∀ at_ g s b, (advance at_ s).memServes = true →
    (let x := (endFill g (advance at_ s).time.tick (advance at_ s)).sg g
     let slot := match x.filling with
       | some f => f.slot
       | none => x.config.slotOf (x.nextSeq - x.firstSeq)
     x.writing.find? (fun f => ! f.filled) = none ∧
       (b < x.config.postmarkAt slot ∨ x.config.postmarkAt slot + 64 ≤ b)) →
    ∃ t, exec (.postmarkFill at_ g) s = .next t ∧ readCell t.mem.cells b = readCell s.mem.cells b)
end

