-- ==== Sys2Proof/Laws/Ed25519.lean ====
section
/-! SUPPORT. A key whose point is the identity of the curve: a signature of the identity and 0 verifies under it for every message,
whatever it is. Witnesses use it where a message holds a value that the spec leaves open. -/

namespace Sys2Proof.Machine

/-- The identity in its coordinates, at any scale. -/
def EdPoint.isZero (p : EdPoint) : Prop := p.x = 0 ∧ p.t = 0 ∧ p.y = p.z

theorem edZero_isZero : edZero.isZero := ⟨rfl, rfl, rfl⟩

theorem edSub_self (a : Nat) : edSub (a % edP) (a % edP) = 0 := by
  have h : a % edP < edP := Nat.mod_lt _ (by decide)
  unfold edSub
  rw [Nat.mod_eq_of_lt h, show a % edP + (edP - a % edP) = edP by omega, Nat.mod_self]

theorem edAdd_isZero {p q : EdPoint} (hp : p.isZero) (hq : q.isZero) : (edAdd p q).isZero := by
  obtain ⟨hx, ht, hy⟩ := hp
  obtain ⟨kx, kt, ky⟩ := hq
  have h0 : ∀ a, edSub a 0 = a % edP := fun a => by unfold edSub; simp
  refine ⟨?_, ?_, ?_⟩ <;> simp only [edAdd, hx, ht, hy, kx, kt, ky, h0, Nat.add_zero, Nat.zero_mul, Nat.zero_mod, ← Nat.mul_mod,
    edSub_self]
  have e : p.z * 2 * q.z = p.z * q.z + p.z * q.z := by rw [Nat.mul_right_comm, Nat.mul_two]
  rw [e, Nat.mul_mod, Nat.mod_mod, ← Nat.add_mod, ← Nat.mul_mod]

theorem edMul_isZero {p : EdPoint} : ∀ (fuel n : Nat), p.isZero → (edMul fuel n p).isZero
  | 0, _, _ => edZero_isZero
  | fuel + 1, n, h => by
    rw [edMul]
    split
    · exact edAdd_isZero h (edMul_isZero fuel _ (edAdd_isZero h h))
    · exact edMul_isZero fuel _ (edAdd_isZero h h)

theorem edMul_zero : ∀ (fuel : Nat) (p : EdPoint), edMul fuel 0 p = edZero
  | 0, _ => rfl
  | fuel + 1, p => by rw [edMul]; simpa using edMul_zero fuel (edAdd p p)

theorem edEight_isZero {p : EdPoint} (h : p.isZero) : (edEight p).isZero := by
  unfold edEight
  exact edAdd_isZero (edAdd_isZero (edAdd_isZero h h) (edAdd_isZero h h)) (edAdd_isZero (edAdd_isZero h h) (edAdd_isZero h h))

theorem edSame_isZero {p q : EdPoint} (hp : p.isZero) (hq : q.isZero) : edSame p q = true := by
  obtain ⟨hx, -, hy⟩ := hp
  obtain ⟨kx, -, ky⟩ := hq
  simp [edSame, hx, hy, kx, ky, Nat.mul_comm]

/-- The encoding of the identity. -/
def zeroKey : List Byte := 1 :: zeros 31

theorem edDecode_zeroKey : edDecode zeroKey = some edZero := by decide +kernel

theorem ed25519_zeroKey (m : List Byte) : ed25519 zeroKey m (zeroKey ++ zeros 32) = true := by
  have h1 : (zeroKey ++ zeros 32).take 32 = zeroKey := rfl
  have h2 : (zeroKey ++ zeros 32).drop 32 = zeros 32 := rfl
  have h3 : ofLe (zeros 32) = 0 := by decide +kernel
  simp only [ed25519, h1, h2, h3, edDecode_zeroKey]
  rw [Bool.and_eq_true]
  refine ⟨by decide +kernel, ?_⟩
  rw [edHolds, edMul_zero]
  exact edSame_isZero (edEight_isZero edZero_isZero)
    (edAdd_isZero (edEight_isZero edZero_isZero) (edEight_isZero (edMul_isZero _ _ edZero_isZero)))

end Sys2Proof.Machine
end

