-- ==== Sys2Proof/Laws/Memory.lean ====
section
/-! SUPPORT. Every operation on the cells of a memory keeps its canonical form. -/

namespace Sys2Proof.Machine

theorem Memory.wf_nil : Memory.wf [] = true := rfl

theorem cellsWf_mono {hi lo lo' : Nat} (h : lo' ≤ lo) : ∀ {m : List Host.Cell}, cellsWf hi lo m = true → cellsWf hi lo' m = true
  | [], _ => rfl
  | c :: m, w => by
    simp only [cellsWf, Bool.and_eq_true, decide_eq_true_eq] at w ⊢
    exact ⟨⟨by omega, w.1.2⟩, w.2⟩

theorem cellsWf_filter {hi : Nat} (p : Host.Cell → Bool) : ∀ {lo : Nat} {m : List Host.Cell},
    cellsWf hi lo m = true → cellsWf hi lo (m.filter p) = true
  | _, [], _ => rfl
  | lo, c :: m, w => by
    simp only [cellsWf, Bool.and_eq_true, decide_eq_true_eq] at w
    have t := cellsWf_filter p w.2
    by_cases h : p c
    · simp only [List.filter_cons, h, if_true, cellsWf, Bool.and_eq_true, decide_eq_true_eq]; exact ⟨w.1, t⟩
    · simp only [List.filter_cons, h]; exact cellsWf_mono (by omega) t

/-- Cells below `k` in front of cells from `k` on. -/
theorem cellsWf_append {hi k : Nat} : ∀ {lo : Nat} {m n : List Host.Cell}, cellsWf hi lo m = true → (∀ c ∈ m, c.1 < k) →
    lo ≤ k → cellsWf hi k n = true → cellsWf hi lo (m ++ n) = true
  | _, [], _, _, _, l, w => cellsWf_mono l w
  | lo, c :: m, n, a, b, _, w => by
    simp only [cellsWf, Bool.and_eq_true, decide_eq_true_eq] at a
    simp only [List.cons_append, cellsWf, Bool.and_eq_true, decide_eq_true_eq]
    have hc := b c (by simp)
    exact ⟨a.1, cellsWf_append a.2 (fun d hd => b d (by simp [hd])) (by omega) w⟩

theorem cellsOf_wf {hi : Nat} : ∀ (a : Nat) (bs : List Byte), a + bs.length ≤ hi → cellsWf hi a (cellsOf a bs) = true
  | _, [], _ => rfl
  | a, b :: bs, h => by
    simp only [List.length_cons] at h
    have t : cellsWf hi (a + 1) (cellsOf (a + 1) bs) = true := cellsOf_wf (a + 1) bs (by omega)
    unfold cellsOf
    split
    · exact cellsWf_mono (Nat.le_succ a) t
    · simp only [cellsWf, Bool.and_eq_true, decide_eq_true_eq]
      exact ⟨⟨Nat.le_refl _, by omega, by assumption⟩, t⟩

theorem cellsOf_lt : ∀ (a : Nat) (bs : List Byte), ∀ c ∈ cellsOf a bs, c.1 < a + bs.length
  | _, [], c, h => by simp [cellsOf] at h
  | a, b :: bs, c, h => by
    unfold cellsOf at h
    have t := cellsOf_lt (a + 1) bs c
    simp only [List.length_cons]
    split at h
    · have := t h; omega
    · rcases List.mem_cons.1 h with h | h
      · subst h; simp
      · have := t h; omega

theorem cellsWf_from {hi k : Nat} : ∀ {lo : Nat} {m : List Host.Cell}, cellsWf hi lo m = true →
    cellsWf hi k (m.filter fun c => decide (k ≤ c.1)) = true
  | _, [], _ => rfl
  | lo, c :: m, w => by
    simp only [cellsWf, Bool.and_eq_true, decide_eq_true_eq] at w
    by_cases h : k ≤ c.1
    · have t : cellsWf hi (c.1 + 1) (m.filter fun c => decide (k ≤ c.1)) = true := cellsWf_filter _ w.2
      simp only [List.filter_cons, h, decide_true, if_true, cellsWf, Bool.and_eq_true, decide_eq_true_eq]
      exact ⟨⟨trivial, w.1.2⟩, t⟩
    · simp only [List.filter_cons, h, decide_false]
      exact cellsWf_from w.2

/-- A write of bytes inside the address space keeps the canonical form. -/
theorem writeCells_wf {m : List Host.Cell} {a : Nat} {bs : List Byte} (w : Memory.wf m = true)
    (h : a + bs.length ≤ addressSpace ∨ bs = []) : Memory.wf (writeCells m a bs) = true := by
  unfold Memory.wf at w ⊢
  unfold writeCells
  rcases h with h | h
  · have below : cellsWf addressSpace 0 (m.filter fun c => decide (c.1 < a)) = true := cellsWf_filter _ w
    have mid := cellsOf_wf a bs h
    have above : cellsWf addressSpace (a + bs.length) (m.filter fun c => decide (a + bs.length ≤ c.1)) = true := cellsWf_from w
    rw [List.append_assoc]
    refine cellsWf_append (k := a) below (fun c hc => by simpa using (List.mem_filter.1 hc).2) (Nat.zero_le _) ?_
    exact cellsWf_append (k := a + bs.length) mid (cellsOf_lt a bs) (by omega) above
  · subst h
    have below : cellsWf addressSpace 0 (m.filter fun c => decide (c.1 < a)) = true := cellsWf_filter _ w
    have above : cellsWf addressSpace a (m.filter fun c => decide (a ≤ c.1)) = true := cellsWf_from w
    simp only [cellsOf, List.append_nil, List.length_nil, Nat.add_zero]
    exact cellsWf_append (k := a) below (fun c hc => by simpa using (List.mem_filter.1 hc).2) (Nat.zero_le _) above

end Sys2Proof.Machine
end

