-- ==== Sys2Proof/Laws/Keeps.lean ====
section
/-! SUPPORT. What holds of any operation of the module, `Keeps`, goes through compositions, choices, folds and record
updates. One lemma per operation, in the files beside this one, says that it keeps; proofs over all commands cite them. -/

namespace Sys2Proof.Machine

@[simp] theorem updAt_length {α : Type} (f : α → α) : ∀ (l : List α) (i : Nat), (updAt l i f).length = l.length
  | [], _ => rfl
  | _ :: _, 0 => rfl
  | _ :: l, i + 1 => congrArg Nat.succ (updAt_length f l i)


theorem advanceTime_kept (c : Int) (t : TimeState) (n : Nat) : (advanceTime c t n).source = t.source ∧
    (advanceTime c t n).port = t.port ∧ (advanceTime c t n).epoch = t.epoch ∧ (advanceTime c t n).pps = t.pps := by
  unfold advanceTime runWall runGrid
  dsimp only
  by_cases h : t.gridOn <;> simp [h]

@[simp] theorem placeRing_copyTo (r : Record) (e : EventState) : (placeRing r e).copyTo = e.copyTo := by
  unfold placeRing; split <;> rfl

@[simp] theorem storeRecord_copyTo (r : Record) (e : EventState) : (storeRecord r e).copyTo = e.copyTo := by
  unfold storeRecord placeJournal
  split
  · cases e.journal.place e.retired false journalEnd r.size <;> simp
  · split <;> simp

@[simp] theorem foldl_storeRecord_copyTo : ∀ (l : List Record) (e : EventState),
    (l.foldl (fun e r => storeRecord r e) e).copyTo = e.copyTo
  | [], _ => rfl
  | r :: l, e => by rw [List.foldl_cons, foldl_storeRecord_copyTo l, storeRecord_copyTo]

@[simp] theorem watch_copyTo (n : Nat) (e : EventState) : (EventState.watch n e).copyTo = e.copyTo := rfl

@[simp] theorem takeOldest_copyTo (n : Nat) (e : EventState) : (takeOldest n e).copyTo = e.copyTo := by
  unfold takeOldest
  split
  · rfl
  · simp [EventState.refill]

@[simp] theorem retirePage_copyTo (n p k : Nat) (e : EventState) : (EventState.retirePage n p k e).copyTo = e.copyTo := by
  simp only [EventState.retirePage]
  split
  · rfl
  · split <;> rfl

@[simp] theorem placeCleared_copyTo (r : Record) (e : EventState) : (placeCleared r e).copyTo = e.copyTo := by
  unfold placeCleared placeJournal
  dsimp only
  split
  · rename_i e; simp at e; obtain ⟨_, _, _, rfl⟩ := e; simp
  · simp

@[simp] theorem take_lanes (code v : Nat) (x : PowerState) : (x.take code v).lanes = x.lanes := by
  unfold PowerState.take; repeat' first | rfl | split

@[simp] theorem take_mode (code v : Nat) (x : PowerState) : (x.take code v).mode = x.mode := by
  unfold PowerState.take; repeat' first | rfl | split

@[simp] theorem take_fixed (code v : Nat) (x : PowerState) : (x.take code v).fixed = x.fixed := by
  unfold PowerState.take; repeat' first | rfl | split

@[simp] theorem take_regulator (code v : Nat) (x : PowerState) : (x.take code v).regulator = x.regulator := by
  unfold PowerState.take; repeat' first | rfl | split

@[simp] theorem take_floor (code v : Nat) (x : PowerState) : (x.take code v).floor = x.floor := by
  unfold PowerState.take; repeat' first | rfl | split

@[simp] theorem inReset_straps (n : Nat) (x : BootState) : (x.inReset n).straps = x.straps := rfl

@[simp] theorem abortRoutine_seq (x : AuxState) : (abortRoutine x).seq = x.seq := by
  unfold abortRoutine; split <;> rfl

@[simp] theorem abortRoutine_captures (x : AuxState) : (abortRoutine x).captures = x.captures := by
  unfold abortRoutine; split <;> rfl

@[simp] theorem setSequence_captures (n : AuxSequence) (x : AuxState) : (setSequence n x).captures = x.captures := by
  unfold setSequence; split <;> rfl

@[simp] theorem takeSequence_captures (x : AuxState) : (takeSequence x).captures = x.captures := by
  unfold takeSequence; split <;> rfl


/-- Of the mask `n`, every bit is in the mask `m`. -/
structure Within (n m : Nat) : Prop where
  eq : n ||| m = m

theorem Within.trans {a b c : Nat} (h : Within b c) (k : Within a b) : Within a c :=
  ⟨by rw [← h.eq, ← Nat.or_assoc, k.eq]⟩

theorem Within.written {n m i : Nat} (h : Within n m) (k : n.testBit i = true) : ¬ m.testBit i = false := by
  rw [← h.eq, Nat.testBit_or, k]; simp

/-- What any operation of the module does: it leaves the queue alone, system time does not fall, the invariant stays, and of
the kinds of state only those of the mask change. -/
def Keeps (m : Nat) (s t : State) : Prop :=
  t.pending = s.pending ∧ s.time.ps ≤ t.time.ps ∧ (Inv s → Inv t) ∧ ∀ k : Kind, m.testBit k.ctorIdx = false → k.same s t

theorem Keeps.kind {m : Nat} {s t : State} (h : Keeps m s t) (k : Kind) (hk : m.testBit k.ctorIdx = false) : k.same s t := h.2.2.2 k hk

theorem Kind.same_refl (k : Kind) (s : State) : k.same s s := by cases k <;> exact Eq.refl _

theorem Kind.same_trans (k : Kind) {s t u : State} (h : k.same s t) (g : k.same t u) : k.same s u := by
  cases k <;> exact Eq.trans g h

theorem Keeps.refl {m : Nat} (s : State) : Keeps m s s := ⟨rfl, Nat.le_refl _, id, fun k _ => k.same_refl s⟩

theorem Keeps.trans {m : Nat} {s t u : State} (h : Keeps m s t) (k : Keeps m t u) : Keeps m s u :=
  ⟨k.1.trans h.1, Nat.le_trans h.2.1 k.2.1, fun i => k.2.2.1 (h.2.2.1 i), fun x hx => x.same_trans (h.2.2.2 x hx) (k.2.2.2 x hx)⟩

theorem Keeps.ite {m : Nat} {s a b : State} {c : Prop} [Decidable c] (h : Keeps m s a) (k : Keeps m s b) :
    Keeps m s (if c then a else b) := by
  split
  · exact h
  · exact k

theorem Keeps.foldl {m : Nat} {α : Type} {f : State → α → State} (h : ∀ t a, Keeps m t (f t a)) :
    ∀ (l : List α) (s : State), Keeps m s (l.foldl f s)
  | [], s => Keeps.refl s
  | a :: l, s => (h s a).trans (Keeps.foldl h l (f s a))

theorem Keeps.of {m : Nat} {s t : State} (hp : t.pending = s.pending) (ht : s.time.ps ≤ t.time.ps) (hi : Inv s → Inv t)
    (hk : ∀ k : Kind, m.testBit k.ctorIdx = false → k.same s t := by
      intro k hk
      cases k <;> first
        | exact Eq.refl _
        | (refine absurd hk (Within.written (by assumption) ?_); rfl)
        | (simp_all [Kind.same]; done)
        | (have e := Keeps.kind (by assumption) _ hk; simp_all [Kind.same]; done)
        | (simp_all [Kind.same]; (repeat' split) <;> simp_all; done)) : Keeps m s t := ⟨hp, ht, hi, hk⟩

/-- A record update that keeps system time. -/
theorem Keeps.upd {m : Nat} {s y : State} {clk boot pwr pcie sess turn evt prot inp cal flt trg seg edge aux mem xfer ham dmx eng sync jtag sent free}
    (h : Keeps m s y)
    (hi : Inv y → Inv ⟨y.time, clk, boot, pwr, pcie, sess, turn, evt, prot, inp, cal, flt, trg, seg, edge, aux, mem, xfer, ham, dmx, eng,
      sync, jtag, sent, free, y.pending⟩ := by
      intro hi
      first
        | exact ⟨by simpa [Sized, *] using hi.1, by simpa [*] using hi.2⟩
        | (obtain ⟨hi, hm⟩ := hi; simp only [Sized] at hi; simp_all +zetaDelta [Inv, Sized, Memory.wf_nil]))
    (hk : ∀ k : Kind, m.testBit k.ctorIdx = false → k.same y ⟨y.time, clk, boot, pwr, pcie, sess, turn, evt, prot, inp, cal, flt, trg, seg, edge, aux, mem, xfer,
      ham, dmx, eng, sync, jtag, sent, free, y.pending⟩ := by
      intro k hk
      cases k <;> first
        | exact Eq.refl _
        | (refine absurd hk (Within.written (by assumption) ?_); rfl)
        | (simp_all [Kind.same]; done)
        | (have e := Keeps.kind (by assumption) _ hk; simp_all [Kind.same]; done)
        | (simp_all [Kind.same]; (repeat' split) <;> simp_all; done)) :
    Keeps m s ⟨y.time, clk, boot, pwr, pcie, sess, turn, evt, prot, inp, cal, flt, trg, seg, edge, aux, mem, xfer, ham, dmx, eng, sync,
      jtag, sent, free, y.pending⟩ :=
  ⟨h.1, h.2.1, fun i => hi (h.2.2.1 i), fun x hx => x.same_trans (h.2.2.2 x hx) (hk x hx)⟩

theorem Keeps.updTime {m : Nat} {s y : State} {time clk boot pwr pcie sess turn evt prot inp cal flt trg seg edge aux mem xfer ham dmx eng sync jtag sent free}
    (h : Keeps m s y) (ht : y.time.ps ≤ time.ps := by first | exact Nat.le_refl _ | simp [*])
    (hi : Inv y → Inv ⟨y.time, clk, boot, pwr, pcie, sess, turn, evt, prot, inp, cal, flt, trg, seg, edge, aux, mem, xfer, ham, dmx, eng,
      sync, jtag, sent, free, y.pending⟩ := by
      intro hi
      first
        | exact ⟨by simpa [Sized, *] using hi.1, by simpa [*] using hi.2⟩
        | (obtain ⟨hi, hm⟩ := hi; simp only [Sized] at hi; simp_all +zetaDelta [Inv, Sized, Memory.wf_nil]))
    (hk : ∀ k : Kind, m.testBit k.ctorIdx = false → k.same y ⟨time, clk, boot, pwr, pcie, sess, turn, evt, prot, inp, cal, flt, trg, seg, edge, aux, mem, xfer,
      ham, dmx, eng, sync, jtag, sent, free, y.pending⟩ := by
      intro k hk
      cases k <;> first
        | exact Eq.refl _
        | (refine absurd hk (Within.written (by assumption) ?_); rfl)
        | (simp_all [Kind.same]; done)
        | (have e := Keeps.kind (by assumption) _ hk; simp_all [Kind.same]; done)
        | (simp_all [Kind.same]; (repeat' split) <;> simp_all; done)) :
    Keeps m s ⟨time, clk, boot, pwr, pcie, sess, turn, evt, prot, inp, cal, flt, trg, seg, edge, aux, mem, xfer, ham, dmx, eng, sync,
      jtag, sent, free, y.pending⟩ :=
  ⟨h.1, Nat.le_trans h.2.1 ht, fun i => hi (h.2.2.1 i), fun x hx => x.same_trans (h.2.2.2 x hx) (hk x hx)⟩

/-- The result of a command, where it is a next state, is reached by operations that keep. -/
def KeepsR (m : Nat) (s : State) (r : Result) : Prop := ∀ t, r = .next t → Keeps m s t

theorem KeepsR.next {m : Nat} {s t : State} (h : Keeps m s t) : KeepsR m s (.next t) := fun _ e => by cases e; exact h

theorem KeepsR.ite {m : Nat} {s : State} {a b : Result} {c : Prop} [Decidable c] (h : KeepsR m s a) (k : KeepsR m s b) :
    KeepsR m s (if c then a else b) := by
  split
  · exact h
  · exact k

theorem Keeps.cut {m : Nat} {s y v t : State} (e : y = v) (h : Keeps m s v) (k : Keeps m s y → Keeps m s t) : Keeps m s t := k (e ▸ h)

theorem KeepsR.cut {m : Nat} {s y v : State} {r : Result} (e : y = v) (h : Keeps m s v) (k : Keeps m s y → KeepsR m s r) : KeepsR m s r :=
  k (e ▸ h)


end Sys2Proof.Machine
end

