-- ==== Sys2Proof/Laws/KeepsA.lean ====
section
/-! SUPPORT. Operations that keep, each after those it calls (1 of 6). -/

set_option Elab.async false

namespace Sys2Proof.Machine

theorem updInput_keeps {m : Nat} x0 x1 s (hm : Within 524288 m := by first | exact .trans (by assumption) ⟨rfl⟩ | exact ⟨rfl⟩) : Keeps m s (updInput x0 x1 s) := by
  unfold updInput
  refine .upd ?_
  exact .refl _

theorem postponeSeam_keeps {m : Nat} x0 s (hm : Within 524288 m := by first | exact .trans (by assumption) ⟨rfl⟩ | exact ⟨rfl⟩) : Keeps m s (postponeSeam x0 s) := by
  unfold postponeSeam
  refine .trans ?_ (updInput_keeps ..)
  exact .refl _

theorem abandonSeam_keeps {m : Nat} x0 x1 x2 s (hm : Within 524288 m := by first | exact .trans (by assumption) ⟨rfl⟩ | exact ⟨rfl⟩) : Keeps m s (abandonSeam x0 x1 x2 s) := by
  unfold abandonSeam
  split
  · refine .ite ?_ (by exact .refl _)
    refine .trans ?_ (postponeSeam_keeps ..)
    exact .refl _
  · exact .refl _

theorem forAll_keeps {m : Nat} {α : Type} (x1 : List α) (x2 : α → State → State) s (h : ∀ a s, Keeps m s (x2 a s))  : Keeps m s (forAll x1 x2 s) := by
  unfold forAll
  refine .trans ?_ (Keeps.foldl ?_ _ _)
  rotate_left
  · intro t0 t1
    refine .trans ?_ (h _ _)
    exact .refl _
  exact .refl _

theorem abandonSeams_keeps {m : Nat} x0 x1 s (hm : Within 524288 m := by first | exact .trans (by assumption) ⟨rfl⟩ | exact ⟨rfl⟩) : Keeps m s (abandonSeams x0 x1 s) := by
  unfold abandonSeams
  refine .trans ?_ (forAll_keeps _ _ _ ?_)
  rotate_left
  · intro t0 t1
    refine .trans ?_ (abandonSeam_keeps ..)
    exact .refl _
  refine .trans ?_ (abandonSeam_keeps ..)
  exact .refl _

theorem updChannel_keeps {m : Nat} x0 x1 s  : Keeps m s (updChannel x0 x1 s) := by
  unfold updChannel
  refine .upd ?_
  exact .refl _

theorem forEach_keeps {m : Nat} x0 x1 s (h : ∀ a s, Keeps m s (x1 a s))  : Keeps m s (forEach x0 x1 s) := by
  unfold forEach
  refine .trans ?_ (Keeps.foldl ?_ _ _)
  rotate_left
  · intro t0 t1
    refine .trans ?_ (h _ _)
    exact .refl _
  exact .refl _

theorem updLoop_keeps {m : Nat} x0 x1 s  : Keeps m s (updLoop x0 x1 s) := by
  unfold updLoop
  refine .upd ?_
  exact .refl _

theorem beginRate_keeps {m : Nat} x0 x1 x2 s  : Keeps m s (beginRate x0 x1 x2 s) := by
  unfold beginRate
  extract_lets -merge -useContext +onlyGivenNames y0; clear_value (e1 : y0 = _)
  refine .cut e1 ?_ fun h2 => ?_
  · refine .trans ?_ (forEach_keeps _ _ _ ?_)
    rotate_left
    · intro t3 t4
      refine .trans ?_ (updChannel_keeps ..)
      exact .refl _
    exact .refl _
  clear e1
  refine .trans ?_ (updLoop_keeps ..)
  refine .upd ?_
  exact h2

theorem endStep_keeps {m : Nat} s  : Keeps m s (endStep s) := by
  unfold endStep
  extract_lets -merge -useContext +onlyGivenNames y0; clear_value (e1 : y0 = _)
  extract_lets -merge -useContext +onlyGivenNames y2; clear_value (e3 : y2 = _)
  refine .cut e3 ?_ fun h4 => ?_
  · refine .upd ?_
    exact .refl _
  clear e3
  split
  · refine .trans ?_ (beginRate_keeps ..)
    refine .upd ?_
    exact h4
  · exact h4

theorem emit_keeps {m : Nat} x0 x1 x2 s  : Keeps m s (emit x0 x1 x2 s) := by
  unfold emit
  refine .upd ?_
  exact .refl _

theorem sendMsix_keeps {m : Nat} x0 s  : Keeps m s (sendMsix x0 s) := by
  unfold sendMsix
  refine .ite ?_ ?_
  · refine .upd ?_
    exact .refl _
  · refine .ite ?_ (by exact .refl _)
    refine .trans ?_ (emit_keeps ..)
    exact .refl _

theorem setIrq_keeps {m : Nat} x0 s  : Keeps m s (setIrq x0 s) := by
  unfold setIrq
  extract_lets -merge -useContext +onlyGivenNames y0; clear_value (e1 : y0 = _)
  extract_lets -merge -useContext +onlyGivenNames y2; clear_value (e3 : y2 = _)
  refine .cut e3 ?_ fun h4 => ?_
  · refine .upd ?_
    exact .refl _
  clear e3
  refine .ite ?_ (by exact h4)
  refine .trans ?_ (sendMsix_keeps ..)
  exact h4

theorem assertAlert_keeps {m : Nat} x0 s  : Keeps m s (assertAlert x0 s) := by
  unfold assertAlert
  refine .ite (by exact .refl _) ?_
  extract_lets -merge -useContext +onlyGivenNames y0; clear_value (e1 : y0 = _)
  extract_lets -merge -useContext +onlyGivenNames y2; clear_value (e3 : y2 = _)
  refine .cut e3 ?_ fun h4 => ?_
  · refine .upd ?_
    exact .refl _
  clear e3
  refine .ite ?_ (by exact h4)
  refine .trans ?_ (setIrq_keeps ..)
  exact h4

theorem dropRecord_keeps {m : Nat} x0 s  : Keeps m s (dropRecord x0 s) := by
  unfold dropRecord
  extract_lets -merge -useContext +onlyGivenNames y0; clear_value (e1 : y0 = _)
  extract_lets -merge -useContext +onlyGivenNames y2; clear_value (e3 : y2 = _)
  refine .trans ?_ (assertAlert_keeps ..)
  refine .upd ?_
  exact .refl _

theorem stageRecord_keeps {m : Nat} x0 s  : Keeps m s (stageRecord x0 s) := by
  unfold stageRecord
  extract_lets -merge -useContext +onlyGivenNames y0; first | clear_value (e1 : y0 = _) | skip
  extract_lets -merge -useContext +onlyGivenNames y2; first | clear_value (e3 : y2 = _) | skip
  extract_lets -merge -useContext +onlyGivenNames y4; first | clear_value (e5 : y4 = _) | skip
  extract_lets -merge -useContext +onlyGivenNames y6; first | clear_value (e7 : y6 = _) | skip
  refine .ite ?_ ?_
  · refine .upd ?_
    exact .refl _
  · refine .trans ?_ (dropRecord_keeps ..)
    refine .upd ?_
    exact .refl _

theorem openRecord_keeps {m : Nat} x0 x1 s  : Keeps m s (openRecord x0 x1 s) := by
  unfold openRecord
  refine .upd ?_
  exact .refl _

theorem stageBody_keeps {m : Nat} x0 x1 s  : Keeps m s (stageBody x0 x1 s) := by
  unfold stageBody
  refine .ite (by exact .refl _) ?_
  refine .ite ?_ ?_
  · refine .trans ?_ (stageRecord_keeps ..)
    exact .refl _
  · refine .trans ?_ (openRecord_keeps ..)
    exact .refl _

theorem record_keeps {m : Nat} x0 x1 s  : Keeps m s (record x0 x1 s) := by
  unfold record
  refine .trans ?_ (stageBody_keeps ..)
  exact .refl _

theorem abandonStep_keeps {m : Nat} x0 s  : Keeps m s (abandonStep x0 s) := by
  unfold abandonStep
  extract_lets -merge -useContext +onlyGivenNames y0; clear_value (e1 : y0 = _)
  refine .cut e1 ?_ fun h2 => ?_
  · refine .trans ?_ (updChannel_keeps ..)
    exact .refl _
  clear e1
  extract_lets -merge -useContext +onlyGivenNames y3; clear_value (e4 : y3 = _)
  refine .trans ?_ (endStep_keeps ..)
  refine .trans ?_ (record_keeps ..)
  exact h2

theorem keepWindow_keeps {m : Nat} x0 x1 s  : Keeps m s (keepWindow x0 x1 s) := by
  unfold keepWindow
  refine .upd ?_
  exact .refl _

theorem keepView_keeps {m : Nat} x0 x1 s  : Keeps m s (keepView x0 x1 s) := by
  unfold keepView
  refine .upd ?_
  exact .refl _

theorem updSg_keeps {m : Nat} x0 x1 s (hm : Within 1073741824 m := by first | exact .trans (by assumption) ⟨rfl⟩ | exact ⟨rfl⟩) : Keeps m s (updSg x0 x1 s) := by
  unfold updSg
  refine .upd ?_
  exact .refl _

theorem updTg_keeps {m : Nat} x0 x1 s (hm : Within 134217728 m := by first | exact .trans (by assumption) ⟨rfl⟩ | exact ⟨rfl⟩) : Keeps m s (updTg x0 x1 s) := by
  unfold updTg
  refine .upd ?_
  exact .refl _

theorem takeFree_keeps {m : Nat} s  : Keeps m s (takeFree s).2 := by
  unfold takeFree
  refine Keeps.upd (Keeps.refl _)

theorem classifiedPs_keeps {m : Nat} s  : Keeps m s (classifiedPs s).2 := takeFree_keeps s

theorem recordLimited_keeps {m : Nat} x0 x1 x2 x3 s  : Keeps m s (recordLimited x0 x1 x2 x3 s) := by
  unfold recordLimited
  refine .ite (by exact .refl _) ?_
  refine .trans ?_ (record_keeps ..)
  refine .upd ?_
  exact .refl _

theorem updMarker_keeps {m : Nat} x0 x1 s (hm : Within 268435456 m := by first | exact .trans (by assumption) ⟨rfl⟩ | exact ⟨rfl⟩) : Keeps m s (updMarker x0 x1 s) := by
  unfold updMarker
  refine .upd ?_
  exact .refl _

theorem driveMarker_keeps {m : Nat} x0 x1 s (hm : Within 268435456 m := by first | exact .trans (by assumption) ⟨rfl⟩ | exact ⟨rfl⟩) : Keeps m s (driveMarker x0 x1 s) := by
  unfold driveMarker
  refine .ite (by exact .refl _) ?_
  refine .trans ?_ (emit_keeps ..)
  refine .trans ?_ (updMarker_keeps ..)
  exact .refl _

theorem scheduleEdge_keeps {m : Nat} x0 x1 x2 x3 s (hm : Within 268435456 m := by first | exact .trans (by assumption) ⟨rfl⟩ | exact ⟨rfl⟩) : Keeps m s (scheduleEdge x0 x1 x2 x3 s) := by
  unfold scheduleEdge
  refine .ite ?_ ?_
  · refine .trans ?_ (recordLimited_keeps ..)
    refine .trans ?_ (driveMarker_keeps ..)
    exact .refl _
  · refine .trans ?_ (updMarker_keeps ..)
    exact .refl _

theorem markReady_keeps {m : Nat} x0 x1 s (hm : Within 268435456 m := by first | exact .trans (by assumption) ⟨rfl⟩ | exact ⟨rfl⟩) : Keeps m s (markReady x0 x1 s) := by
  unfold markReady
  refine .trans ?_ (forEach_keeps _ _ _ ?_)
  rotate_left
  · intro t0 t1
    refine .ite ?_ (by exact .refl _)
    extract_lets -merge -useContext +onlyGivenNames y2; clear_value (e3 : y2 = _)
    refine .trans ?_ (scheduleEdge_keeps ..)
    subst e3
    refine .trans ?_ (classifiedPs_keeps ..)
    exact .refl _
  exact .refl _

theorem carrying_keeps {m : Nat} x0 s (h : ∀ s, Keeps m s (x0 s))  : Keeps m s (carrying x0 s) := by
  unfold carrying
  extract_lets -merge -useContext +onlyGivenNames y0; clear_value (e1 : y0 = _)
  extract_lets -merge -useContext +onlyGivenNames y2; clear_value (e3 : y2 = _)
  extract_lets -merge -useContext +onlyGivenNames y4; clear_value (e5 : y4 = _)
  refine .cut e5 ?_ fun h6 => ?_
  · refine .trans ?_ (h _)
    refine .upd ?_
    exact .refl _
  clear e5
  refine .upd ?_
  exact h6

theorem protectedDone_keeps {m : Nat} x0 x1 s  : Keeps m s (protectedDone x0 x1 s) := by
  unfold protectedDone
  split
  · exact .refl _
  · refine .trans ?_ (carrying_keeps _ _ ?_)
    rotate_left
    · intro t0
      refine .trans ?_ (record_keeps ..)
      exact .refl _
    exact .refl _

theorem capture_keeps {m : Nat} x0 x1 s  : Keeps m s (capture x0 x1 s) := by
  unfold capture
  refine .upd ?_
  exact .refl _

theorem updSession_keeps {m : Nat} x0 x1 s  : Keeps m s (updSession x0 x1 s) := by
  unfold updSession
  refine .upd ?_
  exact .refl _

theorem deliver_keeps {m : Nat} x0 x1 x2 s  : Keeps m s (deliver x0 x1 x2 s) := by
  unfold deliver
  extract_lets -merge -useContext +onlyGivenNames y0; clear_value (e1 : y0 = _)
  extract_lets -merge -useContext +onlyGivenNames y2; clear_value (e3 : y2 = _)
  extract_lets -merge -useContext +onlyGivenNames y4; clear_value (e5 : y4 = _)
  refine .cut e5 ?_ fun h6 => ?_
  · refine .trans ?_ (capture_keeps ..)
    exact .refl _
  clear e5
  extract_lets -merge -useContext +onlyGivenNames y7; clear_value (e8 : y7 = _)
  refine .cut e8 ?_ fun h9 => ?_
  · refine .trans ?_ (updSession_keeps ..)
    exact h6
  clear e8
  refine .ite ?_ ?_
  · extract_lets -merge -useContext +onlyGivenNames y10; clear_value (e11 : y10 = _)
    refine .cut e11 ?_ fun h12 => ?_
    · refine .trans ?_ (setIrq_keeps ..)
      exact h9
    clear e11
    refine .ite ?_ (by exact h12)
    refine .trans ?_ (sendMsix_keeps ..)
    exact h12
  · refine .ite ?_ (by exact h9)
    refine .trans ?_ (emit_keeps ..)
    exact h9

theorem reply_keeps {m : Nat} x0 x1 x2 s  : Keeps m s (reply x0 x1 x2 s) := by
  unfold reply
  extract_lets -merge -useContext +onlyGivenNames y0; clear_value (e1 : y0 = _)
  refine .cut e1 ?_ fun h2 => ?_
  · refine .trans ?_ (protectedDone_keeps ..)
    exact .refl _
  clear e1
  extract_lets -merge -useContext +onlyGivenNames y3; clear_value (e4 : y3 = _)
  refine .ite ?_ (by exact h2)
  refine .trans ?_ (deliver_keeps ..)
  exact h2

theorem endCapture_keeps {m : Nat} x0 x1 s (hm : Within 1476395008 m := by first | exact .trans (by assumption) ⟨rfl⟩ | exact ⟨rfl⟩) : Keeps m s (endCapture x0 x1 s) := by
  unfold endCapture
  extract_lets -merge -useContext +onlyGivenNames y0; clear_value (e1 : y0 = _)
  refine .cut e1 ?_ fun h2 => ?_
  · refine .trans ?_ (keepWindow_keeps ..)
    refine .trans ?_ (keepView_keeps ..)
    exact .refl _
  clear e1
  extract_lets -merge -useContext +onlyGivenNames y3; clear_value (e4 : y3 = _)
  extract_lets -merge -useContext +onlyGivenNames y5; clear_value (e6 : y5 = _)
  extract_lets -merge -useContext +onlyGivenNames y7; clear_value (e8 : y7 = _)
  refine .cut e8 ?_ fun h9 => ?_
  · refine .trans ?_ (record_keeps ..)
    exact h2
  clear e8
  extract_lets -merge -useContext +onlyGivenNames y10; clear_value (e11 : y10 = _)
  extract_lets -merge -useContext +onlyGivenNames y12; clear_value (e13 : y12 = _)
  refine .cut e13 ?_ fun h14 => ?_
  · refine .trans ?_ (updSg_keeps ..)
    exact h9
  clear e13
  extract_lets -merge -useContext +onlyGivenNames y15; clear_value (e16 : y15 = _)
  refine .cut e16 ?_ fun h17 => ?_
  · refine .trans ?_ (updTg_keeps ..)
    exact h14
  clear e16
  extract_lets -merge -useContext +onlyGivenNames y18; clear_value (e19 : y18 = _)
  refine .cut e19 ?_ fun h20 => ?_
  · refine .trans ?_ (markReady_keeps ..)
    exact h17
  clear e19
  extract_lets -merge -useContext +onlyGivenNames y21; clear_value (e22 : y21 = _)
  refine .cut e22 ?_ fun h23 => ?_
  · refine .trans ?_ (forAll_keeps _ _ _ ?_)
    rotate_left
    · intro t24 t25
      refine .trans ?_ (reply_keeps ..)
      exact .refl _
    exact h20
  clear e22
  refine .trans ?_ (forAll_keeps _ _ _ ?_)
  rotate_left
  · intro t26 t27
    refine .trans ?_ (reply_keeps ..)
    exact .refl _
  exact h23

theorem handSegment_keeps {m : Nat} x0 x1 s (hm : Within 4294967296 m := by first | exact .trans (by assumption) ⟨rfl⟩ | exact ⟨rfl⟩) : Keeps m s (handSegment x0 x1 s) := by
  unfold handSegment
  refine .upd ?_
  exact .refl _

theorem discardFill_keeps {m : Nat} x0 s (hm : Within 5502926848 m := by first | exact .trans (by assumption) ⟨rfl⟩ | exact ⟨rfl⟩) : Keeps m s (discardFill x0 s) := by
  unfold discardFill
  split
  · exact .refl _
  · refine .trans ?_ (handSegment_keeps ..)
    refine .trans ?_ (updTg_keeps ..)
    refine .trans ?_ (updSg_keeps ..)
    exact .refl _

theorem abortCapture_keeps {m : Nat} x0 x1 s (hm : Within 5771362304 m := by first | exact .trans (by assumption) ⟨rfl⟩ | exact ⟨rfl⟩) : Keeps m s (abortCapture x0 x1 s) := by
  unfold abortCapture
  extract_lets -merge -useContext +onlyGivenNames y0; clear_value (e1 : y0 = _)
  split
  · refine .trans ?_ (endCapture_keeps ..)
    refine .trans ?_ (updSg_keeps ..)
    refine .trans ?_ (discardFill_keeps ..)
    exact .refl _
  · refine .trans ?_ (endCapture_keeps ..)
    refine .trans ?_ (updSg_keeps ..)
    refine .trans ?_ (discardFill_keeps ..)
    exact .refl _
  · exact .refl _

theorem updTach_keeps {m : Nat} x0 x1 s (hm : Within 2147483648 m := by first | exact .trans (by assumption) ⟨rfl⟩ | exact ⟨rfl⟩) : Keeps m s (updTach x0 x1 s) := by
  unfold updTach
  refine .upd ?_
  exact .refl _

theorem updPh_keeps {m : Nat} x0 x1 s (hm : Within 17179869184 m := by first | exact .trans (by assumption) ⟨rfl⟩ | exact ⟨rfl⟩) : Keeps m s (updPh x0 x1 s) := by
  unfold updPh
  refine .upd ?_
  exact .refl _

theorem memWrite_keeps {m : Nat} x0 x1 s (hm : Within 274877906944 m := by first | exact .trans (by assumption) ⟨rfl⟩ | exact ⟨rfl⟩) : Keeps m s (memWrite x0 x1 s) := by
  refine (Keeps.of rfl (Nat.le_refl _) (fun hi => ⟨by simpa [Sized, memWrite] using hi.1, ?_⟩))
  refine writeCells_wf hi.2 ?_
  by_cases h : x0 ≤ addressSpace
  · left; simp only [List.length_take]; omega
  · right
    have : min s.userSize addressSpace - x0 = 0 := by omega
    rw [this, List.take_zero]

theorem placeEntry_keeps {m : Nat} x0 x1 s (hm : Within 292057776128 m := by first | exact .trans (by assumption) ⟨rfl⟩ | exact ⟨rfl⟩) : Keeps m s (placeEntry x0 x1 s) := by
  unfold placeEntry
  split
  · exact .refl _
  · extract_lets -merge -useContext +onlyGivenNames y0; clear_value (e1 : y0 = _)
    refine .trans ?_ (updPh_keeps ..)
    refine .trans ?_ (memWrite_keeps ..)
    exact .refl _

theorem placeOffer_keeps {m : Nat} x0 x1 s (hm : Within 292057776128 m := by first | exact .trans (by assumption) ⟨rfl⟩ | exact ⟨rfl⟩) : Keeps m s (placeOffer x0 x1 s) := by
  unfold placeOffer
  refine .trans ?_ (forAll_keeps _ _ _ ?_)
  rotate_left
  · intro t0 t1
    refine .trans ?_ (placeEntry_keeps ..)
    exact .refl _
  exact .refl _

theorem droppingRecord_keeps {m : Nat} x0 x1 x2 s  : Keeps m s (droppingRecord x0 x1 x2 s) := by
  unfold droppingRecord
  extract_lets -merge -useContext +onlyGivenNames y0; clear_value (e1 : y0 = _)
  refine .ite ?_ ?_
  · refine .upd ?_
    exact .refl _
  · refine .trans ?_ (record_keeps ..)
    refine .upd ?_
    exact .refl _

theorem noteDrops_keeps {m : Nat} x0 x1 x2 s (hm : Within 17179869184 m := by first | exact .trans (by assumption) ⟨rfl⟩ | exact ⟨rfl⟩) : Keeps m s (noteDrops x0 x1 x2 s) := by
  unfold noteDrops
  split
  · exact .refl _
  · extract_lets -merge -useContext +onlyGivenNames y0; clear_value (e1 : y0 = _)
    extract_lets -merge -useContext +onlyGivenNames y2; clear_value (e3 : y2 = _)
    refine .cut e3 ?_ fun h4 => ?_
    · refine .trans ?_ (updPh_keeps ..)
      exact .refl _
    clear e3
    refine .ite ?_ (by exact h4)
    refine .trans ?_ (droppingRecord_keeps ..)
    exact h4

theorem dropOffer_keeps {m : Nat} x0 x1 s (hm : Within 17179869184 m := by first | exact .trans (by assumption) ⟨rfl⟩ | exact ⟨rfl⟩) : Keeps m s (dropOffer x0 x1 s) := by
  unfold dropOffer
  refine .trans ?_ (noteDrops_keeps ..)
  refine .trans ?_ (updPh_keeps ..)
  exact .refl _

theorem applyPolicy_keeps {m : Nat} x0 x1 x2 s (hm : Within 292057776128 m := by first | exact .trans (by assumption) ⟨rfl⟩ | exact ⟨rfl⟩) : Keeps m s (applyPolicy x0 x1 x2 s) := by
  unfold applyPolicy
  split
  · refine .trans ?_ (updPh_keeps ..)
    exact .refl _
  · extract_lets -merge -useContext +onlyGivenNames y0; clear_value (e1 : y0 = _)
    refine .trans ?_ (placeOffer_keeps ..)
    refine .trans ?_ (noteDrops_keeps ..)
    refine .trans ?_ (updPh_keeps ..)
    exact .refl _
  · refine .trans ?_ (dropOffer_keeps ..)
    exact .refl _

theorem offer_keeps {m : Nat} x0 x1 s (hm : Within 292057776128 m := by first | exact .trans (by assumption) ⟨rfl⟩ | exact ⟨rfl⟩) : Keeps m s (offer x0 x1 s) := by
  unfold offer
  split
  · exact .refl _
  · refine .ite ?_ ?_
    · refine .trans ?_ (recordLimited_keeps ..)
      refine .trans ?_ (updPh_keeps ..)
      exact .refl _
    · refine .ite ?_ ?_
      · refine .trans ?_ (placeOffer_keeps ..)
        exact .refl _
      · refine .trans ?_ (applyPolicy_keeps ..)
        exact .refl _

theorem updBind_keeps {m : Nat} x0 x1 x2 s  : Keeps m s (updBind x0 x1 x2 s) := by
  unfold updBind
  refine .upd ?_
  exact .refl _

theorem offerBound_keeps {m : Nat} x0 x1 x2 x3 x4 s (hm : Within 292057776128 m := by first | exact .trans (by assumption) ⟨rfl⟩ | exact ⟨rfl⟩) : Keeps m s (offerBound x0 x1 x2 x3 x4 s) := by
  unfold offerBound
  extract_lets -merge -useContext +onlyGivenNames y0; clear_value (e1 : y0 = _)
  extract_lets -merge -useContext +onlyGivenNames y2; clear_value (e3 : y2 = _)
  refine .cut e3 ?_ fun h4 => ?_
  · refine .trans ?_ (offer_keeps ..)
    exact .refl _
  clear e3
  refine .ite ?_ (by exact h4)
  refine .trans ?_ (updBind_keeps ..)
  exact h4

theorem mapJobs_keeps {m : Nat} x0 s  : Keeps m s (mapJobs x0 s) := by
  unfold mapJobs
  refine .upd ?_
  exact .refl _

theorem feed_keeps {m : Nat} x0 x1 x2 x3 s  : Keeps m s (feed x0 x1 x2 x3 s) := by
  unfold feed
  extract_lets -merge -useContext +onlyGivenNames y0; clear_value (e1 : y0 = _)
  extract_lets -merge -useContext +onlyGivenNames y2; clear_value (e3 : y2 = _)
  extract_lets -merge -useContext +onlyGivenNames y4; clear_value (e5 : y4 = _)
  extract_lets -merge -useContext +onlyGivenNames y6; clear_value (e7 : y6 = _)
  extract_lets -merge -useContext +onlyGivenNames y8; clear_value (e9 : y8 = _)
  refine .trans ?_ (mapJobs_keeps ..)
  exact .refl _

theorem setTap_keeps {m : Nat} x0 s  : Keeps m s (setTap x0 s) := by
  unfold setTap
  extract_lets -merge -useContext +onlyGivenNames y0; clear_value (e1 : y0 = _)
  refine .upd ?_
  exact .refl _

theorem drainTap_keeps {m : Nat} x0 x1 x2 s  : Keeps m s (drainTap x0 x1 x2 s) := by
  unfold drainTap
  extract_lets -merge -useContext +onlyGivenNames y0; clear_value (e1 : y0 = _)
  refine .ite (by exact .refl _) ?_
  refine .trans ?_ (feed_keeps ..)
  refine .trans ?_ (setTap_keeps ..)
  exact .refl _

theorem tapData_keeps {m : Nat} x0 x1 x2 x3 x4 s  : Keeps m s (tapData x0 x1 x2 x3 x4 s) := by
  unfold tapData
  extract_lets -merge -useContext +onlyGivenNames y0; clear_value (e1 : y0 = _)
  refine .cut e1 ?_ fun h2 => ?_
  · refine .trans ?_ (drainTap_keeps ..)
    exact .refl _
  clear e1
  extract_lets -merge -useContext +onlyGivenNames y3; clear_value (e4 : y3 = _)
  refine .ite ?_ ?_
  · refine .trans ?_ (setTap_keeps ..)
    exact h2
  · refine .ite ?_ ?_
    · refine .trans ?_ (drainTap_keeps ..)
      refine .trans ?_ (setTap_keeps ..)
      exact h2
    · refine .trans ?_ (feed_keeps ..)
      exact h2

theorem pushData_keeps {m : Nat} x0 x1 x2 s  : Keeps m s (pushData x0 x1 x2 s) := by
  unfold pushData
  split
  · exact .refl _
  · refine .trans ?_ (forAll_keeps _ _ _ ?_)
    rotate_left
    · intro t0 t1
      refine .trans ?_ (tapData_keeps ..)
      exact .refl _
    exact .refl _

theorem deliverGate_keeps {m : Nat} x0 x1 s (hm : Within 294205259776 m := by first | exact .trans (by assumption) ⟨rfl⟩ | exact ⟨rfl⟩) : Keeps m s (deliverGate x0 x1 s) := by
  unfold deliverGate
  extract_lets +onlyGivenNames g
  split
  rename_i r t e
  have h0 : Keeps m s t := by have := takeFree_keeps (m := m) s; rw [e] at this; exact this
  extract_lets +onlyGivenNames bytes y; clear_value (e1 : y = _)
  refine .cut e1 (h0.trans (updTach_keeps _ _ _)) fun h1 => ?_
  clear e1
  extract_lets +onlyGivenNames z; clear_value (e2 : z = _)
  refine .cut e2 ?_ fun h2 => ?_
  · split
    · exact h1.trans (offerBound_keeps _ _ _ _ _ _)
    · exact h1
  exact h2.trans (pushData_keeps _ _ _ _)

theorem abortGate_keeps {m : Nat} x0 s (hm : Within 294205259776 m := by first | exact .trans (by assumption) ⟨rfl⟩ | exact ⟨rfl⟩) : Keeps m s (abortGate x0 s) := by
  unfold abortGate
  extract_lets -merge -useContext +onlyGivenNames y0; clear_value (e1 : y0 = _)
  refine .ite ?_ (by exact .refl _)
  extract_lets -merge -useContext +onlyGivenNames y2; clear_value (e3 : y2 = _)
  refine .cut e3 ?_ fun h4 => ?_
  · refine .trans ?_ (deliverGate_keeps ..)
    refine .trans ?_ (updTach_keeps ..)
    exact .refl _
  clear e3
  refine .trans ?_ (updTach_keeps ..)
  exact h4

theorem abortGates_keeps {m : Nat} s (hm : Within 294205259776 m := by first | exact .trans (by assumption) ⟨rfl⟩ | exact ⟨rfl⟩) : Keeps m s (abortGates s) := by
  unfold abortGates
  refine .trans ?_ (forEach_keeps _ _ _ ?_)
  rotate_left
  · intro t0 t1
    extract_lets -merge -useContext +onlyGivenNames y2; clear_value (e3 : y2 = _)
    refine .trans ?_ (updTach_keeps ..)
    refine .trans ?_ (abortGate_keeps ..)
    exact .refl _
  exact .refl _

theorem noteAbort_keeps {m : Nat} x0 s (hm : Within 1073741824 m := by first | exact .trans (by assumption) ⟨rfl⟩ | exact ⟨rfl⟩) : Keeps m s (noteAbort x0 s) := by
  unfold noteAbort
  refine .trans ?_ (updSg_keeps ..)
  exact .refl _

theorem endFill_keeps {m : Nat} x0 x1 s (hm : Within 1073741824 m := by first | exact .trans (by assumption) ⟨rfl⟩ | exact ⟨rfl⟩) : Keeps m s (endFill x0 x1 s) := by
  unfold endFill
  split
  · exact .refl _
  · refine .ite (by exact .refl _) ?_
    extract_lets -merge -useContext +onlyGivenNames y0; clear_value (e1 : y0 = _)
    refine .trans ?_ (updSg_keeps ..)
    exact .refl _

theorem abortStop_keeps {m : Nat} x0 s (hm : Within 5502926848 m := by first | exact .trans (by assumption) ⟨rfl⟩ | exact ⟨rfl⟩) : Keeps m s (abortStop x0 s) := by
  unfold abortStop
  extract_lets -merge -useContext +onlyGivenNames y0; clear_value (e1 : y0 = _)
  refine .cut e1 ?_ fun h2 => ?_
  · refine .trans ?_ (noteAbort_keeps ..)
    refine .trans ?_ (endFill_keeps ..)
    exact .refl _
  clear e1
  refine .ite ?_ (by exact h2)
  refine .trans ?_ (discardFill_keeps ..)
  refine .trans ?_ (updSg_keeps ..)
  exact h2

theorem updEngine_keeps {m : Nat} x0 x1 s  : Keeps m s (updEngine x0 x1 s) := by
  unfold updEngine
  refine .upd ?_
  exact .refl _

theorem updJob_keeps {m : Nat} x0 x1 s  : Keeps m s (updJob x0 x1 s) := by
  unfold updJob
  refine .upd ?_
  exact .refl _

theorem writeResult_keeps {m : Nat} x0 x1 x2 x3 x4 s (hm : Within 292057776128 m := by first | exact .trans (by assumption) ⟨rfl⟩ | exact ⟨rfl⟩) : Keeps m s (writeResult x0 x1 x2 x3 x4 s) := by
  unfold writeResult
  split
  · exact .refl _
  · extract_lets -merge -useContext +onlyGivenNames y0; clear_value (e1 : y0 = _)
    refine .cut e1 ?_ fun h2 => ?_
    · refine .trans ?_ (offer_keeps ..)
      exact .refl _
    clear e1
    refine .ite ?_ (by exact h2)
    refine .trans ?_ (updEngine_keeps ..)
    exact h2

theorem abortTask_keeps {m : Nat} x0 x1 s (hm : Within 292057776128 m := by first | exact .trans (by assumption) ⟨rfl⟩ | exact ⟨rfl⟩) : Keeps m s (abortTask x0 x1 s) := by
  unfold abortTask
  split
  · exact .refl _
  · extract_lets -merge -useContext +onlyGivenNames y0; clear_value (e1 : y0 = _)
    refine .cut e1 ?_ fun h2 => ?_
    · refine .trans ?_ (updEngine_keeps ..)
      exact .refl _
    clear e1
    split
    · exact h2
    · extract_lets -merge -useContext +onlyGivenNames y3; clear_value (e4 : y3 = _)
      refine .cut e4 ?_ fun h5 => ?_
      · refine .trans ?_ (updJob_keeps ..)
        exact h2
      clear e4
      refine .ite (by exact h5) ?_
      refine .trans ?_ (updJob_keeps ..)
      refine .trans ?_ (writeResult_keeps ..)
      exact h5

theorem openSession_keeps {m : Nat} x0 x1 x2 s  : Keeps m s (openSession x0 x1 x2 s) := by
  unfold openSession
  extract_lets -merge -useContext +onlyGivenNames y0; clear_value (e1 : y0 = _)
  refine .cut e1 ?_ fun h2 => ?_
  · refine .trans ?_ (updSession_keeps ..)
    exact .refl _
  clear e1
  refine .trans ?_ (carrying_keeps _ _ ?_)
  rotate_left
  · intro t3
    refine .trans ?_ (record_keeps ..)
    exact .refl _
  exact h2

theorem acceptOpen_keeps {m : Nat} x0 x1 x2 s  : Keeps m s (acceptOpen x0 x1 x2 s) := by
  unfold acceptOpen
  extract_lets -merge -useContext +onlyGivenNames y0; clear_value (e1 : y0 = _)
  extract_lets -merge -useContext +onlyGivenNames y2; clear_value (e3 : y2 = _)
  refine .cut e3 ?_ fun h4 => ?_
  · refine .trans ?_ (carrying_keeps _ _ ?_)
    rotate_left
    · intro t5
      refine .trans ?_ (stageBody_keeps ..)
      exact .refl _
    exact .refl _
  clear e3
  extract_lets -merge -useContext +onlyGivenNames y6; clear_value (e7 : y6 = _)
  refine .cut e7 ?_ fun h8 => ?_
  · refine .trans ?_ (openSession_keeps ..)
    exact h4
  clear e7
  extract_lets -merge -useContext +onlyGivenNames y9; clear_value (e10 : y9 = _)
  refine .cut e10 ?_ fun h11 => ?_
  · refine .trans ?_ (updSession_keeps ..)
    exact h8
  clear e10
  refine .trans ?_ (reply_keeps ..)
  exact h11

theorem dropTasks_keeps {m : Nat} x0 s  : Keeps m s (dropTasks x0 s) := by
  unfold dropTasks
  refine .upd ?_
  exact .refl _

theorem stopJob_keeps {m : Nat} x0 x1 s  : Keeps m s (stopJob x0 x1 s) := by
  unfold stopJob
  split
  · refine .ite ?_ (by exact .refl _)
    extract_lets -merge -useContext +onlyGivenNames y0; clear_value (e1 : y0 = _)
    refine .cut e1 ?_ fun h2 => ?_
    · refine .trans ?_ (dropTasks_keeps ..)
      refine .trans ?_ (mapJobs_keeps ..)
      exact .refl _
    clear e1
    refine .ite ?_ (by exact h2)
    refine .trans ?_ (record_keeps ..)
    exact h2
  · exact .refl _

theorem noteSnapshots_keeps {m : Nat} s  : Keeps m s (noteSnapshots s) := by
  unfold noteSnapshots
  refine .trans ?_ (Keeps.foldl ?_ _ _)
  rotate_left
  · intro t0 t1
    refine .ite ?_ (by exact .refl _)
    refine .trans ?_ (stopJob_keeps ..)
    exact .refl _
  exact .refl _

theorem noteScope_keeps {m : Nat} b s  : Keeps m s (noteScope b s) := by
  unfold noteScope
  refine .ite ?_ (by exact .refl _)
  refine .upd ?_
  exact .refl _

theorem acceptRequest_keeps {m : Nat} x0 x1 x2 s (h : ∀ w q s, Keeps m s (Cmd.act x0 w q s))  : Keeps m s (acceptRequest x0 x1 x2 s) := by
  unfold acceptRequest
  refine .ite ?_ ?_
  · extract_lets -merge -useContext +onlyGivenNames y0; clear_value (e1 : y0 = _)
    refine .trans ?_ (noteSnapshots_keeps ..)
    refine .trans ?_ (noteScope_keeps ..)
    refine .trans ?_ (carrying_keeps _ _ ?_)
    rotate_left
    · intro t3
      refine .trans ?_ (h _ _ _)
      exact .refl _
    refine .trans ?_ (carrying_keeps _ _ ?_)
    rotate_left
    · intro t2
      refine .trans ?_ (stageBody_keeps ..)
      exact .refl _
    exact .refl _
  · refine .trans ?_ (carrying_keeps _ _ ?_)
    rotate_left
    · intro t4
      refine .trans ?_ (h _ _ _)
      exact .refl _
    exact .refl _

theorem updPort_keeps {m : Nat} x0 x1 s (hm : Within 8589934592 m := by first | exact .trans (by assumption) ⟨rfl⟩ | exact ⟨rfl⟩) : Keeps m s (updPort x0 x1 s) := by
  unfold updPort
  refine .upd ?_
  exact .refl _

theorem updHead_keeps {m : Nat} x0 x1 x2 s (hm : Within 8589934592 m := by first | exact .trans (by assumption) ⟨rfl⟩ | exact ⟨rfl⟩) : Keeps m s (updHead x0 x1 x2 s) := by
  unfold updHead
  refine .trans ?_ (updPort_keeps ..)
  exact .refl _

theorem releaseAlert_keeps {m : Nat} x0 s  : Keeps m s (releaseAlert x0 s) := by
  unfold releaseAlert
  refine .upd ?_
  exact .refl _

theorem reviewUnresponsive_keeps {m : Nat} x0 s  : Keeps m s (reviewUnresponsive x0 s) := by
  unfold reviewUnresponsive
  refine .ite (by exact .refl _) ?_
  refine .trans ?_ (releaseAlert_keeps ..)
  exact .refl _

theorem recoverHead_keeps {m : Nat} x0 x1 s (hm : Within 8589934592 m := by first | exact .trans (by assumption) ⟨rfl⟩ | exact ⟨rfl⟩) : Keeps m s (recoverHead x0 x1 s) := by
  unfold recoverHead
  refine .ite ?_ (by exact .refl _)
  refine .trans ?_ (reviewUnresponsive_keeps ..)
  refine .trans ?_ (record_keeps ..)
  refine .trans ?_ (updHead_keeps ..)
  exact .refl _

theorem queueCommand_keeps {m : Nat} x0 x1 s (hm : Within 8589934592 m := by first | exact .trans (by assumption) ⟨rfl⟩ | exact ⟨rfl⟩) : Keeps m s (queueCommand x0 x1 s) := by
  unfold queueCommand
  refine .trans ?_ (updPort_keeps ..)
  exact .refl _

theorem scheduleHead_keeps {m : Nat} x0 x1 s (hm : Within 8589934592 m := by first | exact .trans (by assumption) ⟨rfl⟩ | exact ⟨rfl⟩) : Keeps m s (scheduleHead x0 x1 s) := by
  unfold scheduleHead
  extract_lets -merge -useContext +onlyGivenNames y0; clear_value (e1 : y0 = _)
  refine .trans ?_ (queueCommand_keeps ..)
  refine .trans ?_ (updPort_keeps ..)
  exact .refl _

theorem replyOpt_keeps {m : Nat} x0 x1 x2 s  : Keeps m s (replyOpt x0 x1 x2 s) := by
  unfold replyOpt
  split
  · exact .refl _
  · refine .trans ?_ (reply_keeps ..)
    exact .refl _

theorem reschedule_keeps {m : Nat} x0 s (hm : Within 8589934592 m := by first | exact .trans (by assumption) ⟨rfl⟩ | exact ⟨rfl⟩) : Keeps m s (reschedule x0 s) := by
  unfold reschedule
  refine .trans ?_ (forAll_keeps _ _ _ ?_)
  rotate_left
  · intro t0 t1
    refine .trans ?_ (scheduleHead_keeps ..)
    exact .refl _
  exact .refl _

theorem setPeriod_keeps {m : Nat} x0 x1 s (hm : Within 8589934592 m := by first | exact .trans (by assumption) ⟨rfl⟩ | exact ⟨rfl⟩) : Keeps m s (setPeriod x0 x1 s) := by
  unfold setPeriod
  refine .trans ?_ (updPort_keeps ..)
  exact .refl _

theorem refitPeriod_keeps {m : Nat} x0 s (hm : Within 8589934592 m := by first | exact .trans (by assumption) ⟨rfl⟩ | exact ⟨rfl⟩) : Keeps m s (refitPeriod x0 s) := by
  unfold refitPeriod
  split
  · refine .trans ?_ (setPeriod_keeps ..)
    exact .refl _
  · exact .refl _

theorem updAcc_keeps {m : Nat} x0 x1 s (hm : Within 4294967296 m := by first | exact .trans (by assumption) ⟨rfl⟩ | exact ⟨rfl⟩) : Keeps m s (updAcc x0 x1 s) := by
  unfold updAcc
  refine .upd ?_
  exact .refl _

theorem stopAcc_keeps {m : Nat} x0 x1 s (hm : Within 4294967296 m := by first | exact .trans (by assumption) ⟨rfl⟩ | exact ⟨rfl⟩) : Keeps m s (stopAcc x0 x1 s) := by
  unfold stopAcc
  extract_lets -merge -useContext +onlyGivenNames y0; clear_value (e1 : y0 = _)
  extract_lets -merge -useContext +onlyGivenNames y2; clear_value (e3 : y2 = _)
  extract_lets -merge -useContext +onlyGivenNames y4; clear_value (e5 : y4 = _)
  extract_lets -merge -useContext +onlyGivenNames y6; clear_value (e7 : y6 = _)
  refine .cut e7 ?_ fun h8 => ?_
  · refine .trans ?_ (updAcc_keeps ..)
    exact .refl _
  clear e7
  extract_lets -merge -useContext +onlyGivenNames y9; clear_value (e10 : y9 = _)
  refine .cut e10 ?_ fun h11 => ?_
  · refine .trans ?_ (stageBody_keeps ..)
    exact h8
  clear e10
  refine .trans ?_ (replyOpt_keeps ..)
  exact h11

theorem stopAccs_keeps {m : Nat} x0 x1 s (hm : Within 4294967296 m := by first | exact .trans (by assumption) ⟨rfl⟩ | exact ⟨rfl⟩) : Keeps m s (stopAccs x0 x1 s) := by
  unfold stopAccs
  refine .trans ?_ (forEach_keeps _ _ _ ?_)
  rotate_left
  · intro t0 t1
    refine .ite ?_ (by exact .refl _)
    refine .trans ?_ (stopAcc_keeps ..)
    exact .refl _
  exact .refl _

theorem noteAccumulators_keeps {m : Nat} x0 s (hm : Within 4294967296 m := by first | exact .trans (by assumption) ⟨rfl⟩ | exact ⟨rfl⟩) : Keeps m s (noteAccumulators x0 s) := by
  unfold noteAccumulators
  refine .trans ?_ (stopAccs_keeps ..)
  exact .refl _

theorem ackCommand_keeps {m : Nat} x0 x1 x2 x3 s (hm : Within 12884901888 m := by first | exact .trans (by assumption) ⟨rfl⟩ | exact ⟨rfl⟩) : Keeps m s (ackCommand x0 x1 x2 x3 s) := by
  unfold ackCommand
  refine .ite ?_ ?_
  · refine .trans ?_ (replyOpt_keeps ..)
    refine .ite ?_ (by exact .refl _)
    refine .trans ?_ (reschedule_keeps ..)
    refine .trans ?_ (refitPeriod_keeps ..)
    exact .refl _
  · split
    · extract_lets -merge -useContext +onlyGivenNames y0; clear_value (e1 : y0 = _)
      extract_lets -merge -useContext +onlyGivenNames y2; clear_value (e3 : y2 = _)
      refine .cut e3 ?_ fun h4 => ?_
      · refine .trans ?_ (updHead_keeps ..)
        exact .refl _
      clear e3
      extract_lets -merge -useContext +onlyGivenNames y5; clear_value (e6 : y5 = _)
      refine .cut e6 ?_ fun h7 => ?_
      · refine .trans ?_ (reschedule_keeps ..)
        refine .trans ?_ (noteSnapshots_keeps ..)
        refine .trans ?_ (refitPeriod_keeps ..)
        exact h4
      clear e6
      extract_lets -merge -useContext +onlyGivenNames y8; clear_value (e9 : y8 = _)
      refine .cut e9 ?_ fun h10 => ?_
      · refine .ite ?_ (by exact h7)
        refine .trans ?_ (noteAccumulators_keeps ..)
        exact h7
      clear e9
      refine .trans ?_ (replyOpt_keeps ..)
      exact h10
    · refine .trans ?_ (replyOpt_keeps ..)
      refine .trans ?_ (updHead_keeps ..)
      exact .refl _
    · refine .trans ?_ (replyOpt_keeps ..)
      exact .refl _

theorem takeAck_keeps {m : Nat} x0 x1 x2 x3 s (hm : Within 12884901888 m := by first | exact .trans (by assumption) ⟨rfl⟩ | exact ⟨rfl⟩) : Keeps m s (takeAck x0 x1 x2 x3 s) := by
  unfold takeAck
  extract_lets -merge -useContext +onlyGivenNames y0; clear_value (e1 : y0 = _)
  split
  · exact .refl _
  · extract_lets -merge -useContext +onlyGivenNames y2; clear_value (e3 : y2 = _)
    extract_lets -merge -useContext +onlyGivenNames y4; clear_value (e5 : y4 = _)
    refine .cut e5 ?_ fun h6 => ?_
    · refine .trans ?_ (updPort_keeps ..)
      exact .refl _
    clear e5
    refine .trans ?_ (ackCommand_keeps ..)
    refine .trans ?_ (forAll_keeps _ _ _ ?_)
    rotate_left
    · intro t7 t8
      refine .trans ?_ (ackCommand_keeps ..)
      exact .refl _
    exact h6

theorem updSince_keeps {m : Nat} x0 s  : Keeps m s (updSince x0 s) := by
  unfold updSince
  refine .upd ?_
  exact .refl _

theorem notePeak_keeps {m : Nat} x0 x1 s  : Keeps m s (notePeak x0 x1 s) := by
  unfold notePeak
  refine .trans ?_ (updSince_keeps ..)
  exact .refl _

theorem breakAt_keeps {m : Nat} x0 x1 s (hm : Within 8589934592 m := by first | exact .trans (by assumption) ⟨rfl⟩ | exact ⟨rfl⟩) : Keeps m s (breakAt x0 x1 s) := by
  unfold breakAt
  refine .ite (by exact .refl _) ?_
  extract_lets -merge -useContext +onlyGivenNames y0; clear_value (e1 : y0 = _)
  refine .cut e1 ?_ fun h2 => ?_
  · refine .trans ?_ (assertAlert_keeps ..)
    refine .trans ?_ (record_keeps ..)
    exact .refl _
  clear e1
  extract_lets -merge -useContext +onlyGivenNames y3; clear_value (e4 : y3 = _)
  refine .cut e4 ?_ fun h5 => ?_
  · refine .trans ?_ (updPort_keeps ..)
    exact h2
  clear e4
  refine .ite ?_ (by exact h5)
  refine .trans ?_ (reschedule_keeps ..)
  exact h5

theorem acceptSlot_keeps {m : Nat} x0 x1 x2 s (hm : Within 12884901888 m := by first | exact .trans (by assumption) ⟨rfl⟩ | exact ⟨rfl⟩) : Keeps m s (acceptSlot x0 x1 x2 s) := by
  unfold acceptSlot
  extract_lets -merge -useContext +onlyGivenNames y0; clear_value (e1 : y0 = _)
  extract_lets -merge -useContext +onlyGivenNames y2; clear_value (e3 : y2 = _)
  extract_lets -merge -useContext +onlyGivenNames y4; clear_value (e5 : y4 = _)
  extract_lets -merge -useContext +onlyGivenNames y6; clear_value (e7 : y6 = _)
  extract_lets -merge -useContext +onlyGivenNames y8; clear_value (e9 : y8 = _)
  extract_lets -merge -useContext +onlyGivenNames y10; clear_value (e11 : y10 = _)
  extract_lets -merge -useContext +onlyGivenNames y12; clear_value (e13 : y12 = _)
  refine .cut e13 ?_ fun h14 => ?_
  · refine .trans ?_ (updHead_keeps ..)
    exact .refl _
  clear e13
  extract_lets -merge -useContext +onlyGivenNames y15; clear_value (e16 : y15 = _)
  refine .cut e16 ?_ fun h17 => ?_
  · refine .trans ?_ (recoverHead_keeps ..)
    exact h14
  clear e16
  extract_lets -merge -useContext +onlyGivenNames y18; clear_value (e19 : y18 = _)
  extract_lets -merge -useContext +onlyGivenNames y20; clear_value (e21 : y20 = _)
  refine .cut e21 ?_ fun h22 => ?_
  · refine .ite ?_ (by exact h17)
    refine .trans ?_ (scheduleHead_keeps ..)
    exact h17
  clear e21
  extract_lets -merge -useContext +onlyGivenNames y23; clear_value (e24 : y23 = _)
  refine .cut e24 ?_ fun h25 => ?_
  · refine .trans ?_ (updPort_keeps ..)
    exact h22
  clear e24
  extract_lets -merge -useContext +onlyGivenNames y26; clear_value (e27 : y26 = _)
  refine .cut e27 ?_ fun h28 => ?_
  · refine .trans ?_ (takeAck_keeps ..)
    refine .trans ?_ (notePeak_keeps ..)
    exact h25
  clear e27
  refine .ite ?_ (by exact h28)
  refine .trans ?_ (breakAt_keeps ..)
  exact h28

theorem raiseSequence_keeps {m : Nat} x0 s (hm : Within 1073741824 m := by first | exact .trans (by assumption) ⟨rfl⟩ | exact ⟨rfl⟩) : Keeps m s (raiseSequence x0 s) := by
  unfold raiseSequence
  extract_lets -merge -useContext +onlyGivenNames y0; clear_value (e1 : y0 = _)
  extract_lets -merge -useContext +onlyGivenNames y2; clear_value (e3 : y2 = _)
  refine .cut e3 ?_ fun h4 => ?_
  · refine .trans ?_ (updSg_keeps ..)
    exact .refl _
  clear e3
  refine .ite ?_ (by exact h4)
  refine .trans ?_ (record_keeps ..)
  exact h4

theorem sendTrigger_keeps {m : Nat} x0 x1 s (hm : Within 134217728 m := by first | exact .trans (by assumption) ⟨rfl⟩ | exact ⟨rfl⟩) : Keeps m s (sendTrigger x0 x1 s) := by
  unfold sendTrigger
  refine .ite (by exact .refl _) ?_
  refine .ite ?_ ?_
  · refine .trans ?_ (recordLimited_keeps ..)
    refine .trans ?_ (updTg_keeps ..)
    exact .refl _
  · refine .upd ?_
    exact .refl _

theorem schedulePulse_keeps {m : Nat} x0 x1 x2 s (hm : Within 268435456 m := by first | exact .trans (by assumption) ⟨rfl⟩ | exact ⟨rfl⟩) : Keeps m s (schedulePulse x0 x1 x2 s) := by
  unfold schedulePulse
  extract_lets -merge -useContext +onlyGivenNames y0; clear_value (e1 : y0 = _)
  extract_lets -merge -useContext +onlyGivenNames y2; clear_value (e3 : y2 = _)
  refine .cut e3 ?_ fun h4 => ?_
  · refine .trans ?_ (updMarker_keeps ..)
    exact .refl _
  clear e3
  extract_lets -merge -useContext +onlyGivenNames y5; clear_value (e6 : y5 = _)
  extract_lets -merge -useContext +onlyGivenNames y7; clear_value (e8 : y7 = _)
  refine .cut e8 ?_ fun h9 => ?_
  · refine .trans ?_ (scheduleEdge_keeps ..)
    exact h4
  clear e8
  refine .ite (by exact h9) ?_
  refine .trans ?_ (scheduleEdge_keeps ..)
  exact h9

theorem markAccepted_keeps {m : Nat} x0 x1 x2 s (hm : Within 268435456 m := by first | exact .trans (by assumption) ⟨rfl⟩ | exact ⟨rfl⟩) : Keeps m s (markAccepted x0 x1 x2 s) := by
  unfold markAccepted
  refine .trans ?_ (forEach_keeps _ _ _ ?_)
  rotate_left
  · intro t0 t1
    extract_lets -merge -useContext +onlyGivenNames y2; clear_value (e3 : y2 = _)
    refine .ite (by exact .refl _) ?_
    split
    · extract_lets -merge -useContext +onlyGivenNames y4; clear_value (e5 : y4 = _)
      refine .trans ?_ (schedulePulse_keeps ..)
      subst e5
      refine .trans ?_ (classifiedPs_keeps ..)
      exact .refl _
    · refine .trans ?_ (schedulePulse_keeps ..)
      exact .refl _
    · refine .trans ?_ (scheduleEdge_keeps ..)
      refine .trans ?_ (scheduleEdge_keeps ..)
      exact .refl _
    · extract_lets -merge -useContext +onlyGivenNames y6; clear_value (e7 : y6 = _)
      refine .trans ?_ (scheduleEdge_keeps ..)
      subst e7
      refine .trans ?_ (classifiedPs_keeps ..)
      exact .refl _
    · exact .refl _
  exact .refl _

theorem cutHeads_keeps {m : Nat} x0 x1 x2 s (hm : Within 4294967296 m := by first | exact .trans (by assumption) ⟨rfl⟩ | exact ⟨rfl⟩) : Keeps m s (cutHeads x0 x1 x2 s) := by
  unfold cutHeads
  refine .upd ?_
  exact .refl _

theorem meetStop_keeps {m : Nat} x0 x1 x2 x3 s (hm : Within 5502926848 m := by first | exact .trans (by assumption) ⟨rfl⟩ | exact ⟨rfl⟩) : Keeps m s (meetStop x0 x1 x2 x3 s) := by
  unfold meetStop
  extract_lets -merge -useContext +onlyGivenNames y0; clear_value (e1 : y0 = _)
  refine .ite ?_ ?_
  · refine .trans ?_ (discardFill_keeps ..)
    refine .trans ?_ (updSg_keeps ..)
    exact .refl _
  · refine .ite ?_ ?_
    · refine .trans ?_ (updSg_keeps ..)
      exact .refl _
    · refine .ite ?_ (by exact .refl _)
      refine .trans ?_ (updSg_keeps ..)
      exact .refl _

theorem acceptTrigger_keeps {m : Nat} x0 x1 s (hm : Within 5771362304 m := by first | exact .trans (by assumption) ⟨rfl⟩ | exact ⟨rfl⟩) : Keeps m s (acceptTrigger x0 x1 s) := by
  unfold acceptTrigger
  extract_lets -merge -useContext +onlyGivenNames y0; clear_value (e1 : y0 = _)
  refine .cut e1 ?_ fun h2 => ?_
  · refine .trans ?_ (endFill_keeps ..)
    exact .refl _
  clear e1
  extract_lets -merge -useContext +onlyGivenNames y3; clear_value (e4 : y3 = _)
  extract_lets -merge -useContext +onlyGivenNames y5; clear_value (e6 : y5 = _)
  extract_lets -merge -useContext +onlyGivenNames y7; clear_value (e8 : y7 = _)
  extract_lets -merge -useContext +onlyGivenNames y9; clear_value (e10 : y9 = _)
  extract_lets -merge -useContext +onlyGivenNames y11; clear_value (e12 : y11 = _)
  extract_lets -merge -useContext +onlyGivenNames y13; clear_value (e14 : y13 = _)
  refine .cut e14 ?_ fun h15 => ?_
  · refine .trans ?_ (updTg_keeps ..)
    exact h2
  clear e14
  extract_lets -merge -useContext +onlyGivenNames y16; clear_value (e17 : y16 = _)
  refine .cut e17 ?_ fun h18 => ?_
  · refine .trans ?_ (updSg_keeps ..)
    exact h15
  clear e17
  extract_lets -merge -useContext +onlyGivenNames y19; clear_value (e20 : y19 = _)
  refine .cut e20 ?_ fun h21 => ?_
  · refine .trans ?_ (raiseSequence_keeps ..)
    exact h18
  clear e20
  extract_lets -merge -useContext +onlyGivenNames y22; clear_value (e23 : y22 = _)
  refine .cut e23 ?_ fun h24 => ?_
  · refine .trans ?_ (sendTrigger_keeps ..)
    exact h21
  clear e23
  extract_lets -merge -useContext +onlyGivenNames y25; clear_value (e26 : y25 = _)
  refine .cut e26 ?_ fun h27 => ?_
  · refine .trans ?_ (markAccepted_keeps ..)
    exact h24
  clear e26
  extract_lets -merge -useContext +onlyGivenNames y28; clear_value (e29 : y28 = _)
  refine .cut e29 ?_ fun h30 => ?_
  · refine .trans ?_ (cutHeads_keeps ..)
    exact h27
  clear e29
  extract_lets -merge -useContext +onlyGivenNames y31; clear_value (e32 : y31 = _)
  refine .cut e32 ?_ fun h33 => ?_
  · refine .trans ?_ (meetStop_keeps ..)
    exact h30
  clear e32
  extract_lets -merge -useContext +onlyGivenNames y34; clear_value (e35 : y34 = _)
  refine .cut e35 ?_ fun h36 => ?_
  · refine .trans ?_ (capture_keeps ..)
    exact h33
  clear e35
  refine .trans ?_ (replyOpt_keeps ..)
  exact h36

theorem putPmbus_keeps {m : Nat} x0 s  : Keeps m s (putPmbus x0 s) := by
  unfold putPmbus
  refine .trans ?_ (emit_keeps ..)
  exact .refl _

theorem sendPmbus_keeps {m : Nat} x0 x1 s  : Keeps m s (sendPmbus x0 x1 s) := by
  unfold sendPmbus
  refine .ite ?_ (by exact .refl _)
  extract_lets -merge -useContext +onlyGivenNames y0; clear_value (e1 : y0 = _)
  extract_lets -merge -useContext +onlyGivenNames y2; clear_value (e3 : y2 = _)
  refine .cut e3 ?_ fun h4 => ?_
  · refine .upd ?_
    exact .refl _
  clear e3
  refine .ite ?_ (by exact h4)
  refine .trans ?_ (putPmbus_keeps ..)
  exact h4

theorem commandVcore_keeps {m : Nat} x0 s  : Keeps m s (commandVcore x0 s) := by
  unfold commandVcore
  refine .trans ?_ (sendPmbus_keeps ..)
  refine .upd ?_
  exact .refl _

theorem adaptVcore_keeps {m : Nat} s  : Keeps m s (adaptVcore s) := by
  unfold adaptVcore
  refine .ite (by exact .refl _) ?_
  refine .ite ?_ ?_
  · extract_lets -merge -useContext +onlyGivenNames y0; first | clear_value (e1 : y0 = _) | skip
    extract_lets -merge -useContext +onlyGivenNames y2; first | clear_value (e3 : y2 = _) | have e3 : y2 = _ := rfl
    refine .cut e3 ?_ fun h4 => ?_
    · refine .upd ?_
      exact .refl _
    clear e3
    refine .ite (by exact h4) ?_
    refine .trans ?_ (commandVcore_keeps ..)
    exact h4
  · extract_lets -merge -useContext +onlyGivenNames y5; first | clear_value (e6 : y5 = _) | skip
    extract_lets -merge -useContext +onlyGivenNames y7; first | clear_value (e8 : y7 = _) | have e8 : y7 = _ := rfl
    refine .cut e8 ?_ fun h9 => ?_
    · refine .upd ?_
      exact .refl _
    clear e8
    extract_lets -merge -useContext +onlyGivenNames y10; first | clear_value (e11 : y10 = _) | skip
    refine .ite (by exact h9) ?_
    refine .trans ?_ (commandVcore_keeps ..)
    exact h9

theorem startNext_keeps {m : Nat} x0 s  : Keeps m s (startNext x0 s) := by
  unfold startNext
  extract_lets -merge -useContext +onlyGivenNames y0; clear_value (e1 : y0 = _)
  refine .ite (by exact .refl _) ?_
  split
  · exact .refl _
  · refine .trans ?_ (updEngine_keeps ..)
    exact .refl _

theorem addTask_keeps {m : Nat} x0 x1 s  : Keeps m s (addTask x0 x1 s) := by
  unfold addTask
  refine .trans ?_ (startNext_keeps ..)
  refine .trans ?_ (updEngine_keeps ..)
  exact .refl _

theorem putHead_keeps {m : Nat} x0 x1 s (hm : Within 8589934592 m := by first | exact .trans (by assumption) ⟨rfl⟩ | exact ⟨rfl⟩) : Keeps m s (putHead x0 x1 s) := by
  unfold putHead
  refine .trans ?_ (updPort_keeps ..)
  exact .refl _

theorem streamHead_keeps {m : Nat} x0 x1 x2 x3 x4 x5 s (hm : Within 8589934592 m := by first | exact .trans (by assumption) ⟨rfl⟩ | exact ⟨rfl⟩) : Keeps m s (streamHead x0 x1 x2 x3 x4 x5 s) := by
  unfold streamHead
  refine .trans ?_ (queueCommand_keeps ..)
  exact .refl _

theorem admitHead_keeps {m : Nat} x0 x1 x2 s t (e : admitHead x0 x1 x2 s = some t) (hm : Within 8589934592 m := by first | exact .trans (by assumption) ⟨rfl⟩ | exact ⟨rfl⟩) : Keeps m s t := by
  unfold admitHead at e
  dsimp only at e
  split at e
  · cases e
  · cases e
    refine .trans ?_ (reschedule_keeps ..)
    have h1 := fun f h b => ((updPort_keeps x0 f s).trans (putHead_keeps x0 h _)).trans (record_keeps 0x0904 b _)
    exact Keeps.ite ((h1 _ _ _).trans (streamHead_keeps _ _ _ _ _ _ _)) (h1 _ _ _)

theorem advance_keeps {m : Nat} x0 s  : Keeps m s (advance x0 s) := by
  refine (Keeps.of rfl (?_) (fun hi => ⟨by simpa [Sized, advance] using hi.1, hi.2⟩) (by
    have e := advanceTime_kept s.clk.cap s.time x0
    intro k hk; cases k <;> first | exact Eq.refl _ | simp [Kind.same, advance, e]))
  exact Nat.le_max_left _ _

theorem stepDelay_keeps {m : Nat} s  : Keeps m s (stepDelay s) := by
  unfold stepDelay
  refine .ite (by exact .refl _) ?_
  extract_lets -merge -useContext +onlyGivenNames y0; clear_value (e1 : y0 = _)
  extract_lets -merge -useContext +onlyGivenNames y2; clear_value (e3 : y2 = _)
  refine .upd ?_
  exact .refl _

theorem anchorHeads_keeps {m : Nat} s  : Keeps m s (anchorHeads s) := by
  unfold anchorHeads
  extract_lets -merge -useContext +onlyGivenNames y0; clear_value (e1 : y0 = _)
  extract_lets -merge -useContext +onlyGivenNames y2; clear_value (e3 : y2 = _)
  refine .upd ?_
  exact .refl _

theorem restartGates_keeps {m : Nat} x0 s (hm : Within 2147483648 m := by first | exact .trans (by assumption) ⟨rfl⟩ | exact ⟨rfl⟩) : Keeps m s (restartGates x0 s) := by
  unfold restartGates
  refine .trans ?_ (forEach_keeps _ _ _ ?_)
  rotate_left
  · intro t0 t1
    refine .trans ?_ (updTach_keeps ..)
    exact .refl _
  exact .refl _

theorem updCore_keeps {m : Nat} x0 x1 s (hm : Within 1048576 m := by first | exact .trans (by assumption) ⟨rfl⟩ | exact ⟨rfl⟩) : Keeps m s (updCore x0 x1 s) := by
  unfold updCore
  refine .upd ?_
  exact .refl _

theorem updInCal_keeps {m : Nat} x0 x1 s  : Keeps m s (updInCal x0 x1 s) := by
  unfold updInCal
  refine .upd ?_
  exact .refl _

theorem rotateCore_keeps {m : Nat} x0 s (hm : Within 1048576 m := by first | exact .trans (by assumption) ⟨rfl⟩ | exact ⟨rfl⟩) : Keeps m s (rotateCore x0 s) := by
  unfold rotateCore
  extract_lets -merge -useContext +onlyGivenNames y0; clear_value (e1 : y0 = _)
  refine .trans ?_ (updCore_keeps ..)
  exact .refl _

theorem startPass_keeps {m : Nat} x0 x1 s (hm : Within 1572864 m := by first | exact .trans (by assumption) ⟨rfl⟩ | exact ⟨rfl⟩) : Keeps m s (startPass x0 x1 s) := by
  unfold startPass
  extract_lets -merge -useContext +onlyGivenNames y0; clear_value (e1 : y0 = _)
  refine .cut e1 ?_ fun h2 => ?_
  · split
    · refine .trans ?_ (updInput_keeps ..)
      exact .refl _
    · exact .refl _
  clear e1
  extract_lets -merge -useContext +onlyGivenNames y3; clear_value (e4 : y3 = _)
  refine .cut e4 ?_ fun h5 => ?_
  · refine .trans ?_ (updInCal_keeps ..)
    exact h2
  clear e4
  refine .trans ?_ (forAll_keeps _ _ _ ?_)
  rotate_left
  · intro t6 t7
    refine .ite ?_ ?_
    · refine .trans ?_ (updCore_keeps ..)
      refine .trans ?_ (rotateCore_keeps ..)
      exact .refl _
    · refine .trans ?_ (updCore_keeps ..)
      exact .refl _
  exact h5

theorem replacePass_keeps {m : Nat} x0 s  : Keeps m s (replacePass x0 s) := by
  unfold replacePass
  refine .ite ?_ (by exact .refl _)
  refine .trans ?_ (updInCal_keeps ..)
  exact .refl _

theorem startSettling_keeps {m : Nat} x0 s (hm : Within 1572864 m := by first | exact .trans (by assumption) ⟨rfl⟩ | exact ⟨rfl⟩) : Keeps m s (startSettling x0 s) := by
  unfold startSettling
  refine .ite (by exact .refl _) ?_
  extract_lets -merge -useContext +onlyGivenNames y0; clear_value (e1 : y0 = _)
  refine .cut e1 ?_ fun h2 => ?_
  · refine .trans ?_ (forAll_keeps _ _ _ ?_)
    rotate_left
    · intro t3 t4
      refine .trans ?_ (updCore_keeps ..)
      exact .refl _
    exact .refl _
  clear e1
  refine .trans ?_ (startPass_keeps ..)
  refine .trans ?_ (replacePass_keeps ..)
  exact h2

theorem settleAll_keeps {m : Nat} s (hm : Within 1572864 m := by first | exact .trans (by assumption) ⟨rfl⟩ | exact ⟨rfl⟩) : Keeps m s (settleAll s) := by
  unfold settleAll
  refine .trans ?_ (forEach_keeps _ _ _ ?_)
  rotate_left
  · intro t0 t1
    refine .trans ?_ (startSettling_keeps ..)
    exact .refl _
  exact .refl _

theorem bumpGeneration_keeps {m : Nat} s (hm : Within 4194304 m := by first | exact .trans (by assumption) ⟨rfl⟩ | exact ⟨rfl⟩) : Keeps m s (bumpGeneration s) := by
  unfold bumpGeneration
  refine .upd ?_
  exact .refl _

theorem afterRateChange_keeps {m : Nat} s (hm : Within 2153250816 m := by first | exact .trans (by assumption) ⟨rfl⟩ | exact ⟨rfl⟩) : Keeps m s (afterRateChange s) := by
  unfold afterRateChange
  extract_lets -merge -useContext +onlyGivenNames y0; clear_value (e1 : y0 = _)
  refine .cut e1 ?_ fun h2 => ?_
  · refine .trans ?_ (stepDelay_keeps ..)
    refine .trans ?_ (anchorHeads_keeps ..)
    refine .trans ?_ (restartGates_keeps ..)
    exact .refl _
  clear e1
  refine .ite ?_ ?_
  · refine .upd ?_
    exact h2
  · refine .trans ?_ (settleAll_keeps ..)
    refine .trans ?_ (bumpGeneration_keeps ..)
    exact h2

theorem spoilRevolution_keeps {m : Nat} x0 x1 s  : Keeps m s (spoilRevolution x0 x1 s) := by
  unfold spoilRevolution
  extract_lets -merge -useContext +onlyGivenNames y0; clear_value (e1 : y0 = _)
  refine .cut e1 ?_ fun h2 => ?_
  · refine .trans ?_ (mapJobs_keeps ..)
    exact .refl _
  clear e1
  refine .upd ?_
  exact h2

theorem indexEdge_keeps {m : Nat} x0 x1 s (hm : Within 2147483648 m := by first | exact .trans (by assumption) ⟨rfl⟩ | exact ⟨rfl⟩) : Keeps m s (indexEdge x0 x1 s) := by
  unfold indexEdge
  extract_lets -merge -useContext +onlyGivenNames y0; clear_value (e1 : y0 = _)
  extract_lets -merge -useContext +onlyGivenNames y2; clear_value (e3 : y2 = _)
  refine .cut e3 ?_ fun h4 => ?_
  · refine .trans ?_ (updTach_keeps ..)
    exact .refl _
  clear e3
  refine .ite ?_ (by exact h4)
  refine .trans ?_ (recordLimited_keeps ..)
  refine .trans ?_ (spoilRevolution_keeps ..)
  exact h4

theorem toothEdge_keeps {m : Nat} x0 x1 s (hm : Within 2147483648 m := by first | exact .trans (by assumption) ⟨rfl⟩ | exact ⟨rfl⟩) : Keeps m s (toothEdge x0 x1 s) := by
  unfold toothEdge
  extract_lets -merge -useContext +onlyGivenNames y0; clear_value (e1 : y0 = _)
  extract_lets -merge -useContext +onlyGivenNames y2; clear_value (e3 : y2 = _)
  refine .cut e3 ?_ fun h4 => ?_
  · refine .trans ?_ (updTach_keeps ..)
    exact .refl _
  clear e3
  split
  · exact h4
  · refine .trans ?_ (pushData_keeps ..)
    exact h4

theorem angleEdge_keeps {m : Nat} x0 x1 x2 s (hm : Within 2147483648 m := by first | exact .trans (by assumption) ⟨rfl⟩ | exact ⟨rfl⟩) : Keeps m s (angleEdge x0 x1 x2 s) := by
  unfold angleEdge
  extract_lets -merge -useContext +onlyGivenNames y0; clear_value (e1 : y0 = _)
  refine .trans ?_ (forEach_keeps _ _ _ ?_)
  rotate_left
  · intro t2 t3
    extract_lets -merge -useContext +onlyGivenNames y4; clear_value (e5 : y4 = _)
    refine .ite (by exact .refl _) ?_
    extract_lets -merge -useContext +onlyGivenNames y6; clear_value (e7 : y6 = _)
    refine .cut e7 ?_ fun h8 => ?_
    · refine .ite ?_ (by exact .refl _)
      refine .trans ?_ (indexEdge_keeps ..)
      exact .refl _
    clear e7
    refine .ite ?_ (by exact h8)
    refine .trans ?_ (toothEdge_keeps ..)
    exact h8
  exact .refl _

theorem spoilJob_keeps {m : Nat} x0 s  : Keeps m s (spoilJob x0 s) := by
  unfold spoilJob
  split
  · exact .refl _
  · extract_lets -merge -useContext +onlyGivenNames y0; clear_value (e1 : y0 = _)
    extract_lets -merge -useContext +onlyGivenNames y2; clear_value (e3 : y2 = _)
    split
    · refine .ite ?_ ?_
      · refine .trans ?_ (updEngine_keeps ..)
        subst e1
        refine .trans ?_ (takeFree_keeps ..)
        exact .refl _
      · refine .trans ?_ (updJob_keeps ..)
        subst e1
        refine .trans ?_ (takeFree_keeps ..)
        exact .refl _
    · refine .trans ?_ (updJob_keeps ..)
      subst e1
      refine .trans ?_ (takeFree_keeps ..)
      exact .refl _

theorem answerStops_keeps {m : Nat} s  : Keeps m s (answerStops s) := by
  unfold answerStops
  refine .trans ?_ (forAll_keeps _ _ _ ?_)
  rotate_left
  · intro t0 t1
    split
    · exact .refl _
    · refine .ite (by exact .refl _) ?_
      refine .trans ?_ (reply_keeps ..)
      refine .trans ?_ (updJob_keeps ..)
      exact .refl _
  exact .refl _

theorem resumeWriter_keeps {m : Nat} x0 s  : Keeps m s (resumeWriter x0 s) := by
  unfold resumeWriter
  split
  · refine .trans ?_ (startNext_keeps ..)
    refine .trans ?_ (answerStops_keeps ..)
    refine .trans ?_ (updEngine_keeps ..)
    exact .refl _
  · refine .upd ?_
    exact .refl _
  · exact .refl _

theorem retryWaiting_keeps {m : Nat} (x0 : Nat)  : ∀ x1 s (hm : Within 292057776128 m := by first | exact .trans (by assumption) ⟨rfl⟩ | exact ⟨rfl⟩), Keeps m s (retryWaiting x0 x1 s)
  | 0, s, hm => Keeps.refl s
  | fuel + 1, s, hm => by
    unfold retryWaiting
    split
    · exact .refl _
    · split
      · exact .refl _
      · refine .ite ?_ (Keeps.ite (Keeps.refl _) ?_)
        · exact (((updPh_keeps _ _ _).trans (placeOffer_keeps _ _ _)).trans (resumeWriter_keeps _ _)).trans (retryWaiting_keeps x0 fuel _)
        · exact (((updPh_keeps _ _ _).trans (applyPolicy_keeps _ _ _ _)).trans (resumeWriter_keeps _ _)).trans (retryWaiting_keeps x0 fuel _)

theorem reviewWaiting_keeps {m : Nat} x0 s (hm : Within 292057776128 m := by first | exact .trans (by assumption) ⟨rfl⟩ | exact ⟨rfl⟩) : Keeps m s (reviewWaiting x0 s) := by
  unfold reviewWaiting
  split
  · exact .refl _
  · refine .trans ?_ (retryWaiting_keeps ..)
    exact .refl _

theorem dropPoisoned_keeps {m : Nat} (x0 : Nat)  : ∀ x1 s (hm : Within 17179869184 m := by first | exact .trans (by assumption) ⟨rfl⟩ | exact ⟨rfl⟩), Keeps m s (dropPoisoned x0 x1 s)
  | 0, s, hm => Keeps.refl s
  | fuel + 1, s, hm => by
    unfold dropPoisoned
    split
    · exact .refl _
    · split
      · exact .refl _
      · exact Keeps.ite ((updPh_keeps _ _ _).trans (dropPoisoned_keeps x0 fuel _)) (Keeps.refl _)

theorem answerRequester_keeps {m : Nat} x0 s (hm : Within 292057776128 m := by first | exact .trans (by assumption) ⟨rfl⟩ | exact ⟨rfl⟩) : Keeps m s (answerRequester x0 s) := by
  unfold answerRequester
  split
  · refine .trans ?_ (spoilJob_keeps ..)
    exact .refl _
  · refine .trans ?_ (reviewWaiting_keeps ..)
    refine .trans ?_ (dropPoisoned_keeps ..)
    exact .refl _
  · exact .refl _

theorem driveSample_keeps {m : Nat} x0 x1 x2 s  : Keeps m s (driveSample x0 x1 x2 s) := by
  unfold driveSample
  extract_lets -merge -useContext +onlyGivenNames y0; clear_value (e1 : y0 = _)
  refine .updTime ?_
  exact .refl _

theorem stopSampleRamp_keeps {m : Nat} s  : Keeps m s (stopSampleRamp s) := by
  unfold stopSampleRamp
  extract_lets -merge -useContext +onlyGivenNames y0; clear_value (e1 : y0 = _)
  refine .cut e1 ?_ fun h2 => ?_
  · refine .trans ?_ (updLoop_keeps ..)
    exact .refl _
  clear e1
  refine .trans ?_ (driveSample_keeps ..)
  refine .upd ?_
  exact h2

theorem restartStartup_keeps {m : Nat} s  : Keeps m s (restartStartup s) := by
  unfold restartStartup
  refine .ite ?_ (by exact .refl _)
  refine .upd ?_
  exact .refl _

theorem discardMeasurements_keeps {m : Nat} s (hm : Within 1572864 m := by first | exact .trans (by assumption) ⟨rfl⟩ | exact ⟨rfl⟩) : Keeps m s (discardMeasurements s) := by
  unfold discardMeasurements
  extract_lets -merge -useContext +onlyGivenNames y0; clear_value (e1 : y0 = _)
  refine .cut e1 ?_ fun h2 => ?_
  · refine .trans ?_ (forEach_keeps _ _ _ ?_)
    rotate_left
    · intro t3 t4
      refine .trans ?_ (abandonSeam_keeps ..)
      exact .refl _
    exact .refl _
  clear e1
  refine .trans ?_ (forEach_keeps _ _ _ ?_)
  rotate_left
  · intro t5 t6
    refine .trans ?_ (updCore_keeps ..)
    exact .refl _
  exact h2

theorem loseSampleLock_keeps {m : Nat} s (hm : Within 1572864 m := by first | exact .trans (by assumption) ⟨rfl⟩ | exact ⟨rfl⟩) : Keeps m s (loseSampleLock s) := by
  unfold loseSampleLock
  refine .trans ?_ (restartStartup_keeps ..)
  refine .trans ?_ (discardMeasurements_keeps ..)
  exact .refl _

theorem startRateRamp_keeps {m : Nat} x0 s  : Keeps m s (startRateRamp x0 s) := by
  unfold startRateRamp
  extract_lets -merge -useContext +onlyGivenNames y0; clear_value (e1 : y0 = _)
  refine .trans ?_ (driveSample_keeps ..)
  exact .refl _

theorem beginRateChange_keeps {m : Nat} x0 x1 x2 s (hm : Within 294206849024 m := by first | exact .trans (by assumption) ⟨rfl⟩ | exact ⟨rfl⟩) : Keeps m s (beginRateChange x0 x1 x2 s) := by
  unfold beginRateChange
  extract_lets -merge -useContext +onlyGivenNames y0; clear_value (e1 : y0 = _)
  refine .cut e1 ?_ fun h2 => ?_
  · refine .trans ?_ (loseSampleLock_keeps ..)
    refine .trans ?_ (abortGates_keeps ..)
    exact .refl _
  clear e1
  extract_lets -merge -useContext +onlyGivenNames y3; clear_value (e4 : y3 = _)
  refine .trans ?_ (startRateRamp_keeps ..)
  refine .trans ?_ (updLoop_keeps ..)
  refine .upd ?_
  exact h2

theorem defaultRates_keeps {m : Nat} s (hm : Within 294206857216 m := by first | exact .trans (by assumption) ⟨rfl⟩ | exact ⟨rfl⟩) : Keeps m s (defaultRates s) := by
  unfold defaultRates
  extract_lets -merge -useContext +onlyGivenNames y0; first | clear_value (e1 : y0 = _) | have e1 : y0 = _ := rfl
  refine .cut e1 ?_ fun h2 => ?_
  · refine .ite ?_ (by exact .refl _)
    refine .trans ?_ (stopSampleRamp_keeps ..)
    exact .refl _
  clear e1
  extract_lets -merge -useContext +onlyGivenNames y3; first | clear_value (e4 : y3 = _) | skip
  extract_lets -merge -useContext +onlyGivenNames y5; first | clear_value (e6 : y5 = _) | skip
  extract_lets -merge -useContext +onlyGivenNames y7; first | clear_value (e8 : y7 = _) | have e8 : y7 = _ := rfl
  refine .cut e8 ?_ fun h9 => ?_
  · refine .upd ?_
    exact h2
  clear e8
  refine .ite (by exact h9) ?_
  refine .trans ?_ (beginRateChange_keeps ..)
  exact h9

theorem resumeLoop_keeps {m : Nat} x0 s  : Keeps m s (resumeLoop x0 s) := by
  unfold resumeLoop
  split
  · refine .trans ?_ (startRateRamp_keeps ..)
    refine .trans ?_ (updLoop_keeps ..)
    refine .upd ?_
    exact .refl _
  · refine .trans ?_ (updLoop_keeps ..)
    exact .refl _

theorem setReference_keeps {m : Nat} x0 x1 x2 x3 s (hm : Within 1572864 m := by first | exact .trans (by assumption) ⟨rfl⟩ | exact ⟨rfl⟩) : Keeps m s (setReference x0 x1 x2 x3 s) := by
  unfold setReference
  extract_lets -merge -useContext +onlyGivenNames y0; clear_value (e1 : y0 = _)
  extract_lets -merge -useContext +onlyGivenNames y2; clear_value (e3 : y2 = _)
  refine .cut e3 ?_ fun h4 => ?_
  · refine .trans ?_ (updLoop_keeps ..)
    exact .refl _
  clear e3
  extract_lets -merge -useContext +onlyGivenNames y5; clear_value (e6 : y5 = _)
  extract_lets -merge -useContext +onlyGivenNames y7; clear_value (e8 : y7 = _)
  refine .cut e8 ?_ fun h9 => ?_
  · refine .ite (by exact h4) ?_
    refine .upd ?_
    exact h4
  clear e8
  refine .ite (by exact h9) ?_
  extract_lets -merge -useContext +onlyGivenNames y10; clear_value (e11 : y10 = _)
  refine .cut e11 ?_ fun h12 => ?_
  · refine .ite ?_ (by exact h9)
    refine .trans ?_ (updLoop_keeps ..)
    refine .trans ?_ (loseSampleLock_keeps ..)
    exact h9
  clear e11
  refine .trans ?_ (resumeLoop_keeps ..)
  exact h12

theorem defaultClocks_keeps {m : Nat} s (hm : Within 294206857216 m := by first | exact .trans (by assumption) ⟨rfl⟩ | exact ⟨rfl⟩) : Keeps m s (defaultClocks s) := by
  unfold defaultClocks
  refine .trans ?_ (defaultRates_keeps ..)
  refine .trans ?_ (forEach_keeps _ _ _ ?_)
  rotate_left
  · intro t0 t1
    refine .trans ?_ (setReference_keeps ..)
    exact .refl _
  exact .refl _

theorem updFin_keeps {m : Nat} x0 x1 s (hm : Within 16777216 m := by first | exact .trans (by assumption) ⟨rfl⟩ | exact ⟨rfl⟩) : Keeps m s (updFin x0 x1 s) := by
  unfold updFin
  refine .upd ?_
  exact .refl _

theorem syncInputs_keeps {m : Nat} x0 x1 x2 x3 s (hm : Within 16777216 m := by first | exact .trans (by assumption) ⟨rfl⟩ | exact ⟨rfl⟩) : Keeps m s (syncInputs x0 x1 x2 x3 s) := by
  unfold syncInputs
  extract_lets -merge -useContext +onlyGivenNames y0; clear_value (e1 : y0 = _)
  refine .cut e1 ?_ fun h2 => ?_
  · refine .trans ?_ (forAll_keeps _ _ _ ?_)
    rotate_left
    · intro t3 t4
      refine .trans ?_ (updFin_keeps ..)
      exact .refl _
    exact .refl _
  clear e1
  extract_lets -merge -useContext +onlyGivenNames y5; clear_value (e6 : y5 = _)
  refine .cut e6 ?_ fun h7 => ?_
  · refine .trans ?_ (forAll_keeps _ _ _ ?_)
    rotate_left
    · intro t8 t9
      refine .trans ?_ (updSince_keeps ..)
      exact .refl _
    exact h2
  clear e6
  refine .trans ?_ (record_keeps ..)
  exact h7

theorem startForeground_keeps {m : Nat} x0 s (hm : Within 524288 m := by first | exact .trans (by assumption) ⟨rfl⟩ | exact ⟨rfl⟩) : Keeps m s (startForeground x0 s) := by
  unfold startForeground
  extract_lets -merge -useContext +onlyGivenNames y0; clear_value (e1 : y0 = _)
  extract_lets -merge -useContext +onlyGivenNames y2; clear_value (e3 : y2 = _)
  refine .cut e3 ?_ fun h4 => ?_
  · refine .trans ?_ (forAll_keeps _ _ _ ?_)
    rotate_left
    · intro t5 t6
      split
      · refine .trans ?_ (postponeSeam_keeps ..)
        exact .refl _
      · exact .refl _
    exact .refl _
  clear e3
  refine .upd ?_
  exact h4

theorem runOwed_keeps {m : Nat} s (hm : Within 524288 m := by first | exact .trans (by assumption) ⟨rfl⟩ | exact ⟨rfl⟩) : Keeps m s (runOwed s) := by
  unfold runOwed
  split
  · exact .refl _
  · refine .trans ?_ (startForeground_keeps ..)
    refine .upd ?_
    exact .refl _

theorem applyDefaults_keeps {m : Nat} s (hm : Within 294223634432 m := by first | exact .trans (by assumption) ⟨rfl⟩ | exact ⟨rfl⟩) : Keeps m s (applyDefaults s) := by
  unfold applyDefaults
  extract_lets -merge -useContext +onlyGivenNames y0; clear_value (e1 : y0 = _)
  extract_lets -merge -useContext +onlyGivenNames y2; clear_value (e3 : y2 = _)
  refine .cut e3 ?_ fun h4 => ?_
  · refine .trans ?_ (defaultClocks_keeps ..)
    refine .upd ?_
    exact .refl _
  clear e3
  extract_lets -merge -useContext +onlyGivenNames y5; clear_value (e6 : y5 = _)
  extract_lets -merge -useContext +onlyGivenNames y7; clear_value (e8 : y7 = _)
  refine .cut e8 ?_ fun h9 => ?_
  · refine .ite (by exact h4) ?_
    refine .trans ?_ (syncInputs_keeps ..)
    exact h4
  clear e8
  refine .ite ?_ ?_
  · refine .trans ?_ (runOwed_keeps ..)
    exact h9
  · refine .upd ?_
    exact h9

theorem applyPort_keeps {m : Nat} x0 s (hm : Within 8589934592 m := by first | exact .trans (by assumption) ⟨rfl⟩ | exact ⟨rfl⟩) : Keeps m s (applyPort x0 s) := by
  unfold applyPort
  extract_lets -merge -useContext +onlyGivenNames y0; first | clear_value (e1 : y0 = _) | skip
  extract_lets -merge -useContext +onlyGivenNames y2; first | clear_value (e3 : y2 = _) | skip
  extract_lets -merge -useContext +onlyGivenNames y4; first | clear_value (e5 : y4 = _) | skip
  extract_lets -merge -useContext +onlyGivenNames y6; first | clear_value (e7 : y6 = _) | have e7 : y6 = _ := rfl
  refine .cut e7 ?_ fun h8 => ?_
  · refine .trans ?_ (setPeriod_keeps ..)
    refine .trans ?_ (updPort_keeps ..)
    exact .refl _
  clear e7
  refine .ite ?_ ?_
  · refine .trans ?_ (updPort_keeps ..)
    exact h8
  · refine .trans ?_ (reschedule_keeps ..)
    exact h8

theorem faultCore_keeps {m : Nat} x0 x1 s (hm : Within 1048576 m := by first | exact .trans (by assumption) ⟨rfl⟩ | exact ⟨rfl⟩) : Keeps m s (faultCore x0 x1 s) := by
  unfold faultCore
  refine .trans ?_ (record_keeps ..)
  refine .trans ?_ (assertAlert_keeps ..)
  refine .trans ?_ (updCore_keeps ..)
  exact .refl _

theorem spareSlice_keeps {m : Nat} x0 x1 s (hm : Within 1048576 m := by first | exact .trans (by assumption) ⟨rfl⟩ | exact ⟨rfl⟩) : Keeps m s (spareSlice x0 x1 s) := by
  unfold spareSlice
  extract_lets -merge -useContext +onlyGivenNames y0; clear_value (e1 : y0 = _)
  refine .cut e1 ?_ fun h2 => ?_
  · refine .trans ?_ (updCore_keeps ..)
    exact .refl _
  clear e1
  refine .trans ?_ (record_keeps ..)
  exact h2

theorem trimCore_keeps {m : Nat} x0 s (hm : Within 1048576 m := by first | exact .trans (by assumption) ⟨rfl⟩ | exact ⟨rfl⟩) : Keeps m s (trimCore x0 s) := by
  unfold trimCore
  extract_lets -merge -useContext +onlyGivenNames y0; clear_value (e1 : y0 = _)
  refine .ite (by exact .refl _) ?_
  refine .ite ?_ ?_
  · refine .trans ?_ (faultCore_keeps ..)
    exact .refl _
  · extract_lets -merge -useContext +onlyGivenNames y2; clear_value (e3 : y2 = _)
    refine .cut e3 ?_ fun h4 => ?_
    · refine .trans ?_ (forAll_keeps _ _ _ ?_)
      rotate_left
      · intro t5 t6
        refine .trans ?_ (spareSlice_keeps ..)
        exact .refl _
      exact .refl _
    clear e3
    refine .ite ?_ ?_
    · refine .trans ?_ (faultCore_keeps ..)
      exact h4
    · extract_lets -merge -useContext +onlyGivenNames y7; clear_value (e8 : y7 = _)
      refine .trans ?_ (updCore_keeps ..)
      exact h4

theorem loadCore_keeps {m : Nat} x0 s (hm : Within 1048576 m := by first | exact .trans (by assumption) ⟨rfl⟩ | exact ⟨rfl⟩) : Keeps m s (loadCore x0 s) := by
  unfold loadCore
  refine .trans ?_ (updCore_keeps ..)
  exact .refl _

theorem powerCores_keeps {m : Nat} x0 s (hm : Within 1048576 m := by first | exact .trans (by assumption) ⟨rfl⟩ | exact ⟨rfl⟩) : Keeps m s (powerCores x0 s) := by
  unfold powerCores
  refine .trans ?_ (forAll_keeps _ _ _ ?_)
  rotate_left
  · intro t0 t1
    refine .trans ?_ (updCore_keeps ..)
    exact .refl _
  exact .refl _

theorem stopGroup_keeps {m : Nat} x0 x1 x2 s (hm : Within 1073741824 m := by first | exact .trans (by assumption) ⟨rfl⟩ | exact ⟨rfl⟩) : Keeps m s (stopGroup x0 x1 x2 s) := by
  unfold stopGroup
  refine .trans ?_ (updSg_keeps ..)
  exact .refl _

theorem removeInput_keeps {m : Nat} x0 x1 s (hm : Within 1073741824 m := by first | exact .trans (by assumption) ⟨rfl⟩ | exact ⟨rfl⟩) : Keeps m s (removeInput x0 x1 s) := by
  unfold removeInput
  refine .trans ?_ (forEach_keeps _ _ _ ?_)
  rotate_left
  · intro t0 t1
    extract_lets -merge -useContext +onlyGivenNames y2; clear_value (e3 : y2 = _)
    refine .ite ?_ (by exact .refl _)
    extract_lets -merge -useContext +onlyGivenNames y4; clear_value (e5 : y4 = _)
    extract_lets -merge -useContext +onlyGivenNames y6; clear_value (e7 : y6 = _)
    refine .cut e7 ?_ fun h8 => ?_
    · refine .trans ?_ (updSg_keeps ..)
      exact .refl _
    clear e7
    refine .ite ?_ (by exact h8)
    refine .trans ?_ (stopGroup_keeps ..)
    exact h8
  exact .refl _

theorem pushEvent_keeps {m : Nat} x0 s  : Keeps m s (pushEvent x0 s) := by
  unfold pushEvent
  extract_lets -merge -useContext +onlyGivenNames y0; clear_value (e1 : y0 = _)
  refine .upd ?_
  exact .refl _

theorem updComparator_keeps {m : Nat} x0 x1 x2 s (hm : Within 33554432 m := by first | exact .trans (by assumption) ⟨rfl⟩ | exact ⟨rfl⟩) : Keeps m s (updComparator x0 x1 x2 s) := by
  unfold updComparator
  refine .upd ?_
  exact .refl _

theorem loseComparators_keeps {m : Nat} x0 x1 x2 s (hm : Within 33554432 m := by first | exact .trans (by assumption) ⟨rfl⟩ | exact ⟨rfl⟩) : Keeps m s (loseComparators x0 x1 x2 s) := by
  unfold loseComparators
  refine .trans ?_ (forEach_keeps _ _ _ ?_)
  rotate_left
  · intro t0 t1
    extract_lets -merge -useContext +onlyGivenNames y2; clear_value (e3 : y2 = _)
    refine .ite ?_ (by exact .refl _)
    refine .trans ?_ (pushEvent_keeps ..)
    refine .trans ?_ (updComparator_keeps ..)
    exact .refl _
  exact .refl _

theorem setTail_keeps {m : Nat} x0 x1 s  : Keeps m s (setTail x0 x1 s) := by
  unfold setTail
  refine .upd ?_
  exact .refl _

theorem stepComparator_keeps {m : Nat} x0 x1 x2 x3 x4 x5 s (hm : Within 33554432 m := by first | exact .trans (by assumption) ⟨rfl⟩ | exact ⟨rfl⟩) : Keeps m s (stepComparator x0 x1 x2 x3 x4 x5 s) := by
  unfold stepComparator
  extract_lets +onlyGivenNames x take
  have ht : ∀ h e, Keeps m s (take h e) := fun h e => Keeps.trans (updComparator_keeps _ _ _ _) (pushEvent_keeps _ _)
  clear_value take
  refine .ite (Keeps.refl _) ?_
  split
  · exact ht _ _
  · split
    · exact .refl _
    · exact ht _ _

theorem inputStep_keeps {m : Nat} x0 x1 x2 x3 x4 s (hm : Within 33554432 m := by first | exact .trans (by assumption) ⟨rfl⟩ | exact ⟨rfl⟩) : Keeps m s (inputStep x0 x1 x2 x3 x4 s) := by
  unfold inputStep
  refine .trans ?_ (stepComparator_keeps ..)
  refine .trans ?_ (stepComparator_keeps ..)
  exact .refl _

theorem stepTail_keeps {m : Nat} x0 x1 x2 s (hm : Within 33554432 m := by first | exact .trans (by assumption) ⟨rfl⟩ | exact ⟨rfl⟩) : Keeps m s (stepTail x0 x1 x2 s) := by
  unfold stepTail
  split
  · exact .refl _
  · refine .trans ?_ (inputStep_keeps ..)
    exact .refl _

theorem flushTail_keeps {m : Nat} x0 s (hm : Within 33554432 m := by first | exact .trans (by assumption) ⟨rfl⟩ | exact ⟨rfl⟩) : Keeps m s (flushTail x0 s) := by
  unfold flushTail
  refine .trans ?_ (setTail_keeps ..)
  refine .trans ?_ (stepTail_keeps ..)
  exact .refl _

theorem passGaps_keeps {m : Nat} x0 s (hm : Within 33554432 m := by first | exact .trans (by assumption) ⟨rfl⟩ | exact ⟨rfl⟩) : Keeps m s (passGaps x0 s) := by
  unfold passGaps
  extract_lets -merge -useContext +onlyGivenNames y0; clear_value (e1 : y0 = _)
  extract_lets -merge -useContext +onlyGivenNames y2; clear_value (e3 : y2 = _)
  refine .ite (by exact .refl _) ?_
  extract_lets -merge -useContext +onlyGivenNames y4; clear_value (e5 : y4 = _)
  extract_lets -merge -useContext +onlyGivenNames y6; clear_value (e7 : y6 = _)
  refine .cut e7 ?_ fun h8 => ?_
  · refine .upd ?_
    exact .refl _
  clear e7
  refine .trans ?_ (forAll_keeps _ _ _ ?_)
  rotate_left
  · intro t9 t10
    refine .trans ?_ (loseComparators_keeps ..)
    exact .refl _
  refine .trans ?_ (flushTail_keeps ..)
  exact h8

theorem forceInput_keeps {m : Nat} x0 x1 s (hm : Within 33554432 m := by first | exact .trans (by assumption) ⟨rfl⟩ | exact ⟨rfl⟩) : Keeps m s (forceInput x0 x1 s) := by
  unfold forceInput
  refine .trans ?_ (passGaps_keeps ..)
  refine .upd ?_
  exact .refl _

theorem stopInput_keeps {m : Nat} x0 x1 x2 s (hm : Within 1107820544 m := by first | exact .trans (by assumption) ⟨rfl⟩ | exact ⟨rfl⟩) : Keeps m s (stopInput x0 x1 x2 s) := by
  unfold stopInput
  extract_lets -merge -useContext +onlyGivenNames y0; clear_value (e1 : y0 = _)
  refine .cut e1 ?_ fun h2 => ?_
  · refine .trans ?_ (updInput_keeps ..)
    exact .refl _
  clear e1
  extract_lets -merge -useContext +onlyGivenNames y3; clear_value (e4 : y3 = _)
  refine .cut e4 ?_ fun h5 => ?_
  · refine .trans ?_ (removeInput_keeps ..)
    refine .trans ?_ (forceInput_keeps ..)
    exact h2
  clear e4
  refine .trans ?_ (updSince_keeps ..)
  exact h5

theorem goLive_keeps {m : Nat} x0 x1 s (hm : Within 1048576 m := by first | exact .trans (by assumption) ⟨rfl⟩ | exact ⟨rfl⟩) : Keeps m s (goLive x0 x1 s) := by
  unfold goLive
  extract_lets -merge -useContext +onlyGivenNames y0; clear_value (e1 : y0 = _)
  extract_lets -merge -useContext +onlyGivenNames y2; clear_value (e3 : y2 = _)
  refine .cut e3 ?_ fun h4 => ?_
  · refine .upd ?_
    exact .refl _
  clear e3
  refine .trans ?_ (updCore_keeps ..)
  exact h4

theorem staffInput_keeps {m : Nat} x0 s (hm : Within 1108869120 m := by first | exact .trans (by assumption) ⟨rfl⟩ | exact ⟨rfl⟩) : Keeps m s (staffInput x0 s) := by
  unfold staffInput
  refine .ite ?_ ?_
  · refine .trans ?_ (powerCores_keeps ..)
    exact .refl _
  · extract_lets -merge -useContext +onlyGivenNames y0; clear_value (e1 : y0 = _)
    extract_lets -merge -useContext +onlyGivenNames y2; clear_value (e3 : y2 = _)
    extract_lets -merge -useContext +onlyGivenNames y4; clear_value (e5 : y4 = _)
    refine .cut e5 ?_ fun h6 => ?_
    · refine .trans ?_ (updInput_keeps ..)
      exact .refl _
    clear e5
    refine .ite ?_ ?_
    · refine .trans ?_ (stopInput_keeps ..)
      exact h6
    · extract_lets -merge -useContext +onlyGivenNames y7; clear_value (e8 : y7 = _)
      extract_lets -merge -useContext +onlyGivenNames y9; clear_value (e10 : y9 = _)
      refine .cut e10 ?_ fun h11 => ?_
      · refine .trans ?_ (updInput_keeps ..)
        exact h6
      clear e10
      extract_lets -merge -useContext +onlyGivenNames y12; clear_value (e13 : y12 = _)
      refine .cut e13 ?_ fun h14 => ?_
      · refine .trans ?_ (forEach_keeps _ _ _ ?_)
        rotate_left
        · intro t15 t16
          extract_lets -merge -useContext +onlyGivenNames y17; clear_value (e18 : y17 = _)
          refine .ite (by exact .refl _) ?_
          refine .trans ?_ (goLive_keeps ..)
          exact .refl _
        exact h11
      clear e13
      refine .trans ?_ (forAll_keeps _ _ _ ?_)
      rotate_left
      · intro t19 t20
        refine .trans ?_ (rotateCore_keeps ..)
        exact .refl _
      exact h14

theorem applyTrims_keeps {m : Nat} x0 x1 s (hm : Within 1108869120 m := by first | exact .trans (by assumption) ⟨rfl⟩ | exact ⟨rfl⟩) : Keeps m s (applyTrims x0 x1 s) := by
  unfold applyTrims
  extract_lets -merge -useContext +onlyGivenNames y0; clear_value (e1 : y0 = _)
  extract_lets -merge -useContext +onlyGivenNames y2; clear_value (e3 : y2 = _)
  refine .cut e3 ?_ fun h4 => ?_
  · refine .trans ?_ (forAll_keeps _ _ _ ?_)
    rotate_left
    · intro t5 t6
      refine .trans ?_ (trimCore_keeps ..)
      exact .refl _
    exact .refl _
  clear e3
  extract_lets -merge -useContext +onlyGivenNames y7; clear_value (e8 : y7 = _)
  refine .cut e8 ?_ fun h9 => ?_
  · refine .trans ?_ (forAll_keeps _ _ _ ?_)
    rotate_left
    · intro t10 t11
      refine .trans ?_ (loadCore_keeps ..)
      exact .refl _
    exact h4
  clear e8
  refine .trans ?_ (forAll_keeps _ _ _ ?_)
  rotate_left
  · intro t12 t13
    refine .trans ?_ (staffInput_keeps ..)
    exact .refl _
  exact h9

theorem scheduleArm_keeps {m : Nat} x0 x1 x2 s (hm : Within 1073741824 m := by first | exact .trans (by assumption) ⟨rfl⟩ | exact ⟨rfl⟩) : Keeps m s (scheduleArm x0 x1 x2 s) := by
  unfold scheduleArm
  refine .trans ?_ (updSg_keeps ..)
  exact .refl _

theorem armAt_keeps {m : Nat} x0 x1 s (hm : Within 1073741824 m := by first | exact .trans (by assumption) ⟨rfl⟩ | exact ⟨rfl⟩) : Keeps m s (armAt x0 x1 s) := by
  unfold armAt
  split
  · refine .trans ?_ (scheduleArm_keeps ..)
    exact .refl _
  · exact .refl _

theorem syncInput_keeps {m : Nat} x0 x1 s (hm : Within 16777216 m := by first | exact .trans (by assumption) ⟨rfl⟩ | exact ⟨rfl⟩) : Keeps m s (syncInput x0 x1 s) := by
  unfold syncInput
  refine .trans ?_ (syncInputs_keeps ..)
  exact .refl _

theorem rejoinInput_keeps {m : Nat} x0 s (hm : Within 17301504 m := by first | exact .trans (by assumption) ⟨rfl⟩ | exact ⟨rfl⟩) : Keeps m s (rejoinInput x0 s) := by
  unfold rejoinInput
  extract_lets -merge -useContext +onlyGivenNames y0; clear_value (e1 : y0 = _)
  extract_lets -merge -useContext +onlyGivenNames y2; clear_value (e3 : y2 = _)
  refine .cut e3 ?_ fun h4 => ?_
  · refine .trans ?_ (updInput_keeps ..)
    exact .refl _
  clear e3
  refine .ite ?_ (by exact h4)
  refine .trans ?_ (syncInput_keeps ..)
  refine .trans ?_ (record_keeps ..)
  refine .trans ?_ (updInput_keeps ..)
  exact h4

theorem startTrigger_keeps {m : Nat} x0 x1 s (hm : Within 402653184 m := by first | exact .trans (by assumption) ⟨rfl⟩ | exact ⟨rfl⟩) : Keeps m s (startTrigger x0 x1 s) := by
  unfold startTrigger
  extract_lets -merge -useContext +onlyGivenNames y0; clear_value (e1 : y0 = _)
  extract_lets -merge -useContext +onlyGivenNames y2; clear_value (e3 : y2 = _)
  extract_lets -merge -useContext +onlyGivenNames y4; clear_value (e5 : y4 = _)
  refine .cut e5 ?_ fun h6 => ?_
  · refine .trans ?_ (updTg_keeps ..)
    exact .refl _
  clear e5
  refine .ite ?_ (by exact h6)
  refine .trans ?_ (markReady_keeps ..)
  exact h6

theorem armGroup_keeps {m : Nat} x0 s (hm : Within 5788663808 m := by first | exact .trans (by assumption) ⟨rfl⟩ | exact ⟨rfl⟩) : Keeps m s (armGroup x0 s) := by
  unfold armGroup
  extract_lets -merge -useContext +onlyGivenNames y0; clear_value (e1 : y0 = _)
  extract_lets -merge -useContext +onlyGivenNames y2; clear_value (e3 : y2 = _)
  extract_lets -merge -useContext +onlyGivenNames y4; clear_value (e5 : y4 = _)
  refine .cut e5 ?_ fun h6 => ?_
  · refine .trans ?_ (keepWindow_keeps ..)
    refine .trans ?_ (keepView_keeps ..)
    exact .refl _
  clear e5
  extract_lets -merge -useContext +onlyGivenNames y7; clear_value (e8 : y7 = _)
  refine .cut e8 ?_ fun h9 => ?_
  · refine .trans ?_ (forAll_keeps _ _ _ ?_)
    rotate_left
    · intro t10 t11
      refine .trans ?_ (rejoinInput_keeps ..)
      exact .refl _
    exact h6
  clear e8
  extract_lets -merge -useContext +onlyGivenNames y12; clear_value (e13 : y12 = _)
  extract_lets -merge -useContext +onlyGivenNames y14; clear_value (e15 : y14 = _)
  refine .cut e15 ?_ fun h16 => ?_
  · refine .trans ?_ (updSg_keeps ..)
    exact h9
  clear e15
  extract_lets -merge -useContext +onlyGivenNames y17; clear_value (e18 : y17 = _)
  refine .cut e18 ?_ fun h19 => ?_
  · refine .trans ?_ (startTrigger_keeps ..)
    exact h16
  clear e18
  extract_lets -merge -useContext +onlyGivenNames y20; clear_value (e21 : y20 = _)
  extract_lets -merge -useContext +onlyGivenNames y22; clear_value (e23 : y22 = _)
  refine .cut e23 ?_ fun h24 => ?_
  · refine .trans ?_ (record_keeps ..)
    exact h19
  clear e23
  extract_lets -merge -useContext +onlyGivenNames y25; clear_value (e26 : y25 = _)
  refine .cut e26 ?_ fun h27 => ?_
  · refine .ite ?_ (by exact h24)
    refine .trans ?_ (record_keeps ..)
    exact h24
  clear e26
  refine .trans ?_ (noteAccumulators_keeps ..)
  exact h27

end Sys2Proof.Machine
end

