-- ==== Sys2Proof/Laws/KeepsB.lean ====
section
/-! SUPPORT. Operations that keep, each after those it calls (2 of 6). -/

set_option Elab.async false

namespace Sys2Proof.Machine

theorem armGroups_keeps {m : Nat} x0 x1 s (hm : Within 1073741824 m := by first | exact .trans (by assumption) ⟨rfl⟩ | exact ⟨rfl⟩) : Keeps m s (armGroups x0 x1 s) := by
  unfold armGroups
  refine .trans ?_ (forEach_keeps _ _ _ ?_)
  rotate_left
  · intro t0 t1
    refine .ite ?_ (by exact .refl _)
    refine .trans ?_ (armAt_keeps ..)
    exact .refl _
  exact .refl _

theorem startConversion_keeps {m : Nat} x0 x1 s  : Keeps m s (startConversion x0 x1 s) := by
  unfold startConversion
  refine .upd ?_
  exact .refl _

theorem startSequence_keeps {m : Nat} x0 x1 s  : Keeps m s (startSequence x0 x1 s) := by
  unfold startSequence
  extract_lets -merge -useContext +onlyGivenNames y0; clear_value (e1 : y0 = _)
  extract_lets -merge -useContext +onlyGivenNames y2; clear_value (e3 : y2 = _)
  refine .cut e3 ?_ fun h4 => ?_
  · refine .upd ?_
    exact .refl _
  clear e3
  refine .ite ?_ (by exact h4)
  refine .trans ?_ (startConversion_keeps ..)
  exact h4

theorem nextRoutine_keeps {m : Nat} s  : Keeps m s (nextRoutine s) := by
  unfold nextRoutine
  split
  · refine .trans ?_ (startConversion_keeps ..)
    refine .upd ?_
    exact .refl _
  · split
    · refine .trans ?_ (startSequence_keeps ..)
      exact .refl _
    · exact .refl _

theorem auxNext_keeps {m : Nat} s  : Keeps m s (auxNext s) := by
  unfold auxNext
  refine .ite (by exact .refl _) ?_
  split
  · refine .trans ?_ (startConversion_keeps ..)
    exact .refl _
  · refine .ite ?_ ?_
    · refine .trans ?_ (startConversion_keeps ..)
      refine .upd ?_
      exact .refl _
    · split
      · refine .trans ?_ (startConversion_keeps ..)
        refine .upd ?_
        exact .refl _
      · refine .trans ?_ (nextRoutine_keeps ..)
        exact .refl _

theorem askHold_keeps {m : Nat} s  : Keeps m s (askHold s) := by
  unfold askHold
  refine .trans ?_ (auxNext_keeps ..)
  refine .upd ?_
  exact .refl _

theorem assignHead_keeps {m : Nat} x0 x1 x2 s (hm : Within 8589934592 m := by first | exact .trans (by assumption) ⟨rfl⟩ | exact ⟨rfl⟩) : Keeps m s (assignHead x0 x1 x2 s) := by
  unfold assignHead
  refine .trans ?_ (queueCommand_keeps ..)
  exact .refl _

theorem readCmd_keeps {m : Nat} x0 x1 x2 x3 w q s  : Keeps m s ((readCmd x0 x1 x2 x3).act w q s) := by
  dsimp -zeta only [readCmd, setCmd, readCmd, readClearCmd]
  refine .trans ?_ (reply_keeps ..)
  exact .refl _

theorem auxGetCaptureCmd_keeps {m : Nat} (w : Waiter) (q : Request) (s : State)  : Keeps m s (auxGetCaptureCmd.act w q s) := by
  dsimp -zeta only [auxGetCaptureCmd, setCmd, readCmd, readClearCmd]
  refine .trans ?_ (reply_keeps ..)
  exact .refl _

theorem auxGetMonitorsCmd_keeps {m : Nat} (w : Waiter) (q : Request) (s : State)  : Keeps m s (auxGetMonitorsCmd.act w q s) := by
  dsimp -zeta only [auxGetMonitorsCmd, setCmd, readCmd, readClearCmd]
  refine .trans ?_ (reply_keeps ..)
  exact .refl _

theorem auxInjectCmd_keeps {m : Nat} (w : Waiter) (q : Request) (s : State)  : Keeps m s (auxInjectCmd.act w q s) := by
  dsimp -zeta only [auxInjectCmd, setCmd, readCmd, readClearCmd]
  refine .trans ?_ (auxNext_keeps ..)
  refine .upd ?_
  exact .refl _

theorem setCmd_keeps {m : Nat} {x0 x1 x2 x3 x4 x5} (h : ∀ q s, Keeps m s (x4 q s)) (w : Waiter) (q : Request) (s : State)  : Keeps m s ((setCmd x0 x1 x2 x3 x4 x5).act w q s) := (h q s).trans (reply_keeps _ _ _ _)

theorem auxSetCaptureCmd_keeps {m : Nat} (w : Waiter) (q : Request) (s : State)  : Keeps m s (auxSetCaptureCmd.act w q s) := by
  dsimp -zeta only [auxSetCaptureCmd, setCmd, readCmd, readClearCmd]
  refine .trans ?_ (reply_keeps ..)
  refine .upd ?_
  exact .refl _

theorem auxSetSequenceCmd_keeps {m : Nat} (w : Waiter) (q : Request) (s : State) (hm : Within 1099511627776 m := by first | exact .trans (by assumption) ⟨rfl⟩ | exact ⟨rfl⟩) : Keeps m s (auxSetSequenceCmd.act w q s) := by
  dsimp -zeta only [auxSetSequenceCmd, setCmd, readCmd, readClearCmd]
  refine .trans ?_ (reply_keeps ..)
  extract_lets -merge -useContext +onlyGivenNames y0; clear_value (e1 : y0 = _)
  refine .upd ?_
  exact .refl _

theorem auxStatusWritten_keeps {m : Nat} x0 s  : Keeps m s (auxStatusWritten x0 s) := by
  unfold auxStatusWritten
  refine .ite ?_ (by exact .refl _)
  refine .upd ?_
  exact .refl _

theorem closeBatch_keeps {m : Nat} x0 s (hm : Within 292057776128 m := by first | exact .trans (by assumption) ⟨rfl⟩ | exact ⟨rfl⟩) : Keeps m s (closeBatch x0 s) := by
  unfold closeBatch
  split
  · exact .refl _
  · refine .ite (by exact .refl _) ?_
    extract_lets -merge -useContext +onlyGivenNames y0; clear_value (e1 : y0 = _)
    refine .trans ?_ (offerBound_keeps ..)
    refine .trans ?_ (updBind_keeps ..)
    exact .refl _

theorem batchStamp_keeps {m : Nat} x0 x1 s (hm : Within 292057776128 m := by first | exact .trans (by assumption) ⟨rfl⟩ | exact ⟨rfl⟩) : Keeps m s (batchStamp x0 x1 s) := by
  unfold batchStamp
  split
  · exact .refl _
  · extract_lets -merge -useContext +onlyGivenNames y0; clear_value (e1 : y0 = _)
    extract_lets -merge -useContext +onlyGivenNames y2; clear_value (e3 : y2 = _)
    refine .cut e3 ?_ fun h4 => ?_
    · refine .trans ?_ (updBind_keeps ..)
      exact .refl _
    clear e3
    refine .ite ?_ (by exact h4)
    refine .trans ?_ (closeBatch_keeps ..)
    exact h4

theorem beginCommanded_keeps {m : Nat} x0 s (hm : Within 524288 m := by first | exact .trans (by assumption) ⟨rfl⟩ | exact ⟨rfl⟩) : Keeps m s (beginCommanded x0 s) := by
  unfold beginCommanded
  extract_lets -merge -useContext +onlyGivenNames y0; clear_value (e1 : y0 = _)
  refine .cut e1 ?_ fun h2 => ?_
  · refine .trans ?_ (startForeground_keeps ..)
    exact .refl _
  clear e1
  refine .trans ?_ (record_keeps ..)
  refine .trans ?_ (askHold_keeps ..)
  exact h2

theorem beginDeferred_keeps {m : Nat} s (hm : Within 524288 m := by first | exact .trans (by assumption) ⟨rfl⟩ | exact ⟨rfl⟩) : Keeps m s (beginDeferred s) := by
  unfold beginDeferred
  split
  · exact .refl _
  · refine .trans ?_ (beginCommanded_keeps ..)
    refine .upd ?_
    exact .refl _

theorem setPortState_keeps {m : Nat} x0 x1 s (hm : Within 8589934592 m := by first | exact .trans (by assumption) ⟨rfl⟩ | exact ⟨rfl⟩) : Keeps m s (setPortState x0 x1 s) := by
  unfold setPortState
  refine .ite (by exact .refl _) ?_
  extract_lets -merge -useContext +onlyGivenNames y0; clear_value (e1 : y0 = _)
  refine .cut e1 ?_ fun h2 => ?_
  · refine .trans ?_ (updPort_keeps ..)
    exact .refl _
  clear e1
  extract_lets -merge -useContext +onlyGivenNames y3; clear_value (e4 : y3 = _)
  refine .cut e4 ?_ fun h5 => ?_
  · refine .trans ?_ (record_keeps ..)
    exact h2
  clear e4
  split
  · refine .trans ?_ (assertAlert_keeps ..)
    exact h5
  · refine .trans ?_ (releaseAlert_keeps ..)
    exact h5

theorem reportAlarms_keeps {m : Nat} x0 x1 x2 x3 x4 x5 x6 s  : Keeps m s (reportAlarms x0 x1 x2 x3 x4 x5 x6 s) := by
  unfold reportAlarms
  refine .trans ?_ (pushEvent_keeps ..)
  exact .refl _

theorem clearAlarms_keeps {m : Nat} x0 x1 s (hm : Within 8589934592 m := by first | exact .trans (by assumption) ⟨rfl⟩ | exact ⟨rfl⟩) : Keeps m s (clearAlarms x0 x1 s) := by
  unfold clearAlarms
  extract_lets -merge -useContext +onlyGivenNames y0; clear_value (e1 : y0 = _)
  extract_lets -merge -useContext +onlyGivenNames y2; clear_value (e3 : y2 = _)
  refine .trans ?_ (forAll_keeps _ _ _ ?_)
  rotate_left
  · intro t4 t5
    refine .trans ?_ (reportAlarms_keeps ..)
    exact .refl _
  refine .trans ?_ (updPort_keeps ..)
  exact .refl _

theorem headGone_keeps {m : Nat} x0 x1 s (hm : Within 4294967296 m := by first | exact .trans (by assumption) ⟨rfl⟩ | exact ⟨rfl⟩) : Keeps m s (headGone x0 x1 s) := by
  unfold headGone
  extract_lets -merge -useContext +onlyGivenNames y0; clear_value (e1 : y0 = _)
  refine .upd ?_
  exact .refl _

theorem failCommands_keeps {m : Nat} x0 x1 s (hm : Within 8589934592 m := by first | exact .trans (by assumption) ⟨rfl⟩ | exact ⟨rfl⟩) : Keeps m s (failCommands x0 x1 s) := by
  unfold failCommands
  extract_lets -merge -useContext +onlyGivenNames y0; clear_value (e1 : y0 = _)
  extract_lets -merge -useContext +onlyGivenNames y2; clear_value (e3 : y2 = _)
  refine .cut e3 ?_ fun h4 => ?_
  · refine .trans ?_ (updPort_keeps ..)
    exact .refl _
  clear e3
  refine .trans ?_ (forAll_keeps _ _ _ ?_)
  rotate_left
  · intro t5 t6
    refine .trans ?_ (replyOpt_keeps ..)
    exact .refl _
  exact h4

theorem endRounds_keeps {m : Nat} x0 s (hm : Within 12884901888 m := by first | exact .trans (by assumption) ⟨rfl⟩ | exact ⟨rfl⟩) : Keeps m s (endRounds x0 s) := by
  unfold endRounds
  extract_lets -merge -useContext +onlyGivenNames y0; clear_value (e1 : y0 = _)
  extract_lets -merge -useContext +onlyGivenNames y2; clear_value (e3 : y2 = _)
  refine .cut e3 ?_ fun h4 => ?_
  · refine .trans ?_ (clearAlarms_keeps ..)
    exact .refl _
  clear e3
  extract_lets -merge -useContext +onlyGivenNames y5; clear_value (e6 : y5 = _)
  refine .cut e6 ?_ fun h7 => ?_
  · refine .trans ?_ (forAll_keeps _ _ _ ?_)
    rotate_left
    · intro t8 t9
      refine .trans ?_ (headGone_keeps ..)
      refine .trans ?_ (failCommands_keeps ..)
      exact .refl _
    exact h4
  clear e6
  extract_lets -merge -useContext +onlyGivenNames y10; clear_value (e11 : y10 = _)
  extract_lets -merge -useContext +onlyGivenNames y12; clear_value (e13 : y12 = _)
  refine .cut e13 ?_ fun h14 => ?_
  · refine .trans ?_ (updPort_keeps ..)
    exact h7
  clear e13
  extract_lets -merge -useContext +onlyGivenNames y15; clear_value (e16 : y15 = _)
  refine .cut e16 ?_ fun h17 => ?_
  · refine .trans ?_ (releaseAlert_keeps ..)
    refine .trans ?_ (releaseAlert_keeps ..)
    exact h14
  clear e16
  refine .trans ?_ (replyOpt_keeps ..)
  exact h17

theorem portDown_keeps {m : Nat} x0 s (hm : Within 12884901888 m := by first | exact .trans (by assumption) ⟨rfl⟩ | exact ⟨rfl⟩) : Keeps m s (portDown x0 s) := by
  unfold portDown
  refine .ite (by exact .refl _) ?_
  refine .trans ?_ (setPortState_keeps ..)
  refine .trans ?_ (endRounds_keeps ..)
  exact .refl _

theorem stopPorts_keeps {m : Nat} x0 s (hm : Within 12884901888 m := by first | exact .trans (by assumption) ⟨rfl⟩ | exact ⟨rfl⟩) : Keeps m s (stopPorts x0 s) := by
  unfold stopPorts
  refine .trans ?_ (forEach_keeps _ _ _ ?_)
  rotate_left
  · intro t0 t1
    refine .ite (by exact .refl _) ?_
    refine .trans ?_ (portDown_keeps ..)
    refine .trans ?_ (updPort_keeps ..)
    exact .refl _
  exact .refl _

theorem idleAccumulators_keeps {m : Nat} s (hm : Within 4294967296 m := by first | exact .trans (by assumption) ⟨rfl⟩ | exact ⟨rfl⟩) : Keeps m s (idleAccumulators s) := by
  unfold idleAccumulators
  refine .trans ?_ (stopAccs_keeps ..)
  exact .refl _

theorem stopEngines_keeps {m : Nat} s (hm : Within 292057776128 m := by first | exact .trans (by assumption) ⟨rfl⟩ | exact ⟨rfl⟩) : Keeps m s (stopEngines s) := by
  unfold stopEngines
  extract_lets -merge -useContext +onlyGivenNames y0; clear_value (e1 : y0 = _)
  refine .cut e1 ?_ fun h2 => ?_
  · refine .trans ?_ (forAll_keeps _ _ _ ?_)
    rotate_left
    · intro t3 t4
      refine .trans ?_ (stopJob_keeps ..)
      exact .refl _
    exact .refl _
  clear e1
  refine .trans ?_ (answerStops_keeps ..)
  refine .trans ?_ (forEach_keeps _ _ _ ?_)
  rotate_left
  · intro t5 t6
    refine .trans ?_ (abortTask_keeps ..)
    exact .refl _
  exact h2

theorem beginEntry_keeps {m : Nat} x0 s (hm : Within 304942678016 m := by first | exact .trans (by assumption) ⟨rfl⟩ | exact ⟨rfl⟩) : Keeps m s (beginEntry x0 s) := by
  unfold beginEntry
  extract_lets -merge -useContext +onlyGivenNames y0; clear_value (e1 : y0 = _)
  refine .cut e1 ?_ fun h2 => ?_
  · refine .trans ?_ (stopPorts_keeps ..)
    refine .trans ?_ (idleAccumulators_keeps ..)
    refine .trans ?_ (stopEngines_keeps ..)
    exact .refl _
  clear e1
  refine .upd ?_
  exact h2

theorem tuneChannel_keeps {m : Nat} x0 s  : Keeps m s (tuneChannel x0 s) := by
  unfold tuneChannel
  split
  rename_i a t e
  have h0 : Keeps m s t := by have := takeFree_keeps (m := m) s; rw [e] at this; exact this
  split
  rename_i b u e1
  have h1 : Keeps m s u := h0.trans (by have := takeFree_keeps (m := m) t; rw [e1] at this; exact this)
  exact h1.trans (updChannel_keeps _ _ _)

theorem trainAll_keeps {m : Nat} s  : Keeps m s (trainAll s) := by
  unfold trainAll
  refine .trans ?_ (forEach_keeps _ _ _ ?_)
  rotate_left
  · intro t0 t1
    extract_lets -merge -useContext +onlyGivenNames y2; clear_value (e3 : y2 = _)
    extract_lets -merge -useContext +onlyGivenNames y4; clear_value (e5 : y4 = _)
    refine .trans ?_ (updChannel_keeps ..)
    refine .trans ?_ (tuneChannel_keeps ..)
    subst e5
    refine .trans ?_ (takeFree_keeps ..)
    subst e3
    refine .trans ?_ (takeFree_keeps ..)
    exact .refl _
  exact .refl _

theorem beginExit_keeps {m : Nat} x0 x1 s  : Keeps m s (beginExit x0 x1 s) := by
  unfold beginExit
  extract_lets -merge -useContext +onlyGivenNames y0; clear_value (e1 : y0 = _)
  refine .cut e1 ?_ fun h2 => ?_
  · refine .trans ?_ (trainAll_keeps ..)
    exact .refl _
  clear e1
  refine .upd ?_
  exact h2

theorem beginSeam_keeps {m : Nat} x0 s (hm : Within 524288 m := by first | exact .trans (by assumption) ⟨rfl⟩ | exact ⟨rfl⟩) : Keeps m s (beginSeam x0 s) := by
  unfold beginSeam
  split
  · refine .ite ?_ ?_
    · refine .trans ?_ (postponeSeam_keeps ..)
      exact .refl _
    · refine .trans ?_ (updInput_keeps ..)
      exact .refl _
  · exact .refl _

theorem beginStartupStep_keeps {m : Nat} x0 s (hm : Within 1048576 m := by first | exact .trans (by assumption) ⟨rfl⟩ | exact ⟨rfl⟩) : Keeps m s (beginStartupStep x0 s) := by
  unfold beginStartupStep
  split
  · refine .trans ?_ ((Keeps.of rfl (Nat.le_refl _) (fun hi => ⟨by simpa [Sized] using hi.1, hi.2⟩)) : Keeps m ({ forEach 24 (fun c => updCore c fun _ => { st := .rotating }) s with aux := { s.aux with holdWaits := false } }) _)
    have k := forEach_keeps (m := m) 24 (fun c => updCore c fun _ => { st := .rotating }) s (fun c t => updCore_keeps _ _ _)
    refine (Keeps.of k.1 (k.2.1) (fun hi => ⟨?_, (k.2.2.1 hi).2⟩) (fun x hx => by have e := k.2.2.2 x hx; cases x <;> first | exact e | exact Eq.refl _ | (refine absurd hx (Within.written (by assumption) ?_); rfl)))
    have a := (k.2.2.1 hi).1
    have b := hi.1
    simp only [Sized] at a b ⊢
    simp only [a, b, and_self]
  · exact (Keeps.of rfl (Nat.le_refl _) (fun hi => ⟨by simpa [Sized] using hi.1, hi.2⟩))

theorem putTable_keeps {m : Nat} x0 x1 x2 s  : Keeps m s (putTable x0 x1 x2 s) := by
  unfold putTable
  split
  rename_i a t e
  have h0 : Keeps m s t := by have := takeFree_keeps (m := m) s; rw [e] at this; exact this
  split
  rename_i b u e1
  have h1 : Keeps m s u := h0.trans (by have := takeFree_keeps (m := m) t; rw [e1] at this; exact this)
  exact Keeps.upd h1

theorem buildTable_keeps {m : Nat} x0 x1 s  : Keeps m s (buildTable x0 x1 s) := by
  unfold buildTable
  refine .trans ?_ (putTable_keeps ..)
  exact .refl _

theorem countPast_keeps {m : Nat} x0 x1 s (hm : Within 134217728 m := by first | exact .trans (by assumption) ⟨rfl⟩ | exact ⟨rfl⟩) : Keeps m s (countPast x0 x1 s) := by
  unfold countPast
  extract_lets -merge -useContext +onlyGivenNames y0; clear_value (e1 : y0 = _)
  extract_lets -merge -useContext +onlyGivenNames y2; clear_value (e3 : y2 = _)
  refine .cut e3 ?_ fun h4 => ?_
  · refine .trans ?_ (updTg_keeps ..)
    exact .refl _
  clear e3
  refine .upd ?_
  exact h4

theorem queueTrigger_keeps {m : Nat} x0 x1 s (hm : Within 134217728 m := by first | exact .trans (by assumption) ⟨rfl⟩ | exact ⟨rfl⟩) : Keeps m s (queueTrigger x0 x1 s) := by
  unfold queueTrigger
  refine .trans ?_ (updTg_keeps ..)
  exact .refl _

theorem busTrigger_keeps {m : Nat} x0 x1 s (hm : Within 134217728 m := by first | exact .trans (by assumption) ⟨rfl⟩ | exact ⟨rfl⟩) : Keeps m s (busTrigger x0 x1 s) := by
  unfold busTrigger
  extract_lets -merge -useContext +onlyGivenNames y0; clear_value (e1 : y0 = _)
  extract_lets -merge -useContext +onlyGivenNames y2; clear_value (e3 : y2 = _)
  refine .ite (by exact .refl _) ?_
  refine .ite ?_ ?_
  · refine .trans ?_ (recordLimited_keeps ..)
    refine .trans ?_ (countPast_keeps ..)
    exact .refl _
  · refine .trans ?_ (queueTrigger_keeps ..)
    exact .refl _

theorem readClearCmd_keeps {m : Nat} {x0 x1 x2 x3 x4} (h : ∀ q s, Keeps m s (x4 q s)) (w : Waiter) (q : Request) (s : State)  : Keeps m s ((readClearCmd x0 x1 x2 x3 x4).act w q s) := (h q s).trans (reply_keeps _ _ _ _)

theorem calGetQualityCmd_keeps {m : Nat} (w : Waiter) (q : Request) (s : State)  : Keeps m s (calGetQualityCmd.act w q s) := by
  dsimp -zeta only [calGetQualityCmd, setCmd, readCmd, readClearCmd]
  refine .trans ?_ (reply_keeps ..)
  refine .upd ?_
  exact .refl _

theorem calReadImageCmd_keeps {m : Nat} (w : Waiter) (q : Request) (s : State)  : Keeps m s (calReadImageCmd.act w q s) := by
  dsimp -zeta only [calReadImageCmd, setCmd, readCmd, readClearCmd]
  refine .trans ?_ (reply_keeps ..)
  exact .refl _

theorem calRestoreImageCmd_keeps {m : Nat} (w : Waiter) (q : Request) (s : State) (hm : Within 524288 m := by first | exact .trans (by assumption) ⟨rfl⟩ | exact ⟨rfl⟩) : Keeps m s (calRestoreImageCmd.act w q s) := by
  dsimp -zeta only [calRestoreImageCmd, setCmd, readCmd, readClearCmd]
  refine .trans ?_ (startForeground_keeps ..)
  refine .upd ?_
  exact .refl _

theorem calRunForegroundCmd_keeps {m : Nat} (w : Waiter) (q : Request) (s : State) (hm : Within 524288 m := by first | exact .trans (by assumption) ⟨rfl⟩ | exact ⟨rfl⟩) : Keeps m s (calRunForegroundCmd.act w q s) := by
  dsimp -zeta only [calRunForegroundCmd, setCmd, readCmd, readClearCmd]
  extract_lets -merge -useContext +onlyGivenNames y0; clear_value (e1 : y0 = _)
  refine .ite ?_ ?_
  · extract_lets -merge -useContext +onlyGivenNames y2; clear_value (e3 : y2 = _)
    refine .upd ?_
    exact .refl _
  · refine .trans ?_ (beginCommanded_keeps ..)
    exact .refl _

theorem calSaveImageCmd_keeps {m : Nat} (w : Waiter) (q : Request) (s : State)  : Keeps m s (calSaveImageCmd.act w q s) := by
  dsimp -zeta only [calSaveImageCmd, setCmd, readCmd, readClearCmd]
  extract_lets -merge -useContext +onlyGivenNames y0; clear_value (e1 : y0 = _)
  refine .trans ?_ (reply_keeps ..)
  refine .trans ?_ (updSession_keeps ..)
  exact .refl _

theorem calSetScheduleCmd_keeps {m : Nat} (w : Waiter) (q : Request) (s : State) (hm : Within 2097152 m := by first | exact .trans (by assumption) ⟨rfl⟩ | exact ⟨rfl⟩) : Keeps m s (calSetScheduleCmd.act w q s) := by
  dsimp -zeta only [calSetScheduleCmd, setCmd, readCmd, readClearCmd]
  refine .trans ?_ (reply_keeps ..)
  refine .upd ?_
  exact .refl _

theorem calWriteImageCmd_keeps {m : Nat} (w : Waiter) (q : Request) (s : State)  : Keeps m s (calWriteImageCmd.act w q s) := by
  dsimp -zeta only [calWriteImageCmd, setCmd, readCmd, readClearCmd]
  refine .trans ?_ (reply_keeps ..)
  refine .trans ?_ (updSession_keeps ..)
  exact .refl _

theorem cancelArm_keeps {m : Nat} x0 s (hm : Within 1073741824 m := by first | exact .trans (by assumption) ⟨rfl⟩ | exact ⟨rfl⟩) : Keeps m s (cancelArm x0 s) := by
  unfold cancelArm
  split
  · refine .trans ?_ (replyOpt_keeps ..)
    refine .trans ?_ (updSg_keeps ..)
    exact .refl _
  · exact .refl _

theorem noteRejection_keeps {m : Nat} x0 x1 s  : Keeps m s (noteRejection x0 x1 s) := by
  unfold noteRejection
  split
  · refine .trans ?_ (recordLimited_keeps ..)
    exact .refl _
  · exact .refl _

theorem openGap_keeps {m : Nat} s  : Keeps m s (openGap s) := by
  unfold openGap
  split
  · exact .refl _
  · extract_lets -merge -useContext +onlyGivenNames y0; clear_value (e1 : y0 = _)
    refine .ite (by exact .refl _) ?_
    refine .trans ?_ (openRecord_keeps ..)
    exact .refl _

theorem openStart_keeps {m : Nat} x0 s (hm : Within 52776558133504 m := by first | exact .trans (by assumption) ⟨rfl⟩ | exact ⟨rfl⟩) : Keeps m s (openStart x0 s) := by
  unfold openStart
  extract_lets -merge -useContext +onlyGivenNames y0; clear_value (e1 : y0 = _)
  extract_lets -merge -useContext +onlyGivenNames y2; clear_value (e3 : y2 = _)
  extract_lets -merge -useContext +onlyGivenNames y4; clear_value (e5 : y4 = _)
  extract_lets -merge -useContext +onlyGivenNames y6; clear_value (e7 : y6 = _)
  extract_lets -merge -useContext +onlyGivenNames y8; clear_value (e9 : y8 = _)
  refine .cut e9 ?_ fun h10 => ?_
  · refine .upd ?_
    exact .refl _
  clear e9
  extract_lets -merge -useContext +onlyGivenNames y11; clear_value (e12 : y11 = _)
  refine .cut e12 ?_ fun h13 => ?_
  · refine .trans ?_ (openGap_keeps ..)
    exact h10
  clear e12
  refine .trans ?_ (openRecord_keeps ..)
  exact h13

theorem followClock_keeps {m : Nat} x0 s (hm : Within 268435456 m := by first | exact .trans (by assumption) ⟨rfl⟩ | exact ⟨rfl⟩) : Keeps m s (followClock x0 s) := by
  unfold followClock
  extract_lets -merge -useContext +onlyGivenNames y0; clear_value (e1 : y0 = _)
  extract_lets -merge -useContext +onlyGivenNames y2; clear_value (e3 : y2 = _)
  refine .ite (by exact .refl _) ?_
  refine .trans ?_ (emit_keeps ..)
  refine .trans ?_ (updMarker_keeps ..)
  exact .refl _

theorem lowerMarkers_keeps {m : Nat} s (hm : Within 268435456 m := by first | exact .trans (by assumption) ⟨rfl⟩ | exact ⟨rfl⟩) : Keeps m s (lowerMarkers s) := by
  unfold lowerMarkers
  refine .trans ?_ (forEach_keeps _ _ _ ?_)
  rotate_left
  · intro t0 t1
    refine .trans ?_ (followClock_keeps ..)
    refine .trans ?_ (driveMarker_keeps ..)
    refine .trans ?_ (updMarker_keeps ..)
    exact .refl _
  exact .refl _

theorem convertersDown_keeps {m : Nat} s (hm : Within 35127296 m := by first | exact .trans (by assumption) ⟨rfl⟩ | exact ⟨rfl⟩) : Keeps m s (convertersDown s) := by
  unfold convertersDown
  extract_lets -merge -useContext +onlyGivenNames y0; clear_value (e1 : y0 = _)
  refine .cut e1 ?_ fun h2 => ?_
  · refine .trans ?_ (forEach_keeps _ _ _ ?_)
    rotate_left
    · intro t3 t4
      refine .ite ?_ (by exact .refl _)
      refine .trans ?_ (forceInput_keeps ..)
      exact .refl _
    exact .refl _
  clear e1
  extract_lets -merge -useContext +onlyGivenNames y5; clear_value (e6 : y5 = _)
  refine .cut e6 ?_ fun h7 => ?_
  · refine .trans ?_ (forEach_keeps _ _ _ ?_)
    rotate_left
    · intro t8 t9
      refine .trans ?_ (passGaps_keeps ..)
      refine .trans ?_ (updInput_keeps ..)
      exact .refl _
    exact h2
  clear e6
  extract_lets -merge -useContext +onlyGivenNames y10; clear_value (e11 : y10 = _)
  refine .cut e11 ?_ fun h12 => ?_
  · refine .trans ?_ (forEach_keeps _ _ _ ?_)
    rotate_left
    · intro t13 t14
      refine .trans ?_ (updInCal_keeps ..)
      exact .refl _
    exact h7
  clear e11
  extract_lets -merge -useContext +onlyGivenNames y15; clear_value (e16 : y15 = _)
  refine .cut e16 ?_ fun h17 => ?_
  · refine .trans ?_ (forEach_keeps _ _ _ ?_)
    rotate_left
    · intro t18 t19
      refine .trans ?_ (updCore_keeps ..)
      exact .refl _
    exact h12
  clear e16
  refine .upd ?_
  exact h17

theorem dropSession_keeps {m : Nat} x0 s  : Keeps m s (dropSession x0 s) := by
  unfold dropSession
  refine .trans ?_ (updSession_keeps ..)
  exact .refl _

theorem dropSessions_keeps {m : Nat} s  : Keeps m s (dropSessions s) := by
  unfold dropSessions
  refine .trans ?_ (forEach_keeps _ _ _ ?_)
  rotate_left
  · intro t0 t1
    refine .trans ?_ (dropSession_keeps ..)
    exact .refl _
  refine .upd ?_
  exact .refl _

theorem flushFifo_keeps {m : Nat} s (hm : Within 17592186044416 m := by first | exact .trans (by assumption) ⟨rfl⟩ | exact ⟨rfl⟩) : Keeps m s (flushFifo s) := by
  unfold flushFifo
  refine .upd ?_
  exact .refl _

theorem releaseAlerts_keeps {m : Nat} x0 s  : Keeps m s (releaseAlerts x0 s) := by
  unfold releaseAlerts
  refine .upd ?_
  exact .refl _

theorem setBootState_keeps {m : Nat} x0 s (hm : Within 512 m := by first | exact .trans (by assumption) ⟨rfl⟩ | exact ⟨rfl⟩) : Keeps m s (setBootState x0 s) := by
  unfold setBootState
  refine .ite (by exact .refl _) ?_
  refine .trans ?_ (setIrq_keeps ..)
  refine .upd ?_
  exact .refl _

theorem warmState_keeps {m : Nat} x0 s (hm : Within 58548989788772 m := by first | exact .trans (by assumption) ⟨rfl⟩ | exact ⟨rfl⟩) : Keeps m s (warmState x0 s) := by
  unfold warmState
  extract_lets +onlyGivenNames y
  have h : Keeps m s y := (((flushFifo_keeps _).trans (dropSessions_keeps _)).trans (convertersDown_keeps _)).trans (lowerMarkers_keeps _)
  clear_value y
  extract_lets +onlyGivenNames frame a boot
  clear_value frame
  refine (h.trans ?_).trans ((setBootState_keeps _ _).trans (updLoop_keeps _ _ _))
  refine .trans ?_ (releaseAlerts_keeps ..)
  refine (Keeps.of rfl (Nat.le_refl _) (fun hi => ⟨?_, hi.2⟩))
  obtain ⟨hi, hm⟩ := hi
  simp only [Sized] at hi
  simp [Sized, hi, ClockState.runOn, PowerState.runOn, ProtectState.restart, MemState.runOn, CalState.restart,
    FilterState.restart, EdgeState.restart, AuxState.supervise, TrigMachine.tally]

theorem warmStart_keeps {m : Nat} x0 s (hm : Within 58548989789028 m := by first | exact .trans (by assumption) ⟨rfl⟩ | exact ⟨rfl⟩) : Keeps m s (warmStart x0 s) := by
  unfold warmStart
  refine .trans ?_ (openStart_keeps ..)
  refine .trans ?_ (warmState_keeps ..)
  exact .refl _

theorem sysRestartCmd_keeps {m : Nat} (w : Waiter) (q : Request) (s : State) (hm : Within 58548989789028 m := by first | exact .trans (by assumption) ⟨rfl⟩ | exact ⟨rfl⟩) : Keeps m s (sysRestartCmd.act w q s) := by
  dsimp -zeta only [sysRestartCmd, setCmd, readCmd, readClearCmd]
  extract_lets -merge -useContext +onlyGivenNames y0; clear_value (e1 : y0 = _)
  refine .cut e1 ?_ fun h2 => ?_
  · refine .trans ?_ (reply_keeps ..)
    exact .refl _
  clear e1
  refine .ite (by exact h2) ?_
  refine .trans ?_ (warmStart_keeps ..)
  exact h2

theorem sysSetMarginFloorCmd_keeps {m : Nat} (w : Waiter) (q : Request) (s : State) (hm : Within 64 m := by first | exact .trans (by assumption) ⟨rfl⟩ | exact ⟨rfl⟩) : Keeps m s (sysSetMarginFloorCmd.act w q s) := by
  dsimp -zeta only [sysSetMarginFloorCmd, setCmd, readCmd, readClearCmd]
  refine .trans ?_ (reply_keeps ..)
  refine .upd ?_
  exact .refl _

theorem sysSetVcoreModeCmd_keeps {m : Nat} (w : Waiter) (q : Request) (s : State) (hm : Within 128 m := by first | exact .trans (by assumption) ⟨rfl⟩ | exact ⟨rfl⟩) : Keeps m s (sysSetVcoreModeCmd.act w q s) := by
  dsimp -zeta only [sysSetVcoreModeCmd, setCmd, readCmd, readClearCmd]
  refine .trans ?_ (reply_keeps ..)
  extract_lets -merge -useContext +onlyGivenNames y0; clear_value (e1 : y0 = _)
  extract_lets -merge -useContext +onlyGivenNames y2; clear_value (e3 : y2 = _)
  refine .cut e3 ?_ fun h4 => ?_
  · refine .trans ?_ (releaseAlert_keeps ..)
    refine .upd ?_
    exact .refl _
  clear e3
  refine .ite ?_ (by exact h4)
  refine .trans ?_ (commandVcore_keeps ..)
  exact h4

theorem sysSetNetworkCmd_keeps {m : Nat} (w : Waiter) (q : Request) (s : State) (hm : Within 8 m := by first | exact .trans (by assumption) ⟨rfl⟩ | exact ⟨rfl⟩) : Keeps m s (sysSetNetworkCmd.act w q s) := by
  dsimp -zeta only [sysSetNetworkCmd, setCmd, readCmd, readClearCmd]
  extract_lets -merge -useContext +onlyGivenNames y0; clear_value (e1 : y0 = _)
  extract_lets -merge -useContext +onlyGivenNames y2; clear_value (e3 : y2 = _)
  refine .cut e3 ?_ fun h4 => ?_
  · refine .trans ?_ (reply_keeps ..)
    exact .refl _
  clear e3
  refine .upd ?_
  exact h4

theorem clearFlags_keeps {m : Nat} x0 x1 s (hm : Within 256 m := by first | exact .trans (by assumption) ⟨rfl⟩ | exact ⟨rfl⟩) : Keeps m s (clearFlags x0 x1 s) := by
  unfold clearFlags
  refine .upd ?_
  exact .refl _

theorem sysClearFlagsCmd_keeps {m : Nat} (w : Waiter) (q : Request) (s : State) (hm : Within 256 m := by first | exact .trans (by assumption) ⟨rfl⟩ | exact ⟨rfl⟩) : Keeps m s (sysClearFlagsCmd.act w q s) := by
  dsimp -zeta only [sysClearFlagsCmd, setCmd, readCmd, readClearCmd]
  refine .trans ?_ (reply_keeps ..)
  refine .trans ?_ (clearFlags_keeps ..)
  exact .refl _

theorem freeAccumulators_keeps {m : Nat} s (hm : Within 4294967296 m := by first | exact .trans (by assumption) ⟨rfl⟩ | exact ⟨rfl⟩) : Keeps m s (freeAccumulators s) := by
  unfold freeAccumulators
  extract_lets -merge -useContext +onlyGivenNames y0; clear_value (e1 : y0 = _)
  refine .cut e1 ?_ fun h2 => ?_
  · refine .trans ?_ (idleAccumulators_keeps ..)
    exact .refl _
  clear e1
  refine .upd ?_
  exact h2

theorem defaultEdges_keeps {m : Nat} s (hm : Within 294205259776 m := by first | exact .trans (by assumption) ⟨rfl⟩ | exact ⟨rfl⟩) : Keeps m s (defaultEdges s) := by
  unfold defaultEdges
  extract_lets -merge -useContext +onlyGivenNames y0; clear_value (e1 : y0 = _)
  refine .cut e1 ?_ fun h2 => ?_
  · refine .trans ?_ (abortGates_keeps ..)
    exact .refl _
  clear e1
  refine .upd ?_
  exact h2

theorem defaultTrigger_keeps {m : Nat} s (hm : Within 1040187392 m := by first | exact .trans (by assumption) ⟨rfl⟩ | exact ⟨rfl⟩) : Keeps m s (defaultTrigger s) := by
  unfold defaultTrigger
  extract_lets -merge -useContext +onlyGivenNames y0; clear_value (e1 : y0 = _)
  refine .cut e1 ?_ fun h2 => ?_
  · refine .trans ?_ (lowerMarkers_keeps ..)
    exact .refl _
  clear e1
  extract_lets -merge -useContext +onlyGivenNames y3; clear_value (e4 : y3 = _)
  refine .upd ?_
  exact h2

theorem failFilterSync_keeps {m : Nat} s  : Keeps m s (failFilterSync s) := by
  unfold failFilterSync
  split
  · refine .trans ?_ (reply_keeps ..)
    refine .upd ?_
    exact .refl _
  · exact .refl _

theorem defaultFilter_keeps {m : Nat} s (hm : Within 25165824 m := by first | exact .trans (by assumption) ⟨rfl⟩ | exact ⟨rfl⟩) : Keeps m s (defaultFilter s) := by
  unfold defaultFilter
  extract_lets -merge -useContext +onlyGivenNames y0; clear_value (e1 : y0 = _)
  extract_lets -merge -useContext +onlyGivenNames y2; clear_value (e3 : y2 = _)
  refine .cut e3 ?_ fun h4 => ?_
  · refine .trans ?_ (failFilterSync_keeps ..)
    exact .refl _
  clear e3
  extract_lets -merge -useContext +onlyGivenNames y5; clear_value (e6 : y5 = _)
  refine .cut e6 ?_ fun h7 => ?_
  · refine .trans ?_ (forAll_keeps _ _ _ ?_)
    rotate_left
    · intro t8 t9
      refine .trans ?_ (updFin_keeps ..)
      exact .refl _
    exact h4
  clear e6
  extract_lets -merge -useContext +onlyGivenNames y10; clear_value (e11 : y10 = _)
  refine .cut e11 ?_ fun h12 => ?_
  · refine .upd ?_
    exact h7
  clear e11
  refine .ite (by exact h12) ?_
  refine .trans ?_ (syncInputs_keeps ..)
  exact h12

theorem defaultInputs_keeps {m : Nat} x0 s (hm : Within 524288 m := by first | exact .trans (by assumption) ⟨rfl⟩ | exact ⟨rfl⟩) : Keeps m s (defaultInputs x0 s) := by
  unfold defaultInputs
  extract_lets -merge -useContext +onlyGivenNames y0; clear_value (e1 : y0 = _)
  refine .cut e1 ?_ fun h2 => ?_
  · refine .trans ?_ (forAll_keeps _ _ _ ?_)
    rotate_left
    · intro t3 t4
      refine .trans ?_ (updInput_keeps ..)
      exact .refl _
    exact .refl _
  clear e1
  refine .upd ?_
  exact h2

theorem resetAcquisition_keeps {m : Nat} x0 s (hm : Within 300639846400 m := by first | exact .trans (by assumption) ⟨rfl⟩ | exact ⟨rfl⟩) : Keeps m s (resetAcquisition x0 s) := by
  unfold resetAcquisition
  extract_lets -merge -useContext +onlyGivenNames y0; clear_value (e1 : y0 = _)
  extract_lets -merge -useContext +onlyGivenNames y2; clear_value (e3 : y2 = _)
  refine .cut e3 ?_ fun h4 => ?_
  · refine .trans ?_ (freeAccumulators_keeps ..)
    refine .trans ?_ (defaultEdges_keeps ..)
    refine .trans ?_ (defaultTrigger_keeps ..)
    exact .refl _
  clear e3
  extract_lets -merge -useContext +onlyGivenNames y5; clear_value (e6 : y5 = _)
  refine .cut e6 ?_ fun h7 => ?_
  · refine .upd ?_
    exact h4
  clear e6
  extract_lets -merge -useContext +onlyGivenNames y8; clear_value (e9 : y8 = _)
  refine .cut e9 ?_ fun h10 => ?_
  · refine .trans ?_ (defaultFilter_keeps ..)
    refine .trans ?_ (defaultInputs_keeps ..)
    exact h7
  clear e9
  refine .ite ?_ ?_
  · refine .trans ?_ (reply_keeps ..)
    exact h10
  · refine .ite ?_ ?_
    · extract_lets -merge -useContext +onlyGivenNames y11; clear_value (e12 : y11 = _)
      refine .cut e12 ?_ fun h13 => ?_
      · refine .trans ?_ (syncInputs_keeps ..)
        exact h10
      clear e12
      refine .trans ?_ (startForeground_keeps ..)
      refine .upd ?_
      exact h13
    · refine .trans ?_ (reply_keeps ..)
      refine .upd ?_
      exact h10

theorem resetPort_keeps {m : Nat} x0 s (hm : Within 12884901888 m := by first | exact .trans (by assumption) ⟨rfl⟩ | exact ⟨rfl⟩) : Keeps m s (resetPort x0 s) := by
  unfold resetPort
  extract_lets -merge -useContext +onlyGivenNames y0; clear_value (e1 : y0 = _)
  refine .cut e1 ?_ fun h2 => ?_
  · refine .trans ?_ (portDown_keeps ..)
    exact .refl _
  clear e1
  extract_lets -merge -useContext +onlyGivenNames y3; clear_value (e4 : y3 = _)
  refine .cut e4 ?_ fun h5 => ?_
  · refine .trans ?_ (clearAlarms_keeps ..)
    exact h2
  clear e4
  extract_lets -merge -useContext +onlyGivenNames y6; clear_value (e7 : y6 = _)
  refine .cut e7 ?_ fun h8 => ?_
  · refine .trans ?_ (releaseAlerts_keeps ..)
    exact h5
  clear e7
  extract_lets -merge -useContext +onlyGivenNames y9; clear_value (e10 : y9 = _)
  refine .cut e10 ?_ fun h11 => ?_
  · refine .trans ?_ (updPort_keeps ..)
    exact h8
  clear e10
  refine .trans ?_ (noteAccumulators_keeps ..)
  exact h11

theorem resetMemory_keeps {m : Nat} s  : Keeps m s (resetMemory s) := by
  unfold resetMemory
  extract_lets -merge -useContext +onlyGivenNames y0; clear_value (e1 : y0 = _)
  extract_lets -merge -useContext +onlyGivenNames y2; clear_value (e3 : y2 = _)
  refine .cut e3 ?_ fun h4 => ?_
  · refine .upd ?_
    exact .refl _
  clear e3
  refine .ite ?_ ?_
  · refine .trans ?_ (trainAll_keeps ..)
    exact h4
  · refine .upd ?_
    exact h4

theorem deleteJob_keeps {m : Nat} x0 s  : Keeps m s (deleteJob x0 s) := by
  unfold deleteJob
  split
  · exact .refl _
  · extract_lets -merge -useContext +onlyGivenNames y0; clear_value (e1 : y0 = _)
    refine .cut e1 ?_ fun h2 => ?_
    · refine .trans ?_ (replyOpt_keeps ..)
      refine .trans ?_ (dropTasks_keeps ..)
      exact .refl _
    clear e1
    extract_lets -merge -useContext +onlyGivenNames y3; clear_value (e4 : y3 = _)
    extract_lets -merge -useContext +onlyGivenNames y5; clear_value (e6 : y5 = _)
    refine .cut e6 ?_ fun h7 => ?_
    · refine .upd ?_
      exact h2
    clear e6
    extract_lets -merge -useContext +onlyGivenNames y8; clear_value (e9 : y8 = _)
    refine .upd ?_
    exact h7

theorem resetEngines_keeps {m : Nat} s  : Keeps m s (resetEngines s) := by
  unfold resetEngines
  refine .trans ?_ (forAll_keeps _ _ _ ?_)
  rotate_left
  · intro t0 t1
    refine .trans ?_ (deleteJob_keeps ..)
    exact .refl _
  exact .refl _

theorem resetSubsystem_keeps {m : Nat} x0 x1 s (hm : Within 309229780992 m := by first | exact .trans (by assumption) ⟨rfl⟩ | exact ⟨rfl⟩) : Keeps m s (resetSubsystem x0 x1 s) := by
  unfold resetSubsystem
  extract_lets -merge -useContext +onlyGivenNames y0; clear_value (e1 : y0 = _)
  refine .cut e1 ?_ fun h2 => ?_
  · refine .trans ?_ (record_keeps ..)
    exact .refl _
  clear e1
  split
  · refine .trans ?_ (resetAcquisition_keeps ..)
    exact h2
  · refine .trans ?_ (reply_keeps ..)
    refine .trans ?_ (resetPort_keeps ..)
    exact h2
  · refine .trans ?_ (reply_keeps ..)
    refine .trans ?_ (resetMemory_keeps ..)
    exact h2
  · refine .trans ?_ (reply_keeps ..)
    refine .trans ?_ (resetEngines_keeps ..)
    exact h2

theorem sysResetSubsystemCmd_keeps {m : Nat} (w : Waiter) (q : Request) (s : State) (hm : Within 309229780992 m := by first | exact .trans (by assumption) ⟨rfl⟩ | exact ⟨rfl⟩) : Keeps m s (sysResetSubsystemCmd.act w q s) := by
  dsimp -zeta only [sysResetSubsystemCmd, setCmd, readCmd, readClearCmd]
  refine .trans ?_ (resetSubsystem_keeps ..)
  exact .refl _

theorem settlePower_keeps {m : Nat} x0 s (hm : Within 304942678016 m := by first | exact .trans (by assumption) ⟨rfl⟩ | exact ⟨rfl⟩) : Keeps m s (settlePower x0 s) := by
  unfold settlePower
  extract_lets -merge -useContext +onlyGivenNames y0; clear_value (e1 : y0 = _)
  split
  · refine .trans ?_ (reply_keeps ..)
    exact .refl _
  · refine .trans ?_ (beginExit_keeps ..)
    exact .refl _
  · refine .trans ?_ (reply_keeps ..)
    exact .refl _
  · refine .ite ?_ ?_
    · refine .trans ?_ (reply_keeps ..)
      exact .refl _
    · refine .trans ?_ (beginEntry_keeps ..)
      exact .refl _
  · refine .ite ?_ ?_
    · refine .trans ?_ (reply_keeps ..)
      exact .refl _
    · extract_lets -merge -useContext +onlyGivenNames y2; clear_value (e3 : y2 = _)
      refine .cut e3 ?_ fun h4 => ?_
      · refine .trans ?_ (reply_keeps ..)
        exact .refl _
      clear e3
      refine .upd ?_
      exact h4
  · refine .ite ?_ ?_
    · refine .trans ?_ (reply_keeps ..)
      exact .refl _
    · extract_lets -merge -useContext +onlyGivenNames y5; clear_value (e6 : y5 = _)
      refine .cut e6 ?_ fun h7 => ?_
      · refine .trans ?_ (reply_keeps ..)
        exact .refl _
      clear e6
      refine .upd ?_
      exact h7
  · refine .trans ?_ (reply_keeps ..)
    exact .refl _

theorem takePower_keeps {m : Nat} x0 s (hm : Within 304942678016 m := by first | exact .trans (by assumption) ⟨rfl⟩ | exact ⟨rfl⟩) : Keeps m s (takePower x0 s) := by
  unfold takePower
  refine .ite ?_ ?_
  · refine .upd ?_
    exact .refl _
  · refine .trans ?_ (settlePower_keeps ..)
    exact .refl _

theorem sysSetPowerStateCmd_keeps {m : Nat} (w : Waiter) (q : Request) (s : State) (hm : Within 304942678016 m := by first | exact .trans (by assumption) ⟨rfl⟩ | exact ⟨rfl⟩) : Keeps m s (sysSetPowerStateCmd.act w q s) := by
  dsimp -zeta only [sysSetPowerStateCmd, setCmd, readCmd, readClearCmd]
  refine .trans ?_ (takePower_keeps ..)
  exact .refl _

theorem clkSetOutputCmd_keeps {m : Nat} (w : Waiter) (q : Request) (s : State) (hm : Within 268443648 m := by first | exact .trans (by assumption) ⟨rfl⟩ | exact ⟨rfl⟩) : Keeps m s (clkSetOutputCmd.act w q s) := by
  dsimp -zeta only [clkSetOutputCmd, setCmd, readCmd, readClearCmd]
  refine .trans ?_ (reply_keeps ..)
  refine .trans ?_ (forEach_keeps _ _ _ ?_)
  rotate_left
  · intro t0 t1
    refine .trans ?_ (followClock_keeps ..)
    exact .refl _
  refine .upd ?_
  exact .refl _

theorem clkSetReferenceCmd_keeps {m : Nat} (w : Waiter) (q : Request) (s : State) (hm : Within 1572864 m := by first | exact .trans (by assumption) ⟨rfl⟩ | exact ⟨rfl⟩) : Keeps m s (clkSetReferenceCmd.act w q s) := by
  dsimp -zeta only [clkSetReferenceCmd, setCmd, readCmd, readClearCmd]
  refine .trans ?_ (reply_keeps ..)
  refine .trans ?_ (setReference_keeps ..)
  exact .refl _

theorem clkSetTimeSourceCmd_keeps {m : Nat} (w : Waiter) (q : Request) (s : State) (hm : Within 65536 m := by first | exact .trans (by assumption) ⟨rfl⟩ | exact ⟨rfl⟩) : Keeps m s (clkSetTimeSourceCmd.act w q s) := by
  dsimp -zeta only [clkSetTimeSourceCmd, setCmd, readCmd, readClearCmd]
  refine .trans ?_ (reply_keeps ..)
  extract_lets -merge -useContext +onlyGivenNames y0; clear_value (e1 : y0 = _)
  refine .updTime ?_
  exact .refl _

theorem correctTime_keeps {m : Nat} x0 s (hm : Within 1073872896 m := by first | exact .trans (by assumption) ⟨rfl⟩ | exact ⟨rfl⟩) : Keeps m s (correctTime x0 s) := by
  unfold correctTime
  extract_lets -merge -useContext +onlyGivenNames y0; clear_value (e1 : y0 = _)
  refine .ite ?_ ?_
  · refine .updTime ?_
    exact .refl _
  · extract_lets -merge -useContext +onlyGivenNames y2; clear_value (e3 : y2 = _)
    refine .trans ?_ (record_keeps ..)
    refine .updTime ?_
    exact .refl _

theorem clkSetTimeCmd_keeps {m : Nat} (w : Waiter) (q : Request) (s : State) (hm : Within 1073872896 m := by first | exact .trans (by assumption) ⟨rfl⟩ | exact ⟨rfl⟩) : Keeps m s (clkSetTimeCmd.act w q s) := by
  dsimp -zeta only [clkSetTimeCmd, setCmd, readCmd, readClearCmd]
  refine .trans ?_ (reply_keeps ..)
  refine .ite ?_ ?_
  · refine .updTime ?_
    exact .refl _
  · refine .trans ?_ (correctTime_keeps ..)
    exact .refl _

theorem clkStepPhaseCmd_keeps {m : Nat} (w : Waiter) (q : Request) (s : State)  : Keeps m s (clkStepPhaseCmd.act w q s) := by
  dsimp -zeta only [clkStepPhaseCmd, setCmd, readCmd, readClearCmd]
  refine .upd ?_
  exact .refl _

theorem enterSegment_keeps {m : Nat} x0 s  : Keeps m s (enterSegment x0 s) := by
  unfold enterSegment
  extract_lets -merge -useContext +onlyGivenNames y0; clear_value (e1 : y0 = _)
  refine .trans ?_ (driveSample_keeps ..)
  refine .upd ?_
  exact .refl _

theorem setRamp_keeps {m : Nat} x0 s (hm : Within 1572864 m := by first | exact .trans (by assumption) ⟨rfl⟩ | exact ⟨rfl⟩) : Keeps m s (setRamp x0 s) := by
  unfold setRamp
  refine .ite ?_ ?_
  · extract_lets -merge -useContext +onlyGivenNames y0; clear_value (e1 : y0 = _)
    refine .upd ?_
    exact .refl _
  · refine .ite ?_ ?_
    · refine .trans ?_ (stopSampleRamp_keeps ..)
      exact .refl _
    · extract_lets -merge -useContext +onlyGivenNames y2; clear_value (e3 : y2 = _)
      refine .cut e3 ?_ fun h4 => ?_
      · refine .ite ?_ (by exact .refl _)
        refine .trans ?_ (loseSampleLock_keeps ..)
        exact .refl _
      clear e3
      refine .trans ?_ (enterSegment_keeps ..)
      refine .trans ?_ (updLoop_keeps ..)
      refine .updTime ?_
      exact h4

theorem clkSetRampCmd_keeps {m : Nat} (w : Waiter) (q : Request) (s : State) (hm : Within 1572864 m := by first | exact .trans (by assumption) ⟨rfl⟩ | exact ⟨rfl⟩) : Keeps m s (clkSetRampCmd.act w q s) := by
  dsimp -zeta only [clkSetRampCmd, setCmd, readCmd, readClearCmd]
  refine .trans ?_ (reply_keeps ..)
  refine .trans ?_ (setRamp_keeps ..)
  exact .refl _

theorem clkSetCoreRateCmd_keeps {m : Nat} (w : Waiter) (q : Request) (s : State) (hm : Within 294206849024 m := by first | exact .trans (by assumption) ⟨rfl⟩ | exact ⟨rfl⟩) : Keeps m s (clkSetCoreRateCmd.act w q s) := by
  dsimp -zeta only [clkSetCoreRateCmd, setCmd, readCmd, readClearCmd]
  refine .ite ?_ ?_
  · refine .trans ?_ (reply_keeps ..)
    exact .refl _
  · refine .trans ?_ (beginRateChange_keeps ..)
    exact .refl _

theorem clkSetCeilingCmd_keeps {m : Nat} (w : Waiter) (q : Request) (s : State) (hm : Within 16384 m := by first | exact .trans (by assumption) ⟨rfl⟩ | exact ⟨rfl⟩) : Keeps m s (clkSetCeilingCmd.act w q s) := by
  dsimp -zeta only [clkSetCeilingCmd, setCmd, readCmd, readClearCmd]
  refine .trans ?_ (reply_keeps ..)
  refine .upd ?_
  exact .refl _

theorem setEnable_keeps {m : Nat} x0 x1 x2 s (hm : Within 51904512 m := by first | exact .trans (by assumption) ⟨rfl⟩ | exact ⟨rfl⟩) : Keeps m s (setEnable x0 x1 x2 s) := by
  unfold setEnable
  refine .ite ?_ ?_
  · refine .trans ?_ (reply_keeps ..)
    exact .refl _
  · extract_lets -merge -useContext +onlyGivenNames y0; clear_value (e1 : y0 = _)
    refine .cut e1 ?_ fun h2 => ?_
    · refine .trans ?_ (updInput_keeps ..)
      exact .refl _
    clear e1
    refine .ite ?_ ?_
    · refine .trans ?_ (startForeground_keeps ..)
      refine .trans ?_ (syncInput_keeps ..)
      exact h2
    · extract_lets -merge -useContext +onlyGivenNames y3; clear_value (e4 : y3 = _)
      refine .cut e4 ?_ fun h5 => ?_
      · refine .trans ?_ (powerCores_keeps ..)
        exact h2
      clear e4
      extract_lets -merge -useContext +onlyGivenNames y6; clear_value (e7 : y6 = _)
      refine .cut e7 ?_ fun h8 => ?_
      · refine .trans ?_ (updInput_keeps ..)
        exact h5
      clear e7
      refine .trans ?_ (reply_keeps ..)
      refine .trans ?_ (forceInput_keeps ..)
      exact h8

theorem inpSetEnableCmd_keeps {m : Nat} (w : Waiter) (q : Request) (s : State) (hm : Within 51904512 m := by first | exact .trans (by assumption) ⟨rfl⟩ | exact ⟨rfl⟩) : Keeps m s (inpSetEnableCmd.act w q s) := by
  dsimp -zeta only [inpSetEnableCmd, setCmd, readCmd, readClearCmd]
  refine .trans ?_ (setEnable_keeps ..)
  exact .refl _

theorem setPair_keeps {m : Nat} x0 x1 x2 s (hm : Within 50855936 m := by first | exact .trans (by assumption) ⟨rfl⟩ | exact ⟨rfl⟩) : Keeps m s (setPair x0 x1 x2 s) := by
  unfold setPair
  refine .ite ?_ ?_
  · refine .trans ?_ (reply_keeps ..)
    exact .refl _
  · extract_lets -merge -useContext +onlyGivenNames y0; clear_value (e1 : y0 = _)
    extract_lets -merge -useContext +onlyGivenNames y2; clear_value (e3 : y2 = _)
    refine .cut e3 ?_ fun h4 => ?_
    · refine .upd ?_
      exact .refl _
    clear e3
    extract_lets -merge -useContext +onlyGivenNames y5; clear_value (e6 : y5 = _)
    refine .cut e6 ?_ fun h7 => ?_
    · refine .ite ?_ (by exact h4)
      refine .trans ?_ (forceInput_keeps ..)
      exact h4
    clear e6
    extract_lets -merge -useContext +onlyGivenNames y8; clear_value (e9 : y8 = _)
    extract_lets -merge -useContext +onlyGivenNames y10; clear_value (e11 : y10 = _)
    refine .trans ?_ (startForeground_keeps ..)
    refine .trans ?_ (syncInputs_keeps ..)
    exact h7

theorem inpSetPairCmd_keeps {m : Nat} (w : Waiter) (q : Request) (s : State) (hm : Within 50855936 m := by first | exact .trans (by assumption) ⟨rfl⟩ | exact ⟨rfl⟩) : Keeps m s (inpSetPairCmd.act w q s) := by
  dsimp -zeta only [inpSetPairCmd, setCmd, readCmd, readClearCmd]
  refine .trans ?_ (setPair_keeps ..)
  exact .refl _

theorem fltConfigureChainCmd_keeps {m : Nat} (w : Waiter) (q : Request) (s : State) (hm : Within 8388608 m := by first | exact .trans (by assumption) ⟨rfl⟩ | exact ⟨rfl⟩) : Keeps m s (fltConfigureChainCmd.act w q s) := by
  dsimp -zeta only [fltConfigureChainCmd, setCmd, readCmd, readClearCmd]
  refine .trans ?_ (reply_keeps ..)
  refine .upd ?_
  exact .refl _

theorem fltLoadFirCmd_keeps {m : Nat} (w : Waiter) (q : Request) (s : State) (hm : Within 8388608 m := by first | exact .trans (by assumption) ⟨rfl⟩ | exact ⟨rfl⟩) : Keeps m s (fltLoadFirCmd.act w q s) := by
  dsimp -zeta only [fltLoadFirCmd, setCmd, readCmd, readClearCmd]
  refine .trans ?_ (reply_keeps ..)
  refine .upd ?_
  exact .refl _

theorem fltSetInputCmd_keeps {m : Nat} (w : Waiter) (q : Request) (s : State) (hm : Within 16777216 m := by first | exact .trans (by assumption) ⟨rfl⟩ | exact ⟨rfl⟩) : Keeps m s (fltSetInputCmd.act w q s) := by
  dsimp -zeta only [fltSetInputCmd, setCmd, readCmd, readClearCmd]
  refine .trans ?_ (reply_keeps ..)
  refine .trans ?_ (syncInput_keeps ..)
  refine .trans ?_ (updFin_keeps ..)
  exact .refl _

theorem syncChain_keeps {m : Nat} x0 x1 s (hm : Within 16777216 m := by first | exact .trans (by assumption) ⟨rfl⟩ | exact ⟨rfl⟩) : Keeps m s (syncChain x0 x1 s) := by
  unfold syncChain
  refine .trans ?_ (syncInputs_keeps ..)
  refine .upd ?_
  exact .refl _

theorem fltStartCmd_keeps {m : Nat} (w : Waiter) (q : Request) (s : State) (hm : Within 16777216 m := by first | exact .trans (by assumption) ⟨rfl⟩ | exact ⟨rfl⟩) : Keeps m s (fltStartCmd.act w q s) := by
  dsimp -zeta only [fltStartCmd, setCmd, readCmd, readClearCmd]
  refine .trans ?_ (reply_keeps ..)
  refine .trans ?_ (syncChain_keeps ..)
  refine .upd ?_
  exact .refl _

theorem fltStopCmd_keeps {m : Nat} (w : Waiter) (q : Request) (s : State) (hm : Within 16777216 m := by first | exact .trans (by assumption) ⟨rfl⟩ | exact ⟨rfl⟩) : Keeps m s (fltStopCmd.act w q s) := by
  dsimp -zeta only [fltStopCmd, setCmd, readCmd, readClearCmd]
  refine .trans ?_ (reply_keeps ..)
  refine .upd ?_
  exact .refl _

theorem fltSyncCmd_keeps {m : Nat} (w : Waiter) (q : Request) (s : State)  : Keeps m s (fltSyncCmd.act w q s) := by
  dsimp -zeta only [fltSyncCmd, setCmd, readCmd, readClearCmd]
  refine .upd ?_
  exact .refl _

theorem trigSetComparatorCmd_keeps {m : Nat} (w : Waiter) (q : Request) (s : State) (hm : Within 33554432 m := by first | exact .trans (by assumption) ⟨rfl⟩ | exact ⟨rfl⟩) : Keeps m s (trigSetComparatorCmd.act w q s) := by
  dsimp -zeta only [trigSetComparatorCmd, setCmd, readCmd, readClearCmd]
  refine .trans ?_ (reply_keeps ..)
  refine .trans ?_ (updComparator_keeps ..)
  exact .refl _

theorem updSlot_keeps {m : Nat} x0 x1 s (hm : Within 67108864 m := by first | exact .trans (by assumption) ⟨rfl⟩ | exact ⟨rfl⟩) : Keeps m s (updSlot x0 x1 s) := by
  unfold updSlot
  refine .upd ?_
  exact .refl _

theorem trigSetConditionCmd_keeps {m : Nat} (w : Waiter) (q : Request) (s : State) (hm : Within 67108864 m := by first | exact .trans (by assumption) ⟨rfl⟩ | exact ⟨rfl⟩) : Keeps m s (trigSetConditionCmd.act w q s) := by
  dsimp -zeta only [trigSetConditionCmd, setCmd, readCmd, readClearCmd]
  refine .trans ?_ (reply_keeps ..)
  refine .trans ?_ (updSlot_keeps ..)
  exact .refl _

theorem trigSetPatternCmd_keeps {m : Nat} (w : Waiter) (q : Request) (s : State) (hm : Within 134217728 m := by first | exact .trans (by assumption) ⟨rfl⟩ | exact ⟨rfl⟩) : Keeps m s (trigSetPatternCmd.act w q s) := by
  dsimp -zeta only [trigSetPatternCmd, setCmd, readCmd, readClearCmd]
  refine .trans ?_ (reply_keeps ..)
  extract_lets -merge -useContext +onlyGivenNames y0; clear_value (e1 : y0 = _)
  refine .trans ?_ (updTg_keeps ..)
  exact .refl _

theorem trigSetGroupCmd_keeps {m : Nat} (w : Waiter) (q : Request) (s : State) (hm : Within 134217728 m := by first | exact .trans (by assumption) ⟨rfl⟩ | exact ⟨rfl⟩) : Keeps m s (trigSetGroupCmd.act w q s) := by
  dsimp -zeta only [trigSetGroupCmd, setCmd, readCmd, readClearCmd]
  refine .trans ?_ (reply_keeps ..)
  refine .trans ?_ (updTg_keeps ..)
  exact .refl _

theorem trigSetBusCmd_keeps {m : Nat} (w : Waiter) (q : Request) (s : State) (hm : Within 536870912 m := by first | exact .trans (by assumption) ⟨rfl⟩ | exact ⟨rfl⟩) : Keeps m s (trigSetBusCmd.act w q s) := by
  dsimp -zeta only [trigSetBusCmd, setCmd, readCmd, readClearCmd]
  refine .trans ?_ (reply_keeps ..)
  refine .upd ?_
  exact .refl _

theorem trigSetMarkerCmd_keeps {m : Nat} (w : Waiter) (q : Request) (s : State) (hm : Within 268435456 m := by first | exact .trans (by assumption) ⟨rfl⟩ | exact ⟨rfl⟩) : Keeps m s (trigSetMarkerCmd.act w q s) := by
  dsimp -zeta only [trigSetMarkerCmd, setCmd, readCmd, readClearCmd]
  refine .trans ?_ (reply_keeps ..)
  extract_lets -merge -useContext +onlyGivenNames y0; clear_value (e1 : y0 = _)
  extract_lets -merge -useContext +onlyGivenNames y2; clear_value (e3 : y2 = _)
  refine .cut e3 ?_ fun h4 => ?_
  · refine .trans ?_ (followClock_keeps ..)
    refine .trans ?_ (updMarker_keeps ..)
    exact .refl _
  clear e3
  refine .trans ?_ (driveMarker_keeps ..)
  exact h4

theorem trigForceCmd_keeps {m : Nat} (w : Waiter) (q : Request) (s : State) (hm : Within 134217728 m := by first | exact .trans (by assumption) ⟨rfl⟩ | exact ⟨rfl⟩) : Keeps m s (trigForceCmd.act w q s) := by
  dsimp -zeta only [trigForceCmd, setCmd, readCmd, readClearCmd]
  refine .trans ?_ (queueTrigger_keeps ..)
  exact .refl _

theorem edgeSetInputCmd_keeps {m : Nat} (w : Waiter) (q : Request) (s : State) (hm : Within 2147483648 m := by first | exact .trans (by assumption) ⟨rfl⟩ | exact ⟨rfl⟩) : Keeps m s (edgeSetInputCmd.act w q s) := by
  dsimp -zeta only [edgeSetInputCmd, setCmd, readCmd, readClearCmd]
  refine .trans ?_ (reply_keeps ..)
  extract_lets -merge -useContext +onlyGivenNames y0; clear_value (e1 : y0 = _)
  refine .trans ?_ (updTach_keeps ..)
  exact .refl _

theorem edgeSetGateCmd_keeps {m : Nat} (w : Waiter) (q : Request) (s : State) (hm : Within 294205259776 m := by first | exact .trans (by assumption) ⟨rfl⟩ | exact ⟨rfl⟩) : Keeps m s (edgeSetGateCmd.act w q s) := by
  dsimp -zeta only [edgeSetGateCmd, setCmd, readCmd, readClearCmd]
  refine .trans ?_ (reply_keeps ..)
  extract_lets -merge -useContext +onlyGivenNames y0; clear_value (e1 : y0 = _)
  refine .ite ?_ ?_
  · refine .trans ?_ (updTach_keeps ..)
    refine .trans ?_ (abortGate_keeps ..)
    exact .refl _
  · refine .trans ?_ (updTach_keeps ..)
    exact .refl _

theorem edgeSetAngleCmd_keeps {m : Nat} (w : Waiter) (q : Request) (s : State) (hm : Within 2147483648 m := by first | exact .trans (by assumption) ⟨rfl⟩ | exact ⟨rfl⟩) : Keeps m s (edgeSetAngleCmd.act w q s) := by
  dsimp -zeta only [edgeSetAngleCmd, setCmd, readCmd, readClearCmd]
  refine .trans ?_ (reply_keeps ..)
  extract_lets -merge -useContext +onlyGivenNames y0; clear_value (e1 : y0 = _)
  refine .trans ?_ (updTach_keeps ..)
  exact .refl _

theorem segConfigureCmd_keeps {m : Nat} (w : Waiter) (q : Request) (s : State) (hm : Within 1073741824 m := by first | exact .trans (by assumption) ⟨rfl⟩ | exact ⟨rfl⟩) : Keeps m s (segConfigureCmd.act w q s) := by
  dsimp -zeta only [segConfigureCmd, setCmd, readCmd, readClearCmd]
  refine .trans ?_ (reply_keeps ..)
  refine .trans ?_ (updSg_keeps ..)
  exact .refl _

theorem segArmCmd_keeps {m : Nat} (w : Waiter) (q : Request) (s : State) (hm : Within 1073741824 m := by first | exact .trans (by assumption) ⟨rfl⟩ | exact ⟨rfl⟩) : Keeps m s (segArmCmd.act w q s) := by
  dsimp -zeta only [segArmCmd, setCmd, readCmd, readClearCmd]
  extract_lets -merge -useContext +onlyGivenNames y0; clear_value (e1 : y0 = _)
  refine .ite ?_ ?_
  · refine .trans ?_ (scheduleArm_keeps ..)
    exact .refl _
  · extract_lets -merge -useContext +onlyGivenNames y2; clear_value (e3 : y2 = _)
    refine .cut e3 ?_ fun h4 => ?_
    · refine .trans ?_ (updSg_keeps ..)
      exact .refl _
    clear e3
    refine .upd ?_
    exact h4

theorem stopCapture_keeps {m : Nat} x0 x1 s (hm : Within 5502926848 m := by first | exact .trans (by assumption) ⟨rfl⟩ | exact ⟨rfl⟩) : Keeps m s (stopCapture x0 x1 s) := by
  unfold stopCapture
  extract_lets -merge -useContext +onlyGivenNames y0; clear_value (e1 : y0 = _)
  refine .cut e1 ?_ fun h2 => ?_
  · refine .ite ?_ (by exact .refl _)
    refine .trans ?_ (noteAbort_keeps ..)
    exact .refl _
  clear e1
  extract_lets -merge -useContext +onlyGivenNames y3; clear_value (e4 : y3 = _)
  refine .cut e4 ?_ fun h5 => ?_
  · refine .trans ?_ (stopGroup_keeps ..)
    refine .trans ?_ (endFill_keeps ..)
    exact h2
  clear e4
  refine .ite ?_ ?_
  · refine .trans ?_ (discardFill_keeps ..)
    exact h5
  · refine .trans ?_ (updSg_keeps ..)
    exact h5

theorem segStopCmd_keeps {m : Nat} (w : Waiter) (q : Request) (s : State) (hm : Within 5502926848 m := by first | exact .trans (by assumption) ⟨rfl⟩ | exact ⟨rfl⟩) : Keeps m s (segStopCmd.act w q s) := by
  dsimp -zeta only [segStopCmd, setCmd, readCmd, readClearCmd]
  extract_lets -merge -useContext +onlyGivenNames y0; clear_value (e1 : y0 = _)
  extract_lets -merge -useContext +onlyGivenNames y2; clear_value (e3 : y2 = _)
  refine .cut e3 ?_ fun h4 => ?_
  · split
    · refine .ite ?_ (by exact .refl _)
      refine .trans ?_ (abortStop_keeps ..)
      exact .refl _
    · refine .trans ?_ (stopCapture_keeps ..)
      exact .refl _
  clear e3
  refine .trans ?_ (updSg_keeps ..)
  exact h4

theorem hamConfigureCmd_keeps {m : Nat} (w : Waiter) (q : Request) (s : State) (hm : Within 4294967296 m := by first | exact .trans (by assumption) ⟨rfl⟩ | exact ⟨rfl⟩) : Keeps m s (hamConfigureCmd.act w q s) := by
  dsimp -zeta only [hamConfigureCmd, setCmd, readCmd, readClearCmd]
  extract_lets -merge -useContext +onlyGivenNames y0; clear_value (e1 : y0 = _)
  extract_lets -merge -useContext +onlyGivenNames y2; clear_value (e3 : y2 = _)
  extract_lets -merge -useContext +onlyGivenNames y4; clear_value (e5 : y4 = _)
  extract_lets -merge -useContext +onlyGivenNames y6; clear_value (e7 : y6 = _)
  refine .cut e7 ?_ fun h8 => ?_
  · refine .trans ?_ (updAcc_keeps ..)
    exact .refl _
  clear e7
  refine .trans ?_ (reply_keeps ..)
  exact h8

theorem hamReleaseCmd_keeps {m : Nat} (w : Waiter) (q : Request) (s : State) (hm : Within 4294967296 m := by first | exact .trans (by assumption) ⟨rfl⟩ | exact ⟨rfl⟩) : Keeps m s (hamReleaseCmd.act w q s) := by
  dsimp -zeta only [hamReleaseCmd, setCmd, readCmd, readClearCmd]
  refine .trans ?_ (reply_keeps ..)
  refine .trans ?_ (updAcc_keeps ..)
  exact .refl _

theorem hamStartCmd_keeps {m : Nat} (w : Waiter) (q : Request) (s : State) (hm : Within 4294967296 m := by first | exact .trans (by assumption) ⟨rfl⟩ | exact ⟨rfl⟩) : Keeps m s (hamStartCmd.act w q s) := by
  dsimp -zeta only [hamStartCmd, setCmd, readCmd, readClearCmd]
  refine .trans ?_ (updAcc_keeps ..)
  exact .refl _

theorem reviewStops_keeps {m : Nat} s (hm : Within 4294967296 m := by first | exact .trans (by assumption) ⟨rfl⟩ | exact ⟨rfl⟩) : Keeps m s (reviewStops s) := by
  unfold reviewStops
  refine .trans ?_ (forEach_keeps _ _ _ ?_)
  rotate_left
  · intro t0 t1
    split
    · refine .ite ?_ (by exact .refl _)
      refine .trans ?_ (stopAcc_keeps ..)
      exact .refl _
    · exact .refl _
  exact .refl _

theorem hamStopCmd_keeps {m : Nat} (w : Waiter) (q : Request) (s : State) (hm : Within 4294967296 m := by first | exact .trans (by assumption) ⟨rfl⟩ | exact ⟨rfl⟩) : Keeps m s (hamStopCmd.act w q s) := by
  dsimp -zeta only [hamStopCmd, setCmd, readCmd, readClearCmd]
  extract_lets -merge -useContext +onlyGivenNames y0; clear_value (e1 : y0 = _)
  extract_lets -merge -useContext +onlyGivenNames y2; clear_value (e3 : y2 = _)
  refine .cut e3 ?_ fun h4 => ?_
  · refine .trans ?_ (updAcc_keeps ..)
    exact .refl _
  clear e3
  extract_lets -merge -useContext +onlyGivenNames y5; clear_value (e6 : y5 = _)
  refine .cut e6 ?_ fun h7 => ?_
  · refine .ite ?_ (by exact h4)
    refine .trans ?_ (updAcc_keeps ..)
    exact h4
  clear e6
  refine .trans ?_ (reviewStops_keeps ..)
  exact h7

theorem hamSpillCmd_keeps {m : Nat} (w : Waiter) (q : Request) (s : State)  : Keeps m s (hamSpillCmd.act w q s) := by
  dsimp -zeta only [hamSpillCmd, setCmd, readCmd, readClearCmd]
  refine .upd ?_
  exact .refl _

theorem dmxSetPortCmd_keeps {m : Nat} (w : Waiter) (q : Request) (s : State) (hm : Within 12884901888 m := by first | exact .trans (by assumption) ⟨rfl⟩ | exact ⟨rfl⟩) : Keeps m s (dmxSetPortCmd.act w q s) := by
  dsimp -zeta only [dmxSetPortCmd, setCmd, readCmd, readClearCmd]
  extract_lets -merge -useContext +onlyGivenNames y0; clear_value (e1 : y0 = _)
  extract_lets -merge -useContext +onlyGivenNames y2; clear_value (e3 : y2 = _)
  refine .cut e3 ?_ fun h4 => ?_
  · refine .trans ?_ (applyPort_keeps ..)
    exact .refl _
  clear e3
  extract_lets -merge -useContext +onlyGivenNames y5; clear_value (e6 : y5 = _)
  refine .cut e6 ?_ fun h7 => ?_
  · refine .ite ?_ ?_
    · refine .trans ?_ (portDown_keeps ..)
      exact .refl _
    · refine .ite ?_ (by exact h4)
      refine .trans ?_ (setPortState_keeps ..)
      exact h4
  clear e6
  refine .trans ?_ (reply_keeps ..)
  exact h7

theorem startWalk_keeps {m : Nat} x0 x1 x2 s (hm : Within 8589934592 m := by first | exact .trans (by assumption) ⟨rfl⟩ | exact ⟨rfl⟩) : Keeps m s (startWalk x0 x1 x2 s) := by
  unfold startWalk
  refine .trans ?_ (updPort_keeps ..)
  exact .refl _

theorem dmxEnumerateCmd_keeps {m : Nat} (w : Waiter) (q : Request) (s : State) (hm : Within 8589934592 m := by first | exact .trans (by assumption) ⟨rfl⟩ | exact ⟨rfl⟩) : Keeps m s (dmxEnumerateCmd.act w q s) := by
  dsimp -zeta only [dmxEnumerateCmd, setCmd, readCmd, readClearCmd]
  refine .trans ?_ (startWalk_keeps ..)
  refine .trans ?_ (setPortState_keeps ..)
  exact .refl _

theorem dmxEnrolCmd_keeps {m : Nat} (w : Waiter) (q : Request) (s : State) (hm : Within 8589934592 m := by first | exact .trans (by assumption) ⟨rfl⟩ | exact ⟨rfl⟩) : Keeps m s (dmxEnrolCmd.act w q s) := by
  dsimp -zeta only [dmxEnrolCmd]
  split
  · exact .refl _
  · refine .trans ?_ (reply_keeps ..)
    cases e : admitHead (q.u8 0) _ .enrolled s with
    | none => exact .refl _
    | some t => exact admitHead_keeps _ _ _ _ _ e

theorem removeHead_keeps {m : Nat} x0 x1 s (hm : Within 12884901888 m := by first | exact .trans (by assumption) ⟨rfl⟩ | exact ⟨rfl⟩) : Keeps m s (removeHead x0 x1 s) := by
  unfold removeHead
  extract_lets -merge -useContext +onlyGivenNames y0; clear_value (e1 : y0 = _)
  refine .cut e1 ?_ fun h2 => ?_
  · refine .trans ?_ (headGone_keeps ..)
    refine .trans ?_ (clearAlarms_keeps ..)
    refine .trans ?_ (failCommands_keeps ..)
    exact .refl _
  clear e1
  extract_lets -merge -useContext +onlyGivenNames y3; clear_value (e4 : y3 = _)
  refine .cut e4 ?_ fun h5 => ?_
  · refine .trans ?_ (updPort_keeps ..)
    exact h2
  clear e4
  refine .trans ?_ (reviewUnresponsive_keeps ..)
  refine .trans ?_ (reschedule_keeps ..)
  refine .trans ?_ (refitPeriod_keeps ..)
  refine .trans ?_ (record_keeps ..)
  exact h5

theorem dmxRemoveHeadCmd_keeps {m : Nat} (w : Waiter) (q : Request) (s : State) (hm : Within 12884901888 m := by first | exact .trans (by assumption) ⟨rfl⟩ | exact ⟨rfl⟩) : Keeps m s (dmxRemoveHeadCmd.act w q s) := by
  dsimp -zeta only [dmxRemoveHeadCmd, setCmd, readCmd, readClearCmd]
  refine .trans ?_ (reply_keeps ..)
  refine .trans ?_ (removeHead_keeps ..)
  exact .refl _

theorem dmxSetHeadCmd_keeps {m : Nat} (w : Waiter) (q : Request) (s : State) (hm : Within 8589934592 m := by first | exact .trans (by assumption) ⟨rfl⟩ | exact ⟨rfl⟩) : Keeps m s (dmxSetHeadCmd.act w q s) := by
  dsimp -zeta only [dmxSetHeadCmd, setCmd, readCmd, readClearCmd]
  extract_lets -merge -useContext +onlyGivenNames y0; clear_value (e1 : y0 = _)
  extract_lets -merge -useContext +onlyGivenNames y2; clear_value (e3 : y2 = _)
  extract_lets -merge -useContext +onlyGivenNames y4; clear_value (e5 : y4 = _)
  extract_lets -merge -useContext +onlyGivenNames y6; clear_value (e7 : y6 = _)
  refine .cut e7 ?_ fun h8 => ?_
  · refine .ite ?_ (by exact .refl _)
    refine .trans ?_ (reschedule_keeps ..)
    refine .trans ?_ (setPeriod_keeps ..)
    exact .refl _
  clear e7
  refine .trans ?_ (streamHead_keeps ..)
  exact h8

theorem dmxHeadParamCmd_keeps {m : Nat} (w : Waiter) (q : Request) (s : State) (hm : Within 8589934592 m := by first | exact .trans (by assumption) ⟨rfl⟩ | exact ⟨rfl⟩) : Keeps m s (dmxHeadParamCmd.act w q s) := by
  dsimp -zeta only [dmxHeadParamCmd, setCmd, readCmd, readClearCmd]
  refine .trans ?_ (queueCommand_keeps ..)
  exact .refl _

theorem dmxSetRouteCmd_keeps {m : Nat} (w : Waiter) (q : Request) (s : State) (hm : Within 8589934592 m := by first | exact .trans (by assumption) ⟨rfl⟩ | exact ⟨rfl⟩) : Keeps m s (dmxSetRouteCmd.act w q s) := by
  dsimp -zeta only [dmxSetRouteCmd, setCmd, readCmd, readClearCmd]
  refine .trans ?_ (reply_keeps ..)
  extract_lets -merge -useContext +onlyGivenNames y0; clear_value (e1 : y0 = _)
  refine .trans ?_ (putHead_keeps ..)
  exact .refl _

theorem dmxSetAlarmGroupCmd_keeps {m : Nat} (w : Waiter) (q : Request) (s : State) (hm : Within 8589934592 m := by first | exact .trans (by assumption) ⟨rfl⟩ | exact ⟨rfl⟩) : Keeps m s (dmxSetAlarmGroupCmd.act w q s) := by
  dsimp -zeta only [dmxSetAlarmGroupCmd, setCmd, readCmd, readClearCmd]
  refine .trans ?_ (reply_keeps ..)
  extract_lets -merge -useContext +onlyGivenNames y0; clear_value (e1 : y0 = _)
  refine .trans ?_ (putHead_keeps ..)
  exact .refl _

theorem dmxRejoinCmd_keeps {m : Nat} (w : Waiter) (q : Request) (s : State) (hm : Within 8589934592 m := by first | exact .trans (by assumption) ⟨rfl⟩ | exact ⟨rfl⟩) : Keeps m s (dmxRejoinCmd.act w q s) := by
  dsimp -zeta only [dmxRejoinCmd, setCmd, readCmd, readClearCmd]
  refine .trans ?_ (reply_keeps ..)
  refine .trans ?_ (reschedule_keeps ..)
  refine .trans ?_ (updPort_keeps ..)
  exact .refl _

theorem createJob_keeps {m : Nat} x0 x1 x2 x3 s  : Keeps m s (createJob x0 x1 x2 x3 s) := by
  unfold createJob
  extract_lets -merge -useContext +onlyGivenNames y0; clear_value (e1 : y0 = _)
  refine .upd ?_
  exact .refl _

theorem engCreateJobCmd_keeps {m : Nat} (w : Waiter) (q : Request) (s : State)  : Keeps m s (engCreateJobCmd.act w q s) := by
  dsimp -zeta only [engCreateJobCmd, setCmd, readCmd, readClearCmd]
  extract_lets -merge -useContext +onlyGivenNames y0; clear_value (e1 : y0 = _)
  extract_lets -merge -useContext +onlyGivenNames y2; clear_value (e3 : y2 = _)
  refine .trans ?_ (reply_keeps ..)
  refine .trans ?_ (createJob_keeps ..)
  exact .refl _

theorem engStartJobCmd_keeps {m : Nat} (w : Waiter) (q : Request) (s : State)  : Keeps m s (engStartJobCmd.act w q s) := by
  dsimp -zeta only [engStartJobCmd, setCmd, readCmd, readClearCmd]
  refine .trans ?_ (reply_keeps ..)
  refine .trans ?_ (updJob_keeps ..)
  exact .refl _

theorem engStopJobCmd_keeps {m : Nat} (w : Waiter) (q : Request) (s : State)  : Keeps m s (engStopJobCmd.act w q s) := by
  dsimp -zeta only [engStopJobCmd, setCmd, readCmd, readClearCmd]
  extract_lets -merge -useContext +onlyGivenNames y0; clear_value (e1 : y0 = _)
  refine .trans ?_ (answerStops_keeps ..)
  refine .trans ?_ (updJob_keeps ..)
  refine .trans ?_ (stopJob_keeps ..)
  exact .refl _

theorem engDeleteJobCmd_keeps {m : Nat} (w : Waiter) (q : Request) (s : State)  : Keeps m s (engDeleteJobCmd.act w q s) := by
  dsimp -zeta only [engDeleteJobCmd, setCmd, readCmd, readClearCmd]
  refine .trans ?_ (reply_keeps ..)
  refine .trans ?_ (deleteJob_keeps ..)
  exact .refl _

theorem phRingConfigureCmd_keeps {m : Nat} (w : Waiter) (q : Request) (s : State) (hm : Within 34359738368 m := by first | exact .trans (by assumption) ⟨rfl⟩ | exact ⟨rfl⟩) : Keeps m s (phRingConfigureCmd.act w q s) := by
  dsimp -zeta only [phRingConfigureCmd, setCmd, readCmd, readClearCmd]
  refine .trans ?_ (reply_keeps ..)
  extract_lets -merge -useContext +onlyGivenNames y0; clear_value (e1 : y0 = _)
  refine .upd ?_
  exact .refl _

theorem updRing_keeps {m : Nat} x0 x1 s (hm : Within 34359738368 m := by first | exact .trans (by assumption) ⟨rfl⟩ | exact ⟨rfl⟩) : Keeps m s (updRing x0 x1 s) := by
  unfold updRing
  refine .upd ?_
  exact .refl _

theorem phRingStartCmd_keeps {m : Nat} (w : Waiter) (q : Request) (s : State) (hm : Within 34359738368 m := by first | exact .trans (by assumption) ⟨rfl⟩ | exact ⟨rfl⟩) : Keeps m s (phRingStartCmd.act w q s) := by
  dsimp -zeta only [phRingStartCmd, setCmd, readCmd, readClearCmd]
  refine .trans ?_ (reply_keeps ..)
  refine .trans ?_ (releaseAlert_keeps ..)
  refine .trans ?_ (updRing_keeps ..)
  exact .refl _

theorem phRingStopCmd_keeps {m : Nat} (w : Waiter) (q : Request) (s : State) (hm : Within 34359738368 m := by first | exact .trans (by assumption) ⟨rfl⟩ | exact ⟨rfl⟩) : Keeps m s (phRingStopCmd.act w q s) := by
  dsimp -zeta only [phRingStopCmd, setCmd, readCmd, readClearCmd]
  refine .trans ?_ (reply_keeps ..)
  refine .trans ?_ (updRing_keeps ..)
  exact .refl _

theorem updLink_keeps {m : Nat} x0 x1 s  : Keeps m s (updLink x0 x1 s) := by
  unfold updLink
  refine .upd ?_
  exact .refl _

theorem settlePaused_keeps {m : Nat} x0 s (hm : Within 68719476736 m := by first | exact .trans (by assumption) ⟨rfl⟩ | exact ⟨rfl⟩) : Keeps m s (settlePaused x0 s) := by
  unfold settlePaused
  split
  · exact .refl _
  · extract_lets +onlyGivenNames d
    refine (Keeps.of rfl (Nat.le_refl _) (fun hi => ⟨?_, hi.2⟩))
    simpa [Sized, updLink] using hi.1

theorem setStream_keeps {m : Nat} x0 s (hm : Within 68719476736 m := by first | exact .trans (by assumption) ⟨rfl⟩ | exact ⟨rfl⟩) : Keeps m s (setStream x0 s) := by
  unfold setStream
  extract_lets -merge -useContext +onlyGivenNames y0; clear_value (e1 : y0 = _)
  extract_lets -merge -useContext +onlyGivenNames y2; clear_value (e3 : y2 = _)
  refine .cut e3 ?_ fun h4 => ?_
  · refine .trans ?_ (settlePaused_keeps ..)
    exact .refl _
  clear e3
  extract_lets -merge -useContext +onlyGivenNames y5; clear_value (e6 : y5 = _)
  extract_lets -merge -useContext +onlyGivenNames y7; clear_value (e8 : y7 = _)
  refine .cut e8 ?_ fun h9 => ?_
  · refine .trans ?_ (settlePaused_keeps ..)
    exact h4
  clear e8
  extract_lets -merge -useContext +onlyGivenNames y10; clear_value (e11 : y10 = _)
  extract_lets -merge -useContext +onlyGivenNames y12; clear_value (e13 : y12 = _)
  extract_lets -merge -useContext +onlyGivenNames y14; clear_value (e15 : y14 = _)
  refine .upd ?_
  exact h9

theorem phStreamConfigureCmd_keeps {m : Nat} (w : Waiter) (q : Request) (s : State) (hm : Within 68719476736 m := by first | exact .trans (by assumption) ⟨rfl⟩ | exact ⟨rfl⟩) : Keeps m s (phStreamConfigureCmd.act w q s) := by
  dsimp -zeta only [phStreamConfigureCmd, setCmd, readCmd, readClearCmd]
  refine .trans ?_ (reply_keeps ..)
  refine .trans ?_ (setStream_keeps ..)
  exact .refl _

theorem updPtp_keeps {m : Nat} x0 x1 s (hm : Within 137438953472 m := by first | exact .trans (by assumption) ⟨rfl⟩ | exact ⟨rfl⟩) : Keeps m s (updPtp x0 x1 s) := by
  unfold updPtp
  refine .upd ?_
  exact .refl _

theorem ptpConfigureCmd_keeps {m : Nat} (w : Waiter) (q : Request) (s : State) (hm : Within 137438953472 m := by first | exact .trans (by assumption) ⟨rfl⟩ | exact ⟨rfl⟩) : Keeps m s (ptpConfigureCmd.act w q s) := by
  dsimp -zeta only [ptpConfigureCmd, setCmd, readCmd, readClearCmd]
  refine .trans ?_ (reply_keeps ..)
  refine .trans ?_ (updPtp_keeps ..)
  exact .refl _

theorem pcieSetClockingCmd_keeps {m : Nat} (w : Waiter) (q : Request) (s : State) (hm : Within 2048 m := by first | exact .trans (by assumption) ⟨rfl⟩ | exact ⟨rfl⟩) : Keeps m s (pcieSetClockingCmd.act w q s) := by
  dsimp -zeta only [pcieSetClockingCmd, setCmd, readCmd, readClearCmd]
  refine .trans ?_ (reply_keeps ..)
  refine .upd ?_
  exact .refl _

theorem phConfigureCmd_keeps {m : Nat} (w : Waiter) (q : Request) (s : State) (hm : Within 17179869184 m := by first | exact .trans (by assumption) ⟨rfl⟩ | exact ⟨rfl⟩) : Keeps m s (phConfigureCmd.act w q s) := by
  dsimp -zeta only [phConfigureCmd, setCmd, readCmd, readClearCmd]
  refine .trans ?_ (reply_keeps ..)
  extract_lets -merge -useContext +onlyGivenNames y0; clear_value (e1 : y0 = _)
  refine .upd ?_
  exact .refl _

theorem phSetPolicyCmd_keeps {m : Nat} (w : Waiter) (q : Request) (s : State) (hm : Within 292057776128 m := by first | exact .trans (by assumption) ⟨rfl⟩ | exact ⟨rfl⟩) : Keeps m s (phSetPolicyCmd.act w q s) := by
  dsimp -zeta only [phSetPolicyCmd, setCmd, readCmd, readClearCmd]
  refine .trans ?_ (reply_keeps ..)
  refine .trans ?_ (reviewWaiting_keeps ..)
  refine .trans ?_ (updPh_keeps ..)
  exact .refl _

theorem phSetDrainCmd_keeps {m : Nat} (w : Waiter) (q : Request) (s : State) (hm : Within 17179869184 m := by first | exact .trans (by assumption) ⟨rfl⟩ | exact ⟨rfl⟩) : Keeps m s (phSetDrainCmd.act w q s) := by
  dsimp -zeta only [phSetDrainCmd, setCmd, readCmd, readClearCmd]
  refine .trans ?_ (reply_keeps ..)
  refine .trans ?_ (updPh_keeps ..)
  exact .refl _

theorem phFlushCmd_keeps {m : Nat} (w : Waiter) (q : Request) (s : State) (hm : Within 292057776128 m := by first | exact .trans (by assumption) ⟨rfl⟩ | exact ⟨rfl⟩) : Keeps m s (phFlushCmd.act w q s) := by
  dsimp -zeta only [phFlushCmd, setCmd, readCmd, readClearCmd]
  refine .trans ?_ (reply_keeps ..)
  refine .trans ?_ (reviewWaiting_keeps ..)
  refine .trans ?_ (updPh_keeps ..)
  exact .refl _

theorem unbound_keeps {m : Nat} s  : Keeps m s (unbound s) := by
  unfold unbound
  refine .trans ?_ (record_keeps ..)
  exact .refl _

theorem unbindCopy_keeps {m : Nat} x0 s (hm : Within 35184372088832 m := by first | exact .trans (by assumption) ⟨rfl⟩ | exact ⟨rfl⟩) : Keeps m s (unbindCopy x0 s) := by
  unfold unbindCopy
  refine .ite ?_ (by exact .refl _)
  refine .trans ?_ (unbound_keeps ..)
  refine .upd ?_
  exact .refl _

theorem unbindLanes_keeps {m : Nat} x0 s (hm : Within 8589934592 m := by first | exact .trans (by assumption) ⟨rfl⟩ | exact ⟨rfl⟩) : Keeps m s (unbindLanes x0 s) := by
  unfold unbindLanes
  extract_lets -merge -useContext +onlyGivenNames y0; clear_value (e1 : y0 = _)
  extract_lets -merge -useContext +onlyGivenNames y2; clear_value (e3 : y2 = _)
  extract_lets -merge -useContext +onlyGivenNames y4; clear_value (e5 : y4 = _)
  extract_lets -merge -useContext +onlyGivenNames y6; clear_value (e7 : y6 = _)
  extract_lets -merge -useContext +onlyGivenNames y8; clear_value (e9 : y8 = _)
  refine .cut e9 ?_ fun h10 => ?_
  · refine .upd ?_
    exact .refl _
  clear e9
  refine .trans ?_ (forEach_keeps _ _ _ ?_)
  rotate_left
  · intro t11 t12
    refine .trans ?_ (unbound_keeps ..)
    exact .refl _
  exact h10

theorem releasePh_keeps {m : Nat} x0 s (hm : Within 35210141892608 m := by first | exact .trans (by assumption) ⟨rfl⟩ | exact ⟨rfl⟩) : Keeps m s (releasePh x0 s) := by
  unfold releasePh
  split
  · exact .refl _
  · extract_lets -merge -useContext +onlyGivenNames y0; clear_value (e1 : y0 = _)
    refine .cut e1 ?_ fun h2 => ?_
    · refine .trans ?_ (forAll_keeps _ _ _ ?_)
      rotate_left
      · intro t3 t4
        refine .trans ?_ (stopJob_keeps ..)
        exact .refl _
      exact .refl _
    clear e1
    extract_lets -merge -useContext +onlyGivenNames y5; clear_value (e6 : y5 = _)
    refine .cut e6 ?_ fun h7 => ?_
    · refine .trans ?_ (unbindCopy_keeps ..)
      refine .trans ?_ (unbindLanes_keeps ..)
      exact h2
    clear e6
    extract_lets -merge -useContext +onlyGivenNames y8; clear_value (e9 : y8 = _)
    extract_lets -merge -useContext +onlyGivenNames y10; clear_value (e11 : y10 = _)
    refine .cut e11 ?_ fun h12 => ?_
    · refine .upd ?_
      exact h7
    clear e11
    refine .trans ?_ (forAll_keeps _ _ _ ?_)
    rotate_left
    · intro t13 t14
      refine .trans ?_ (resumeWriter_keeps ..)
      exact .refl _
    exact h12

theorem phReleaseCmd_keeps {m : Nat} (w : Waiter) (q : Request) (s : State) (hm : Within 35210141892608 m := by first | exact .trans (by assumption) ⟨rfl⟩ | exact ⟨rfl⟩) : Keeps m s (phReleaseCmd.act w q s) := by
  dsimp -zeta only [phReleaseCmd, setCmd, readCmd, readClearCmd]
  refine .trans ?_ (reply_keeps ..)
  refine .trans ?_ (releasePh_keeps ..)
  exact .refl _

theorem unbindEdge_keeps {m : Nat} x0 x1 s (hm : Within 292057776128 m := by first | exact .trans (by assumption) ⟨rfl⟩ | exact ⟨rfl⟩) : Keeps m s (unbindEdge x0 x1 s) := by
  unfold unbindEdge
  extract_lets -merge -useContext +onlyGivenNames y0; clear_value (e1 : y0 = _)
  extract_lets -merge -useContext +onlyGivenNames y2; clear_value (e3 : y2 = _)
  refine .cut e3 ?_ fun h4 => ?_
  · refine .ite ?_ (by exact .refl _)
    refine .trans ?_ (closeBatch_keeps ..)
    exact .refl _
  clear e3
  refine .upd ?_
  exact h4

theorem phBindEdgeCmd_keeps {m : Nat} (w : Waiter) (q : Request) (s : State) (hm : Within 292057776128 m := by first | exact .trans (by assumption) ⟨rfl⟩ | exact ⟨rfl⟩) : Keeps m s (phBindEdgeCmd.act w q s) := by
  dsimp -zeta only [phBindEdgeCmd, setCmd, readCmd, readClearCmd]
  refine .trans ?_ (reply_keeps ..)
  refine .ite ?_ ?_
  · refine .trans ?_ (unbindEdge_keeps ..)
    exact .refl _
  · extract_lets -merge -useContext +onlyGivenNames y0; clear_value (e1 : y0 = _)
    refine .cut e1 ?_ fun h2 => ?_
    · refine .trans ?_ (unbindEdge_keeps ..)
      exact .refl _
    clear e1
    refine .upd ?_
    exact h2

theorem memSetRateCmd_keeps {m : Nat} (w : Waiter) (q : Request) (s : State)  : Keeps m s (memSetRateCmd.act w q s) := by
  dsimp -zeta only [memSetRateCmd, setCmd, readCmd, readClearCmd]
  refine .ite ?_ ?_
  · refine .trans ?_ (reply_keeps ..)
    exact .refl _
  · refine .ite ?_ ?_
    · refine .upd ?_
      exact .refl _
    · refine .trans ?_ (beginRate_keeps ..)
      exact .refl _

theorem updRank_keeps {m : Nat} x0 x1 s (hm : Within 549755813888 m := by first | exact .trans (by assumption) ⟨rfl⟩ | exact ⟨rfl⟩) : Keeps m s (updRank x0 x1 s) := by
  unfold updRank
  refine .upd ?_
  exact .refl _

theorem failRank_keeps {m : Nat} x0 s (hm : Within 549755813888 m := by first | exact .trans (by assumption) ⟨rfl⟩ | exact ⟨rfl⟩) : Keeps m s (failRank x0 s) := by
  unfold failRank
  extract_lets -merge -useContext +onlyGivenNames y0; clear_value (e1 : y0 = _)
  refine .cut e1 ?_ fun h2 => ?_
  · refine .trans ?_ (updRank_keeps ..)
    exact .refl _
  clear e1
  refine .trans ?_ (assertAlert_keeps ..)
  refine .trans ?_ (record_keeps ..)
  exact h2

theorem startRetirement_keeps {m : Nat} x0 s (hm : Within 549755813888 m := by first | exact .trans (by assumption) ⟨rfl⟩ | exact ⟨rfl⟩) : Keeps m s (startRetirement x0 s) := by
  unfold startRetirement
  split
  · extract_lets -merge -useContext +onlyGivenNames y0; clear_value (e1 : y0 = _)
    refine .cut e1 ?_ fun h2 => ?_
    · refine .trans ?_ (updRank_keeps ..)
      refine .trans ?_ (updRank_keeps ..)
      exact .refl _
    clear e1
    extract_lets -merge -useContext +onlyGivenNames y3; clear_value (e4 : y3 = _)
    extract_lets -merge -useContext +onlyGivenNames y5; clear_value (e6 : y5 = _)
    refine .cut e6 ?_ fun h7 => ?_
    · refine .upd ?_
      exact h2
    clear e6
    refine .trans ?_ (assertAlert_keeps ..)
    refine .trans ?_ (record_keeps ..)
    exact h7
  · refine .trans ?_ (failRank_keeps ..)
    exact .refl _
  · exact .refl _

theorem memRetireRankCmd_keeps {m : Nat} (w : Waiter) (q : Request) (s : State) (hm : Within 549755813888 m := by first | exact .trans (by assumption) ⟨rfl⟩ | exact ⟨rfl⟩) : Keeps m s (memRetireRankCmd.act w q s) := by
  dsimp -zeta only [memRetireRankCmd, setCmd, readCmd, readClearCmd]
  refine .trans ?_ (reply_keeps ..)
  refine .trans ?_ (startRetirement_keeps ..)
  exact .refl _

theorem finishMigration_keeps {m : Nat} x0 s (hm : Within 549755813888 m := by first | exact .trans (by assumption) ⟨rfl⟩ | exact ⟨rfl⟩) : Keeps m s (finishMigration x0 s) := by
  unfold finishMigration
  extract_lets -merge -useContext +onlyGivenNames y0; clear_value (e1 : y0 = _)
  refine .cut e1 ?_ fun h2 => ?_
  · refine .trans ?_ (updRank_keeps ..)
    refine .trans ?_ (updRank_keeps ..)
    exact .refl _
  clear e1
  refine .upd ?_
  exact h2

theorem remap_keeps {m : Nat} s (hm : Within 36040144322560 m := by first | exact .trans (by assumption) ⟨rfl⟩ | exact ⟨rfl⟩) : Keeps m s (remap s) := by
  unfold remap
  extract_lets -merge -useContext +onlyGivenNames y0; clear_value (e1 : y0 = _)
  extract_lets -merge -useContext +onlyGivenNames y2; clear_value (e3 : y2 = _)
  extract_lets -merge -useContext +onlyGivenNames y4; clear_value (e5 : y4 = _)
  refine .cut e5 ?_ fun h6 => ?_
  · split
    · refine .trans ?_ (releaseAlert_keeps ..)
      refine .trans ?_ (finishMigration_keeps ..)
      exact .refl _
    · exact .refl _
  clear e5
  extract_lets -merge -useContext +onlyGivenNames y7; clear_value (e8 : y7 = _)
  refine .cut e8 ?_ fun h9 => ?_
  · refine .trans ?_ (forAll_keeps _ _ _ ?_)
    rotate_left
    · intro t10 t11
      refine .trans ?_ (releaseAlert_keeps ..)
      refine .trans ?_ (updRank_keeps ..)
      exact .refl _
    exact h6
  clear e8
  extract_lets -merge -useContext +onlyGivenNames y12; clear_value (e13 : y12 = _)
  extract_lets -merge -useContext +onlyGivenNames y14; clear_value (e15 : y14 = _)
  refine .cut e15 ?_ fun h16 => ?_
  · refine .upd ?_
    exact h9
  clear e15
  extract_lets -merge -useContext +onlyGivenNames y17; clear_value (e18 : y17 = _)
  extract_lets -merge -useContext +onlyGivenNames y19; clear_value (e20 : y19 = _)
  refine .cut e20 ?_ fun h21 => ?_
  · refine .trans ?_ (forEach_keeps _ _ _ ?_)
    rotate_left
    · intro t22 t23
      refine .ite ?_ (by exact .refl _)
      refine .trans ?_ (updSg_keeps ..)
      exact .refl _
    exact h16
  clear e20
  extract_lets -merge -useContext +onlyGivenNames y24; clear_value (e25 : y24 = _)
  extract_lets -merge -useContext +onlyGivenNames y26; clear_value (e27 : y26 = _)
  refine .cut e27 ?_ fun h28 => ?_
  · refine .trans ?_ (forAll_keeps _ _ _ ?_)
    rotate_left
    · intro t29 t30
      refine .trans ?_ (releasePh_keeps ..)
      exact .refl _
    exact h21
  clear e27
  refine .trans ?_ (record_keeps ..)
  refine .trans ?_ (noteAccumulators_keeps ..)
  exact h28

theorem memRemapCmd_keeps {m : Nat} (w : Waiter) (q : Request) (s : State) (hm : Within 36040144322560 m := by first | exact .trans (by assumption) ⟨rfl⟩ | exact ⟨rfl⟩) : Keeps m s (memRemapCmd.act w q s) := by
  dsimp -zeta only [memRemapCmd, setCmd, readCmd, readClearCmd]
  refine .trans ?_ (reply_keeps ..)
  refine .trans ?_ (remap_keeps ..)
  exact .refl _

end Sys2Proof.Machine
end

