-- ==== Sys2Proof/Laws/KeepsC.lean ====
section
/-! SUPPORT. Operations that keep, each after those it calls (3 of 6). -/

set_option Elab.async false

namespace Sys2Proof.Machine

theorem keepAlignment_keeps {m : Nat} s  : Keeps m s (keepAlignment s) := by
  unfold keepAlignment
  refine .upd ?_
  exact .refl _

theorem takeRole_keeps {m : Nat} x0 s (hm : Within 2199023255552 m := by first | exact .trans (by assumption) ⟨rfl⟩ | exact ⟨rfl⟩) : Keeps m s (takeRole x0 s) := by
  unfold takeRole
  extract_lets -merge -useContext +onlyGivenNames y0; clear_value (e1 : y0 = _)
  refine .cut e1 ?_ fun h2 => ?_
  · refine .trans ?_ (keepAlignment_keeps ..)
    exact .refl _
  clear e1
  extract_lets -merge -useContext +onlyGivenNames y3; clear_value (e4 : y3 = _)
  extract_lets -merge -useContext +onlyGivenNames y5; clear_value (e6 : y5 = _)
  extract_lets -merge -useContext +onlyGivenNames y7; clear_value (e8 : y7 = _)
  refine .upd ?_
  exact h2

theorem endChecking_keeps {m : Nat} s  : Keeps m s (endChecking s) := by
  unfold endChecking
  split
  · refine .trans ?_ (reply_keeps ..)
    refine .upd ?_
    exact .refl _
  · exact .refl _

theorem endDelayRun_keeps {m : Nat} s  : Keeps m s (endDelayRun s) := by
  unfold endDelayRun
  split
  · refine .trans ?_ (reply_keeps ..)
    refine .upd ?_
    exact .refl _
  · exact .refl _

theorem configureSync_keeps {m : Nat} x0 s (hm : Within 2199023255552 m := by first | exact .trans (by assumption) ⟨rfl⟩ | exact ⟨rfl⟩) : Keeps m s (configureSync x0 s) := by
  unfold configureSync
  refine .trans ?_ (takeRole_keeps ..)
  refine .ite (by exact .refl _) ?_
  refine .trans ?_ (releaseAlert_keeps ..)
  refine .trans ?_ (endChecking_keeps ..)
  refine .trans ?_ (endDelayRun_keeps ..)
  exact .refl _

theorem syncConfigureCmd_keeps {m : Nat} (w : Waiter) (q : Request) (s : State) (hm : Within 2199023255552 m := by first | exact .trans (by assumption) ⟨rfl⟩ | exact ⟨rfl⟩) : Keeps m s (syncConfigureCmd.act w q s) := by
  dsimp -zeta only [syncConfigureCmd, setCmd, readCmd, readClearCmd]
  refine .trans ?_ (reply_keeps ..)
  refine .trans ?_ (configureSync_keeps ..)
  exact .refl _

theorem syncCalibrateDelayCmd_keeps {m : Nat} (w : Waiter) (q : Request) (s : State)  : Keeps m s (syncCalibrateDelayCmd.act w q s) := by
  dsimp -zeta only [syncCalibrateDelayCmd, setCmd, readCmd, readClearCmd]
  refine .ite ?_ ?_
  · refine .trans ?_ (reply_keeps ..)
    exact .refl _
  · refine .upd ?_
    exact .refl _

theorem queueSync_keeps {m : Nat} x0 s  : Keeps m s (queueSync x0 s) := by
  unfold queueSync
  refine .upd ?_
  exact .refl _

theorem syncCheckCmd_keeps {m : Nat} (w : Waiter) (q : Request) (s : State)  : Keeps m s (syncCheckCmd.act w q s) := by
  dsimp -zeta only [syncCheckCmd, setCmd, readCmd, readClearCmd]
  extract_lets -merge -useContext +onlyGivenNames y0; clear_value (e1 : y0 = _)
  refine .trans ?_ (queueSync_keeps ..)
  refine .upd ?_
  exact .refl _

theorem syncLockCmd_keeps {m : Nat} (w : Waiter) (q : Request) (s : State) (hm : Within 8796093022208 m := by first | exact .trans (by assumption) ⟨rfl⟩ | exact ⟨rfl⟩) : Keeps m s (syncLockCmd.act w q s) := by
  dsimp -zeta only [syncLockCmd, setCmd, readCmd, readClearCmd]
  refine .trans ?_ (reply_keeps ..)
  refine .trans ?_ (record_keeps ..)
  refine .upd ?_
  exact .refl _

theorem syncResetDomainCmd_keeps {m : Nat} (w : Waiter) (q : Request) (s : State)  : Keeps m s (syncResetDomainCmd.act w q s) := by
  dsimp -zeta only [syncResetDomainCmd, setCmd, readCmd, readClearCmd]
  refine .trans ?_ (queueSync_keeps ..)
  refine .upd ?_
  exact .refl _

theorem setKey_keeps {m : Nat} x0 x1 s (hm : Within 1 m := by first | exact .trans (by assumption) ⟨rfl⟩ | exact ⟨rfl⟩) : Keeps m s (setKey x0 x1 s) := by
  unfold setKey
  refine .upd ?_
  exact .refl _

theorem keyEnrolCmd_keeps {m : Nat} (w : Waiter) (q : Request) (s : State) (hm : Within 1 m := by first | exact .trans (by assumption) ⟨rfl⟩ | exact ⟨rfl⟩) : Keeps m s (keyEnrolCmd.act w q s) := by
  dsimp -zeta only [keyEnrolCmd, setCmd, readCmd, readClearCmd]
  extract_lets -merge -useContext +onlyGivenNames y0; clear_value (e1 : y0 = _)
  refine .trans ?_ (reply_keeps ..)
  refine .trans ?_ (record_keeps ..)
  refine .trans ?_ (setKey_keeps ..)
  exact .refl _

theorem expireProposal_keeps {m : Nat} x0 x1 s (hm : Within 4 m := by first | exact .trans (by assumption) ⟨rfl⟩ | exact ⟨rfl⟩) : Keeps m s (expireProposal x0 x1 s) := by
  unfold expireProposal
  refine .trans ?_ (carrying_keeps _ _ ?_)
  rotate_left
  · intro t0
    refine .trans ?_ (record_keeps ..)
    exact .refl _
  refine .upd ?_
  exact .refl _

theorem removeKey_keeps {m : Nat} x0 x1 s (hm : Within 5 m := by first | exact .trans (by assumption) ⟨rfl⟩ | exact ⟨rfl⟩) : Keeps m s (removeKey x0 x1 s) := by
  unfold removeKey
  split
  · exact .refl _
  · refine .trans ?_ (forAll_keeps _ _ _ ?_)
    rotate_left
    · intro t0 t1
      refine .trans ?_ (expireProposal_keeps ..)
      exact .refl _
    refine .trans ?_ (record_keeps ..)
    refine .trans ?_ (setKey_keeps ..)
    exact .refl _

theorem keyRemoveCmd_keeps {m : Nat} (w : Waiter) (q : Request) (s : State) (hm : Within 5 m := by first | exact .trans (by assumption) ⟨rfl⟩ | exact ⟨rfl⟩) : Keeps m s (keyRemoveCmd.act w q s) := by
  dsimp -zeta only [keyRemoveCmd, setCmd, readCmd, readClearCmd]
  refine .trans ?_ (reply_keeps ..)
  refine .trans ?_ (removeKey_keeps ..)
  exact .refl _

theorem setProtected_keeps {m : Nat} x0 x1 s (hm : Within 2 m := by first | exact .trans (by assumption) ⟨rfl⟩ | exact ⟨rfl⟩) : Keeps m s (setProtected x0 x1 s) := by
  unfold setProtected
  refine .ite (by exact .refl _) ?_
  refine .trans ?_ (record_keeps ..)
  refine .upd ?_
  exact .refl _

theorem protSetProtectedCmd_keeps {m : Nat} (w : Waiter) (q : Request) (s : State) (hm : Within 2 m := by first | exact .trans (by assumption) ⟨rfl⟩ | exact ⟨rfl⟩) : Keeps m s (protSetProtectedCmd.act w q s) := by
  dsimp -zeta only [protSetProtectedCmd, setCmd, readCmd, readClearCmd]
  refine .trans ?_ (reply_keeps ..)
  refine .trans ?_ (setProtected_keeps ..)
  exact .refl _

theorem fwCommitCmd_keeps {m : Nat} (w : Waiter) (q : Request) (s : State) (hm : Within 16 m := by first | exact .trans (by assumption) ⟨rfl⟩ | exact ⟨rfl⟩) : Keeps m s (fwCommitCmd.act w q s) := by
  dsimp -zeta only [fwCommitCmd, setCmd, readCmd, readClearCmd]
  refine .trans ?_ (reply_keeps ..)
  refine .trans ?_ (record_keeps ..)
  refine .upd ?_
  exact .refl _

theorem setCopy_keeps {m : Nat} x0 s (hm : Within 35184372088832 m := by first | exact .trans (by assumption) ⟨rfl⟩ | exact ⟨rfl⟩) : Keeps m s (setCopy x0 s) := by
  unfold setCopy
  refine .ite (by exact .refl _) ?_
  refine .upd ?_
  exact .refl _

theorem evtSetCopyCmd_keeps {m : Nat} (w : Waiter) (q : Request) (s : State) (hm : Within 35184372088832 m := by first | exact .trans (by assumption) ⟨rfl⟩ | exact ⟨rfl⟩) : Keeps m s (evtSetCopyCmd.act w q s) := by
  dsimp -zeta only [evtSetCopyCmd, setCmd, readCmd, readClearCmd]
  refine .trans ?_ (reply_keeps ..)
  refine .trans ?_ (setCopy_keeps ..)
  exact .refl _

theorem evtClearRingCmd_keeps {m : Nat} (w : Waiter) (q : Request) (s : State)  : Keeps m s (evtClearRingCmd.act w q s) := by
  dsimp -zeta only [evtClearRingCmd, setCmd, readCmd, readClearCmd]
  extract_lets -merge -useContext +onlyGivenNames y0; clear_value (e1 : y0 = _)
  refine .upd ?_
  exact .refl _

theorem find_keeps {m : Nat} {n : Nat}  : ∀ {l : List Cmd}, (∀ c ∈ l, ∀ w q s, Keeps m s (c.act w q s)) → ∀ c,
    l.find? (fun c => c.opcode = n) = some c → ∀ w q s, Keeps m s (c.act w q s) := fun h c e => h c (List.mem_of_find?_eq_some e)

theorem commandOf_keeps {m : Nat} {n : Nat} {c : Cmd} (e : commandOf n = some c) (hm : Within 70368739945471 m := by first | exact .trans (by assumption) ⟨rfl⟩ | exact ⟨rfl⟩) : ∀ w q s, Keeps m s (c.act w q s) := by
  refine find_keeps (l := protectable) ?_ c e
  intro c h
  simp only [protectable, List.mem_append, List.mem_cons, List.not_mem_nil, or_false, or_assoc] at h
  rcases h with rfl | rfl | rfl | rfl | rfl | rfl | rfl | rfl | rfl | rfl | rfl | rfl | rfl | rfl | rfl | rfl | rfl | rfl | rfl | rfl | rfl | rfl | rfl | rfl | rfl | rfl | rfl | rfl | rfl | rfl | rfl | rfl | rfl | rfl | rfl | rfl | rfl | rfl | rfl | rfl | rfl | rfl | rfl | rfl | rfl | rfl | rfl | rfl | rfl | rfl | rfl | rfl | rfl | rfl | rfl | rfl | rfl | rfl | rfl | rfl | rfl | rfl | rfl | rfl | rfl | rfl | rfl | rfl | rfl | rfl | rfl | rfl | rfl | rfl | rfl | rfl | rfl | rfl | rfl | rfl | rfl | rfl | rfl | rfl | rfl | rfl | rfl | rfl
  · exact sysRestartCmd_keeps
  · exact sysSetMarginFloorCmd_keeps
  · exact sysSetVcoreModeCmd_keeps
  · exact sysSetNetworkCmd_keeps
  · exact sysClearFlagsCmd_keeps
  · exact sysResetSubsystemCmd_keeps
  · exact sysSetPowerStateCmd_keeps
  · exact clkSetOutputCmd_keeps
  · exact clkSetReferenceCmd_keeps
  · exact clkSetTimeSourceCmd_keeps
  · exact clkSetTimeCmd_keeps
  · exact clkStepPhaseCmd_keeps
  · exact clkSetRampCmd_keeps
  · exact clkSetCoreRateCmd_keeps
  · exact clkSetCeilingCmd_keeps
  · exact inpSetEnableCmd_keeps
  · exact inpSetPairCmd_keeps
  · exact calRunForegroundCmd_keeps
  · exact calSetScheduleCmd_keeps
  · exact calSaveImageCmd_keeps
  · exact calWriteImageCmd_keeps
  · exact calRestoreImageCmd_keeps
  · exact fltConfigureChainCmd_keeps
  · exact fltLoadFirCmd_keeps
  · exact fltSetInputCmd_keeps
  · exact fltStartCmd_keeps
  · exact fltStopCmd_keeps
  · exact fltSyncCmd_keeps
  · exact trigSetComparatorCmd_keeps
  · exact trigSetConditionCmd_keeps
  · exact trigSetPatternCmd_keeps
  · exact trigSetGroupCmd_keeps
  · exact trigSetBusCmd_keeps
  · exact trigSetMarkerCmd_keeps
  · exact trigForceCmd_keeps
  · exact edgeSetInputCmd_keeps
  · exact edgeSetGateCmd_keeps
  · exact edgeSetAngleCmd_keeps
  · exact segConfigureCmd_keeps
  · exact segArmCmd_keeps
  · exact segStopCmd_keeps
  · exact hamConfigureCmd_keeps
  · exact hamReleaseCmd_keeps
  · exact hamStartCmd_keeps
  · exact hamStopCmd_keeps
  · exact hamSpillCmd_keeps
  · exact dmxSetPortCmd_keeps
  · exact dmxEnumerateCmd_keeps
  · exact dmxEnrolCmd_keeps
  · exact dmxRemoveHeadCmd_keeps
  · exact dmxSetHeadCmd_keeps
  · exact dmxHeadParamCmd_keeps
  · exact dmxSetRouteCmd_keeps
  · exact dmxSetAlarmGroupCmd_keeps
  · exact dmxRejoinCmd_keeps
  · exact engCreateJobCmd_keeps
  · exact engStartJobCmd_keeps
  · exact engStopJobCmd_keeps
  · exact engDeleteJobCmd_keeps
  · exact phRingConfigureCmd_keeps
  · exact phRingStartCmd_keeps
  · exact phRingStopCmd_keeps
  · exact phStreamConfigureCmd_keeps
  · exact ptpConfigureCmd_keeps
  · exact pcieSetClockingCmd_keeps
  · exact phConfigureCmd_keeps
  · exact phSetPolicyCmd_keeps
  · exact phSetDrainCmd_keeps
  · exact phFlushCmd_keeps
  · exact phReleaseCmd_keeps
  · exact phBindEdgeCmd_keeps
  · exact memSetRateCmd_keeps
  · exact memRetireRankCmd_keeps
  · exact memRemapCmd_keeps
  · exact syncConfigureCmd_keeps
  · exact syncCalibrateDelayCmd_keeps
  · exact syncCheckCmd_keeps
  · exact syncLockCmd_keeps
  · exact syncResetDomainCmd_keeps
  · exact keyEnrolCmd_keeps
  · exact keyRemoveCmd_keeps
  · exact protSetProtectedCmd_keeps
  · exact fwCommitCmd_keeps
  · exact evtSetCopyCmd_keeps
  · exact evtClearRingCmd_keeps
  · exact auxSetSequenceCmd_keeps
  · exact auxInjectCmd_keeps
  · exact auxSetCaptureCmd_keeps

theorem carryOut_keeps {m : Nat} x0 x1 s (hm : Within 70368739945471 m := by first | exact .trans (by assumption) ⟨rfl⟩ | exact ⟨rfl⟩) : Keeps m s (carryOut x0 x1 s) := by
  unfold carryOut
  extract_lets +onlyGivenNames r
  split
  · exact .refl _
  · rename_i c e
    refine .ite (reply_keeps _ _ _ _) ?_
    split
    · exact (noteRejection_keeps _ _ _).trans (reply_keeps _ _ _ _)
    · exact commandOf_keeps e (hm := by first | exact .trans (by assumption) ⟨rfl⟩ | exact ⟨rfl⟩) _ _ _

theorem checkQuality_keeps {m : Nat} x0 x1 s (hm : Within 1048576 m := by first | exact .trans (by assumption) ⟨rfl⟩ | exact ⟨rfl⟩) : Keeps m s (checkQuality x0 x1 s) := by
  unfold checkQuality
  refine .trans ?_ (forAll_keeps _ _ _ ?_)
  rotate_left
  · intro t0 t1
    extract_lets -merge -useContext +onlyGivenNames y2; clear_value (e3 : y2 = _)
    extract_lets -merge -useContext +onlyGivenNames y4; clear_value (e5 : y4 = _)
    refine .ite ?_ (by exact .refl _)
    refine .trans ?_ (record_keeps ..)
    refine .trans ?_ (updCore_keeps ..)
    exact .refl _
  exact .refl _

theorem setTokens_keeps {m : Nat} x0 x1 s  : Keeps m s (setTokens x0 x1 s) := by
  unfold setTokens
  refine .upd ?_
  exact .refl _

theorem takeToken_keeps {m : Nat} x0 x1 s (hm : Within 402653184 m := by first | exact .trans (by assumption) ⟨rfl⟩ | exact ⟨rfl⟩) : Keeps m s (takeToken x0 x1 s) := by
  unfold takeToken
  extract_lets -merge -useContext +onlyGivenNames y0; clear_value (e1 : y0 = _)
  extract_lets -merge -useContext +onlyGivenNames y2; clear_value (e3 : y2 = _)
  extract_lets -merge -useContext +onlyGivenNames y4; clear_value (e5 : y4 = _)
  extract_lets -merge -useContext +onlyGivenNames y6; clear_value (e7 : y6 = _)
  refine .cut e7 ?_ fun h8 => ?_
  · refine .trans ?_ (setTokens_keeps ..)
    refine .trans ?_ (keepView_keeps ..)
    exact .refl _
  clear e7
  extract_lets -merge -useContext +onlyGivenNames y9; clear_value (e10 : y9 = _)
  refine .cut e10 ?_ fun h11 => ?_
  · refine .trans ?_ (updTg_keeps ..)
    exact h8
  clear e10
  refine .ite ?_ (by exact h11)
  refine .trans ?_ (markReady_keeps ..)
  exact h11

theorem takeTokens_keeps {m : Nat}   : ∀ x0 s (hm : Within 402653184 m := by first | exact .trans (by assumption) ⟨rfl⟩ | exact ⟨rfl⟩), Keeps m s (takeTokens x0 s)
  | 0, s, hm => Keeps.refl s
  | fuel + 1, s, hm => by
    unfold takeTokens
    split
    · exact Keeps.ite ((takeToken_keeps _ _ _).trans (takeTokens_keeps fuel _)) (Keeps.refl _)
    · exact .refl _

theorem settleTokens_keeps {m : Nat} s (hm : Within 402653184 m := by first | exact .trans (by assumption) ⟨rfl⟩ | exact ⟨rfl⟩) : Keeps m s (settleTokens s) := by
  unfold settleTokens
  refine .trans ?_ (takeTokens_keeps ..)
  exact .refl _

theorem settleGroup_keeps {m : Nat} x0 x1 s (hm : Within 1476395008 m := by first | exact .trans (by assumption) ⟨rfl⟩ | exact ⟨rfl⟩) : Keeps m s (settleGroup x0 x1 s) := by
  unfold settleGroup
  refine .trans ?_ (settleTokens_keeps ..)
  refine .trans ?_ (endFill_keeps ..)
  exact .refl _

theorem classify_keeps {m : Nat} x0 x1 s (hm : Within 5771362304 m := by first | exact .trans (by assumption) ⟨rfl⟩ | exact ⟨rfl⟩) : Keeps m s (classify x0 x1 s) := by
  unfold classify
  extract_lets +onlyGivenNames tick y; clear_value (e1 : y = _)
  refine .cut e1 ((settleGroup_keeps _ _ _).trans (keepView_keeps _ _ _)) fun h => ?_
  extract_lets +onlyGivenNames count st
  have hc : ∀ f t, Keeps m t (count f t) := fun f t => updTg_keeps _ _ _
  clear_value count
  refine .ite (h.trans (replyOpt_keeps _ _ _ _)) ?_
  refine .ite (h.trans (replyOpt_keeps _ _ _ _)) ?_
  refine .ite ((h.trans (updTg_keeps _ _ _)).trans (hc _ _)) ?_
  refine .ite (h.trans (acceptTrigger_keeps _ _ _)) ?_
  refine .ite (h.trans (replyOpt_keeps _ _ _ _)) ?_
  clear_value st
  split <;> exact (h.trans (updTg_keeps _ _ _)).trans (hc _ _)

theorem clearMemory_keeps {m : Nat} s (hm : Within 549755813888 m := by first | exact .trans (by assumption) ⟨rfl⟩ | exact ⟨rfl⟩) : Keeps m s (clearMemory s) := by
  unfold clearMemory
  extract_lets -merge -useContext +onlyGivenNames y0; clear_value (e1 : y0 = _)
  refine .cut e1 ?_ fun h2 => ?_
  · split
    · refine .trans ?_ (releaseAlert_keeps ..)
      refine .trans ?_ (finishMigration_keeps ..)
      exact .refl _
    · exact .refl _
  clear e1
  refine .upd ?_
  exact h2

theorem clearRing_keeps {m : Nat} x0 x1 s (hm : Within 17592186044416 m := by first | exact .trans (by assumption) ⟨rfl⟩ | exact ⟨rfl⟩) : Keeps m s (clearRing x0 x1 s) := by
  unfold clearRing
  extract_lets -merge -useContext +onlyGivenNames y0; clear_value (e1 : y0 = _)
  extract_lets -merge -useContext +onlyGivenNames y2; clear_value (e3 : y2 = _)
  extract_lets -merge -useContext +onlyGivenNames y4; clear_value (e5 : y4 = _)
  refine .trans ?_ (reply_keeps ..)
  refine .upd ?_
  exact .refl _

theorem clkGetOutputCmd_keeps {m : Nat} (w : Waiter) (q : Request) (s : State)  : Keeps m s (clkGetOutputCmd.act w q s) := by
  dsimp -zeta only [clkGetOutputCmd, setCmd, readCmd, readClearCmd]
  refine .trans ?_ (reply_keeps ..)
  exact .refl _

theorem clkGetPpsCmd_keeps {m : Nat} (w : Waiter) (q : Request) (s : State)  : Keeps m s (clkGetPpsCmd.act w q s) := by
  dsimp -zeta only [clkGetPpsCmd, setCmd, readCmd, readClearCmd]
  refine .trans ?_ (reply_keeps ..)
  exact .refl _

theorem clkGetStatusCmd_keeps {m : Nat} (w : Waiter) (q : Request) (s : State)  : Keeps m s (clkGetStatusCmd.act w q s) := by
  dsimp -zeta only [clkGetStatusCmd, setCmd, readCmd, readClearCmd]
  refine .trans ?_ (reply_keeps ..)
  refine .trans ?_ (updSession_keeps ..)
  refine .upd ?_
  exact .refl _

theorem closeAfterReply_keeps {m : Nat} x0 s  : Keeps m s (closeAfterReply x0 s) := by
  unfold closeAfterReply
  split
  · exact .refl _
  · refine .trans ?_ (carrying_keeps _ _ ?_)
    rotate_left
    · intro t0
      refine .trans ?_ (stageBody_keeps ..)
      exact .refl _
    refine .trans ?_ (dropSession_keeps ..)
    exact .refl _

theorem doorbellResult_keeps {m : Nat} x0 x1 s  : Keeps m s (doorbellResult x0 x1 s) := by
  unfold doorbellResult
  refine .trans ?_ (updSession_keeps ..)
  exact .refl _

theorem closeSession_keeps {m : Nat} x0 x1 s  : Keeps m s (closeSession x0 x1 s) := by
  unfold closeSession
  extract_lets -merge -useContext +onlyGivenNames y0; clear_value (e1 : y0 = _)
  split
  · exact .refl _
  · refine .trans ?_ (carrying_keeps _ _ ?_)
    rotate_left
    · intro t2
      refine .trans ?_ (stageBody_keeps ..)
      exact .refl _
    refine .trans ?_ (dropSession_keeps ..)
    exact .refl _
  · refine .trans ?_ (carrying_keeps _ _ ?_)
    rotate_left
    · intro t3
      refine .trans ?_ (stageBody_keeps ..)
      exact .refl _
    refine .trans ?_ (dropSession_keeps ..)
    exact .refl _
  · refine .trans ?_ (carrying_keeps _ _ ?_)
    rotate_left
    · intro t4
      refine .trans ?_ (stageBody_keeps ..)
      exact .refl _
    refine .trans ?_ (dropSession_keeps ..)
    exact .refl _

theorem closeByDoorbell_keeps {m : Nat} x0 s  : Keeps m s (closeByDoorbell x0 s) := by
  unfold closeByDoorbell
  refine .ite ?_ ?_
  · refine .trans ?_ (doorbellResult_keeps ..)
    exact .refl _
  · refine .trans ?_ (doorbellResult_keeps ..)
    refine .trans ?_ (closeSession_keeps ..)
    exact .refl _

theorem endPass_keeps {m : Nat} x0 s (hm : Within 1048576 m := by first | exact .trans (by assumption) ⟨rfl⟩ | exact ⟨rfl⟩) : Keeps m s (endPass x0 s) := by
  unfold endPass
  split
  · exact .refl _
  · extract_lets -merge -useContext +onlyGivenNames y0; clear_value (e1 : y0 = _)
    refine .cut e1 ?_ fun h2 => ?_
    · refine .trans ?_ (updInCal_keeps ..)
      exact .refl _
    clear e1
    extract_lets -merge -useContext +onlyGivenNames y3; clear_value (e4 : y3 = _)
    refine .cut e4 ?_ fun h5 => ?_
    · refine .trans ?_ (forAll_keeps _ _ _ ?_)
      rotate_left
      · intro t6 t7
        refine .trans ?_ (updCore_keeps ..)
        exact .refl _
      exact h2
    clear e4
    refine .trans ?_ (record_keeps ..)
    exact h5

theorem closePass_keeps {m : Nat} x0 s (hm : Within 1572864 m := by first | exact .trans (by assumption) ⟨rfl⟩ | exact ⟨rfl⟩) : Keeps m s (closePass x0 s) := by
  unfold closePass
  split
  · exact .refl _
  · refine .ite ?_ (by exact .refl _)
    extract_lets -merge -useContext +onlyGivenNames y0; clear_value (e1 : y0 = _)
    refine .cut e1 ?_ fun h2 => ?_
    · refine .trans ?_ (endPass_keeps ..)
      exact .refl _
    clear e1
    refine .ite ?_ (by exact h2)
    refine .trans ?_ (startPass_keeps ..)
    exact h2

theorem updLane_keeps {m : Nat} x0 x1 s  : Keeps m s (updLane x0 x1 s) := by
  unfold updLane
  refine .upd ?_
  exact .refl _

theorem reportMargin_keeps {m : Nat} x0 x1 x2 x3 s  : Keeps m s (reportMargin x0 x1 x2 x3 s) := by
  unfold reportMargin
  extract_lets -merge -useContext +onlyGivenNames y0; clear_value (e1 : y0 = _)
  refine .ite ?_ ?_
  · extract_lets -merge -useContext +onlyGivenNames y2; clear_value (e3 : y2 = _)
    refine .cut e3 ?_ fun h4 => ?_
    · refine .trans ?_ (updLane_keeps ..)
      exact .refl _
    clear e3
    refine .ite (by exact h4) ?_
    refine .trans ?_ (stageBody_keeps ..)
    refine .trans ?_ (assertAlert_keeps ..)
    exact h4
  · refine .ite (by exact .refl _) ?_
    refine .ite ?_ ?_
    · refine .trans ?_ (updLane_keeps ..)
      exact .refl _
    · refine .ite ?_ ?_
      · refine .trans ?_ (updLane_keeps ..)
        exact .refl _
      · refine .trans ?_ (releaseAlert_keeps ..)
        refine .trans ?_ (stageBody_keeps ..)
        refine .trans ?_ (updLane_keeps ..)
        exact .refl _

theorem closeWindow_keeps {m : Nat} x0 x1 s  : Keeps m s (closeWindow x0 x1 s) := by
  unfold closeWindow
  extract_lets -merge -useContext +onlyGivenNames y0; clear_value (e1 : y0 = _)
  extract_lets -merge -useContext +onlyGivenNames y2; clear_value (e3 : y2 = _)
  extract_lets -merge -useContext +onlyGivenNames y4; clear_value (e5 : y4 = _)
  extract_lets -merge -useContext +onlyGivenNames y6; clear_value (e7 : y6 = _)
  refine .cut e7 ?_ fun h8 => ?_
  · refine .ite ?_ (by exact .refl _)
    refine .trans ?_ (capture_keeps ..)
    exact .refl _
  clear e7
  extract_lets -merge -useContext +onlyGivenNames y9; clear_value (e10 : y9 = _)
  refine .cut e10 ?_ fun h11 => ?_
  · refine .trans ?_ (updLane_keeps ..)
    exact h8
  clear e10
  extract_lets -merge -useContext +onlyGivenNames y12; clear_value (e13 : y12 = _)
  refine .cut e13 ?_ fun h14 => ?_
  · refine .ite (by exact h11) ?_
    refine .trans ?_ (updSince_keeps ..)
    exact h11
  clear e13
  refine .trans ?_ (reportMargin_keeps ..)
  refine .trans ?_ (capture_keeps ..)
  exact h14

theorem loseMemory_keeps {m : Nat} s (hm : Within 274877906944 m := by first | exact .trans (by assumption) ⟨rfl⟩ | exact ⟨rfl⟩) : Keeps m s (loseMemory s) := by
  unfold loseMemory
  refine .upd ?_
  exact .refl _

theorem startTime_keeps {m : Nat} s (hm : Within 196608 m := by first | exact .trans (by assumption) ⟨rfl⟩ | exact ⟨rfl⟩) : Keeps m s (startTime s) := by
  refine (Keeps.of rfl (?_) (fun hi => ⟨hi.1, hi.2⟩) (by
    intro k hk; cases k <;> first | exact Eq.refl _ | (refine absurd hk (Within.written (by assumption) ?_); rfl) | (simp only [Kind.same]; unfold startTime; dsimp only; split <;> rfl)))
  unfold startTime; dsimp only; split <;> exact Nat.le_refl _

theorem coldStart_keeps {m : Nat} s (hm : Within 53051436237056 m := by first | exact .trans (by assumption) ⟨rfl⟩ | exact ⟨rfl⟩) : Keeps m s (coldStart s) := by
  unfold coldStart
  extract_lets -merge -useContext +onlyGivenNames y0; clear_value (e1 : y0 = _)
  refine .cut e1 ?_ fun h2 => ?_
  · refine .ite (by exact .refl _) ?_
    refine .trans ?_ (loseMemory_keeps ..)
    exact .refl _
  clear e1
  extract_lets -merge -useContext +onlyGivenNames y3; clear_value (e4 : y3 = _)
  extract_lets -merge -useContext +onlyGivenNames y5; clear_value (e6 : y5 = _)
  extract_lets -merge -useContext +onlyGivenNames y7; clear_value (e8 : y7 = _)
  refine .cut e8 ?_ fun h9 => ?_
  · refine .updTime ?_
    exact h2
  clear e8
  extract_lets -merge -useContext +onlyGivenNames y10; clear_value (e11 : y10 = _)
  extract_lets -merge -useContext +onlyGivenNames y12; clear_value (e13 : y12 = _)
  refine .cut e13 ?_ fun h14 => ?_
  · refine .trans ?_ (updLoop_keeps ..)
    refine .trans ?_ (updLoop_keeps ..)
    exact h9
  clear e13
  refine .trans ?_ (openStart_keeps ..)
  refine .trans ?_ (startTime_keeps ..)
  exact h14

theorem coldState_keeps {m : Nat} s (hm : Within 40956808097892 m := by first | exact .trans (by assumption) ⟨rfl⟩ | exact ⟨rfl⟩) : Keeps m s (coldState s) := by
  unfold coldState
  extract_lets +onlyGivenNames y
  have h : Keeps m s y := (lowerMarkers_keeps _).trans (dropSessions_keeps _)
  clear_value y
  refine h.trans (Keeps.of rfl (Nat.le_refl _) (fun hi => ⟨?_, hi.2⟩))
  obtain ⟨hi, hm⟩ := hi
  simp only [Sized] at hi
  simp [Sized, hi, ClockState.restart, PowerState.restart, ProtectState.restart, MemState.restart, resumedGroups, ClockState.tallies, TrigMachine.tally]

theorem noteBands_keeps {m : Nat} x0 x1 s  : Keeps m s (noteBands x0 x1 s) := by
  unfold noteBands
  refine .ite (by exact .refl _) ?_
  extract_lets -merge -useContext +onlyGivenNames y0; clear_value (e1 : y0 = _)
  extract_lets -merge -useContext +onlyGivenNames y2; clear_value (e3 : y2 = _)
  refine .trans ?_ (forAll_keeps _ _ _ ?_)
  rotate_left
  · intro t4 t5
    refine .trans ?_ (recordLimited_keeps ..)
    exact .refl _
  refine .trans ?_ (updJob_keeps ..)
  exact .refl _

theorem noteBusy_keeps {m : Nat} x0 s  : Keeps m s (noteBusy x0 s) := by
  unfold noteBusy
  refine .trans ?_ (updJob_keeps ..)
  exact .refl _

theorem releaseBlock_keeps {m : Nat} x0 x1 s  : Keeps m s (releaseBlock x0 x1 s) := by
  unfold releaseBlock
  split
  · exact .refl _
  · extract_lets -merge -useContext +onlyGivenNames y0; clear_value (e1 : y0 = _)
    refine .trans ?_ (addTask_keeps ..)
    refine .trans ?_ (updJob_keeps ..)
    exact .refl _

theorem releaseLink_keeps {m : Nat} x0 x1 s  : Keeps m s (releaseLink x0 x1 s) := by
  unfold releaseLink
  split
  · exact .refl _
  · refine .ite ?_ ?_
    · refine .trans ?_ (noteBusy_keeps ..)
      exact .refl _
    · refine .ite ?_ ?_
      · refine .trans ?_ (updJob_keeps ..)
        exact .refl _
      · refine .ite ?_ ?_
        · refine .trans ?_ (updJob_keeps ..)
          exact .refl _
        · refine .trans ?_ (releaseBlock_keeps ..)
          exact .refl _

theorem completeResult_keeps {m : Nat} x0 x1 x2 x3 x4 s (hm : Within 292057776128 m := by first | exact .trans (by assumption) ⟨rfl⟩ | exact ⟨rfl⟩) : Keeps m s (completeResult x0 x1 x2 x3 x4 s) := by
  unfold completeResult
  extract_lets -merge -useContext +onlyGivenNames y0; clear_value (e1 : y0 = _)
  extract_lets -merge -useContext +onlyGivenNames y2; clear_value (e3 : y2 = _)
  extract_lets -merge -useContext +onlyGivenNames y4; clear_value (e5 : y4 = _)
  refine .cut e5 ?_ fun h6 => ?_
  · refine .trans ?_ (writeResult_keeps ..)
    exact .refl _
  clear e5
  extract_lets -merge -useContext +onlyGivenNames y7; clear_value (e8 : y7 = _)
  extract_lets -merge -useContext +onlyGivenNames y9; clear_value (e10 : y9 = _)
  refine .cut e10 ?_ fun h11 => ?_
  · refine .trans ?_ (updJob_keeps ..)
    exact h6
  clear e10
  extract_lets -merge -useContext +onlyGivenNames y12; clear_value (e13 : y12 = _)
  refine .cut e13 ?_ fun h14 => ?_
  · refine .ite ?_ (by exact h11)
    refine .trans ?_ (recordLimited_keeps ..)
    refine .trans ?_ (updEngine_keeps ..)
    exact h11
  clear e13
  extract_lets -merge -useContext +onlyGivenNames y15; clear_value (e16 : y15 = _)
  refine .cut e16 ?_ fun h17 => ?_
  · refine .trans ?_ (capture_keeps ..)
    refine .trans ?_ (noteBands_keeps ..)
    exact h14
  clear e16
  extract_lets -merge -useContext +onlyGivenNames y18; clear_value (e19 : y18 = _)
  refine .trans ?_ (forAll_keeps _ _ _ ?_)
  rotate_left
  · intro t20 t21
    refine .trans ?_ (releaseLink_keeps ..)
    exact .refl _
  exact h17

theorem completeRelease_keeps {m : Nat} x0 s (hm : Within 292057776128 m := by first | exact .trans (by assumption) ⟨rfl⟩ | exact ⟨rfl⟩) : Keeps m s (completeRelease x0 s) := by
  unfold completeRelease
  split
  · exact .refl _
  · extract_lets -merge -useContext +onlyGivenNames y0; clear_value (e1 : y0 = _)
    extract_lets -merge -useContext +onlyGivenNames y2; clear_value (e3 : y2 = _)
    refine .ite ?_ ?_
    · refine .trans ?_ (updJob_keeps ..)
      exact .refl _
    · refine .trans ?_ (completeResult_keeps ..)
      exact .refl _

theorem completeStep_keeps {m : Nat} x0 x1 x2 x3 s  : Keeps m s (completeStep x0 x1 x2 x3 s) := by
  unfold completeStep
  extract_lets -merge -useContext +onlyGivenNames y0; clear_value (e1 : y0 = _)
  refine .cut e1 ?_ fun h2 => ?_
  · refine .trans ?_ (updChannel_keeps ..)
    exact .refl _
  clear e1
  refine .trans ?_ (endStep_keeps ..)
  refine .trans ?_ (tuneChannel_keeps ..)
  exact h2

theorem convertersUp_keeps {m : Nat} s (hm : Within 1108869120 m := by first | exact .trans (by assumption) ⟨rfl⟩ | exact ⟨rfl⟩) : Keeps m s (convertersUp s) := by
  unfold convertersUp
  extract_lets -merge -useContext +onlyGivenNames y0; clear_value (e1 : y0 = _)
  extract_lets -merge -useContext +onlyGivenNames y2; clear_value (e3 : y2 = _)
  extract_lets -merge -useContext +onlyGivenNames y4; clear_value (e5 : y4 = _)
  refine .cut e5 ?_ fun h6 => ?_
  · refine .trans ?_ (forEach_keeps _ _ _ ?_)
    rotate_left
    · intro t7 t8
      refine .trans ?_ (staffInput_keeps ..)
      exact .refl _
    refine .upd ?_
    exact .refl _
  clear e5
  refine .upd ?_
  exact h6

theorem copyRecord_keeps {m : Nat} s (hm : Within 292057776128 m := by first | exact .trans (by assumption) ⟨rfl⟩ | exact ⟨rfl⟩) : Keeps m s (copyRecord s) := by
  unfold copyRecord
  split
  · refine .ite (by exact .refl _) ?_
    extract_lets -merge -useContext +onlyGivenNames y0; clear_value (e1 : y0 = _)
    extract_lets -merge -useContext +onlyGivenNames y2; clear_value (e3 : y2 = _)
    refine .cut e3 ?_ fun h4 => ?_
    · refine .trans ?_ (offer_keeps ..)
      refine .upd ?_
      exact .refl _
    clear e3
    refine .upd ?_
    exact h4
  · exact .refl _

theorem correctedError_keeps {m : Nat} x0 x1 x2 s (hm : Within 549755813888 m := by first | exact .trans (by assumption) ⟨rfl⟩ | exact ⟨rfl⟩) : Keeps m s (correctedError x0 x1 x2 s) := by
  unfold correctedError
  refine .trans ?_ (recordLimited_keeps ..)
  refine .trans ?_ (updRank_keeps ..)
  exact .refl _

theorem endWalk_keeps {m : Nat} x0 s (hm : Within 8589934592 m := by first | exact .trans (by assumption) ⟨rfl⟩ | exact ⟨rfl⟩) : Keeps m s (endWalk x0 s) := by
  unfold endWalk
  split
  · exact .refl _
  · extract_lets -merge -useContext +onlyGivenNames y0; clear_value (e1 : y0 = _)
    refine .ite ?_ ?_
    · refine .trans ?_ (startWalk_keeps ..)
      exact .refl _
    · extract_lets -merge -useContext +onlyGivenNames y2; clear_value (e3 : y2 = _)
      refine .cut e3 ?_ fun h4 => ?_
      · refine .trans ?_ (updPort_keeps ..)
        exact .refl _
      clear e3
      refine .trans ?_ (replyOpt_keeps ..)
      refine .trans ?_ (setPortState_keeps ..)
      exact h4

theorem countMiss_keeps {m : Nat} x0 s (hm : Within 8589934592 m := by first | exact .trans (by assumption) ⟨rfl⟩ | exact ⟨rfl⟩) : Keeps m s (countMiss x0 s) := by
  unfold countMiss
  extract_lets -merge -useContext +onlyGivenNames y0; clear_value (e1 : y0 = _)
  split
  · exact .refl _
  · refine .ite (by exact .refl _) ?_
    refine .ite ?_ ?_
    · refine .trans ?_ (endWalk_keeps ..)
      refine .trans ?_ (updPort_keeps ..)
      exact .refl _
    · refine .trans ?_ (updPort_keeps ..)
      exact .refl _

theorem ringMessage_keeps {m : Nat} x0 x1 s (hm : Within 34359738368 m := by first | exact .trans (by assumption) ⟨rfl⟩ | exact ⟨rfl⟩) : Keeps m s (ringMessage x0 x1 s) := by
  unfold ringMessage
  refine .trans ?_ (sendMsix_keeps ..)
  refine .trans ?_ (updRing_keeps ..)
  exact .refl _

theorem countStatus_keeps {m : Nat} x0 s (hm : Within 34359738368 m := by first | exact .trans (by assumption) ⟨rfl⟩ | exact ⟨rfl⟩) : Keeps m s (countStatus x0 s) := by
  unfold countStatus
  extract_lets -merge -useContext +onlyGivenNames y0; clear_value (e1 : y0 = _)
  refine .cut e1 ?_ fun h2 => ?_
  · refine .trans ?_ (updRing_keeps ..)
    exact .refl _
  clear e1
  split
  · exact h2
  · refine .ite ?_ (by exact h2)
    refine .trans ?_ (ringMessage_keeps ..)
    exact h2

theorem countersign_keeps {m : Nat} x0 x1 s (hm : Within 70368739945471 m := by first | exact .trans (by assumption) ⟨rfl⟩ | exact ⟨rfl⟩) : Keeps m s (countersign x0 x1 s) := by
  unfold countersign
  split
  · exact .refl _
  · extract_lets -merge -useContext +onlyGivenNames y0; clear_value (e1 : y0 = _)
    extract_lets -merge -useContext +onlyGivenNames y2; clear_value (e3 : y2 = _)
    refine .cut e3 ?_ fun h4 => ?_
    · refine .trans ?_ (carryOut_keeps ..)
      exact .refl _
    clear e3
    refine .upd ?_
    exact h4

theorem noteSaturation_keeps {m : Nat} x0 x1 x2 s (hm : Within 16777216 m := by first | exact .trans (by assumption) ⟨rfl⟩ | exact ⟨rfl⟩) : Keeps m s (noteSaturation x0 x1 x2 s) := by
  unfold noteSaturation
  extract_lets -merge -useContext +onlyGivenNames y0; clear_value (e1 : y0 = _)
  refine .cut e1 ?_ fun h2 => ?_
  · refine .trans ?_ (updFin_keeps ..)
    exact .refl _
  clear e1
  extract_lets -merge -useContext +onlyGivenNames y3; clear_value (e4 : y3 = _)
  refine .cut e4 ?_ fun h5 => ?_
  · refine .trans ?_ (updSince_keeps ..)
    exact h2
  clear e4
  refine .trans ?_ (recordLimited_keeps ..)
  exact h5

theorem finishStage_keeps {m : Nat} x0 x1 x2 x3 s (hm : Within 16777216 m := by first | exact .trans (by assumption) ⟨rfl⟩ | exact ⟨rfl⟩) : Keeps m s (finishStage x0 x1 x2 x3 s).2 :=
  Keeps.ite (noteSaturation_keeps _ _ _ _) (Keeps.refl _)

theorem takeReset_keeps {m : Nat} x0 x1 s (hm : Within 16777216 m := by first | exact .trans (by assumption) ⟨rfl⟩ | exact ⟨rfl⟩) : Keeps m s (takeReset x0 x1 s) := by
  unfold takeReset
  extract_lets -merge -useContext +onlyGivenNames y0; clear_value (e1 : y0 = _)
  extract_lets -merge -useContext +onlyGivenNames y2; clear_value (e3 : y2 = _)
  extract_lets -merge -useContext +onlyGivenNames y4; clear_value (e5 : y4 = _)
  extract_lets -merge -useContext +onlyGivenNames y6; clear_value (e7 : y6 = _)
  refine .cut e7 ?_ fun h8 => ?_
  · refine .trans ?_ (updFin_keeps ..)
    exact .refl _
  clear e7
  extract_lets -merge -useContext +onlyGivenNames y9; clear_value (e10 : y9 = _)
  refine .trans ?_ (updFin_keeps ..)
  exact h8

theorem reachReset_keeps {m : Nat} x0 x1 s (hm : Within 16777216 m := by first | exact .trans (by assumption) ⟨rfl⟩ | exact ⟨rfl⟩) : Keeps m s (reachReset x0 x1 s) := by
  unfold reachReset
  extract_lets -merge -useContext +onlyGivenNames y0; clear_value (e1 : y0 = _)
  refine .ite (by exact .refl _) ?_
  refine .trans ?_ (forAll_keeps _ _ _ ?_)
  rotate_left
  · intro t2 t3
    refine .trans ?_ (takeReset_keeps ..)
    exact .refl _
  refine .trans ?_ (updFin_keeps ..)
  exact .refl _

theorem emitOutput_keeps {m : Nat} x0 x1 x2 x3 x4 x5 x6 (a : LiftAcc) (hm : Within 16777216 m := by first | exact .trans (by assumption) ⟨rfl⟩ | exact ⟨rfl⟩) : Keeps m a.st (emitOutput x0 x1 x2 x3 x4 x5 x6 a).st := updFin_keeps _ _ _

theorem intervalSample_keeps {m : Nat} x0 x1 x2 x3 x4 (a : LiftAcc) (hm : Within 16777216 m := by first | exact .trans (by assumption) ⟨rfl⟩ | exact ⟨rfl⟩) : Keeps m a.st (intervalSample x0 x1 x2 x3 x4 a).st := by
  unfold intervalSample
  extract_lets +onlyGivenNames x span off k
  split
  · exact .refl _
  · extract_lets +onlyGivenNames last bad fresh codes suspect noData s
    have h : Keeps m a.st s := updFin_keeps _ _ _
    clear_value s
    split
    · exact h.trans (emitOutput_keeps _ _ _ _ _ _ _ _)
    · exact h

theorem firStage_keeps {m : Nat} x0 x1 x2 x3 x4 (a : LiftAcc) (hm : Within 16777216 m := by first | exact .trans (by assumption) ⟨rfl⟩ | exact ⟨rfl⟩) : Keeps m a.st (firStage x0 x1 x2 x3 x4 a).st := by
  unfold firStage
  extract_lets +onlyGivenNames s r bad c t x span from_ suspect u
  have h : Keeps m a.st s := updFin_keeps _ _ _
  have h1 : Keeps m a.st t := Keeps.ite (h.trans (noteSaturation_keeps _ _ _ _)) h
  have h2 : Keeps m a.st u := h1.trans (updFin_keeps _ _ _)
  clear_value u
  split
  · exact h2
  · exact h2.trans (emitOutput_keeps _ _ _ _ _ _ _ _)

theorem hbBStage_keeps {m : Nat} x0 x1 x2 x3 x4 (a : LiftAcc) (hm : Within 16777216 m := by first | exact .trans (by assumption) ⟨rfl⟩ | exact ⟨rfl⟩) : Keeps m a.st (hbBStage x0 x1 x2 x3 x4 a).st := by
  unfold hbBStage
  extract_lets +onlyGivenNames s
  have h : Keeps m a.st s := updFin_keeps _ _ _
  clear_value s
  split
  · exact h
  · split
    rename_i v t e
    have h1 : Keeps m s t := by rw [show t = _ from (congrArg Prod.snd e).symm]; exact finishStage_keeps _ _ _ _ _
    exact (h.trans h1).trans (firStage_keeps _ _ _ _ _ { a with st := t })

theorem hbAStage_keeps {m : Nat} x0 x1 x2 x3 x4 (a : LiftAcc) (hm : Within 16777216 m := by first | exact .trans (by assumption) ⟨rfl⟩ | exact ⟨rfl⟩) : Keeps m a.st (hbAStage x0 x1 x2 x3 x4 a).st := by
  unfold hbAStage
  extract_lets +onlyGivenNames s
  have h : Keeps m a.st s := updFin_keeps _ _ _
  clear_value s
  split
  · exact h
  · split
    rename_i v t e
    have h1 : Keeps m s t := by rw [show t = _ from (congrArg Prod.snd e).symm]; exact finishStage_keeps _ _ _ _ _
    exact (h.trans h1).trans (hbBStage_keeps _ _ _ _ _ { a with st := t })

theorem chainSample_keeps {m : Nat} x0 x1 x2 x3 x4 (a : LiftAcc) (hm : Within 16777216 m := by first | exact .trans (by assumption) ⟨rfl⟩ | exact ⟨rfl⟩) : Keeps m a.st (chainSample x0 x1 x2 x3 x4 a).st := by
  unfold chainSample
  extract_lets +onlyGivenNames s step off
  have h : Keeps m a.st s := updFin_keeps _ _ _
  clear_value s
  split
  · exact h
  · extract_lets +onlyGivenNames x
    split
    rename_i dl v0 hq
    extract_lets +onlyGivenNames t
    have h1 : Keeps m a.st t := h.trans (updFin_keeps _ _ _)
    clear_value t
    split
    rename_i v u e
    have h2 : Keeps m a.st u := h1.trans (by rw [show u = _ from (congrArg Prod.snd e).symm]; exact finishStage_keeps _ _ _ _ _)
    extract_lets +onlyGivenNames k
    split
    · exact h2.trans (firStage_keeps _ _ _ _ _ { a with st := u })
    · exact h2.trans (hbBStage_keeps _ _ _ _ _ { a with st := u })
    · exact h2.trans (hbAStage_keeps _ _ _ _ _ { a with st := u })

theorem stageTwoSample_keeps {m : Nat} x0 x1 x2 x3 (a : LiftAcc) (hm : Within 16777216 m := by first | exact .trans (by assumption) ⟨rfl⟩ | exact ⟨rfl⟩) : Keeps m a.st (stageTwoSample x0 x1 x2 x3 a).st := by
  unfold stageTwoSample
  extract_lets +onlyGivenNames b x
  have h : Keeps m a.st b.st := reachReset_keeps _ _ _
  simp only [apply_ite LiftAcc.st]
  exact Keeps.ite (h.trans (intervalSample_keeps _ _ _ _ _ _)) (Keeps.ite (h.trans (chainSample_keeps _ _ _ _ _ _)) h)

theorem foldl_st {m : Nat} {α : Type} {f : LiftAcc → α → LiftAcc} (h : ∀ a x, Keeps m a.st (f a x).st)  : ∀ (l : List α) (a : LiftAcc), Keeps m a.st (l.foldl f a).st
  | [], a => Keeps.refl a.st
  | x :: l, a => (h a x).trans (foldl_st h l (f a x))

theorem decimateFrame_keeps {m : Nat} x0 x1 s (hm : Within 16777216 m := by first | exact .trans (by assumption) ⟨rfl⟩ | exact ⟨rfl⟩) : Keeps m s (decimateFrame x0 x1 s).1 := by
  unfold decimateFrame
  extract_lets +onlyGivenNames sp x t a
  have h : Keeps m s t := Keeps.ite (updFin_keeps _ _ _) (Keeps.refl _)
  clear_value t
  exact h.trans (foldl_st (fun a p => stageTwoSample_keeps _ _ _ _ a) _ { st := t })

theorem entryDelivered_keeps {m : Nat} x0 x1 s (hm : Within 17179869184 m := by first | exact .trans (by assumption) ⟨rfl⟩ | exact ⟨rfl⟩) : Keeps m s (entryDelivered x0 x1 s) := by
  unfold entryDelivered
  refine .trans ?_ (updPh_keeps ..)
  exact .refl _

theorem deliverEntry_keeps {m : Nat} x0 x1 x2 x3 x4 s (hm : Within 326417514496 m := by first | exact .trans (by assumption) ⟨rfl⟩ | exact ⟨rfl⟩) : Keeps m s (deliverEntry x0 x1 x2 x3 x4 s) := by
  unfold deliverEntry
  extract_lets -merge -useContext +onlyGivenNames y0; clear_value (e1 : y0 = _)
  extract_lets -merge -useContext +onlyGivenNames y2; clear_value (e3 : y2 = _)
  extract_lets -merge -useContext +onlyGivenNames y4; clear_value (e5 : y4 = _)
  extract_lets -merge -useContext +onlyGivenNames y6; clear_value (e7 : y6 = _)
  refine .cut e7 ?_ fun h8 => ?_
  · refine .trans ?_ (emit_keeps ..)
    exact .refl _
  clear e7
  extract_lets -merge -useContext +onlyGivenNames y9; clear_value (e10 : y9 = _)
  refine .cut e10 ?_ fun h11 => ?_
  · refine .trans ?_ (emit_keeps ..)
    exact h8
  clear e10
  extract_lets -merge -useContext +onlyGivenNames y12; clear_value (e13 : y12 = _)
  refine .cut e13 ?_ fun h14 => ?_
  · refine .trans ?_ (entryDelivered_keeps ..)
    refine .trans ?_ (updRing_keeps ..)
    exact h11
  clear e13
  extract_lets -merge -useContext +onlyGivenNames y15; clear_value (e16 : y15 = _)
  extract_lets -merge -useContext +onlyGivenNames y17; clear_value (e18 : y17 = _)
  refine .cut e18 ?_ fun h19 => ?_
  · refine .upd ?_
    exact h14
  clear e18
  extract_lets -merge -useContext +onlyGivenNames y20; clear_value (e21 : y20 = _)
  refine .cut e21 ?_ fun h22 => ?_
  · refine .trans ?_ (capture_keeps ..)
    exact h19
  clear e21
  refine .trans ?_ (reviewWaiting_keeps ..)
  refine .trans ?_ (countStatus_keeps ..)
  exact h22

theorem storePosition_keeps {m : Nat} x0 x1 x2 s (hm : Within 1073741824 m := by first | exact .trans (by assumption) ⟨rfl⟩ | exact ⟨rfl⟩) : Keeps m s (storePosition x0 x1 x2 s) := by
  unfold storePosition
  extract_lets -merge -useContext +onlyGivenNames y0; clear_value (e1 : y0 = _)
  refine .ite ?_ (by exact .refl _)
  refine .trans ?_ (updSg_keeps ..)
  exact .refl _

theorem deliverPositions_keeps {m : Nat} x0 x1 s (hm : Within 1073741824 m := by first | exact .trans (by assumption) ⟨rfl⟩ | exact ⟨rfl⟩) : Keeps m s (deliverPositions x0 x1 s) := by
  unfold deliverPositions
  refine .trans ?_ (pushData_keeps ..)
  refine .trans ?_ (forAll_keeps _ _ _ ?_)
  rotate_left
  · intro t0 t1
    refine .trans ?_ (forEach_keeps _ _ _ ?_)
    rotate_left
    · intro t2 t3
      refine .trans ?_ (storePosition_keeps ..)
      exact .refl _
    exact .refl _
  exact .refl _

theorem overflow_keeps {m : Nat} x0 x1 s (hm : Within 1107820544 m := by first | exact .trans (by assumption) ⟨rfl⟩ | exact ⟨rfl⟩) : Keeps m s (overflow x0 x1 s) := by
  unfold overflow
  extract_lets -merge -useContext +onlyGivenNames y0; clear_value (e1 : y0 = _)
  refine .cut e1 ?_ fun h2 => ?_
  · refine .trans ?_ (stopInput_keeps ..)
    exact .refl _
  clear e1
  refine .trans ?_ (record_keeps ..)
  exact h2

theorem depositInput_keeps {m : Nat} x0 x1 x2 s (hm : Within 1107820544 m := by first | exact .trans (by assumption) ⟨rfl⟩ | exact ⟨rfl⟩) : Keeps m s (depositInput x0 x1 x2 s) := by
  unfold depositInput
  extract_lets -merge -useContext +onlyGivenNames y0; clear_value (e1 : y0 = _)
  refine .ite (by exact .refl _) ?_
  refine .ite ?_ ?_
  · refine .trans ?_ (updInput_keeps ..)
    exact .refl _
  · refine .ite ?_ ?_
    · refine .trans ?_ (overflow_keeps ..)
      exact .refl _
    · extract_lets -merge -useContext +onlyGivenNames y2; clear_value (e3 : y2 = _)
      extract_lets -merge -useContext +onlyGivenNames y4; clear_value (e5 : y4 = _)
      refine .cut e5 ?_ fun h6 => ?_
      · refine .trans ?_ (updInput_keeps ..)
        exact .refl _
      clear e5
      refine .trans ?_ (notePeak_keeps ..)
      refine .trans ?_ (updLane_keeps ..)
      exact h6

theorem discardSlot_keeps {m : Nat} x0 x1 x2 s (hm : Within 8589934592 m := by first | exact .trans (by assumption) ⟨rfl⟩ | exact ⟨rfl⟩) : Keeps m s (discardSlot x0 x1 x2 s) := by
  unfold discardSlot
  extract_lets -merge -useContext +onlyGivenNames y0; clear_value (e1 : y0 = _)
  refine .cut e1 ?_ fun h2 => ?_
  · refine .trans ?_ (updPort_keeps ..)
    exact .refl _
  clear e1
  extract_lets -merge -useContext +onlyGivenNames y3; clear_value (e4 : y3 = _)
  refine .cut e4 ?_ fun h5 => ?_
  · refine .trans ?_ (updHead_keeps ..)
    exact h2
  clear e4
  refine .trans ?_ (recordLimited_keeps ..)
  exact h5

theorem dmxGetHeadsCmd_keeps {m : Nat} (w : Waiter) (q : Request) (s : State)  : Keeps m s (dmxGetHeadsCmd.act w q s) := by
  dsimp -zeta only [dmxGetHeadsCmd, setCmd, readCmd, readClearCmd]
  refine .trans ?_ (reply_keeps ..)
  exact .refl _

theorem dmxGetStatusCmd_keeps {m : Nat} (w : Waiter) (q : Request) (s : State)  : Keeps m s (dmxGetStatusCmd.act w q s) := by
  dsimp -zeta only [dmxGetStatusCmd, setCmd, readCmd, readClearCmd]
  refine .trans ?_ (reply_keeps ..)
  refine .trans ?_ (updSession_keeps ..)
  exact .refl _

theorem doorbell_keeps {m : Nat} x0 x1 x2 x3 s (h : ∀ s, Keeps m s (x3 s))  : KeepsR m s (doorbell x0 x1 x2 x3 s) := by
  unfold doorbell
  extract_lets -merge -useContext +onlyGivenNames y0; clear_value (e1 : y0 = _)
  refine .cut e1 ?_ fun h2 => ?_
  · refine .trans ?_ (advance_keeps ..)
    exact .refl _
  clear e1
  refine .next ?_
  refine .ite (by exact h2) ?_
  refine .ite ?_ ?_
  · refine .trans ?_ (doorbellResult_keeps ..)
    exact h2
  · refine .ite ?_ ?_
    · refine .trans ?_ (doorbellResult_keeps ..)
      exact h2
    · refine .trans ?_ (h _)
      exact h2

theorem drainSources_keeps {m : Nat} x0 s  : Keeps m s (drainSources x0 s) := by
  unfold drainSources
  extract_lets -merge -useContext +onlyGivenNames y0; clear_value (e1 : y0 = _)
  refine .cut e1 ?_ fun h2 => ?_
  · refine .ite ?_ (by exact .refl _)
    refine .trans ?_ (drainTap_keeps ..)
    exact .refl _
  clear e1
  refine .ite ?_ (by exact h2)
  refine .trans ?_ (drainTap_keeps ..)
  exact h2

theorem dropCapture_keeps {m : Nat} x0 s (hm : Within 1207959552 m := by first | exact .trans (by assumption) ⟨rfl⟩ | exact ⟨rfl⟩) : Keeps m s (dropCapture x0 s) := by
  unfold dropCapture
  refine .trans ?_ (updSg_keeps ..)
  refine .trans ?_ (updTg_keeps ..)
  exact .refl _

theorem dropMemoryRails_keeps {m : Nat} s (hm : Within 274877906944 m := by first | exact .trans (by assumption) ⟨rfl⟩ | exact ⟨rfl⟩) : Keeps m s (dropMemoryRails s) := by
  unfold dropMemoryRails
  refine .trans ?_ (loseMemory_keeps ..)
  refine .upd ?_
  exact .refl _

theorem dropOldest_keeps {m : Nat} x0 s  : Keeps m s (dropOldest x0 s) := by
  unfold dropOldest
  extract_lets -merge -useContext +onlyGivenNames y0; clear_value (e1 : y0 = _)
  extract_lets -merge -useContext +onlyGivenNames y2; clear_value (e3 : y2 = _)
  refine .cut e3 ?_ fun h4 => ?_
  · refine .trans ?_ (dropRecord_keeps ..)
    refine .upd ?_
    exact .refl _
  clear e3
  refine .upd ?_
  exact h4

theorem dropOpen_keeps {m : Nat} x0 s  : Keeps m s (dropOpen x0 s) := by
  unfold dropOpen
  split
  · exact .refl _
  · refine .upd ?_
    exact .refl _

theorem dropReassembly_keeps {m : Nat} x0 s  : Keeps m s (dropReassembly x0 s) := by
  unfold dropReassembly
  refine .upd ?_
  exact .refl _

theorem dropSpoilt_keeps {m : Nat} x0 x1 s (hm : Within 17179869184 m := by first | exact .trans (by assumption) ⟨rfl⟩ | exact ⟨rfl⟩) : Keeps m s (dropSpoilt x0 x1 s) := by
  unfold dropSpoilt
  refine .trans ?_ (forAll_keeps _ _ _ ?_)
  rotate_left
  · intro t0 t1
    refine .trans ?_ (dropPoisoned_keeps ..)
    exact .refl _
  exact .refl _

theorem edgeGetResultsCmd_keeps {m : Nat} (w : Waiter) (q : Request) (s : State)  : Keeps m s (edgeGetResultsCmd.act w q s) := by
  dsimp -zeta only [edgeGetResultsCmd, setCmd, readCmd, readClearCmd]
  refine .trans ?_ (reply_keeps ..)
  exact .refl _

theorem edgeReadStampsCmd_keeps {m : Nat} (w : Waiter) (q : Request) (s : State)  : Keeps m s (edgeReadStampsCmd.act w q s) := by
  dsimp -zeta only [edgeReadStampsCmd, setCmd, readCmd, readClearCmd]
  refine .trans ?_ (reply_keeps ..)
  exact .refl _

theorem endBootState_keeps {m : Nat} x0 x1 s (hm : Within 512 m := by first | exact .trans (by assumption) ⟨rfl⟩ | exact ⟨rfl⟩) : Keeps m s (endBootState x0 x1 s) := by
  unfold endBootState
  extract_lets -merge -useContext +onlyGivenNames y0; clear_value (e1 : y0 = _)
  refine .trans ?_ (setBootState_keeps ..)
  refine .upd ?_
  exact .refl _

theorem endFills_keeps {m : Nat} x0 s (hm : Within 1073741824 m := by first | exact .trans (by assumption) ⟨rfl⟩ | exact ⟨rfl⟩) : Keeps m s (endFills x0 s) := by
  unfold endFills
  refine .trans ?_ (forEach_keeps _ _ _ ?_)
  rotate_left
  · intro t0 t1
    refine .ite ?_ (by exact .refl _)
    refine .trans ?_ (endFill_keeps ..)
    exact .refl _
  exact .refl _

theorem endGate_keeps {m : Nat} x0 s (hm : Within 294205259776 m := by first | exact .trans (by assumption) ⟨rfl⟩ | exact ⟨rfl⟩) : Keeps m s (endGate x0 s) := by
  unfold endGate
  extract_lets -merge -useContext +onlyGivenNames y0; clear_value (e1 : y0 = _)
  refine .cut e1 ?_ fun h2 => ?_
  · refine .trans ?_ (deliverGate_keeps ..)
    exact .refl _
  clear e1
  refine .trans ?_ (updTach_keeps ..)
  exact h2

theorem writeAuxData_keeps {m : Nat} x0 x1 x2 s  : Keeps m s (writeAuxData x0 x1 x2 s) := by
  unfold writeAuxData
  refine .trans ?_ (setIrq_keeps ..)
  refine .upd ?_
  exact .refl _

theorem endInjection_keeps {m : Nat} x0 x1 s (hm : Within 524288 m := by first | exact .trans (by assumption) ⟨rfl⟩ | exact ⟨rfl⟩) : Keeps m s (endInjection x0 x1 s) := by
  unfold endInjection
  split
  · exact .refl _
  · refine .trans ?_ (beginDeferred_keeps ..)
    refine .trans ?_ (reply_keeps ..)
    refine .trans ?_ (writeAuxData_keeps ..)
    refine .upd ?_
    exact .refl _

theorem endInterruption_keeps {m : Nat} x0 s  : Keeps m s (endInterruption x0 s) := by
  unfold endInterruption
  extract_lets -merge -useContext +onlyGivenNames y0; clear_value (e1 : y0 = _)
  refine .upd ?_
  exact .refl _

theorem endPending_keeps {m : Nat} x0 s (hm : Within 1073741824 m := by first | exact .trans (by assumption) ⟨rfl⟩ | exact ⟨rfl⟩) : Keeps m s (endPending x0 s) := by
  unfold endPending
  split
  · refine .trans ?_ (replyOpt_keeps ..)
    refine .trans ?_ (updSg_keeps ..)
    exact .refl _
  · exact .refl _

theorem endStartupStep_keeps {m : Nat} x0 s (hm : Within 1048576 m := by first | exact .trans (by assumption) ⟨rfl⟩ | exact ⟨rfl⟩) : Keeps m s (endStartupStep x0 s) := by
  unfold endStartupStep
  refine .ite ?_ ?_
  · refine .trans ?_ (forAll_keeps _ _ _ ?_)
    rotate_left
    · intro t0 t1
      refine .trans ?_ (trimCore_keeps ..)
      exact .refl _
    refine .upd ?_
    exact .refl _
  · refine .trans ?_ (forAll_keeps _ _ _ ?_)
    rotate_left
    · intro t2 t3
      refine .trans ?_ (trimCore_keeps ..)
      exact .refl _
    exact .refl _

theorem endSubsystem_keeps {m : Nat} x0 s  : Keeps m s (endSubsystem x0 s) := by
  unfold endSubsystem
  refine .ite ?_ (by exact .refl _)
  refine .upd ?_
  exact .refl _

theorem wake_keeps {m : Nat} s  : Keeps m s (wake s) := by
  unfold wake
  split
  · refine .upd ?_
    exact .refl _
  · exact .refl _
  · refine .ite ?_ (by exact .refl _)
    refine .trans ?_ (beginExit_keeps ..)
    exact .refl _

theorem endTransition_keeps {m : Nat} x0 s (hm : Within 304942678016 m := by first | exact .trans (by assumption) ⟨rfl⟩ | exact ⟨rfl⟩) : Keeps m s (endTransition x0 s) := by
  unfold endTransition
  extract_lets -merge -useContext +onlyGivenNames y0; clear_value (e1 : y0 = _)
  extract_lets -merge -useContext +onlyGivenNames y2; clear_value (e3 : y2 = _)
  extract_lets -merge -useContext +onlyGivenNames y4; clear_value (e5 : y4 = _)
  extract_lets -merge -useContext +onlyGivenNames y6; clear_value (e7 : y6 = _)
  refine .cut e7 ?_ fun h8 => ?_
  · refine .trans ?_ (replyOpt_keeps ..)
    refine .upd ?_
    exact .refl _
  clear e7
  extract_lets -merge -useContext +onlyGivenNames y9; clear_value (e10 : y9 = _)
  refine .cut e10 ?_ fun h11 => ?_
  · refine .trans ?_ (forAll_keeps _ _ _ ?_)
    rotate_left
    · intro t12 t13
      refine .trans ?_ (takePower_keeps ..)
      exact .refl _
    exact h8
  clear e10
  refine .ite ?_ (by exact h11)
  refine .trans ?_ (wake_keeps ..)
  exact h11

theorem engGetCatalogueCmd_keeps {m : Nat} (w : Waiter) (q : Request) (s : State)  : Keeps m s (engGetCatalogueCmd.act w q s) := by
  dsimp -zeta only [engGetCatalogueCmd, setCmd, readCmd, readClearCmd]
  refine .trans ?_ (reply_keeps ..)
  exact .refl _

theorem engGetJobCmd_keeps {m : Nat} (w : Waiter) (q : Request) (s : State)  : Keeps m s (engGetJobCmd.act w q s) := by
  dsimp -zeta only [engGetJobCmd, setCmd, readCmd, readClearCmd]
  refine .trans ?_ (reply_keeps ..)
  exact .refl _

theorem engGetStatusCmd_keeps {m : Nat} (w : Waiter) (q : Request) (s : State)  : Keeps m s (engGetStatusCmd.act w q s) := by
  dsimp -zeta only [engGetStatusCmd, setCmd, readCmd, readClearCmd]
  refine .trans ?_ (reply_keeps ..)
  refine .upd ?_
  exact .refl _

theorem enterReset_keeps {m : Nat} s (hm : Within 40956808098660 m := by first | exact .trans (by assumption) ⟨rfl⟩ | exact ⟨rfl⟩) : Keeps m s (enterReset s) := by
  unfold enterReset
  extract_lets -merge -useContext +onlyGivenNames y0; clear_value (e1 : y0 = _)
  extract_lets -merge -useContext +onlyGivenNames y2; clear_value (e3 : y2 = _)
  extract_lets -merge -useContext +onlyGivenNames y4; clear_value (e5 : y4 = _)
  extract_lets -merge -useContext +onlyGivenNames y6; clear_value (e7 : y6 = _)
  refine .trans ?_ (coldState_keeps ..)
  refine .upd ?_
  exact .refl _

theorem markSlot_keeps {m : Nat} x0 x1 x2 s (hm : Within 268435456 m := by first | exact .trans (by assumption) ⟨rfl⟩ | exact ⟨rfl⟩) : Keeps m s (markSlot x0 x1 x2 s) := by
  unfold markSlot
  refine .trans ?_ (forEach_keeps _ _ _ ?_)
  rotate_left
  · intro t0 t1
    refine .ite ?_ (by exact .refl _)
    refine .trans ?_ (scheduleEdge_keeps ..)
    exact .refl _
  exact .refl _

theorem groupTick_keeps {m : Nat} x0 x1 x2 s (hm : Within 134217728 m := by first | exact .trans (by assumption) ⟨rfl⟩ | exact ⟨rfl⟩) : Keeps m s (groupTick x0 x1 x2 s) := by
  unfold groupTick
  refine .ite (Keeps.refl _) ?_
  extract_lets +onlyGivenNames x a b
  split
  extract_lets +onlyGivenNames sequence hitA hitB t hit y
  have h : Keeps m s t := updTg_keeps _ _ _
  have hh : ∀ v c u, Keeps m u (hit v c u) := fun v c u => Keeps.ite (updTg_keeps _ _ _) (queueTrigger_keeps _ _ _)
  clear_value hit hitA hitB t
  have h1 : Keeps m s y := by
    change Keeps m s (match hitB with | some c => hit true c t | none => t)
    split
    · exact h.trans (hh _ _ _)
    · exact h
  clear_value y
  split
  · exact h1.trans (hh _ _ _)
  · exact h1

theorem foldl_tick {m : Nat} {α : Type} {f : TickAcc → α → TickAcc} (h : ∀ a x, Keeps m a.st (f a x).st)  : ∀ (l : List α) (a : TickAcc), Keeps m a.st (l.foldl f a).st
  | [], a => Keeps.refl a.st
  | x :: l, a => (h a x).trans (foldl_tick h l (f a x))

theorem TickAcc.put_keeps {m : Nat} x0 (a : TickAcc) (hm : Within 67108864 m := by first | exact .trans (by assumption) ⟨rfl⟩ | exact ⟨rfl⟩) : Keeps m a.st (TickAcc.put x0 a).st := by
  unfold TickAcc.put; split
  · exact .refl _
  · exact updSlot_keeps _ _ _

theorem TickAcc.pulse_keeps {m : Nat} x0 x1 (a : TickAcc) (hm : Within 67108864 m := by first | exact .trans (by assumption) ⟨rfl⟩ | exact ⟨rfl⟩) : Keeps m a.st (TickAcc.pulse x0 x1 a).st :=
  (TickAcc.put_keeps _ _).trans (updSlot_keeps _ _ _)

theorem TickAcc.force_keeps {m : Nat} x0 x1 x2 (a : TickAcc) (hm : Within 67108864 m := by first | exact .trans (by assumption) ⟨rfl⟩ | exact ⟨rfl⟩) : Keeps m a.st (TickAcc.force x0 x1 x2 a).st :=
  (TickAcc.put_keeps _ _).trans (updSlot_keeps _ _ _)

theorem TickAcc.setMark_keeps {m : Nat} x0 x1 (a : TickAcc) (hm : Within 67108864 m := by first | exact .trans (by assumption) ⟨rfl⟩ | exact ⟨rfl⟩) : Keeps m a.st (TickAcc.setMark x0 x1 a).st := updSlot_keeps _ _ _

theorem slotStep_keeps {m : Nat} x0 x1 x2 x3 (a : TickAcc) (hm : Within 67108864 m := by first | exact .trans (by assumption) ⟨rfl⟩ | exact ⟨rfl⟩) : Keeps m a.st (slotStep x0 x1 x2 x3 a).st := by
  have hp : ∀ c (b : TickAcc), Keeps m b.st (b.put c).st := fun c b => TickAcc.put_keeps c b
  have hf : ∀ t i d (b : TickAcc), Keeps m b.st (b.force t i d).st := fun t i d b => TickAcc.force_keeps t i d b
  have hq : ∀ t c (b : TickAcc), Keeps m b.st (b.pulse t c).st := fun t c b => TickAcc.pulse_keeps t c b
  have hm : ∀ i t (b : TickAcc), Keeps m b.st (b.setMark i t).st := fun i t b => TickAcc.setMark_keeps i t b
  unfold slotStep
  extract_lets +onlyGivenNames x c was now sw by_ forced d
  clear_value c was now sw by_ forced d
  split
  · split
    · exact hf _ _ _ _
    · split <;> exact hp _ _
  · split
    · exact hf _ _ _ _
    · split <;> exact hp _ _
  · split
    · exact hf _ _ _ _
    · split
      · exact hq _ _ _
      · exact .refl _
    · exact .refl _
  · split
    · exact hf _ _ _ _
    · split
      · split
        · exact hq _ _ _
        · exact .refl _
      · exact .refl _
  · split
    · exact hf _ _ _ _
    · split
      · exact hm _ _ _
      · exact .refl _
    · split
      · exact hm _ _ _
      · extract_lets +onlyGivenNames y
        have h1 : Keeps m a.st y.st := hm _ _ _
        clear_value y
        split
        · split
          · exact h1.trans (hq _ _ _)
          · exact h1
        · exact h1
  · split
    · exact hf _ _ _ _
    · extract_lets +onlyGivenNames falling first second y z
      have h1 : Keeps m a.st y.st := by
        unfold y; split
        · exact hm _ _ _
        · exact .refl _
      clear_value y
      have h2 : Keeps m a.st z.st := by
        unfold z; split
        · exact h1.trans (hm _ _ _)
        · exact h1
      clear_value z
      split
      · split
        · extract_lets +onlyGivenNames u
          have h3 : Keeps m a.st u.st := h2.trans (hm _ _ _)
          clear_value u
          split
          · split
            · exact h3.trans (hq _ _ _)
            · exact h3
          · exact h2
        · exact h2
      · exact h2
  · exact .refl _

theorem inputSlots_keeps {m : Nat} x0 x1 x2 x3 (a : TickAcc) (hm : Within 67108864 m := by first | exact .trans (by assumption) ⟨rfl⟩ | exact ⟨rfl⟩) : Keeps m a.st (inputSlots x0 x1 x2 x3 a).st := by
  unfold inputSlots
  extract_lets +onlyGivenNames r0 r1
  split
  · exact .refl _
  · extract_lets -merge +onlyGivenNames c0 c1 q q1 s
    have h0 : Keeps m a.st s := Keeps.upd (Keeps.refl _)
    clear_value s
    refine h0.trans (foldl_tick (fun b i => ?_) _ { a with st := s })
    simp only [apply_ite TickAcc.st]
    exact Keeps.ite (slotStep_keeps _ _ _ _ _) (Keeps.refl _)

theorem sourceSlots_keeps {m : Nat} x0 x1 x2 x3 x4 x5 x6 x7 (a : TickAcc) (hm : Within 67108864 m := by first | exact .trans (by assumption) ⟨rfl⟩ | exact ⟨rfl⟩) : Keeps m a.st (sourceSlots x0 x1 x2 x3 x4 x5 x6 x7 a).st := by
  refine foldl_tick (fun b i => ?_) _ _
  simp only [apply_ite TickAcc.st]
  exact Keeps.ite (Keeps.refl _) (Keeps.ite (TickAcc.put_keeps _ _) (Keeps.ite (TickAcc.pulse_keeps _ _ _) (Keeps.refl _)))

theorem alarmSlots_keeps {m : Nat} x0 x1 x2 x3 x4 x5 x6 x7 (a : TickAcc) (hm : Within 67108864 m := by first | exact .trans (by assumption) ⟨rfl⟩ | exact ⟨rfl⟩) : Keeps m a.st (alarmSlots x0 x1 x2 x3 x4 x5 x6 x7 a).st := by
  unfold alarmSlots
  extract_lets +onlyGivenNames x rest l now q b
  have h : Keeps m a.st b.st := Keeps.upd (Keeps.refl _)
  refine h.trans (foldl_tick (fun c g => ?_) _ _)
  split
  · exact .refl _
  · exact sourceSlots_keeps _ _ _ _ _ _ _ _ _

theorem applyEvent_keeps {m : Nat} x0 x1 (a : TickAcc) x3 (hm : Within 67108864 m := by first | exact .trans (by assumption) ⟨rfl⟩ | exact ⟨rfl⟩) : Keeps m a.st (applyEvent x0 x1 a x3).st := by
  unfold applyEvent
  extract_lets +onlyGivenNames c
  split
  · exact sourceSlots_keeps _ _ _ _ _ _ _ _ _
  · refine .trans ?_ (sourceSlots_keeps ..)
    exact Keeps.upd (Keeps.refl _)
  · exact alarmSlots_keeps _ _ _ _ _ _ _ _ _
  · exact .refl _

theorem endStretches_keeps {m : Nat} x0 (a : TickAcc) (hm : Within 67108864 m := by first | exact .trans (by assumption) ⟨rfl⟩ | exact ⟨rfl⟩) : Keeps m a.st (endStretches x0 a).st := by
  refine foldl_tick (fun b i => ?_) _ _
  dsimp only
  split
  · exact (TickAcc.put_keeps _ _).trans (updSlot_keeps _ _ _)
  · exact .refl _

theorem takeSlot_keeps {m : Nat} x0 (a : TickAcc) x2 (hm : Within 67108864 m := by first | exact .trans (by assumption) ⟨rfl⟩ | exact ⟨rfl⟩) : Keeps m a.st (takeSlot x0 a x2).st := by
  unfold takeSlot
  extract_lets +onlyGivenNames new b
  have h : Keeps m a.st b.st := TickAcc.force_keeps _ _ _ _
  clear_value new b
  cases new
  · exact h
  · exact h.trans (updSlot_keeps _ _ _)

theorem standSlot_keeps {m : Nat} x0 (a : TickAcc) x2 (hm : Within 67108864 m := by first | exact .trans (by assumption) ⟨rfl⟩ | exact ⟨rfl⟩) : Keeps m a.st (standSlot x0 a x2).st := by
  unfold standSlot; split
  · exact .refl _
  · exact TickAcc.put_keeps _ _

theorem slotsTick_keeps {m : Nat} x0 x1 s (hm : Within 67108864 m := by first | exact .trans (by assumption) ⟨rfl⟩ | exact ⟨rfl⟩) : Keeps m s (slotsTick x0 x1 s).st := by
  unfold slotsTick
  extract_lets +onlyGivenNames fresh skip a b c
  have h0 : Keeps m s a.st := (endStretches_keeps x0 { st := s }).trans (foldl_tick (fun b i => takeSlot_keeps x0 b i) _ _)
  clear_value a
  have h1 : Keeps m s b.st := h0.trans (foldl_tick (fun b i => inputSlots_keeps _ _ _ _ b) _ _)
  clear_value b
  have h2 : Keeps m s c.st := h1.trans (foldl_tick (fun b i => applyEvent_keeps _ _ b i) _ _)
  clear_value c
  exact h2.trans (foldl_tick (fun b i => standSlot_keeps _ b i) _ _)

theorem evalTick_keeps {m : Nat} x0 s (hm : Within 469762048 m := by first | exact .trans (by assumption) ⟨rfl⟩ | exact ⟨rfl⟩) : Keeps m s (evalTick x0 s) := by
  unfold evalTick
  extract_lets -merge +onlyGivenNames before here q y a changed l q1 q2 v w
  have h : Keeps m s y := Keeps.upd (Keeps.refl _)
  clear_value y
  have h1 : Keeps m s a.st := h.trans (slotsTick_keeps _ _ _)
  have h2 : Keeps m s v := Keeps.ite h1 (Keeps.upd h1)
  clear_value v
  have h3 : Keeps m s w := h2.trans (forAll_keeps _ _ _ fun a t => markSlot_keeps _ _ _ _)
  clear_value w
  refine .trans ?_ (forEach_keeps _ _ _ fun a t => groupTick_keeps _ _ _ _)
  exact Keeps.upd h3

theorem evalTo_keeps {m : Nat} (x0 : Nat)  : ∀ x1 s (hm : Within 469762048 m := by first | exact .trans (by assumption) ⟨rfl⟩ | exact ⟨rfl⟩), Keeps m s (evalTo x0 x1 s)
  | 0, s, hm => Keeps.refl s
  | fuel + 1, s, hm => by
    unfold evalTo
    split
    · exact Keeps.upd (Keeps.refl _)
    · exact (evalTick_keeps _ _).trans (evalTo_keeps x0 fuel _)

theorem prunePast_keeps {m : Nat} s  : Keeps m s (prunePast s) := by
  unfold prunePast
  extract_lets -merge -useContext +onlyGivenNames y0; clear_value (e1 : y0 = _)
  refine .upd ?_
  exact .refl _

theorem expireWindow_keeps {m : Nat} x0 x1 s (hm : Within 134217728 m := by first | exact .trans (by assumption) ⟨rfl⟩ | exact ⟨rfl⟩) : Keeps m s (expireWindow x0 x1 s) := by
  unfold expireWindow
  split
  · refine .ite ?_ (by exact .refl _)
    refine .trans ?_ (updTg_keeps ..)
    refine .trans ?_ (keepWindow_keeps ..)
    exact .refl _
  · exact .refl _

theorem takeHit_keeps {m : Nat} x0 x1 s (hm : Within 134217728 m := by first | exact .trans (by assumption) ⟨rfl⟩ | exact ⟨rfl⟩) : Keeps m s (takeHit x0 x1 s) := by
  unfold takeHit
  extract_lets -merge -useContext +onlyGivenNames y0; clear_value (e1 : y0 = _)
  refine .cut e1 ?_ fun h2 => ?_
  · refine .trans ?_ (keepWindow_keeps ..)
    refine .trans ?_ (expireWindow_keeps ..)
    exact .refl _
  clear e1
  extract_lets -merge -useContext +onlyGivenNames y3; clear_value (e4 : y3 = _)
  refine .ite ?_ ?_
  · refine .trans ?_ (updTg_keeps ..)
    exact h2
  · split
    · refine .ite ?_ (by exact h2)
      refine .trans ?_ (queueTrigger_keeps ..)
      refine .trans ?_ (updTg_keeps ..)
      exact h2
    · exact h2

theorem settleHits_keeps {m : Nat} x0 s (hm : Within 134217728 m := by first | exact .trans (by assumption) ⟨rfl⟩ | exact ⟨rfl⟩) : Keeps m s (settleHits x0 s) := by
  unfold settleHits
  extract_lets -merge -useContext +onlyGivenNames y0; clear_value (e1 : y0 = _)
  extract_lets -merge -useContext +onlyGivenNames y2; clear_value (e3 : y2 = _)
  extract_lets -merge -useContext +onlyGivenNames y4; clear_value (e5 : y4 = _)
  refine .cut e5 ?_ fun h6 => ?_
  · refine .trans ?_ (forAll_keeps _ _ _ ?_)
    rotate_left
    · intro t7 t8
      refine .trans ?_ (takeHit_keeps ..)
      exact .refl _
    refine .trans ?_ (updTg_keeps ..)
    exact .refl _
  clear e5
  refine .trans ?_ (expireWindow_keeps ..)
  exact h6

theorem evaluate_keeps {m : Nat} s (hm : Within 469762048 m := by first | exact .trans (by assumption) ⟨rfl⟩ | exact ⟨rfl⟩) : Keeps m s (evaluate s) := by
  unfold evaluate
  refine .trans ?_ (prunePast_keeps ..)
  refine .trans ?_ (forEach_keeps _ _ _ ?_)
  rotate_left
  · intro t0 t1
    refine .trans ?_ (settleHits_keeps ..)
    exact .refl _
  refine .trans ?_ (evalTo_keeps ..)
  exact .refl _

theorem evtGetStatusCmd_keeps {m : Nat} (w : Waiter) (q : Request) (s : State)  : Keeps m s (evtGetStatusCmd.act w q s) := by
  dsimp -zeta only [evtGetStatusCmd, setCmd, readCmd, readClearCmd]
  refine .trans ?_ (reply_keeps ..)
  refine .upd ?_
  exact .refl _

theorem evtReadCmd_keeps {m : Nat} (w : Waiter) (q : Request) (s : State)  : Keeps m s (evtReadCmd.act w q s) := by
  dsimp -zeta only [evtReadCmd, setCmd, readCmd, readClearCmd]
  refine .trans ?_ (reply_keeps ..)
  refine .upd ?_
  exact .refl _

theorem execArmFrame_keeps {m : Nat} x0 x1 s (hm : Within 5788663808 m := by first | exact .trans (by assumption) ⟨rfl⟩ | exact ⟨rfl⟩) : KeepsR m s (execArmFrame x0 x1 s) := by
  unfold execArmFrame
  extract_lets -merge -useContext +onlyGivenNames y0; clear_value (e1 : y0 = _)
  refine .cut e1 ?_ fun h2 => ?_
  · refine .trans ?_ (advance_keeps ..)
    exact .refl _
  clear e1
  extract_lets -merge -useContext +onlyGivenNames y3; clear_value (e4 : y3 = _)
  refine .next ?_
  refine .ite (by exact h2) ?_
  extract_lets -merge -useContext +onlyGivenNames y5; clear_value (e6 : y5 = _)
  refine .cut e6 ?_ fun h7 => ?_
  · refine .trans ?_ (armGroup_keeps ..)
    exact h2
  clear e6
  extract_lets -merge -useContext +onlyGivenNames y8; clear_value (e9 : y8 = _)
  refine .trans ?_ (replyOpt_keeps ..)
  exact h7

theorem execArmHoldTimeout_keeps {m : Nat} x0 x1 s (hm : Within 1073741824 m := by first | exact .trans (by assumption) ⟨rfl⟩ | exact ⟨rfl⟩) : KeepsR m s (execArmHoldTimeout x0 x1 s) := by
  unfold execArmHoldTimeout
  refine .next ?_
  refine .trans ?_ (endPending_keeps ..)
  refine .trans ?_ (advance_keeps ..)
  exact .refl _

theorem execArpRequest_keeps {m : Nat} x0 x1 x2 x3 x4 s  : KeepsR m s (execArpRequest x0 x1 x2 x3 x4 s) := by
  unfold execArpRequest
  extract_lets -merge -useContext +onlyGivenNames y0; clear_value (e1 : y0 = _)
  refine .cut e1 ?_ fun h2 => ?_
  · refine .trans ?_ (advance_keeps ..)
    exact .refl _
  clear e1
  refine .next ?_
  refine .ite ?_ (by exact h2)
  refine .trans ?_ (emit_keeps ..)
  exact h2

theorem execAuxDataRead_keeps {m : Nat} x0 s  : KeepsR m s (execAuxDataRead x0 s) := by
  unfold execAuxDataRead
  extract_lets -merge -useContext +onlyGivenNames y0; clear_value (e1 : y0 = _)
  refine .cut e1 ?_ fun h2 => ?_
  · refine .trans ?_ (advance_keeps ..)
    exact .refl _
  clear e1
  refine .next ?_
  refine .ite ?_ (by exact h2)
  refine .trans ?_ (emit_keeps ..)
  refine .upd ?_
  exact h2

theorem replyPeer_keeps {m : Nat} x0 x1 s  : Keeps m s (replyPeer x0 x1 s) := by
  unfold replyPeer
  refine .trans ?_ (emit_keeps ..)
  exact .refl _

theorem serveStranger_keeps {m : Nat} x0 x1 s  : Keeps m s (serveStranger x0 x1 s) := by
  unfold serveStranger
  split
  · extract_lets -merge -useContext +onlyGivenNames y0; clear_value (e1 : y0 = _)
    refine .trans ?_ (replyPeer_keeps ..)
    refine .trans ?_ (carrying_keeps _ _ ?_)
    rotate_left
    · intro t2
      refine .trans ?_ (stageBody_keeps ..)
      exact .refl _
    exact .refl _
  · exact .refl _

theorem resendReply_keeps {m : Nat} x0 s  : Keeps m s (resendReply x0 s) := by
  unfold resendReply
  extract_lets -merge -useContext +onlyGivenNames y0; clear_value (e1 : y0 = _)
  refine .trans ?_ (emit_keeps ..)
  exact .refl _

theorem rejectRequest_keeps {m : Nat} x0 x1 x2 x3 s  : Keeps m s (rejectRequest x0 x1 x2 x3 s) := by
  unfold rejectRequest
  extract_lets -merge -useContext +onlyGivenNames y0; clear_value (e1 : y0 = _)
  refine .trans ?_ (reply_keeps ..)
  refine .trans ?_ (carrying_keeps _ _ ?_)
  rotate_left
  · intro t2
    refine .trans ?_ (stageBody_keeps ..)
    exact .refl _
  exact .refl _

theorem serveFields_keeps {m : Nat} x0 x1 x2 s (h : ∀ w q s, Keeps m s (Cmd.act x0 w q s))  : Keeps m s (serveFields x0 x1 x2 s) := by
  unfold serveFields
  split
  · refine .trans ?_ (rejectRequest_keeps ..)
    exact .refl _
  · refine .ite ?_ ?_
    · refine .trans ?_ (rejectRequest_keeps ..)
      exact .refl _
    · split
      · refine .trans ?_ (rejectRequest_keeps ..)
        refine .trans ?_ (noteRejection_keeps ..)
        exact .refl _
      · refine .trans ?_ (acceptRequest_keeps _ _ _ _ (by exact h))
        exact .refl _

theorem serve_keeps {m : Nat} x0 x1 s (h : ∀ w q s, Keeps m s (Cmd.act x0 w q s))  : Keeps m s (serve x0 x1 s) := by
  unfold serve
  extract_lets -merge -useContext +onlyGivenNames y0; clear_value (e1 : y0 = _)
  split
  · refine .trans ?_ (rejectRequest_keeps ..)
    exact .refl _
  · refine .trans ?_ (serveFields_keeps _ _ _ _ (by exact h))
    refine .trans ?_ (updSession_keeps ..)
    exact .refl _

theorem takeRequest_keeps {m : Nat} x0 x1 s  : Keeps m s (takeRequest x0 x1 s) := by
  unfold takeRequest
  extract_lets -merge -useContext +onlyGivenNames y0; clear_value (e1 : y0 = _)
  refine .cut e1 ?_ fun h2 => ?_
  · refine .trans ?_ (updSession_keeps ..)
    exact .refl _
  clear e1
  refine .upd ?_
  exact h2

theorem holdRequest_keeps {m : Nat} x0 x1 s  : Keeps m s (holdRequest x0 x1 s) := by
  unfold holdRequest
  refine .trans ?_ (updSession_keeps ..)
  exact .refl _

theorem runRequest_keeps {m : Nat} (x0 : Cmd) x1 s (h : ∀ w q s, Keeps m s (Cmd.act x0 w q s))  : Keeps m s (runRequest x0 x1 s) := by
  unfold runRequest
  extract_lets +onlyGivenNames y
  have h0 : Keeps m s y := advance_keeps _ _
  clear_value y
  refine .ite h0 ?_
  refine .ite (Keeps.ite (h0.trans (serveStranger_keeps _ _ _)) h0) ?_
  refine .ite (Keeps.ite (h0.trans (resendReply_keeps _ _)) h0) ?_
  refine .ite (Keeps.ite ((h0.trans (takeRequest_keeps _ _ _)).trans (serve_keeps _ _ _ h)) (h0.trans (holdRequest_keeps _ _ _))) ?_
  split
  · exact Keeps.ite (h0.trans (replyPeer_keeps _ _ _)) (h0.trans (updSession_keeps _ _ _))
  · exact h0

theorem execAuxGetCapture_keeps {m : Nat} x0 s  : KeepsR m s (execAuxGetCapture x0 s) := by
  unfold execAuxGetCapture
  refine .next ?_
  refine .trans ?_ (runRequest_keeps _ _ _ (by exact auxGetCaptureCmd_keeps ))
  exact .refl _

theorem execAuxGetMonitors_keeps {m : Nat} x0 s  : KeepsR m s (execAuxGetMonitors x0 s) := by
  unfold execAuxGetMonitors
  refine .next ?_
  refine .trans ?_ (runRequest_keeps _ _ _ (by exact auxGetMonitorsCmd_keeps ))
  exact .refl _

theorem execAuxInject_keeps {m : Nat} x0 s  : KeepsR m s (execAuxInject x0 s) := by
  unfold execAuxInject
  refine .next ?_
  refine .trans ?_ (runRequest_keeps _ _ _ (by exact auxInjectCmd_keeps ))
  exact .refl _

theorem execAuxSetCapture_keeps {m : Nat} x0 s  : KeepsR m s (execAuxSetCapture x0 s) := by
  unfold execAuxSetCapture
  refine .next ?_
  refine .trans ?_ (runRequest_keeps _ _ _ (by exact auxSetCaptureCmd_keeps ))
  exact .refl _

theorem execAuxSetSequence_keeps {m : Nat} x0 s (hm : Within 1099511627776 m := by first | exact .trans (by assumption) ⟨rfl⟩ | exact ⟨rfl⟩) : KeepsR m s (execAuxSetSequence x0 s) := by
  unfold execAuxSetSequence
  refine .next ?_
  refine .trans ?_ (runRequest_keeps _ _ _ (by exact auxSetSequenceCmd_keeps ))
  exact .refl _

theorem execAuxStatusWrite_keeps {m : Nat} x0 x1 s  : KeepsR m s (execAuxStatusWrite x0 x1 s) := by
  unfold execAuxStatusWrite
  extract_lets -merge -useContext +onlyGivenNames y0; clear_value (e1 : y0 = _)
  refine .cut e1 ?_ fun h2 => ?_
  · refine .trans ?_ (advance_keeps ..)
    exact .refl _
  clear e1
  refine .next ?_
  refine .ite ?_ (by exact h2)
  refine .trans ?_ (auxStatusWritten_keeps ..)
  exact h2

theorem execBar2Read_keeps {m : Nat} x0 x1 x2 x3 s (hm : Within 549755813888 m := by first | exact .trans (by assumption) ⟨rfl⟩ | exact ⟨rfl⟩) : KeepsR m s (execBar2Read x0 x1 x2 x3 s) := by
  unfold execBar2Read
  extract_lets -merge -useContext +onlyGivenNames y0; clear_value (e1 : y0 = _)
  refine .cut e1 ?_ fun h2 => ?_
  · refine .trans ?_ (advance_keeps ..)
    exact .refl _
  clear e1
  refine .next ?_
  refine .ite (by exact h2) ?_
  extract_lets -merge -useContext +onlyGivenNames y3; clear_value (e4 : y3 = _)
  extract_lets -merge -useContext +onlyGivenNames y5; clear_value (e6 : y5 = _)
  refine .cut e6 ?_ fun h7 => ?_
  · refine .trans ?_ (emit_keeps ..)
    exact h2
  clear e6
  extract_lets -merge -useContext +onlyGivenNames y8; clear_value (e9 : y8 = _)
  refine .cut e9 ?_ fun h10 => ?_
  · refine .ite ?_ ?_
    · refine .trans ?_ (emit_keeps ..)
      exact h7
    · refine .ite ?_ (by exact h7)
      refine .trans ?_ (emit_keeps ..)
      exact h7
  clear e9
  extract_lets -merge -useContext +onlyGivenNames y11; clear_value (e12 : y11 = _)
  refine .cut e12 ?_ fun h13 => ?_
  · refine .ite ?_ (by exact h10)
    refine .trans ?_ (forAll_keeps _ _ _ ?_)
    rotate_left
    · intro t14 t15
      refine .trans ?_ (correctedError_keeps ..)
      exact .refl _
    exact h10
  clear e12
  extract_lets -merge -useContext +onlyGivenNames y16; clear_value (e17 : y16 = _)
  refine .trans ?_ (capture_keeps ..)
  subst e17
  refine .trans ?_ (takeFree_keeps ..)
  exact h13

theorem execBar2Write_keeps {m : Nat} x0 x1 x2 s  : KeepsR m s (execBar2Write x0 x1 x2 s) := by
  unfold execBar2Write
  extract_lets -merge -useContext +onlyGivenNames y0; clear_value (e1 : y0 = _)
  refine .cut e1 ?_ fun h2 => ?_
  · refine .trans ?_ (advance_keeps ..)
    exact .refl _
  clear e1
  refine .next ?_
  refine .ite ?_ (by exact h2)
  refine .trans ?_ (emit_keeps ..)
  exact h2

theorem execBeaconReturned_keeps {m : Nat} x0 x1 s (hm : Within 8589934592 m := by first | exact .trans (by assumption) ⟨rfl⟩ | exact ⟨rfl⟩) : KeepsR m s (execBeaconReturned x0 x1 s) := by
  unfold execBeaconReturned
  extract_lets -merge -useContext +onlyGivenNames y0; clear_value (e1 : y0 = _)
  refine .cut e1 ?_ fun h2 => ?_
  · refine .trans ?_ (advance_keeps ..)
    exact .refl _
  clear e1
  refine .next ?_
  refine .ite (by exact h2) ?_
  extract_lets -merge -useContext +onlyGivenNames y3; clear_value (e4 : y3 = _)
  refine .cut e4 ?_ fun h5 => ?_
  · refine .trans ?_ (updPort_keeps ..)
    exact h2
  clear e4
  split
  · refine .ite (by exact h5) ?_
    refine .trans ?_ (endWalk_keeps ..)
    exact h5
  · exact h5

theorem execBlockRelease_keeps {m : Nat} x0 x1 s  : KeepsR m s (execBlockRelease x0 x1 s) := by
  unfold execBlockRelease
  extract_lets -merge -useContext +onlyGivenNames y0; clear_value (e1 : y0 = _)
  refine .cut e1 ?_ fun h2 => ?_
  · refine .trans ?_ (advance_keeps ..)
    exact .refl _
  clear e1
  extract_lets -merge -useContext +onlyGivenNames y3; clear_value (e4 : y3 = _)
  refine .cut e4 ?_ fun h5 => ?_
  · split
    · refine .trans ?_ (drainSources_keeps ..)
      exact h2
    · exact h2
  clear e4
  refine .next ?_
  split
  · exact h5
  · split
    · exact h5
    · refine .trans ?_ (releaseBlock_keeps ..)
      refine .trans ?_ (updJob_keeps ..)
      exact h5

theorem execBlockedWriterResumes_keeps {m : Nat} x0 x1 s (hm : Within 292057776128 m := by first | exact .trans (by assumption) ⟨rfl⟩ | exact ⟨rfl⟩) : KeepsR m s (execBlockedWriterResumes x0 x1 s) := by
  unfold execBlockedWriterResumes
  refine .next ?_
  refine .trans ?_ (reviewWaiting_keeps ..)
  refine .trans ?_ (advance_keeps ..)
  exact .refl _

theorem execBootStateWrite_keeps {m : Nat} x0 x1 s (hm : Within 256 m := by first | exact .trans (by assumption) ⟨rfl⟩ | exact ⟨rfl⟩) : KeepsR m s (execBootStateWrite x0 x1 s) := by
  unfold execBootStateWrite
  extract_lets -merge -useContext +onlyGivenNames y0; clear_value (e1 : y0 = _)
  refine .cut e1 ?_ fun h2 => ?_
  · refine .trans ?_ (advance_keeps ..)
    exact .refl _
  clear e1
  refine .next ?_
  refine .ite ?_ (by exact h2)
  refine .trans ?_ (clearFlags_keeps ..)
  exact h2

theorem stopRings_keeps {m : Nat} s (hm : Within 34359738368 m := by first | exact .trans (by assumption) ⟨rfl⟩ | exact ⟨rfl⟩) : Keeps m s (stopRings s) := by
  unfold stopRings
  refine .upd ?_
  exact .refl _

theorem execBusMasterEnableCleared_keeps {m : Nat} x0 s (hm : Within 34359742464 m := by first | exact .trans (by assumption) ⟨rfl⟩ | exact ⟨rfl⟩) : KeepsR m s (execBusMasterEnableCleared x0 s) := by
  unfold execBusMasterEnableCleared
  extract_lets -merge -useContext +onlyGivenNames y0; clear_value (e1 : y0 = _)
  refine .cut e1 ?_ fun h2 => ?_
  · refine .trans ?_ (advance_keeps ..)
    exact .refl _
  clear e1
  refine .next ?_
  refine .ite ?_ (by exact h2)
  refine .trans ?_ (stopRings_keeps ..)
  refine .trans ?_ (record_keeps ..)
  refine .upd ?_
  exact h2

theorem execBusMasterEnableSet_keeps {m : Nat} x0 s (hm : Within 4096 m := by first | exact .trans (by assumption) ⟨rfl⟩ | exact ⟨rfl⟩) : KeepsR m s (execBusMasterEnableSet x0 s) := by
  unfold execBusMasterEnableSet
  extract_lets -merge -useContext +onlyGivenNames y0; clear_value (e1 : y0 = _)
  refine .cut e1 ?_ fun h2 => ?_
  · refine .trans ?_ (advance_keeps ..)
    exact .refl _
  clear e1
  refine .next ?_
  refine .ite ?_ (by exact h2)
  refine .upd ?_
  exact h2

theorem takeForeground_keeps {m : Nat} x0 s t (e : takeForeground x0 s = some t)  : Keeps m s t.2 := by
  unfold takeForeground at e
  split at e
  · cases e
  · cases e
    exact Keeps.upd (Keeps.refl _)

theorem execCalForegroundDone_keeps {m : Nat} x0 x1 s (hm : Within 1113063424 m := by first | exact .trans (by assumption) ⟨rfl⟩ | exact ⟨rfl⟩) : KeepsR m s (execCalForegroundDone x0 x1 s) := by
  unfold execCalForegroundDone
  extract_lets +onlyGivenNames y
  have h : Keeps m s y := advance_keeps _ _
  clear_value y
  refine .next ?_
  split
  · exact h
  · rename_i f t e
    have h1 := h.trans (takeForeground_keeps _ _ _ e)
    refine .trans ?_ (replyOpt_keeps ..)
    refine .trans ?_ (record_keeps ..)
    exact ((h1.trans (endInterruption_keeps _ _)).trans (applyTrims_keeps _ _ _)).trans (bumpGeneration_keeps _)

theorem execCalGetQuality_keeps {m : Nat} x0 s  : KeepsR m s (execCalGetQuality x0 s) := by
  unfold execCalGetQuality
  refine .next ?_
  refine .trans ?_ (runRequest_keeps _ _ _ (by exact calGetQualityCmd_keeps ))
  exact .refl _

theorem passDue_keeps {m : Nat} x0 s (hm : Within 1572864 m := by first | exact .trans (by assumption) ⟨rfl⟩ | exact ⟨rfl⟩) : Keeps m s (passDue x0 s) := by
  unfold passDue
  refine .ite (by exact .refl _) ?_
  split
  · refine .trans ?_ (updInCal_keeps ..)
    exact .refl _
  · refine .trans ?_ (startPass_keeps ..)
    exact .refl _

theorem execCalMaxInterval_keeps {m : Nat} x0 x1 s (hm : Within 1572864 m := by first | exact .trans (by assumption) ⟨rfl⟩ | exact ⟨rfl⟩) : KeepsR m s (execCalMaxInterval x0 x1 s) := by
  unfold execCalMaxInterval
  extract_lets -merge -useContext +onlyGivenNames y0; clear_value (e1 : y0 = _)
  refine .cut e1 ?_ fun h2 => ?_
  · refine .trans ?_ (advance_keeps ..)
    exact .refl _
  clear e1
  refine .next ?_
  refine .ite ?_ (by exact h2)
  refine .trans ?_ (passDue_keeps ..)
  exact h2

theorem execCalReadImage_keeps {m : Nat} x0 s  : KeepsR m s (execCalReadImage x0 s) := by
  unfold execCalReadImage
  refine .next ?_
  refine .trans ?_ (runRequest_keeps _ _ _ (by exact calReadImageCmd_keeps ))
  exact .refl _

theorem execCalRestoreImage_keeps {m : Nat} x0 s (hm : Within 524288 m := by first | exact .trans (by assumption) ⟨rfl⟩ | exact ⟨rfl⟩) : KeepsR m s (execCalRestoreImage x0 s) := by
  unfold execCalRestoreImage
  refine .next ?_
  refine .trans ?_ (runRequest_keeps _ _ _ (by exact calRestoreImageCmd_keeps ))
  exact .refl _

theorem restoreTable_keeps {m : Nat} x0 x1 s  : Keeps m s (restoreTable x0 x1 s) := by
  unfold restoreTable
  refine .trans ?_ (putTable_keeps ..)
  exact .refl _

theorem restoreInput_keeps {m : Nat} x0 x1 s  : Keeps m s (restoreInput x0 x1 s) := by
  unfold restoreInput
  extract_lets -merge -useContext +onlyGivenNames y0; clear_value (e1 : y0 = _)
  refine .trans ?_ (updInCal_keeps ..)
  exact .refl _

end Sys2Proof.Machine
end

