-- ==== Sys2Proof/Laws/KeepsD.lean ====
section
/-! SUPPORT. Operations that keep, each after those it calls (4 of 6). -/

set_option Elab.async false

namespace Sys2Proof.Machine

theorem restoreCore_keeps {m : Nat} x0 x1 s (hm : Within 1048576 m := by first | exact .trans (by assumption) ⟨rfl⟩ | exact ⟨rfl⟩) : Keeps m s (restoreCore x0 x1 s) := by
  unfold restoreCore
  extract_lets -merge -useContext +onlyGivenNames y0; clear_value (e1 : y0 = _)
  refine .trans ?_ (updCore_keeps ..)
  exact .refl _

theorem restoreAlignment_keeps {m : Nat} x0 s  : Keeps m s (restoreAlignment x0 s) := by
  unfold restoreAlignment
  refine .upd ?_
  exact .refl _

theorem execCalRestored_keeps {m : Nat} x0 s (hm : Within 5242880 m := by first | exact .trans (by assumption) ⟨rfl⟩ | exact ⟨rfl⟩) : KeepsR m s (execCalRestored x0 s) := by
  unfold execCalRestored
  extract_lets +onlyGivenNames y
  have h : Keeps m s y := advance_keeps _ _
  clear_value y
  refine .next ?_
  split
  · exact h
  · rename_i f t e
    have h1 := h.trans (takeForeground_keeps _ _ _ e)
    refine .trans ?_ (replyOpt_keeps ..)
    refine .trans ?_ (record_keeps ..)
    refine .trans ?_ (bumpGeneration_keeps ..)
    refine .trans ?_ (restoreAlignment_keeps ..)
    refine .trans ?_ (forEach_keeps _ _ _ fun a t => restoreTable_keeps _ _ _)
    refine .trans ?_ (forEach_keeps _ _ _ fun a t => restoreInput_keeps _ _ _)
    refine .trans ?_ (forEach_keeps _ _ _ fun a t => restoreCore_keeps _ _ _)
    exact h1.trans (endInterruption_keeps _ _)

theorem execCalRunForeground_keeps {m : Nat} x0 s (hm : Within 524288 m := by first | exact .trans (by assumption) ⟨rfl⟩ | exact ⟨rfl⟩) : KeepsR m s (execCalRunForeground x0 s) := by
  unfold execCalRunForeground
  refine .next ?_
  refine .trans ?_ (runRequest_keeps _ _ _ (by exact calRunForegroundCmd_keeps ))
  exact .refl _

theorem execCalSaveImage_keeps {m : Nat} x0 s  : KeepsR m s (execCalSaveImage x0 s) := by
  unfold execCalSaveImage
  refine .next ?_
  refine .trans ?_ (runRequest_keeps _ _ _ (by exact calSaveImageCmd_keeps ))
  exact .refl _

theorem execCalSetSchedule_keeps {m : Nat} x0 s (hm : Within 2097152 m := by first | exact .trans (by assumption) ⟨rfl⟩ | exact ⟨rfl⟩) : KeepsR m s (execCalSetSchedule x0 s) := by
  unfold execCalSetSchedule
  refine .next ?_
  refine .trans ?_ (runRequest_keeps _ _ _ (by exact calSetScheduleCmd_keeps ))
  exact .refl _

theorem finishStartup_keeps {m : Nat} x0 s (hm : Within 1113063424 m := by first | exact .trans (by assumption) ⟨rfl⟩ | exact ⟨rfl⟩) : Keeps m s (finishStartup x0 s) := by
  unfold finishStartup
  extract_lets -merge -useContext +onlyGivenNames y0; clear_value (e1 : y0 = _)
  refine .cut e1 ?_ fun h2 => ?_
  · refine .trans ?_ (forEach_keeps _ _ _ ?_)
    rotate_left
    · intro t3 t4
      refine .trans ?_ (buildTable_keeps ..)
      exact .refl _
    exact .refl _
  clear e1
  extract_lets -merge -useContext +onlyGivenNames y5; clear_value (e6 : y5 = _)
  refine .cut e6 ?_ fun h7 => ?_
  · refine .trans ?_ (forEach_keeps _ _ _ ?_)
    rotate_left
    · intro t8 t9
      refine .trans ?_ (loadCore_keeps ..)
      exact .refl _
    exact h2
  clear e6
  extract_lets -merge -useContext +onlyGivenNames y10; clear_value (e11 : y10 = _)
  extract_lets -merge -useContext +onlyGivenNames y12; clear_value (e13 : y12 = _)
  refine .cut e13 ?_ fun h14 => ?_
  · refine .trans ?_ (forEach_keeps _ _ _ ?_)
    rotate_left
    · intro t15 t16
      refine .trans ?_ (staffInput_keeps ..)
      exact .refl _
    refine .upd ?_
    exact h7
  clear e13
  extract_lets -merge -useContext +onlyGivenNames y17; clear_value (e18 : y17 = _)
  extract_lets -merge -useContext +onlyGivenNames y19; clear_value (e20 : y19 = _)
  extract_lets -merge -useContext +onlyGivenNames y21; clear_value (e22 : y21 = _)
  extract_lets -merge -useContext +onlyGivenNames y23; clear_value (e24 : y23 = _)
  refine .cut e24 ?_ fun h25 => ?_
  · refine .upd ?_
    exact h14
  clear e24
  extract_lets -merge -useContext +onlyGivenNames y26; clear_value (e27 : y26 = _)
  refine .cut e27 ?_ fun h28 => ?_
  · refine .trans ?_ (releaseAlerts_keeps ..)
    exact h25
  clear e27
  extract_lets -merge -useContext +onlyGivenNames y29; clear_value (e30 : y29 = _)
  refine .cut e30 ?_ fun h31 => ?_
  · refine .trans ?_ (record_keeps ..)
    exact h28
  clear e30
  refine .ite ?_ (by exact h31)
  refine .trans ?_ (settleAll_keeps ..)
  refine .upd ?_
  exact h31

theorem startVcore_keeps {m : Nat} s  : Keeps m s (startVcore s) := by
  unfold startVcore
  extract_lets -merge -useContext +onlyGivenNames y0; first | clear_value (e1 : y0 = _) | skip
  extract_lets -merge -useContext +onlyGivenNames y2; first | clear_value (e3 : y2 = _) | have e3 : y2 = _ := rfl
  refine .cut e3 ?_ fun h4 => ?_
  · refine .upd ?_
    exact .refl _
  clear e3
  refine .ite ?_ (by exact h4)
  refine .trans ?_ (commandVcore_keeps ..)
  exact h4

theorem reachIdle_keeps {m : Nat} x0 s (hm : Within 512 m := by first | exact .trans (by assumption) ⟨rfl⟩ | exact ⟨rfl⟩) : Keeps m s (reachIdle x0 s) := by
  unfold reachIdle
  extract_lets -merge -useContext +onlyGivenNames y0; clear_value (e1 : y0 = _)
  refine .cut e1 ?_ fun h2 => ?_
  · refine .trans ?_ (endBootState_keeps ..)
    refine .trans ?_ (startVcore_keeps ..)
    exact .refl _
  clear e1
  refine .trans ?_ (record_keeps ..)
  exact h2

theorem execCalStartupDone_keeps {m : Nat} x0 s (hm : Within 1113063936 m := by first | exact .trans (by assumption) ⟨rfl⟩ | exact ⟨rfl⟩) : KeepsR m s (execCalStartupDone x0 s) := by
  unfold execCalStartupDone
  extract_lets -merge -useContext +onlyGivenNames y0; clear_value (e1 : y0 = _)
  refine .cut e1 ?_ fun h2 => ?_
  · refine .trans ?_ (advance_keeps ..)
    exact .refl _
  clear e1
  refine .next ?_
  refine .ite (by exact h2) ?_
  extract_lets -merge -useContext +onlyGivenNames y3; clear_value (e4 : y3 = _)
  refine .cut e4 ?_ fun h5 => ?_
  · refine .trans ?_ (finishStartup_keeps ..)
    exact h2
  clear e4
  extract_lets -merge -useContext +onlyGivenNames y6; clear_value (e7 : y6 = _)
  refine .trans ?_ (reachIdle_keeps ..)
  refine .upd ?_
  exact h5

theorem execCalStartupStep_keeps {m : Nat} x0 x1 x2 s (hm : Within 1048576 m := by first | exact .trans (by assumption) ⟨rfl⟩ | exact ⟨rfl⟩) : KeepsR m s (execCalStartupStep x0 x1 x2 s) := by
  unfold execCalStartupStep
  extract_lets -merge -useContext +onlyGivenNames y0; clear_value (e1 : y0 = _)
  refine .cut e1 ?_ fun h2 => ?_
  · refine .trans ?_ (advance_keeps ..)
    exact .refl _
  clear e1
  refine .next ?_
  refine .ite (by exact h2) ?_
  refine .trans ?_ (beginStartupStep_keeps ..)
  refine .trans ?_ (endStartupStep_keeps ..)
  exact h2

theorem execCalWriteImage_keeps {m : Nat} x0 s  : KeepsR m s (execCalWriteImage x0 s) := by
  unfold execCalWriteImage
  refine .next ?_
  refine .trans ?_ (runRequest_keeps _ _ _ (by exact calWriteImageCmd_keeps ))
  exact .refl _

theorem execCalibrationHoldEnd_keeps {m : Nat} x0 s  : KeepsR m s (execCalibrationHoldEnd x0 s) := by
  unfold execCalibrationHoldEnd
  extract_lets -merge -useContext +onlyGivenNames y0; clear_value (e1 : y0 = _)
  refine .cut e1 ?_ fun h2 => ?_
  · refine .trans ?_ (advance_keeps ..)
    exact .refl _
  clear e1
  refine .next ?_
  split
  · refine .trans ?_ (auxNext_keeps ..)
    refine .upd ?_
    exact h2
  · exact h2

theorem finishCheck_keeps {m : Nat} x0 s  : Keeps m s (finishCheck x0 s) := by
  unfold finishCheck
  extract_lets -merge -useContext +onlyGivenNames y0; clear_value (e1 : y0 = _)
  extract_lets -merge -useContext +onlyGivenNames y2; clear_value (e3 : y2 = _)
  extract_lets -merge -useContext +onlyGivenNames y4; clear_value (e5 : y4 = _)
  extract_lets -merge -useContext +onlyGivenNames y6; clear_value (e7 : y6 = _)
  extract_lets -merge -useContext +onlyGivenNames y8; clear_value (e9 : y8 = _)
  extract_lets -merge -useContext +onlyGivenNames y10; clear_value (e11 : y10 = _)
  extract_lets -merge -useContext +onlyGivenNames y12; clear_value (e13 : y12 = _)
  refine .cut e13 ?_ fun h14 => ?_
  · refine .trans ?_ (record_keeps ..)
    exact .refl _
  clear e13
  extract_lets -merge -useContext +onlyGivenNames y15; clear_value (e16 : y15 = _)
  extract_lets -merge -useContext +onlyGivenNames y17; clear_value (e18 : y17 = _)
  refine .cut e18 ?_ fun h19 => ?_
  · refine .trans ?_ (forAll_keeps _ _ _ ?_)
    rotate_left
    · intro t20 t21
      refine .trans ?_ (queueSync_keeps ..)
      exact .refl _
    exact h14
  clear e18
  extract_lets -merge -useContext +onlyGivenNames y22; clear_value (e23 : y22 = _)
  refine .cut e23 ?_ fun h24 => ?_
  · refine .trans ?_ (queueSync_keeps ..)
    exact h19
  clear e23
  extract_lets -merge -useContext +onlyGivenNames y25; clear_value (e26 : y25 = _)
  extract_lets -merge -useContext +onlyGivenNames y27; clear_value (e28 : y27 = _)
  refine .cut e28 ?_ fun h29 => ?_
  · refine .upd ?_
    exact h24
  clear e28
  refine .trans ?_ (reply_keeps ..)
  exact h29

theorem execCheckWaitEnd_keeps {m : Nat} x0 s  : KeepsR m s (execCheckWaitEnd x0 s) := by
  unfold execCheckWaitEnd
  extract_lets -merge -useContext +onlyGivenNames y0; clear_value (e1 : y0 = _)
  refine .cut e1 ?_ fun h2 => ?_
  · refine .trans ?_ (advance_keeps ..)
    exact .refl _
  clear e1
  refine .next ?_
  split
  · exact h2
  · refine .ite ?_ (by exact h2)
    refine .trans ?_ (finishCheck_keeps ..)
    exact h2

theorem execChunkArrival_keeps {m : Nat} x0 x1 s  : KeepsR m s (execChunkArrival x0 x1 s) := by
  unfold execChunkArrival
  extract_lets -merge -useContext +onlyGivenNames y0; clear_value (e1 : y0 = _)
  refine .cut e1 ?_ fun h2 => ?_
  · refine .trans ?_ (advance_keeps ..)
    exact .refl _
  clear e1
  extract_lets -merge -useContext +onlyGivenNames y3; clear_value (e4 : y3 = _)
  refine .cut e4 ?_ fun h5 => ?_
  · split
    · refine .trans ?_ (drainSources_keeps ..)
      exact h2
    · exact h2
  clear e4
  refine .next ?_
  split
  · exact h5
  · refine .ite (by exact h5) ?_
    refine .trans ?_ (addTask_keeps ..)
    refine .trans ?_ (updJob_keeps ..)
    exact h5

theorem execClkGetOutput_keeps {m : Nat} x0 s  : KeepsR m s (execClkGetOutput x0 s) := by
  unfold execClkGetOutput
  refine .next ?_
  refine .trans ?_ (runRequest_keeps _ _ _ (by exact clkGetOutputCmd_keeps ))
  exact .refl _

theorem execClkGetPps_keeps {m : Nat} x0 s  : KeepsR m s (execClkGetPps x0 s) := by
  unfold execClkGetPps
  refine .next ?_
  refine .trans ?_ (runRequest_keeps _ _ _ (by exact clkGetPpsCmd_keeps ))
  exact .refl _

theorem execClkGetStatus_keeps {m : Nat} x0 s  : KeepsR m s (execClkGetStatus x0 s) := by
  unfold execClkGetStatus
  refine .next ?_
  refine .trans ?_ (runRequest_keeps _ _ _ (by exact clkGetStatusCmd_keeps ))
  exact .refl _

theorem execClkRampSegmentEnd_keeps {m : Nat} x0 x1 s  : KeepsR m s (execClkRampSegmentEnd x0 x1 s) := by
  unfold execClkRampSegmentEnd
  extract_lets -merge -useContext +onlyGivenNames y0; clear_value (e1 : y0 = _)
  refine .cut e1 ?_ fun h2 => ?_
  · refine .trans ?_ (advance_keeps ..)
    exact .refl _
  clear e1
  refine .next ?_
  refine .ite ?_ ?_
  · split
    · refine .trans ?_ (enterSegment_keeps ..)
      exact h2
    · refine .trans ?_ (stopSampleRamp_keeps ..)
      exact h2
  · refine .ite ?_ (by exact h2)
    extract_lets -merge -useContext +onlyGivenNames y3; clear_value (e4 : y3 = _)
    extract_lets -merge -useContext +onlyGivenNames y5; clear_value (e6 : y5 = _)
    refine .upd ?_
    exact h2

theorem execClkSetCeiling_keeps {m : Nat} x0 s (hm : Within 16384 m := by first | exact .trans (by assumption) ⟨rfl⟩ | exact ⟨rfl⟩) : KeepsR m s (execClkSetCeiling x0 s) := by
  unfold execClkSetCeiling
  refine .next ?_
  refine .trans ?_ (runRequest_keeps _ _ _ (by exact clkSetCeilingCmd_keeps ))
  exact .refl _

theorem execClkSetCoreRate_keeps {m : Nat} x0 s (hm : Within 294206849024 m := by first | exact .trans (by assumption) ⟨rfl⟩ | exact ⟨rfl⟩) : KeepsR m s (execClkSetCoreRate x0 s) := by
  unfold execClkSetCoreRate
  refine .next ?_
  refine .trans ?_ (runRequest_keeps _ _ _ (by exact clkSetCoreRateCmd_keeps ))
  exact .refl _

theorem execClkSetOutput_keeps {m : Nat} x0 s (hm : Within 268443648 m := by first | exact .trans (by assumption) ⟨rfl⟩ | exact ⟨rfl⟩) : KeepsR m s (execClkSetOutput x0 s) := by
  unfold execClkSetOutput
  refine .next ?_
  refine .trans ?_ (runRequest_keeps _ _ _ (by exact clkSetOutputCmd_keeps ))
  exact .refl _

theorem execClkSetRamp_keeps {m : Nat} x0 s (hm : Within 1572864 m := by first | exact .trans (by assumption) ⟨rfl⟩ | exact ⟨rfl⟩) : KeepsR m s (execClkSetRamp x0 s) := by
  unfold execClkSetRamp
  refine .next ?_
  refine .trans ?_ (runRequest_keeps _ _ _ (by exact clkSetRampCmd_keeps ))
  exact .refl _

theorem execClkSetReference_keeps {m : Nat} x0 s (hm : Within 1572864 m := by first | exact .trans (by assumption) ⟨rfl⟩ | exact ⟨rfl⟩) : KeepsR m s (execClkSetReference x0 s) := by
  unfold execClkSetReference
  refine .next ?_
  refine .trans ?_ (runRequest_keeps _ _ _ (by exact clkSetReferenceCmd_keeps ))
  exact .refl _

theorem execClkSetTime_keeps {m : Nat} x0 s (hm : Within 1073872896 m := by first | exact .trans (by assumption) ⟨rfl⟩ | exact ⟨rfl⟩) : KeepsR m s (execClkSetTime x0 s) := by
  unfold execClkSetTime
  refine .next ?_
  refine .trans ?_ (runRequest_keeps _ _ _ (by exact clkSetTimeCmd_keeps ))
  exact .refl _

theorem execClkSetTimeSource_keeps {m : Nat} x0 s (hm : Within 65536 m := by first | exact .trans (by assumption) ⟨rfl⟩ | exact ⟨rfl⟩) : KeepsR m s (execClkSetTimeSource x0 s) := by
  unfold execClkSetTimeSource
  refine .next ?_
  refine .trans ?_ (runRequest_keeps _ _ _ (by exact clkSetTimeSourceCmd_keeps ))
  exact .refl _

theorem execClkStepPhase_keeps {m : Nat} x0 s  : KeepsR m s (execClkStepPhase x0 s) := by
  unfold execClkStepPhase
  refine .next ?_
  refine .trans ?_ (runRequest_keeps _ _ _ (by exact clkStepPhaseCmd_keeps ))
  exact .refl _

theorem startCoast_keeps {m : Nat} x0 x1 s (hm : Within 1572864 m := by first | exact .trans (by assumption) ⟨rfl⟩ | exact ⟨rfl⟩) : Keeps m s (startCoast x0 x1 s) := by
  unfold startCoast
  extract_lets -merge -useContext +onlyGivenNames y0; clear_value (e1 : y0 = _)
  extract_lets -merge -useContext +onlyGivenNames y2; clear_value (e3 : y2 = _)
  refine .cut e3 ?_ fun h4 => ?_
  · refine .trans ?_ (updLoop_keeps ..)
    exact .refl _
  clear e3
  extract_lets -merge -useContext +onlyGivenNames y5; clear_value (e6 : y5 = _)
  refine .cut e6 ?_ fun h7 => ?_
  · refine .ite ?_ (by exact h4)
    refine .trans ?_ (updLoop_keeps ..)
    exact h4
  clear e6
  refine .ite (by exact h7) ?_
  extract_lets -merge -useContext +onlyGivenNames y8; clear_value (e9 : y8 = _)
  refine .cut e9 ?_ fun h10 => ?_
  · refine .trans ?_ (loseSampleLock_keeps ..)
    exact h7
  clear e9
  extract_lets -merge -useContext +onlyGivenNames y11; clear_value (e12 : y11 = _)
  extract_lets -merge -useContext +onlyGivenNames y13; clear_value (e14 : y13 = _)
  extract_lets -merge -useContext +onlyGivenNames y15; clear_value (e16 : y15 = _)
  refine .cut e16 ?_ fun h17 => ?_
  · refine .trans ?_ (driveSample_keeps ..)
    refine .upd ?_
    exact h10
  clear e16
  split
  · exact h17
  · refine .trans ?_ (replyOpt_keeps ..)
    refine .upd ?_
    exact h17

theorem reportLoss_keeps {m : Nat} x0 s  : Keeps m s (reportLoss x0 s) := by
  unfold reportLoss
  extract_lets -merge -useContext +onlyGivenNames y0; clear_value (e1 : y0 = _)
  refine .ite (by exact .refl _) ?_
  extract_lets -merge -useContext +onlyGivenNames y2; clear_value (e3 : y2 = _)
  refine .cut e3 ?_ fun h4 => ?_
  · refine .trans ?_ (updSince_keeps ..)
    exact .refl _
  clear e3
  extract_lets -merge -useContext +onlyGivenNames y5; clear_value (e6 : y5 = _)
  refine .cut e6 ?_ fun h7 => ?_
  · refine .trans ?_ (updLoop_keeps ..)
    exact h4
  clear e6
  refine .trans ?_ (record_keeps ..)
  refine .trans ?_ (assertAlert_keeps ..)
  exact h7

theorem execClockLockLost_keeps {m : Nat} x0 x1 x2 s (hm : Within 1572864 m := by first | exact .trans (by assumption) ⟨rfl⟩ | exact ⟨rfl⟩) : KeepsR m s (execClockLockLost x0 x1 x2 s) := by
  unfold execClockLockLost
  extract_lets -merge -useContext +onlyGivenNames y0; clear_value (e1 : y0 = _)
  refine .cut e1 ?_ fun h2 => ?_
  · refine .trans ?_ (advance_keeps ..)
    exact .refl _
  clear e1
  refine .next ?_
  refine .ite (by exact h2) ?_
  extract_lets -merge -useContext +onlyGivenNames y3; clear_value (e4 : y3 = _)
  refine .cut e4 ?_ fun h5 => ?_
  · refine .ite (by exact h2) ?_
    refine .trans ?_ (startCoast_keeps ..)
    exact h2
  clear e4
  refine .trans ?_ (reportLoss_keeps ..)
  refine .trans ?_ (updLoop_keeps ..)
  exact h5

theorem execClockRateChanged_keeps {m : Nat} x0 s (hm : Within 2153250816 m := by first | exact .trans (by assumption) ⟨rfl⟩ | exact ⟨rfl⟩) : KeepsR m s (execClockRateChanged x0 s) := by
  unfold execClockRateChanged
  extract_lets -merge -useContext +onlyGivenNames y0; clear_value (e1 : y0 = _)
  refine .cut e1 ?_ fun h2 => ?_
  · refine .trans ?_ (advance_keeps ..)
    exact .refl _
  clear e1
  refine .next ?_
  split
  · refine .ite (by exact h2) ?_
    extract_lets -merge -useContext +onlyGivenNames y3; clear_value (e4 : y3 = _)
    refine .cut e4 ?_ fun h5 => ?_
    · refine .trans ?_ (afterRateChange_keeps ..)
      refine .trans ?_ (updLoop_keeps ..)
      exact h2
    clear e4
    extract_lets -merge -useContext +onlyGivenNames y6; clear_value (e7 : y6 = _)
    refine .cut e7 ?_ fun h8 => ?_
    · refine .trans ?_ (stageBody_keeps ..)
      refine .trans ?_ (releaseAlert_keeps ..)
      exact h5
    clear e7
    refine .trans ?_ (replyOpt_keeps ..)
    refine .upd ?_
    exact h8
  · exact h2

theorem settleRate_keeps {m : Nat} s (hm : Within 2153250816 m := by first | exact .trans (by assumption) ⟨rfl⟩ | exact ⟨rfl⟩) : Keeps m s (settleRate s) := by
  unfold settleRate
  refine .ite ?_ (by exact .refl _)
  refine .trans ?_ (afterRateChange_keeps ..)
  refine .upd ?_
  exact .refl _

theorem execClockRelocked_keeps {m : Nat} x0 x1 x2 s (hm : Within 2153250816 m := by first | exact .trans (by assumption) ⟨rfl⟩ | exact ⟨rfl⟩) : KeepsR m s (execClockRelocked x0 x1 x2 s) := by
  unfold execClockRelocked
  extract_lets -merge -useContext +onlyGivenNames y0; clear_value (e1 : y0 = _)
  refine .cut e1 ?_ fun h2 => ?_
  · refine .trans ?_ (advance_keeps ..)
    exact .refl _
  clear e1
  extract_lets -merge -useContext +onlyGivenNames y3; clear_value (e4 : y3 = _)
  refine .next ?_
  refine .ite (by exact h2) ?_
  extract_lets -merge -useContext +onlyGivenNames y5; clear_value (e6 : y5 = _)
  refine .cut e6 ?_ fun h7 => ?_
  · refine .trans ?_ (updLoop_keeps ..)
    exact h2
  clear e6
  extract_lets -merge -useContext +onlyGivenNames y8; clear_value (e9 : y8 = _)
  refine .cut e9 ?_ fun h10 => ?_
  · refine .trans ?_ (releaseAlert_keeps ..)
    exact h7
  clear e9
  extract_lets -merge -useContext +onlyGivenNames y11; clear_value (e12 : y11 = _)
  refine .cut e12 ?_ fun h13 => ?_
  · refine .trans ?_ (record_keeps ..)
    exact h10
  clear e12
  refine .ite ?_ (by exact h13)
  refine .trans ?_ (settleRate_keeps ..)
  refine .trans ?_ (driveSample_keeps ..)
  exact h13

theorem execCoalescingTime_keeps {m : Nat} x0 x1 s (hm : Within 34359738368 m := by first | exact .trans (by assumption) ⟨rfl⟩ | exact ⟨rfl⟩) : KeepsR m s (execCoalescingTime x0 x1 s) := by
  unfold execCoalescingTime
  extract_lets -merge -useContext +onlyGivenNames y0; clear_value (e1 : y0 = _)
  refine .cut e1 ?_ fun h2 => ?_
  · refine .trans ?_ (advance_keeps ..)
    exact .refl _
  clear e1
  refine .next ?_
  split
  · exact h2
  · refine .ite ?_ (by exact h2)
    refine .trans ?_ (ringMessage_keeps ..)
    exact h2

theorem faultRing_keeps {m : Nat} x0 x1 s (hm : Within 34359738368 m := by first | exact .trans (by assumption) ⟨rfl⟩ | exact ⟨rfl⟩) : Keeps m s (faultRing x0 x1 s) := by
  unfold faultRing
  refine .trans ?_ (assertAlert_keeps ..)
  refine .trans ?_ (record_keeps ..)
  refine .trans ?_ (updRing_keeps ..)
  exact .refl _

theorem execConsumerReadCompletion_keeps {m : Nat} x0 x1 x2 x3 s (hm : Within 34359738368 m := by first | exact .trans (by assumption) ⟨rfl⟩ | exact ⟨rfl⟩) : KeepsR m s (execConsumerReadCompletion x0 x1 x2 x3 s) := by
  unfold execConsumerReadCompletion
  extract_lets -merge -useContext +onlyGivenNames y0; clear_value (e1 : y0 = _)
  refine .cut e1 ?_ fun h2 => ?_
  · refine .trans ?_ (advance_keeps ..)
    exact .refl _
  clear e1
  refine .next ?_
  split
  · exact h2
  · refine .ite (by exact h2) ?_
    refine .ite ?_ ?_
    · refine .trans ?_ (faultRing_keeps ..)
      exact h2
    · refine .ite ?_ ?_
      · refine .trans ?_ (faultRing_keeps ..)
        exact h2
      · refine .trans ?_ (updRing_keeps ..)
        exact h2

theorem readConsumer_keeps {m : Nat} x0 x1 x2 s (hm : Within 34359738368 m := by first | exact .trans (by assumption) ⟨rfl⟩ | exact ⟨rfl⟩) : Keeps m s (readConsumer x0 x1 x2 s) := by
  unfold readConsumer
  refine .trans ?_ (emit_keeps ..)
  refine .trans ?_ (updRing_keeps ..)
  exact .refl _

theorem execConsumerReadTimeout_keeps {m : Nat} x0 x1 s (hm : Within 34359738368 m := by first | exact .trans (by assumption) ⟨rfl⟩ | exact ⟨rfl⟩) : KeepsR m s (execConsumerReadTimeout x0 x1 s) := by
  unfold execConsumerReadTimeout
  extract_lets -merge -useContext +onlyGivenNames y0; clear_value (e1 : y0 = _)
  refine .cut e1 ?_ fun h2 => ?_
  · refine .trans ?_ (advance_keeps ..)
    exact .refl _
  clear e1
  refine .next ?_
  split
  · exact h2
  · split
    · exact h2
    · extract_lets -merge -useContext +onlyGivenNames y3; clear_value (e4 : y3 = _)
      refine .cut e4 ?_ fun h5 => ?_
      · refine .trans ?_ (emit_keeps ..)
        exact h2
      clear e4
      refine .ite ?_ ?_
      · refine .trans ?_ (readConsumer_keeps ..)
        exact h5
      · refine .trans ?_ (faultRing_keeps ..)
        exact h5

theorem pollConsumer_keeps {m : Nat} x0 s (hm : Within 34359738368 m := by first | exact .trans (by assumption) ⟨rfl⟩ | exact ⟨rfl⟩) : Keeps m s (pollConsumer x0 s) := by
  unfold pollConsumer
  split
  · exact .refl _
  · extract_lets -merge -useContext +onlyGivenNames y0; clear_value (e1 : y0 = _)
    refine .ite (by exact .refl _) ?_
    refine .trans ?_ (readConsumer_keeps ..)
    exact .refl _

theorem execConsumerWordReread_keeps {m : Nat} x0 x1 s (hm : Within 34359738368 m := by first | exact .trans (by assumption) ⟨rfl⟩ | exact ⟨rfl⟩) : KeepsR m s (execConsumerWordReread x0 x1 s) := by
  unfold execConsumerWordReread
  extract_lets -merge -useContext +onlyGivenNames y0; clear_value (e1 : y0 = _)
  refine .cut e1 ?_ fun h2 => ?_
  · refine .trans ?_ (advance_keeps ..)
    exact .refl _
  clear e1
  refine .next ?_
  split
  · exact h2
  · refine .ite ?_ (by exact h2)
    refine .trans ?_ (pollConsumer_keeps ..)
    exact h2

theorem railBadReading_keeps {m : Nat} x0 x1 x2 s  : Keeps m s (railBadReading x0 x1 x2 s) := by
  unfold railBadReading
  extract_lets -merge -useContext +onlyGivenNames y0; first | clear_value (e1 : y0 = _) | skip
  extract_lets -merge -useContext +onlyGivenNames y2; first | clear_value (e3 : y2 = _) | skip
  extract_lets -merge -useContext +onlyGivenNames y4; first | clear_value (e5 : y4 = _) | have e5 : y4 = _ := rfl
  refine .cut e5 ?_ fun h6 => ?_
  · refine .upd ?_
    exact .refl _
  clear e5
  refine .ite (by exact h6) ?_
  refine .trans ?_ (record_keeps ..)
  refine .trans ?_ (assertAlert_keeps ..)
  refine .upd ?_
  exact h6

theorem railGoodReading_keeps {m : Nat} x0 s  : Keeps m s (railGoodReading x0 s) := by
  unfold railGoodReading
  extract_lets -merge -useContext +onlyGivenNames y0; first | clear_value (e1 : y0 = _) | skip
  extract_lets -merge -useContext +onlyGivenNames y2; first | clear_value (e3 : y2 = _) | skip
  extract_lets -merge -useContext +onlyGivenNames y4; first | clear_value (e5 : y4 = _) | have e5 : y4 = _ := rfl
  refine .cut e5 ?_ fun h6 => ?_
  · refine .upd ?_
    exact .refl _
  clear e5
  refine .ite (by exact h6) ?_
  refine .trans ?_ (releaseAlert_keeps ..)
  refine .trans ?_ (record_keeps ..)
  refine .upd ?_
  exact h6

theorem judgeRail_keeps {m : Nat} x0 x1 s  : Keeps m s (judgeRail x0 x1 s) := by
  unfold judgeRail
  split
  · refine .ite ?_ ?_
    · refine .upd ?_
      exact .refl _
    · refine .ite ?_ ?_
      · refine .trans ?_ (railBadReading_keeps ..)
        exact .refl _
      · refine .ite ?_ ?_
        · refine .trans ?_ (railBadReading_keeps ..)
          exact .refl _
        · refine .trans ?_ (railGoodReading_keeps ..)
          exact .refl _

theorem monitorGoodReading_keeps {m : Nat} x0 s  : Keeps m s (monitorGoodReading x0 s) := by
  unfold monitorGoodReading
  extract_lets -merge -useContext +onlyGivenNames y0; first | clear_value (e1 : y0 = _) | skip
  extract_lets -merge -useContext +onlyGivenNames y2; first | clear_value (e3 : y2 = _) | have e3 : y2 = _ := rfl
  refine .cut e3 ?_ fun h4 => ?_
  · refine .upd ?_
    exact .refl _
  clear e3
  refine .ite ?_ (by exact h4)
  refine .trans ?_ (releaseAlerts_keeps ..)
  refine .trans ?_ (record_keeps ..)
  refine .upd ?_
  exact h4

theorem monitorBadReading_keeps {m : Nat} x0 x1 s  : Keeps m s (monitorBadReading x0 x1 s) := by
  unfold monitorBadReading
  extract_lets -merge -useContext +onlyGivenNames y0; clear_value (e1 : y0 = _)
  extract_lets -merge -useContext +onlyGivenNames y2; clear_value (e3 : y2 = _)
  refine .cut e3 ?_ fun h4 => ?_
  · refine .upd ?_
    exact .refl _
  clear e3
  refine .ite (by exact h4) ?_
  refine .trans ?_ (record_keeps ..)
  refine .trans ?_ (assertAlert_keeps ..)
  refine .upd ?_
  exact h4

theorem takeMonitor_keeps {m : Nat} x0 x1 s  : Keeps m s (takeMonitor x0 x1 s) := by
  unfold takeMonitor
  extract_lets -merge -useContext +onlyGivenNames y0; clear_value (e1 : y0 = _)
  extract_lets -merge -useContext +onlyGivenNames y2; clear_value (e3 : y2 = _)
  refine .cut e3 ?_ fun h4 => ?_
  · refine .upd ?_
    exact .refl _
  clear e3
  refine .ite ?_ ?_
  · refine .ite (by exact h4) ?_
    refine .trans ?_ (judgeRail_keeps ..)
    exact h4
  · refine .ite ?_ (by exact h4)
    refine .ite ?_ ?_
    · refine .trans ?_ (monitorGoodReading_keeps ..)
      exact h4
    · refine .trans ?_ (monitorBadReading_keeps ..)
      exact h4

theorem finishConversion_keeps {m : Nat} x0 x1 x2 s (hm : Within 1099512152064 m := by first | exact .trans (by assumption) ⟨rfl⟩ | exact ⟨rfl⟩) : Keeps m s (finishConversion x0 x1 x2 s) := by
  unfold finishConversion
  extract_lets -merge -useContext +onlyGivenNames y0; clear_value (e1 : y0 = _)
  extract_lets -merge -useContext +onlyGivenNames y2; clear_value (e3 : y2 = _)
  extract_lets -merge -useContext +onlyGivenNames y4; clear_value (e5 : y4 = _)
  refine .cut e5 ?_ fun h6 => ?_
  · refine .upd ?_
    exact .refl _
  clear e5
  split
  · refine .trans ?_ (endInjection_keeps ..)
    refine .trans ?_ (capture_keeps ..)
    exact h6
  · extract_lets -merge -useContext +onlyGivenNames y7; clear_value (e8 : y7 = _)
    refine .cut e8 ?_ fun h9 => ?_
    · refine .trans ?_ (writeAuxData_keeps ..)
      refine .trans ?_ (capture_keeps ..)
      exact h6
    clear e8
    refine .upd ?_
    exact h9
  · refine .trans ?_ (takeMonitor_keeps ..)
    refine .trans ?_ (capture_keeps ..)
    exact h6
  · exact h6

theorem execConversionDone_keeps {m : Nat} x0 x1 s (hm : Within 1099512152064 m := by first | exact .trans (by assumption) ⟨rfl⟩ | exact ⟨rfl⟩) : KeepsR m s (execConversionDone x0 x1 s) := by
  unfold execConversionDone
  extract_lets -merge -useContext +onlyGivenNames y0; clear_value (e1 : y0 = _)
  refine .cut e1 ?_ fun h2 => ?_
  · refine .trans ?_ (advance_keeps ..)
    exact .refl _
  clear e1
  refine .next ?_
  split
  · exact h2
  · exact h2
  · refine .trans ?_ (auxNext_keeps ..)
    refine .trans ?_ (finishConversion_keeps ..)
    exact h2

theorem execCoreRateLockTimeout_keeps {m : Nat} x0 s (hm : Within 1572864 m := by first | exact .trans (by assumption) ⟨rfl⟩ | exact ⟨rfl⟩) : KeepsR m s (execCoreRateLockTimeout x0 s) := by
  unfold execCoreRateLockTimeout
  extract_lets -merge -useContext +onlyGivenNames y0; clear_value (e1 : y0 = _)
  refine .cut e1 ?_ fun h2 => ?_
  · refine .trans ?_ (advance_keeps ..)
    exact .refl _
  clear e1
  refine .next ?_
  split
  · refine .ite (by exact h2) ?_
    extract_lets -merge -useContext +onlyGivenNames y3; clear_value (e4 : y3 = _)
    extract_lets -merge -useContext +onlyGivenNames y5; clear_value (e6 : y5 = _)
    refine .cut e6 ?_ fun h7 => ?_
    · refine .trans ?_ (replyOpt_keeps ..)
      refine .upd ?_
      exact h2
    clear e6
    refine .trans ?_ (startCoast_keeps ..)
    refine .trans ?_ (anchorHeads_keeps ..)
    exact h7
  · exact h2

theorem execCoreRateRampEnd_keeps {m : Nat} x0 s  : KeepsR m s (execCoreRateRampEnd x0 s) := by
  unfold execCoreRateRampEnd
  extract_lets -merge -useContext +onlyGivenNames y0; clear_value (e1 : y0 = _)
  refine .cut e1 ?_ fun h2 => ?_
  · refine .trans ?_ (advance_keeps ..)
    exact .refl _
  clear e1
  refine .next ?_
  split
  · refine .ite ?_ (by exact h2)
    refine .trans ?_ (driveSample_keeps ..)
    refine .upd ?_
    exact h2
  · exact h2

theorem execCoreReady_keeps {m : Nat} x0 x1 s (hm : Within 1572864 m := by first | exact .trans (by assumption) ⟨rfl⟩ | exact ⟨rfl⟩) : KeepsR m s (execCoreReady x0 x1 s) := by
  unfold execCoreReady
  extract_lets -merge -useContext +onlyGivenNames y0; clear_value (e1 : y0 = _)
  refine .cut e1 ?_ fun h2 => ?_
  · refine .trans ?_ (advance_keeps ..)
    exact .refl _
  clear e1
  refine .next ?_
  refine .ite ?_ (by exact h2)
  refine .trans ?_ (closePass_keeps ..)
  refine .trans ?_ (updCore_keeps ..)
  exact h2

theorem execDamuxBreakRepaired_keeps {m : Nat} x0 x1 s (hm : Within 8589934592 m := by first | exact .trans (by assumption) ⟨rfl⟩ | exact ⟨rfl⟩) : KeepsR m s (execDamuxBreakRepaired x0 x1 s) := by
  unfold execDamuxBreakRepaired
  extract_lets -merge -useContext +onlyGivenNames y0; clear_value (e1 : y0 = _)
  refine .cut e1 ?_ fun h2 => ?_
  · refine .trans ?_ (advance_keeps ..)
    exact .refl _
  clear e1
  refine .next ?_
  refine .ite (by exact h2) ?_
  refine .ite ?_ ?_
  · refine .trans ?_ (releaseAlert_keeps ..)
    refine .trans ?_ (record_keeps ..)
    refine .trans ?_ (updPort_keeps ..)
    exact h2
  · refine .trans ?_ (updPort_keeps ..)
    exact h2

theorem execDamuxLaneSignalLost_keeps {m : Nat} x0 x1 x2 s (hm : Within 12884901888 m := by first | exact .trans (by assumption) ⟨rfl⟩ | exact ⟨rfl⟩) : KeepsR m s (execDamuxLaneSignalLost x0 x1 x2 s) := by
  unfold execDamuxLaneSignalLost
  extract_lets -merge -useContext +onlyGivenNames y0; clear_value (e1 : y0 = _)
  refine .cut e1 ?_ fun h2 => ?_
  · refine .trans ?_ (advance_keeps ..)
    exact .refl _
  clear e1
  refine .next ?_
  refine .ite (by exact h2) ?_
  extract_lets -merge -useContext +onlyGivenNames y3; clear_value (e4 : y3 = _)
  refine .cut e4 ?_ fun h5 => ?_
  · refine .trans ?_ (updPort_keeps ..)
    exact h2
  clear e4
  refine .ite (by exact h5) ?_
  refine .ite ?_ ?_
  · refine .trans ?_ (breakAt_keeps ..)
    exact h5
  · refine .trans ?_ (setPortState_keeps ..)
    refine .trans ?_ (endRounds_keeps ..)
    exact h5

theorem lateSlot_keeps {m : Nat} x0 x1 s (hm : Within 8589934592 m := by first | exact .trans (by assumption) ⟨rfl⟩ | exact ⟨rfl⟩) : Keeps m s (lateSlot x0 x1 s) := by
  unfold lateSlot
  extract_lets -merge -useContext +onlyGivenNames y0; clear_value (e1 : y0 = _)
  extract_lets -merge -useContext +onlyGivenNames y2; clear_value (e3 : y2 = _)
  refine .cut e3 ?_ fun h4 => ?_
  · refine .trans ?_ (updHead_keeps ..)
    exact .refl _
  clear e3
  refine .ite ?_ (by exact h4)
  refine .trans ?_ (scheduleHead_keeps ..)
  exact h4

theorem trackHead_keeps {m : Nat} x0 x1 x2 s (hm : Within 8589934592 m := by first | exact .trans (by assumption) ⟨rfl⟩ | exact ⟨rfl⟩) : Keeps m s (trackHead x0 x1 x2 s) := by
  unfold trackHead
  extract_lets -merge -useContext +onlyGivenNames y0; clear_value (e1 : y0 = _)
  extract_lets -merge -useContext +onlyGivenNames y2; clear_value (e3 : y2 = _)
  refine .cut e3 ?_ fun h4 => ?_
  · refine .trans ?_ (updHead_keeps ..)
    exact .refl _
  clear e3
  refine .ite ?_ (by exact h4)
  refine .trans ?_ (scheduleHead_keeps ..)
  exact h4

theorem execDamuxSlotReceived_keeps {m : Nat} x0 x1 x2 x3 x4 s (hm : Within 12884901888 m := by first | exact .trans (by assumption) ⟨rfl⟩ | exact ⟨rfl⟩) : KeepsR m s (execDamuxSlotReceived x0 x1 x2 x3 x4 s) := by
  unfold execDamuxSlotReceived
  extract_lets -merge -useContext +onlyGivenNames y0; clear_value (e1 : y0 = _)
  refine .cut e1 ?_ fun h2 => ?_
  · refine .trans ?_ (advance_keeps ..)
    exact .refl _
  clear e1
  extract_lets -merge -useContext +onlyGivenNames y3; clear_value (e4 : y3 = _)
  extract_lets -merge -useContext +onlyGivenNames y5; clear_value (e6 : y5 = _)
  extract_lets -merge -useContext +onlyGivenNames y7; clear_value (e8 : y7 = _)
  refine .next ?_
  refine .ite (by exact h2) ?_
  refine .ite ?_ ?_
  · refine .trans ?_ (discardSlot_keeps ..)
    exact h2
  · refine .ite ?_ ?_
    · refine .trans ?_ (lateSlot_keeps ..)
      refine .trans ?_ (discardSlot_keeps ..)
      exact h2
    · refine .ite ?_ ?_
      · refine .trans ?_ (discardSlot_keeps ..)
        exact h2
      · refine .ite ?_ ?_
        · refine .trans ?_ (discardSlot_keeps ..)
          exact h2
        · refine .ite ?_ ?_
          · refine .trans ?_ (streamHead_keeps ..)
            refine .trans ?_ (discardSlot_keeps ..)
            exact h2
          · refine .ite ?_ ?_
            · refine .trans ?_ (discardSlot_keeps ..)
              exact h2
            · refine .ite ?_ ?_
              · refine .trans ?_ (recordLimited_keeps ..)
                refine .trans ?_ (updSince_keeps ..)
                refine .trans ?_ (discardSlot_keeps ..)
                exact h2
              · refine .trans ?_ (acceptSlot_keeps ..)
                refine .trans ?_ (trackHead_keeps ..)
                exact h2

theorem memorySleep_keeps {m : Nat} s  : Keeps m s (memorySleep s) := by
  unfold memorySleep
  refine .upd ?_
  exact .refl _

theorem stopForSleep_keeps {m : Nat} s (hm : Within 306185764864 m := by first | exact .trans (by assumption) ⟨rfl⟩ | exact ⟨rfl⟩) : Keeps m s (stopForSleep s) := by
  unfold stopForSleep
  extract_lets -merge -useContext +onlyGivenNames y0; clear_value (e1 : y0 = _)
  extract_lets -merge -useContext +onlyGivenNames y2; clear_value (e3 : y2 = _)
  refine .cut e3 ?_ fun h4 => ?_
  · refine .upd ?_
    exact .refl _
  clear e3
  extract_lets -merge -useContext +onlyGivenNames y5; clear_value (e6 : y5 = _)
  refine .cut e6 ?_ fun h7 => ?_
  · refine .trans ?_ (idleAccumulators_keeps ..)
    refine .trans ?_ (stopEngines_keeps ..)
    refine .trans ?_ (forEach_keeps _ _ _ ?_)
    rotate_left
    · intro t8 t9
      refine .trans ?_ (dropCapture_keeps ..)
      exact .refl _
    exact h4
  clear e6
  refine .trans ?_ (convertersDown_keeps ..)
  refine .trans ?_ (stopPorts_keeps ..)
  exact h7

theorem sleepModule_keeps {m : Nat} s (hm : Within 34359742976 m := by first | exact .trans (by assumption) ⟨rfl⟩ | exact ⟨rfl⟩) : Keeps m s (sleepModule s) := by
  unfold sleepModule
  extract_lets -merge -useContext +onlyGivenNames y0; clear_value (e1 : y0 = _)
  refine .cut e1 ?_ fun h2 => ?_
  · refine .trans ?_ (forEach_keeps _ _ _ ?_)
    rotate_left
    · intro t3 t4
      refine .trans ?_ (dropSession_keeps ..)
      exact .refl _
    exact .refl _
  clear e1
  extract_lets -merge -useContext +onlyGivenNames y5; clear_value (e6 : y5 = _)
  extract_lets -merge -useContext +onlyGivenNames y7; clear_value (e8 : y7 = _)
  extract_lets -merge -useContext +onlyGivenNames y9; clear_value (e10 : y9 = _)
  extract_lets -merge -useContext +onlyGivenNames y11; clear_value (e12 : y11 = _)
  refine .cut e12 ?_ fun h13 => ?_
  · refine .trans ?_ (stopRings_keeps ..)
    refine .upd ?_
    exact h2
  clear e12
  refine .trans ?_ (setBootState_keeps ..)
  exact h13

theorem lastRecord_keeps {m : Nat} x0 x1 s (hm : Within 17592186044416 m := by first | exact .trans (by assumption) ⟨rfl⟩ | exact ⟨rfl⟩) : Keeps m s (lastRecord x0 x1 s) := by
  unfold lastRecord
  extract_lets -merge -useContext +onlyGivenNames y0; clear_value (e1 : y0 = _)
  refine .trans ?_ (flushFifo_keeps ..)
  refine .trans ?_ (stageBody_keeps ..)
  refine .trans ?_ (flushFifo_keeps ..)
  exact .refl _

theorem execDeepStandbyEntry_keeps {m : Nat} x0 s (hm : Within 17932731585024 m := by first | exact .trans (by assumption) ⟨rfl⟩ | exact ⟨rfl⟩) : KeepsR m s (execDeepStandbyEntry x0 s) := by
  unfold execDeepStandbyEntry
  extract_lets -merge -useContext +onlyGivenNames y0; clear_value (e1 : y0 = _)
  refine .cut e1 ?_ fun h2 => ?_
  · refine .trans ?_ (advance_keeps ..)
    exact .refl _
  clear e1
  refine .next ?_
  split
  · exact h2
  · extract_lets -merge -useContext +onlyGivenNames y3; clear_value (e4 : y3 = _)
    extract_lets -merge -useContext +onlyGivenNames y5; clear_value (e6 : y5 = _)
    refine .cut e6 ?_ fun h7 => ?_
    · refine .trans ?_ (record_keeps ..)
      refine .trans ?_ (memorySleep_keeps ..)
      refine .trans ?_ (stopForSleep_keeps ..)
      exact h2
    clear e6
    extract_lets -merge -useContext +onlyGivenNames y8; clear_value (e9 : y8 = _)
    refine .cut e9 ?_ fun h10 => ?_
    · refine .trans ?_ (sleepModule_keeps ..)
      refine .trans ?_ (lastRecord_keeps ..)
      exact h7
    clear e9
    extract_lets -merge -useContext +onlyGivenNames y11; clear_value (e12 : y11 = _)
    refine .upd ?_
    exact h10

theorem sendDelayReq_keeps {m : Nat} x0 s (hm : Within 137438953472 m := by first | exact .trans (by assumption) ⟨rfl⟩ | exact ⟨rfl⟩) : Keeps m s (sendDelayReq x0 s) := by
  unfold sendDelayReq
  extract_lets -merge -useContext +onlyGivenNames y0; clear_value (e1 : y0 = _)
  refine .ite ?_ (by exact .refl _)
  refine .trans ?_ (emit_keeps ..)
  refine .trans ?_ (updPtp_keeps ..)
  exact .refl _

theorem execDelayReqInterval_keeps {m : Nat} x0 s (hm : Within 137438953472 m := by first | exact .trans (by assumption) ⟨rfl⟩ | exact ⟨rfl⟩) : KeepsR m s (execDelayReqInterval x0 s) := by
  unfold execDelayReqInterval
  refine .next ?_
  refine .trans ?_ (forEach_keeps _ _ _ ?_)
  rotate_left
  · intro t0 t1
    refine .trans ?_ (sendDelayReq_keeps ..)
    exact .refl _
  refine .trans ?_ (advance_keeps ..)
  exact .refl _

theorem refuseHead_keeps {m : Nat} x0 x1 s  : Keeps m s (refuseHead x0 x1 s) := by
  unfold refuseHead
  extract_lets -merge -useContext +onlyGivenNames y0; clear_value (e1 : y0 = _)
  extract_lets -merge -useContext +onlyGivenNames y2; clear_value (e3 : y2 = _)
  refine .trans ?_ (recordLimited_keeps ..)
  exact .refl _

theorem placeHead_keeps {m : Nat} x0 x1 x2 x3 x4 x5 s (hm : Within 8589934592 m := by first | exact .trans (by assumption) ⟨rfl⟩ | exact ⟨rfl⟩) : Keeps m s (placeHead x0 x1 x2 x3 x4 x5 s) := by
  unfold placeHead
  extract_lets +onlyGivenNames h known y z
  have h0 : Keeps m s z := (putHead_keeps _ _ _).trans (assignHead_keeps _ _ _ _)
  clear_value z
  have key : ∀ (st : HeadState) u, Keeps m s u → Keeps m s (match admitHead x0 x1 st u with
      | some t => t
      | none => refuseHead x0 x1 u) := fun st u hu => by
    split
    · rename_i e; exact hu.trans (admitHead_keeps _ _ _ _ _ e)
    · exact hu.trans (refuseHead_keeps _ _ _)
  split
  all_goals first
    | exact h0.trans (scheduleHead_keeps _ _ _)
    | (extract_lets +onlyGivenNames fresh u v st
       have h1 : Keeps m s u := Keeps.ite (h0.trans (record_keeps _ _ _)) h0
       have h2 : Keeps m s v := h1.trans (updHead_keeps _ _ _ _)
       clear_value v
       exact Keeps.ite (key st v h2) (h2.trans (scheduleHead_keeps _ _ _)))

theorem pushHops_keeps {m : Nat} x0 x1 x2 s (hm : Within 8589934592 m := by first | exact .trans (by assumption) ⟨rfl⟩ | exact ⟨rfl⟩) : Keeps m s (pushHops x0 x1 x2 s) := by
  unfold pushHops
  extract_lets -merge -useContext +onlyGivenNames y0; clear_value (e1 : y0 = _)
  refine .ite ?_ (by exact .refl _)
  refine .trans ?_ (updPort_keeps ..)
  exact .refl _

theorem execDiscoveryReply_keeps {m : Nat} x0 x1 x2 x3 x4 x5 s (hm : Within 8589934592 m := by first | exact .trans (by assumption) ⟨rfl⟩ | exact ⟨rfl⟩) : KeepsR m s (execDiscoveryReply x0 x1 x2 x3 x4 x5 s) := by
  unfold execDiscoveryReply
  extract_lets -merge -useContext +onlyGivenNames y0; clear_value (e1 : y0 = _)
  refine .cut e1 ?_ fun h2 => ?_
  · refine .trans ?_ (advance_keeps ..)
    exact .refl _
  clear e1
  extract_lets -merge -useContext +onlyGivenNames y3; clear_value (e4 : y3 = _)
  refine .next ?_
  refine .ite (by exact h2) ?_
  refine .ite ?_ ?_
  · refine .trans ?_ (discardSlot_keeps ..)
    exact h2
  · refine .ite ?_ ?_
    · refine .trans ?_ (discardSlot_keeps ..)
      exact h2
    · extract_lets -merge -useContext +onlyGivenNames y5; clear_value (e6 : y5 = _)
      extract_lets -merge -useContext +onlyGivenNames y7; clear_value (e8 : y7 = _)
      refine .cut e8 ?_ fun h9 => ?_
      · refine .trans ?_ (updPort_keeps ..)
        exact h2
      clear e8
      refine .ite ?_ ?_
      · extract_lets -merge -useContext +onlyGivenNames y10; clear_value (e11 : y10 = _)
        refine .cut e11 ?_ fun h12 => ?_
        · refine .trans ?_ (record_keeps ..)
          exact h9
        clear e11
        refine .ite ?_ (by exact h12)
        refine .trans ?_ (endWalk_keeps ..)
        exact h12
      · split
        · exact h9
        · extract_lets -merge -useContext +onlyGivenNames y13; clear_value (e14 : y13 = _)
          extract_lets -merge -useContext +onlyGivenNames y15; clear_value (e16 : y15 = _)
          extract_lets -merge -useContext +onlyGivenNames y17; clear_value (e18 : y17 = _)
          refine .cut e18 ?_ fun h19 => ?_
          · refine .trans ?_ (updPort_keeps ..)
            exact h9
          clear e18
          refine .ite ?_ ?_
          · refine .trans ?_ (placeHead_keeps ..)
            exact h19
          · extract_lets -merge -useContext +onlyGivenNames y20; clear_value (e21 : y20 = _)
            refine .trans ?_ (placeHead_keeps ..)
            refine .trans ?_ (pushHops_keeps ..)
            exact h19

theorem execDmxEnrol_keeps {m : Nat} x0 s (hm : Within 8589934592 m := by first | exact .trans (by assumption) ⟨rfl⟩ | exact ⟨rfl⟩) : KeepsR m s (execDmxEnrol x0 s) := by
  unfold execDmxEnrol
  refine .next ?_
  refine .trans ?_ (runRequest_keeps _ _ _ (by exact dmxEnrolCmd_keeps ))
  exact .refl _

theorem execDmxEnumerate_keeps {m : Nat} x0 s (hm : Within 8589934592 m := by first | exact .trans (by assumption) ⟨rfl⟩ | exact ⟨rfl⟩) : KeepsR m s (execDmxEnumerate x0 s) := by
  unfold execDmxEnumerate
  refine .next ?_
  refine .trans ?_ (runRequest_keeps _ _ _ (by exact dmxEnumerateCmd_keeps ))
  exact .refl _

theorem execDmxGetHeads_keeps {m : Nat} x0 s  : KeepsR m s (execDmxGetHeads x0 s) := by
  unfold execDmxGetHeads
  refine .next ?_
  refine .trans ?_ (runRequest_keeps _ _ _ (by exact dmxGetHeadsCmd_keeps ))
  exact .refl _

theorem execDmxGetStatus_keeps {m : Nat} x0 s  : KeepsR m s (execDmxGetStatus x0 s) := by
  unfold execDmxGetStatus
  refine .next ?_
  refine .trans ?_ (runRequest_keeps _ _ _ (by exact dmxGetStatusCmd_keeps ))
  exact .refl _

theorem execDmxHeadParam_keeps {m : Nat} x0 s (hm : Within 8589934592 m := by first | exact .trans (by assumption) ⟨rfl⟩ | exact ⟨rfl⟩) : KeepsR m s (execDmxHeadParam x0 s) := by
  unfold execDmxHeadParam
  refine .next ?_
  refine .trans ?_ (runRequest_keeps _ _ _ (by exact dmxHeadParamCmd_keeps ))
  exact .refl _

theorem execDmxRejoin_keeps {m : Nat} x0 s (hm : Within 8589934592 m := by first | exact .trans (by assumption) ⟨rfl⟩ | exact ⟨rfl⟩) : KeepsR m s (execDmxRejoin x0 s) := by
  unfold execDmxRejoin
  refine .next ?_
  refine .trans ?_ (runRequest_keeps _ _ _ (by exact dmxRejoinCmd_keeps ))
  exact .refl _

theorem execDmxRemoveHead_keeps {m : Nat} x0 s (hm : Within 12884901888 m := by first | exact .trans (by assumption) ⟨rfl⟩ | exact ⟨rfl⟩) : KeepsR m s (execDmxRemoveHead x0 s) := by
  unfold execDmxRemoveHead
  refine .next ?_
  refine .trans ?_ (runRequest_keeps _ _ _ (by exact dmxRemoveHeadCmd_keeps ))
  exact .refl _

theorem execDmxSetAlarmGroup_keeps {m : Nat} x0 s (hm : Within 8589934592 m := by first | exact .trans (by assumption) ⟨rfl⟩ | exact ⟨rfl⟩) : KeepsR m s (execDmxSetAlarmGroup x0 s) := by
  unfold execDmxSetAlarmGroup
  refine .next ?_
  refine .trans ?_ (runRequest_keeps _ _ _ (by exact dmxSetAlarmGroupCmd_keeps ))
  exact .refl _

theorem execDmxSetHead_keeps {m : Nat} x0 s (hm : Within 8589934592 m := by first | exact .trans (by assumption) ⟨rfl⟩ | exact ⟨rfl⟩) : KeepsR m s (execDmxSetHead x0 s) := by
  unfold execDmxSetHead
  refine .next ?_
  refine .trans ?_ (runRequest_keeps _ _ _ (by exact dmxSetHeadCmd_keeps ))
  exact .refl _

theorem execDmxSetPort_keeps {m : Nat} x0 s (hm : Within 12884901888 m := by first | exact .trans (by assumption) ⟨rfl⟩ | exact ⟨rfl⟩) : KeepsR m s (execDmxSetPort x0 s) := by
  unfold execDmxSetPort
  refine .next ?_
  refine .trans ?_ (runRequest_keeps _ _ _ (by exact dmxSetPortCmd_keeps ))
  exact .refl _

theorem execDmxSetRoute_keeps {m : Nat} x0 s (hm : Within 8589934592 m := by first | exact .trans (by assumption) ⟨rfl⟩ | exact ⟨rfl⟩) : KeepsR m s (execDmxSetRoute x0 s) := by
  unfold execDmxSetRoute
  refine .next ?_
  refine .trans ?_ (runRequest_keeps _ _ _ (by exact dmxSetRouteCmd_keeps ))
  exact .refl _

theorem missDeadline_keeps {m : Nat} x0 s (hm : Within 292057776128 m := by first | exact .trans (by assumption) ⟨rfl⟩ | exact ⟨rfl⟩) : Keeps m s (missDeadline x0 s) := by
  unfold missDeadline
  split
  · exact .refl _
  · refine .ite ?_ (by exact .refl _)
    refine .trans ?_ (reviewWaiting_keeps ..)
    refine .trans ?_ (record_keeps ..)
    refine .trans ?_ (updPh_keeps ..)
    exact .refl _

theorem execDrainDeadlineEvaluation_keeps {m : Nat} x0 s (hm : Within 292057776128 m := by first | exact .trans (by assumption) ⟨rfl⟩ | exact ⟨rfl⟩) : KeepsR m s (execDrainDeadlineEvaluation x0 s) := by
  unfold execDrainDeadlineEvaluation
  extract_lets -merge -useContext +onlyGivenNames y0; clear_value (e1 : y0 = _)
  refine .cut e1 ?_ fun h2 => ?_
  · refine .trans ?_ (advance_keeps ..)
    exact .refl _
  clear e1
  refine .next ?_
  refine .ite (by exact h2) ?_
  refine .trans ?_ (forAll_keeps _ _ _ ?_)
  rotate_left
  · intro t3 t4
    refine .trans ?_ (missDeadline_keeps ..)
    exact .refl _
  exact h2

theorem execEdgeGetResults_keeps {m : Nat} x0 s  : KeepsR m s (execEdgeGetResults x0 s) := by
  unfold execEdgeGetResults
  refine .next ?_
  refine .trans ?_ (runRequest_keeps _ _ _ (by exact edgeGetResultsCmd_keeps ))
  exact .refl _

theorem execEdgeReadStamps_keeps {m : Nat} x0 s  : KeepsR m s (execEdgeReadStamps x0 s) := by
  unfold execEdgeReadStamps
  refine .next ?_
  refine .trans ?_ (runRequest_keeps _ _ _ (by exact edgeReadStampsCmd_keeps ))
  exact .refl _

theorem execEdgeSetAngle_keeps {m : Nat} x0 s (hm : Within 2147483648 m := by first | exact .trans (by assumption) ⟨rfl⟩ | exact ⟨rfl⟩) : KeepsR m s (execEdgeSetAngle x0 s) := by
  unfold execEdgeSetAngle
  refine .next ?_
  refine .trans ?_ (runRequest_keeps _ _ _ (by exact edgeSetAngleCmd_keeps ))
  exact .refl _

theorem execEdgeSetGate_keeps {m : Nat} x0 s (hm : Within 294205259776 m := by first | exact .trans (by assumption) ⟨rfl⟩ | exact ⟨rfl⟩) : KeepsR m s (execEdgeSetGate x0 s) := by
  unfold execEdgeSetGate
  refine .next ?_
  refine .trans ?_ (runRequest_keeps _ _ _ (by exact edgeSetGateCmd_keeps ))
  exact .refl _

theorem execEdgeSetInput_keeps {m : Nat} x0 s (hm : Within 2147483648 m := by first | exact .trans (by assumption) ⟨rfl⟩ | exact ⟨rfl⟩) : KeepsR m s (execEdgeSetInput x0 s) := by
  unfold execEdgeSetInput
  refine .next ?_
  refine .trans ?_ (runRequest_keeps _ _ _ (by exact edgeSetInputCmd_keeps ))
  exact .refl _

theorem execEngCreateJob_keeps {m : Nat} x0 s  : KeepsR m s (execEngCreateJob x0 s) := by
  unfold execEngCreateJob
  refine .next ?_
  refine .trans ?_ (runRequest_keeps _ _ _ (by exact engCreateJobCmd_keeps ))
  exact .refl _

theorem execEngDeleteJob_keeps {m : Nat} x0 s  : KeepsR m s (execEngDeleteJob x0 s) := by
  unfold execEngDeleteJob
  refine .next ?_
  refine .trans ?_ (runRequest_keeps _ _ _ (by exact engDeleteJobCmd_keeps ))
  exact .refl _

theorem execEngGetCatalogue_keeps {m : Nat} x0 s  : KeepsR m s (execEngGetCatalogue x0 s) := by
  unfold execEngGetCatalogue
  refine .next ?_
  refine .trans ?_ (runRequest_keeps _ _ _ (by exact engGetCatalogueCmd_keeps ))
  exact .refl _

theorem execEngGetJob_keeps {m : Nat} x0 s  : KeepsR m s (execEngGetJob x0 s) := by
  unfold execEngGetJob
  refine .next ?_
  refine .trans ?_ (runRequest_keeps _ _ _ (by exact engGetJobCmd_keeps ))
  exact .refl _

theorem execEngGetStatus_keeps {m : Nat} x0 s  : KeepsR m s (execEngGetStatus x0 s) := by
  unfold execEngGetStatus
  refine .next ?_
  refine .trans ?_ (runRequest_keeps _ _ _ (by exact engGetStatusCmd_keeps ))
  exact .refl _

theorem execEngStartJob_keeps {m : Nat} x0 s  : KeepsR m s (execEngStartJob x0 s) := by
  unfold execEngStartJob
  refine .next ?_
  refine .trans ?_ (runRequest_keeps _ _ _ (by exact engStartJobCmd_keeps ))
  exact .refl _

theorem execEngStopJob_keeps {m : Nat} x0 s  : KeepsR m s (execEngStopJob x0 s) := by
  unfold execEngStopJob
  refine .next ?_
  refine .trans ?_ (runRequest_keeps _ _ _ (by exact engStopJobCmd_keeps ))
  exact .refl _

theorem execEngineAbort_keeps {m : Nat} x0 x1 x2 s (hm : Within 292057776128 m := by first | exact .trans (by assumption) ⟨rfl⟩ | exact ⟨rfl⟩) : KeepsR m s (execEngineAbort x0 x1 x2 s) := by
  unfold execEngineAbort
  extract_lets -merge -useContext +onlyGivenNames y0; clear_value (e1 : y0 = _)
  refine .cut e1 ?_ fun h2 => ?_
  · refine .trans ?_ (advance_keeps ..)
    exact .refl _
  clear e1
  refine .next ?_
  split
  · exact h2
  · refine .trans ?_ (startNext_keeps ..)
    refine .trans ?_ (answerStops_keeps ..)
    refine .trans ?_ (record_keeps ..)
    refine .trans ?_ (abortTask_keeps ..)
    exact h2

theorem moveJob_keeps {m : Nat} x0 s  : Keeps m s (moveJob x0 s) := by
  unfold moveJob
  split
  · exact .refl _
  · split
    · refine .trans ?_ (updJob_keeps ..)
      exact .refl _
    · refine .trans ?_ (stopJob_keeps ..)
      exact .refl _

theorem execEngineFault_keeps {m : Nat} x0 x1 s (hm : Within 292057776128 m := by first | exact .trans (by assumption) ⟨rfl⟩ | exact ⟨rfl⟩) : KeepsR m s (execEngineFault x0 x1 s) := by
  unfold execEngineFault
  extract_lets -merge -useContext +onlyGivenNames y0; clear_value (e1 : y0 = _)
  refine .cut e1 ?_ fun h2 => ?_
  · refine .trans ?_ (advance_keeps ..)
    exact .refl _
  clear e1
  refine .next ?_
  refine .ite (by exact h2) ?_
  extract_lets -merge -useContext +onlyGivenNames y3; clear_value (e4 : y3 = _)
  refine .cut e4 ?_ fun h5 => ?_
  · refine .trans ?_ (abortTask_keeps ..)
    exact h2
  clear e4
  extract_lets -merge -useContext +onlyGivenNames y6; clear_value (e7 : y6 = _)
  refine .cut e7 ?_ fun h8 => ?_
  · refine .trans ?_ (updEngine_keeps ..)
    exact h5
  clear e7
  extract_lets -merge -useContext +onlyGivenNames y9; clear_value (e10 : y9 = _)
  refine .cut e10 ?_ fun h11 => ?_
  · refine .trans ?_ (assertAlert_keeps ..)
    refine .trans ?_ (record_keeps ..)
    exact h8
  clear e10
  extract_lets -merge -useContext +onlyGivenNames y12; clear_value (e13 : y12 = _)
  refine .trans ?_ (answerStops_keeps ..)
  refine .trans ?_ (forAll_keeps _ _ _ ?_)
  rotate_left
  · intro t14 t15
    refine .trans ?_ (moveJob_keeps ..)
    exact .refl _
  exact h11

theorem execEntryCommitted_keeps {m : Nat} x0 x1 s (hm : Within 17179869184 m := by first | exact .trans (by assumption) ⟨rfl⟩ | exact ⟨rfl⟩) : KeepsR m s (execEntryCommitted x0 x1 s) := by
  unfold execEntryCommitted
  extract_lets -merge -useContext +onlyGivenNames y0; clear_value (e1 : y0 = _)
  refine .cut e1 ?_ fun h2 => ?_
  · refine .trans ?_ (advance_keeps ..)
    exact .refl _
  clear e1
  refine .next ?_
  split
  · exact h2
  · extract_lets -merge -useContext +onlyGivenNames y3; clear_value (e4 : y3 = _)
    refine .trans ?_ (updPh_keeps ..)
    exact h2

theorem execEthernetLinkDown_keeps {m : Nat} x0 x1 s (hm : Within 68719476736 m := by first | exact .trans (by assumption) ⟨rfl⟩ | exact ⟨rfl⟩) : KeepsR m s (execEthernetLinkDown x0 x1 s) := by
  unfold execEthernetLinkDown
  extract_lets -merge -useContext +onlyGivenNames y0; clear_value (e1 : y0 = _)
  refine .cut e1 ?_ fun h2 => ?_
  · refine .trans ?_ (settlePaused_keeps ..)
    refine .trans ?_ (advance_keeps ..)
    exact .refl _
  clear e1
  refine .next ?_
  refine .ite ?_ (by exact h2)
  refine .trans ?_ (record_keeps ..)
  refine .trans ?_ (updLink_keeps ..)
  exact h2

theorem execEthernetLinkUp_keeps {m : Nat} x0 x1 s  : KeepsR m s (execEthernetLinkUp x0 x1 s) := by
  unfold execEthernetLinkUp
  extract_lets -merge -useContext +onlyGivenNames y0; clear_value (e1 : y0 = _)
  refine .cut e1 ?_ fun h2 => ?_
  · refine .trans ?_ (advance_keeps ..)
    exact .refl _
  clear e1
  refine .next ?_
  refine .ite (by exact h2) ?_
  refine .trans ?_ (record_keeps ..)
  refine .trans ?_ (updLink_keeps ..)
  exact h2

theorem execEvtClearRing_keeps {m : Nat} x0 s  : KeepsR m s (execEvtClearRing x0 s) := by
  unfold execEvtClearRing
  refine .next ?_
  refine .trans ?_ (runRequest_keeps _ _ _ (by exact evtClearRingCmd_keeps ))
  exact .refl _

theorem execEvtGetStatus_keeps {m : Nat} x0 s  : KeepsR m s (execEvtGetStatus x0 s) := by
  unfold execEvtGetStatus
  refine .next ?_
  refine .trans ?_ (runRequest_keeps _ _ _ (by exact evtGetStatusCmd_keeps ))
  exact .refl _

theorem execEvtRead_keeps {m : Nat} x0 s  : KeepsR m s (execEvtRead x0 s) := by
  unfold execEvtRead
  refine .next ?_
  refine .trans ?_ (runRequest_keeps _ _ _ (by exact evtReadCmd_keeps ))
  exact .refl _

theorem execEvtSetCopy_keeps {m : Nat} x0 s (hm : Within 35184372088832 m := by first | exact .trans (by assumption) ⟨rfl⟩ | exact ⟨rfl⟩) : KeepsR m s (execEvtSetCopy x0 s) := by
  unfold execEvtSetCopy
  refine .next ?_
  refine .trans ?_ (runRequest_keeps _ _ _ (by exact evtSetCopyCmd_keeps ))
  exact .refl _

theorem startStep_keeps {m : Nat} x0 s  : Keeps m s (startStep x0 s) :=
  (Keeps.of rfl (Nat.le_refl _) (fun hi => ⟨by simpa [Sized, startStep, takeFree] using hi.1, hi.2⟩))

theorem execExtraTrainingStep_keeps {m : Nat} x0 x1 s  : KeepsR m s (execExtraTrainingStep x0 x1 s) := by
  unfold execExtraTrainingStep
  extract_lets -merge -useContext +onlyGivenNames y0; clear_value (e1 : y0 = _)
  refine .cut e1 ?_ fun h2 => ?_
  · refine .trans ?_ (advance_keeps ..)
    exact .refl _
  clear e1
  refine .next ?_
  refine .ite (by exact h2) ?_
  refine .trans ?_ (startStep_keeps ..)
  refine .upd ?_
  exact h2

theorem execFillEnd_keeps {m : Nat} x0 x1 s (hm : Within 1073741824 m := by first | exact .trans (by assumption) ⟨rfl⟩ | exact ⟨rfl⟩) : KeepsR m s (execFillEnd x0 x1 s) := by
  unfold execFillEnd
  extract_lets -merge -useContext +onlyGivenNames y0; clear_value (e1 : y0 = _)
  refine .cut e1 ?_ fun h2 => ?_
  · refine .trans ?_ (advance_keeps ..)
    exact .refl _
  clear e1
  refine .next ?_
  refine .trans ?_ (endFill_keeps ..)
  exact h2

theorem execFilterSync_keeps {m : Nat} x0 s (hm : Within 16777216 m := by first | exact .trans (by assumption) ⟨rfl⟩ | exact ⟨rfl⟩) : KeepsR m s (execFilterSync x0 s) := by
  unfold execFilterSync
  extract_lets -merge -useContext +onlyGivenNames y0; clear_value (e1 : y0 = _)
  refine .cut e1 ?_ fun h2 => ?_
  · refine .trans ?_ (advance_keeps ..)
    exact .refl _
  clear e1
  refine .next ?_
  split
  · exact h2
  · refine .ite (by exact h2) ?_
    refine .trans ?_ (reply_keeps ..)
    refine .trans ?_ (syncChain_keeps ..)
    refine .upd ?_
    exact h2

theorem stageOpening_keeps {m : Nat} s  : Keeps m s (stageOpening s) := by
  unfold stageOpening
  extract_lets -merge -useContext +onlyGivenNames y0; clear_value (e1 : y0 = _)
  refine .trans ?_ (carrying_keeps _ _ ?_)
  rotate_left
  · intro t2
    refine .trans ?_ (Keeps.foldl ?_ _ _)
    rotate_left
    · intro t3 t4
      refine .trans ?_ (stageRecord_keeps ..)
      exact .refl _
    exact .refl _
  refine .upd ?_
  exact .refl _

theorem haltGroup_keeps {m : Nat} x0 s (hm : Within 5771362304 m := by first | exact .trans (by assumption) ⟨rfl⟩ | exact ⟨rfl⟩) : Keeps m s (haltGroup x0 s) := by
  unfold haltGroup
  refine .trans ?_ (abortCapture_keeps ..)
  refine .trans ?_ (cancelArm_keeps ..)
  refine .trans ?_ (endPending_keeps ..)
  exact .refl _

theorem stopDrains_keeps {m : Nat} s (hm : Within 103079215104 m := by first | exact .trans (by assumption) ⟨rfl⟩ | exact ⟨rfl⟩) : Keeps m s (stopDrains s) := by
  unfold stopDrains
  refine .upd ?_
  exact .refl _

theorem failTransition_keeps {m : Nat} s  : Keeps m s (failTransition s) := by
  unfold failTransition
  extract_lets -merge -useContext +onlyGivenNames y0; clear_value (e1 : y0 = _)
  extract_lets -merge -useContext +onlyGivenNames y2; clear_value (e3 : y2 = _)
  extract_lets -merge -useContext +onlyGivenNames y4; clear_value (e5 : y4 = _)
  extract_lets -merge -useContext +onlyGivenNames y6; clear_value (e7 : y6 = _)
  refine .cut e7 ?_ fun h8 => ?_
  · refine .upd ?_
    exact .refl _
  clear e7
  extract_lets -merge -useContext +onlyGivenNames y9; clear_value (e10 : y9 = _)
  refine .cut e10 ?_ fun h11 => ?_
  · split
    · refine .trans ?_ (replyOpt_keeps ..)
      exact h8
    · exact h8
  clear e10
  refine .trans ?_ (forAll_keeps _ _ _ ?_)
  rotate_left
  · intro t12 t13
    refine .trans ?_ (reply_keeps ..)
    exact .refl _
  exact h11

theorem failMemory_keeps {m : Nat} s  : Keeps m s (failMemory s) := by
  unfold failMemory
  extract_lets -merge -useContext +onlyGivenNames y0; clear_value (e1 : y0 = _)
  extract_lets -merge -useContext +onlyGivenNames y2; clear_value (e3 : y2 = _)
  extract_lets -merge -useContext +onlyGivenNames y4; clear_value (e5 : y4 = _)
  extract_lets -merge -useContext +onlyGivenNames y6; clear_value (e7 : y6 = _)
  refine .cut e7 ?_ fun h8 => ?_
  · refine .upd ?_
    exact .refl _
  clear e7
  extract_lets -merge -useContext +onlyGivenNames y9; clear_value (e10 : y9 = _)
  refine .cut e10 ?_ fun h11 => ?_
  · split
    · refine .trans ?_ (replyOpt_keeps ..)
      exact h8
    · exact h8
  clear e10
  split
  · refine .trans ?_ (reply_keeps ..)
    exact h11
  · exact h11

theorem failSpill_keeps {m : Nat} s  : Keeps m s (failSpill s) := by
  unfold failSpill
  split
  · refine .trans ?_ (reply_keeps ..)
    refine .upd ?_
    exact .refl _
  · exact .refl _

theorem failClearings_keeps {m : Nat} s (hm : Within 4294967296 m := by first | exact .trans (by assumption) ⟨rfl⟩ | exact ⟨rfl⟩) : Keeps m s (failClearings s) := by
  unfold failClearings
  refine .trans ?_ (forEach_keeps _ _ _ ?_)
  rotate_left
  · intro t0 t1
    split
    · refine .trans ?_ (reply_keeps ..)
      refine .trans ?_ (updAcc_keeps ..)
      exact .refl _
    · exact .refl _
  exact .refl _

theorem failCalibrations_keeps {m : Nat} s  : Keeps m s (failCalibrations s) := by
  unfold failCalibrations
  extract_lets -merge -useContext +onlyGivenNames y0; clear_value (e1 : y0 = _)
  refine .trans ?_ (forAll_keeps _ _ _ ?_)
  rotate_left
  · intro t2 t3
    refine .trans ?_ (replyOpt_keeps ..)
    exact .refl _
  refine .upd ?_
  exact .refl _

theorem failActions_keeps {m : Nat} s (hm : Within 4294967296 m := by first | exact .trans (by assumption) ⟨rfl⟩ | exact ⟨rfl⟩) : Keeps m s (failActions s) := by
  unfold failActions
  refine .trans ?_ (failTransition_keeps ..)
  refine .trans ?_ (failFilterSync_keeps ..)
  refine .trans ?_ (failMemory_keeps ..)
  refine .trans ?_ (failSpill_keeps ..)
  refine .trans ?_ (failClearings_keeps ..)
  refine .trans ?_ (failCalibrations_keeps ..)
  exact .refl _

theorem haltModule_keeps {m : Nat} x0 x1 s (hm : Within 19101231088128 m := by first | exact .trans (by assumption) ⟨rfl⟩ | exact ⟨rfl⟩) : Keeps m s (haltModule x0 x1 s) := by
  unfold haltModule
  refine .ite (by exact .refl _) ?_
  extract_lets -merge -useContext +onlyGivenNames y0; clear_value (e1 : y0 = _)
  refine .cut e1 ?_ fun h2 => ?_
  · refine .ite ?_ (by exact .refl _)
    refine .trans ?_ (loseMemory_keeps ..)
    exact .refl _
  clear e1
  extract_lets -merge -useContext +onlyGivenNames y3; clear_value (e4 : y3 = _)
  refine .cut e4 ?_ fun h5 => ?_
  · refine .trans ?_ (idleAccumulators_keeps ..)
    refine .trans ?_ (stopEngines_keeps ..)
    refine .trans ?_ (forEach_keeps _ _ _ ?_)
    rotate_left
    · intro t6 t7
      refine .trans ?_ (haltGroup_keeps ..)
      exact .refl _
    refine .trans ?_ (stageOpening_keeps ..)
    exact h2
  clear e4
  extract_lets -merge -useContext +onlyGivenNames y8; clear_value (e9 : y8 = _)
  refine .cut e9 ?_ fun h10 => ?_
  · refine .trans ?_ (stopDrains_keeps ..)
    refine .trans ?_ (stopPorts_keeps ..)
    refine .trans ?_ (convertersDown_keeps ..)
    refine .trans ?_ (memorySleep_keeps ..)
    refine .trans ?_ (failActions_keeps ..)
    exact h5
  clear e9
  extract_lets -merge -useContext +onlyGivenNames y11; clear_value (e12 : y11 = _)
  refine .cut e12 ?_ fun h13 => ?_
  · refine .trans ?_ (flushFifo_keeps ..)
    refine .trans ?_ (record_keeps ..)
    exact h10
  clear e12
  extract_lets -merge -useContext +onlyGivenNames y14; clear_value (e15 : y14 = _)
  extract_lets -merge -useContext +onlyGivenNames y16; clear_value (e17 : y16 = _)
  extract_lets -merge -useContext +onlyGivenNames y18; clear_value (e19 : y18 = _)
  extract_lets -merge -useContext +onlyGivenNames y20; clear_value (e21 : y20 = _)
  extract_lets -merge -useContext +onlyGivenNames y22; clear_value (e23 : y22 = _)
  refine .cut e23 ?_ fun h24 => ?_
  · refine .upd ?_
    exact h13
  clear e23
  refine .trans ?_ (setBootState_keeps ..)
  exact h24

theorem execFirmwareStarted_keeps {m : Nat} x0 s (hm : Within 19103395373568 m := by first | exact .trans (by assumption) ⟨rfl⟩ | exact ⟨rfl⟩) : KeepsR m s (execFirmwareStarted x0 s) := by
  unfold execFirmwareStarted
  extract_lets -merge -useContext +onlyGivenNames y0; clear_value (e1 : y0 = _)
  refine .cut e1 ?_ fun h2 => ?_
  · refine .trans ?_ (advance_keeps ..)
    exact .refl _
  clear e1
  refine .next ?_
  refine .ite (by exact h2) ?_
  extract_lets -merge -useContext +onlyGivenNames y3; clear_value (e4 : y3 = _)
  refine .cut e4 ?_ fun h5 => ?_
  · refine .trans ?_ (stageOpening_keeps ..)
    exact h2
  clear e4
  refine .ite ?_ ?_
  · refine .trans ?_ (haltModule_keeps ..)
    exact h5
  · extract_lets -merge -useContext +onlyGivenNames y6; clear_value (e7 : y6 = _)
    refine .cut e7 ?_ fun h8 => ?_
    · refine .trans ?_ (endBootState_keeps ..)
      exact h5
    clear e7
    refine .ite ?_ (by exact h8)
    refine .trans ?_ (applyDefaults_keeps ..)
    exact h8

theorem execFltConfigureChain_keeps {m : Nat} x0 s (hm : Within 8388608 m := by first | exact .trans (by assumption) ⟨rfl⟩ | exact ⟨rfl⟩) : KeepsR m s (execFltConfigureChain x0 s) := by
  unfold execFltConfigureChain
  refine .next ?_
  refine .trans ?_ (runRequest_keeps _ _ _ (by exact fltConfigureChainCmd_keeps ))
  exact .refl _

theorem fltGetStatusCmd_keeps {m : Nat} (w : Waiter) (q : Request) (s : State)  : Keeps m s (fltGetStatusCmd.act w q s) := by
  dsimp -zeta only [fltGetStatusCmd, setCmd, readCmd, readClearCmd]
  refine .trans ?_ (reply_keeps ..)
  refine .trans ?_ (updSession_keeps ..)
  refine .upd ?_
  exact .refl _

theorem execFltGetStatus_keeps {m : Nat} x0 s  : KeepsR m s (execFltGetStatus x0 s) := by
  unfold execFltGetStatus
  refine .next ?_
  refine .trans ?_ (runRequest_keeps _ _ _ (by exact fltGetStatusCmd_keeps ))
  exact .refl _

theorem execFltLoadFir_keeps {m : Nat} x0 s (hm : Within 8388608 m := by first | exact .trans (by assumption) ⟨rfl⟩ | exact ⟨rfl⟩) : KeepsR m s (execFltLoadFir x0 s) := by
  unfold execFltLoadFir
  refine .next ?_
  refine .trans ?_ (runRequest_keeps _ _ _ (by exact fltLoadFirCmd_keeps ))
  exact .refl _

theorem execFltSetInput_keeps {m : Nat} x0 s (hm : Within 16777216 m := by first | exact .trans (by assumption) ⟨rfl⟩ | exact ⟨rfl⟩) : KeepsR m s (execFltSetInput x0 s) := by
  unfold execFltSetInput
  refine .next ?_
  refine .trans ?_ (runRequest_keeps _ _ _ (by exact fltSetInputCmd_keeps ))
  exact .refl _

theorem execFltStart_keeps {m : Nat} x0 s (hm : Within 16777216 m := by first | exact .trans (by assumption) ⟨rfl⟩ | exact ⟨rfl⟩) : KeepsR m s (execFltStart x0 s) := by
  unfold execFltStart
  refine .next ?_
  refine .trans ?_ (runRequest_keeps _ _ _ (by exact fltStartCmd_keeps ))
  exact .refl _

theorem execFltStop_keeps {m : Nat} x0 s (hm : Within 16777216 m := by first | exact .trans (by assumption) ⟨rfl⟩ | exact ⟨rfl⟩) : KeepsR m s (execFltStop x0 s) := by
  unfold execFltStop
  refine .next ?_
  refine .trans ?_ (runRequest_keeps _ _ _ (by exact fltStopCmd_keeps ))
  exact .refl _

theorem execFltSync_keeps {m : Nat} x0 s  : KeepsR m s (execFltSync x0 s) := by
  unfold execFltSync
  refine .next ?_
  refine .trans ?_ (runRequest_keeps _ _ _ (by exact fltSyncCmd_keeps ))
  exact .refl _

theorem noteOverdrive_keeps {m : Nat} x0 x1 s (hm : Within 524288 m := by first | exact .trans (by assumption) ⟨rfl⟩ | exact ⟨rfl⟩) : Keeps m s (noteOverdrive x0 x1 s) := by
  unfold noteOverdrive
  refine .trans ?_ (abandonSeams_keeps ..)
  refine .trans ?_ (updInput_keeps ..)
  exact .refl _

theorem noteOverrange_keeps {m : Nat} x0 x1 s (hm : Within 524288 m := by first | exact .trans (by assumption) ⟨rfl⟩ | exact ⟨rfl⟩) : Keeps m s (noteOverrange x0 x1 s) := by
  unfold noteOverrange
  refine .ite (by exact .refl _) ?_
  extract_lets -merge -useContext +onlyGivenNames y0; clear_value (e1 : y0 = _)
  refine .cut e1 ?_ fun h2 => ?_
  · refine .trans ?_ (updSince_keeps ..)
    exact .refl _
  clear e1
  extract_lets -merge -useContext +onlyGivenNames y3; clear_value (e4 : y3 = _)
  refine .cut e4 ?_ fun h5 => ?_
  · refine .trans ?_ (forAll_keeps _ _ _ ?_)
    rotate_left
    · intro t6 t7
      refine .trans ?_ (noteOverdrive_keeps ..)
      exact .refl _
    exact h2
  clear e4
  split
  · refine .ite (by exact h5) ?_
    refine .trans ?_ (record_keeps ..)
    refine .trans ?_ (updInput_keeps ..)
    exact h5
  · exact h5

theorem scanInput_keeps {m : Nat} x0 x1 x2 s (hm : Within 524288 m := by first | exact .trans (by assumption) ⟨rfl⟩ | exact ⟨rfl⟩) : Keeps m s (scanInput x0 x1 x2 s) := by
  unfold scanInput
  refine .ite (by exact .refl _) ?_
  refine .trans ?_ (noteOverrange_keeps ..)
  exact .refl _

theorem pruneInterruptions_keeps {m : Nat} x0 s  : Keeps m s (pruneInterruptions x0 s) := by
  unfold pruneInterruptions
  refine .upd ?_
  exact .refl _

theorem execFrameDeposit_keeps {m : Nat} x0 x1 s (hm : Within 1124597760 m := by first | exact .trans (by assumption) ⟨rfl⟩ | exact ⟨rfl⟩) : KeepsR m s (execFrameDeposit x0 x1 s) := by
  unfold execFrameDeposit
  extract_lets -merge -useContext +onlyGivenNames y0; clear_value (e1 : y0 = _)
  refine .cut e1 ?_ fun h2 => ?_
  · refine .trans ?_ (advance_keeps ..)
    exact .refl _
  clear e1
  refine .next ?_
  refine .ite (by exact h2) ?_
  extract_lets -merge -useContext +onlyGivenNames y3; clear_value (e4 : y3 = _)
  extract_lets -merge -useContext +onlyGivenNames y5; clear_value (e6 : y5 = _)
  extract_lets -merge -useContext +onlyGivenNames y7; clear_value (e8 : y7 = _)
  refine .cut e8 ?_ fun h9 => ?_
  · refine .ite ?_ (by exact h2)
    refine .trans ?_ (syncChain_keeps ..)
    refine .upd ?_
    exact h2
  clear e8
  extract_lets -merge -useContext +onlyGivenNames y10; clear_value (e11 : y10 = _)
  refine .cut e11 ?_ fun h12 => ?_
  · refine .trans ?_ (forEach_keeps _ _ _ ?_)
    rotate_left
    · intro t13 t14
      refine .trans ?_ (scanInput_keeps ..)
      exact .refl _
    exact h9
  clear e11
  extract_lets -merge -useContext +onlyGivenNames y15; clear_value (e16 : y15 = _)
  refine .cut e16 ?_ fun h17 => ?_
  · refine .trans ?_ (forEach_keeps _ _ _ ?_)
    rotate_left
    · intro t18 t19
      refine .trans ?_ (depositInput_keeps ..)
      exact .refl _
    exact h12
  clear e16
  refine .trans ?_ (pruneInterruptions_keeps ..)
  refine .upd ?_
  exact h17

theorem execFwCommit_keeps {m : Nat} x0 s (hm : Within 16 m := by first | exact .trans (by assumption) ⟨rfl⟩ | exact ⟨rfl⟩) : KeepsR m s (execFwCommit x0 s) := by
  unfold execFwCommit
  refine .next ?_
  refine .trans ?_ (runRequest_keeps _ _ _ (by exact fwCommitCmd_keeps ))
  exact .refl _

theorem fwWriteCmd_keeps {m : Nat} (w : Waiter) (q : Request) (s : State) (hm : Within 32 m := by first | exact .trans (by assumption) ⟨rfl⟩ | exact ⟨rfl⟩) : Keeps m s (fwWriteCmd.act w q s) := by
  dsimp -zeta only [fwWriteCmd, setCmd, readCmd, readClearCmd]
  refine .trans ?_ (reply_keeps ..)
  refine .upd ?_
  exact .refl _

theorem execFwWrite_keeps {m : Nat} x0 s (hm : Within 32 m := by first | exact .trans (by assumption) ⟨rfl⟩ | exact ⟨rfl⟩) : KeepsR m s (execFwWrite x0 s) := by
  unfold execFwWrite
  refine .next ?_
  refine .trans ?_ (runRequest_keeps _ _ _ (by exact fwWriteCmd_keeps ))
  exact .refl _

theorem settleGate_keeps {m : Nat} (x0 x1 : Nat)  : ∀ x2 s (hm : Within 294205259776 m := by first | exact .trans (by assumption) ⟨rfl⟩ | exact ⟨rfl⟩), Keeps m s (settleGate x0 x1 x2 s)
  | 0, s, hm => Keeps.refl s
  | fuel + 1, s, hm => by
    unfold settleGate
    extract_lets +onlyGivenNames g
    exact Keeps.ite ((updTach_keeps _ _ _).trans (settleGate_keeps x0 x1 fuel _))
      (Keeps.ite ((endGate_keeps _ _).trans (settleGate_keeps x0 x1 fuel _)) (Keeps.refl _))

theorem execGateEnd_keeps {m : Nat} x0 x1 s (hm : Within 294205259776 m := by first | exact .trans (by assumption) ⟨rfl⟩ | exact ⟨rfl⟩) : KeepsR m s (execGateEnd x0 x1 s) := by
  unfold execGateEnd
  extract_lets -merge -useContext +onlyGivenNames y0; clear_value (e1 : y0 = _)
  refine .cut e1 ?_ fun h2 => ?_
  · refine .trans ?_ (advance_keeps ..)
    exact .refl _
  clear e1
  refine .next ?_
  refine .trans ?_ (settleGate_keeps ..)
  exact h2

theorem execGateStart_keeps {m : Nat} x0 x1 s (hm : Within 294205259776 m := by first | exact .trans (by assumption) ⟨rfl⟩ | exact ⟨rfl⟩) : KeepsR m s (execGateStart x0 x1 s) := by
  unfold execGateStart
  extract_lets -merge -useContext +onlyGivenNames y0; clear_value (e1 : y0 = _)
  refine .cut e1 ?_ fun h2 => ?_
  · refine .trans ?_ (advance_keeps ..)
    exact .refl _
  clear e1
  refine .next ?_
  refine .trans ?_ (settleGate_keeps ..)
  exact h2

theorem reviewStop_keeps {m : Nat} x0 s (hm : Within 1476395008 m := by first | exact .trans (by assumption) ⟨rfl⟩ | exact ⟨rfl⟩) : Keeps m s (reviewStop x0 s) := by
  unfold reviewStop
  extract_lets -merge -useContext +onlyGivenNames y0; clear_value (e1 : y0 = _)
  split
  · refine .ite (by exact .refl _) ?_
    refine .trans ?_ (endCapture_keeps ..)
    exact .refl _
  · exact .refl _

theorem execGroupDisarm_keeps {m : Nat} x0 x1 s (hm : Within 5838471168 m := by first | exact .trans (by assumption) ⟨rfl⟩ | exact ⟨rfl⟩) : KeepsR m s (execGroupDisarm x0 x1 s) := by
  unfold execGroupDisarm
  extract_lets -merge -useContext +onlyGivenNames y0; clear_value (e1 : y0 = _)
  refine .cut e1 ?_ fun h2 => ?_
  · refine .trans ?_ (evaluate_keeps ..)
    refine .trans ?_ (advance_keeps ..)
    exact .refl _
  clear e1
  extract_lets -merge -useContext +onlyGivenNames y3; clear_value (e4 : y3 = _)
  refine .cut e4 ?_ fun h5 => ?_
  · refine .trans ?_ (endFill_keeps ..)
    exact h2
  clear e4
  refine .next ?_
  refine .ite (by exact h5) ?_
  refine .trans ?_ (reviewStops_keeps ..)
  refine .trans ?_ (reviewStop_keeps ..)
  exact h5

theorem execHamConfigure_keeps {m : Nat} x0 s (hm : Within 4294967296 m := by first | exact .trans (by assumption) ⟨rfl⟩ | exact ⟨rfl⟩) : KeepsR m s (execHamConfigure x0 s) := by
  unfold execHamConfigure
  refine .next ?_
  refine .trans ?_ (runRequest_keeps _ _ _ (by exact hamConfigureCmd_keeps ))
  exact .refl _

theorem hamGetStatusCmd_keeps {m : Nat} (w : Waiter) (q : Request) (s : State)  : Keeps m s (hamGetStatusCmd.act w q s) := by
  dsimp -zeta only [hamGetStatusCmd, setCmd, readCmd, readClearCmd]
  refine .trans ?_ (reply_keeps ..)
  exact .refl _

theorem execHamGetStatus_keeps {m : Nat} x0 s  : KeepsR m s (execHamGetStatus x0 s) := by
  unfold execHamGetStatus
  refine .next ?_
  refine .trans ?_ (runRequest_keeps _ _ _ (by exact hamGetStatusCmd_keeps ))
  exact .refl _

theorem execHamRelease_keeps {m : Nat} x0 s (hm : Within 4294967296 m := by first | exact .trans (by assumption) ⟨rfl⟩ | exact ⟨rfl⟩) : KeepsR m s (execHamRelease x0 s) := by
  unfold execHamRelease
  refine .next ?_
  refine .trans ?_ (runRequest_keeps _ _ _ (by exact hamReleaseCmd_keeps ))
  exact .refl _

theorem execHamSpill_keeps {m : Nat} x0 s  : KeepsR m s (execHamSpill x0 s) := by
  unfold execHamSpill
  refine .next ?_
  refine .trans ?_ (runRequest_keeps _ _ _ (by exact hamSpillCmd_keeps ))
  exact .refl _

theorem execHamStart_keeps {m : Nat} x0 s (hm : Within 4294967296 m := by first | exact .trans (by assumption) ⟨rfl⟩ | exact ⟨rfl⟩) : KeepsR m s (execHamStart x0 s) := by
  unfold execHamStart
  refine .next ?_
  refine .trans ?_ (runRequest_keeps _ _ _ (by exact hamStartCmd_keeps ))
  exact .refl _

theorem execHamStop_keeps {m : Nat} x0 s (hm : Within 4294967296 m := by first | exact .trans (by assumption) ⟨rfl⟩ | exact ⟨rfl⟩) : KeepsR m s (execHamStop x0 s) := by
  unfold execHamStop
  refine .next ?_
  refine .trans ?_ (runRequest_keeps _ _ _ (by exact hamStopCmd_keeps ))
  exact .refl _

theorem execHamperClearingEnd_keeps {m : Nat} x0 x1 s (hm : Within 4294967296 m := by first | exact .trans (by assumption) ⟨rfl⟩ | exact ⟨rfl⟩) : KeepsR m s (execHamperClearingEnd x0 x1 s) := by
  unfold execHamperClearingEnd
  extract_lets -merge -useContext +onlyGivenNames y0; clear_value (e1 : y0 = _)
  refine .cut e1 ?_ fun h2 => ?_
  · refine .trans ?_ (advance_keeps ..)
    exact .refl _
  clear e1
  refine .next ?_
  split
  · exact h2
  · refine .trans ?_ (reply_keeps ..)
    refine .trans ?_ (updAcc_keeps ..)
    exact h2

theorem headToHamper_keeps {m : Nat} x0 x1 x2 x3 x4 x5 s (hm : Within 4294967296 m := by first | exact .trans (by assumption) ⟨rfl⟩ | exact ⟨rfl⟩) : Keeps m s (headToHamper x0 x1 x2 x3 x4 x5 s) := by
  unfold headToHamper
  extract_lets -merge -useContext +onlyGivenNames y0; clear_value (e1 : y0 = _)
  refine .upd ?_
  exact .refl _

theorem routeSlot_keeps {m : Nat} x0 x1 x2 x3 x4 s (hm : Within 4294967296 m := by first | exact .trans (by assumption) ⟨rfl⟩ | exact ⟨rfl⟩) : Keeps m s (routeSlot x0 x1 x2 x3 x4 s) := by
  unfold routeSlot
  refine .trans ?_ (pushData_keeps ..)
  refine .trans ?_ (forAll_keeps _ _ _ ?_)
  rotate_left
  · intro t0 t1
    refine .trans ?_ (headToHamper_keeps ..)
    exact .refl _
  exact .refl _

theorem routeBlock_keeps {m : Nat} x0 x1 x2 s (hm : Within 300647710720 m := by first | exact .trans (by assumption) ⟨rfl⟩ | exact ⟨rfl⟩) : Keeps m s (routeBlock x0 x1 x2 s) := by
  unfold routeBlock
  extract_lets -merge -useContext +onlyGivenNames y0; clear_value (e1 : y0 = _)
  extract_lets -merge -useContext +onlyGivenNames y2; clear_value (e3 : y2 = _)
  refine .cut e3 ?_ fun h4 => ?_
  · split
    · refine .trans ?_ (offer_keeps ..)
      exact .refl _
    · exact .refl _
  clear e3
  split
  · exact h4
  · extract_lets -merge -useContext +onlyGivenNames y5; clear_value (e6 : y5 = _)
    extract_lets -merge -useContext +onlyGivenNames y7; clear_value (e8 : y7 = _)
    refine .ite (by exact h4) ?_
    refine .trans ?_ (updHead_keeps ..)
    refine .trans ?_ (memWrite_keeps ..)
    exact h4

theorem liftSlot_keeps {m : Nat} x0 x1 s (hm : Within 304942678016 m := by first | exact .trans (by assumption) ⟨rfl⟩ | exact ⟨rfl⟩) : Keeps m s (liftSlot x0 x1 s) := by
  unfold liftSlot
  extract_lets -merge -useContext +onlyGivenNames y0; clear_value (e1 : y0 = _)
  extract_lets -merge -useContext +onlyGivenNames y2; clear_value (e3 : y2 = _)
  extract_lets -merge -useContext +onlyGivenNames y4; clear_value (e5 : y4 = _)
  extract_lets -merge -useContext +onlyGivenNames y6; clear_value (e7 : y6 = _)
  refine .cut e7 ?_ fun h8 => ?_
  · refine .trans ?_ (reportAlarms_keeps ..)
    exact .refl _
  clear e7
  refine .ite (by exact h8) ?_
  extract_lets -merge -useContext +onlyGivenNames y9; clear_value (e10 : y9 = _)
  refine .cut e10 ?_ fun h11 => ?_
  · refine .trans ?_ (routeSlot_keeps ..)
    exact h8
  clear e10
  refine .trans ?_ (routeBlock_keeps ..)
  exact h11

theorem execHeadLaneLift_keeps {m : Nat} x0 s (hm : Within 305412440064 m := by first | exact .trans (by assumption) ⟨rfl⟩ | exact ⟨rfl⟩) : KeepsR m s (execHeadLaneLift x0 s) := by
  unfold execHeadLaneLift
  extract_lets -merge -useContext +onlyGivenNames y0; clear_value (e1 : y0 = _)
  refine .cut e1 ?_ fun h2 => ?_
  · refine .trans ?_ (advance_keeps ..)
    exact .refl _
  clear e1
  extract_lets -merge -useContext +onlyGivenNames y3; clear_value (e4 : y3 = _)
  refine .next ?_
  split
  · exact h2
  · split
    · exact h2
    · refine .ite (by exact h2) ?_
      extract_lets -merge -useContext +onlyGivenNames y5; clear_value (e6 : y5 = _)
      extract_lets -merge -useContext +onlyGivenNames y7; clear_value (e8 : y7 = _)
      refine .cut e8 ?_ fun h9 => ?_
      · refine .upd ?_
        exact h2
      clear e8
      refine .trans ?_ (reviewStops_keeps ..)
      refine .trans ?_ (evaluate_keeps ..)
      refine .trans ?_ (liftSlot_keeps ..)
      refine .trans ?_ (updPort_keeps ..)
      exact h9

theorem execHoldoffEnd_keeps {m : Nat} x0 x1 s (hm : Within 134217728 m := by first | exact .trans (by assumption) ⟨rfl⟩ | exact ⟨rfl⟩) : KeepsR m s (execHoldoffEnd x0 x1 s) := by
  unfold execHoldoffEnd
  extract_lets -merge -useContext +onlyGivenNames y0; clear_value (e1 : y0 = _)
  refine .cut e1 ?_ fun h2 => ?_
  · refine .trans ?_ (advance_keeps ..)
    exact .refl _
  clear e1
  refine .next ?_
  split
  · refine .ite ?_ (by exact h2)
    refine .trans ?_ (updTg_keeps ..)
    exact h2
  · exact h2

theorem execHostRingDelivery_keeps {m : Nat} x0 x1 s (hm : Within 326417514496 m := by first | exact .trans (by assumption) ⟨rfl⟩ | exact ⟨rfl⟩) : KeepsR m s (execHostRingDelivery x0 x1 s) := by
  unfold execHostRingDelivery
  extract_lets -merge -useContext +onlyGivenNames y0; clear_value (e1 : y0 = _)
  refine .cut e1 ?_ fun h2 => ?_
  · refine .trans ?_ (advance_keeps ..)
    exact .refl _
  clear e1
  refine .next ?_
  refine .ite (by exact h2) ?_
  extract_lets -merge -useContext +onlyGivenNames y3; clear_value (e4 : y3 = _)
  refine .cut e4 ?_ fun h5 => ?_
  · refine .trans ?_ (dropSpoilt_keeps ..)
    exact h2
  clear e4
  split
  · exact h5
  · split
    · exact h5
    · refine .ite ?_ ?_
      · refine .trans ?_ (pollConsumer_keeps ..)
        exact h5
      · refine .ite (by exact h5) ?_
        split
        · exact h5
        · split
          · exact h5
          · refine .trans ?_ (deliverEntry_keeps ..)
            exact h5

theorem loseFunction_keeps {m : Nat} s (hm : Within 34359742464 m := by first | exact .trans (by assumption) ⟨rfl⟩ | exact ⟨rfl⟩) : Keeps m s (loseFunction s) := by
  unfold loseFunction
  extract_lets -merge -useContext +onlyGivenNames y0; clear_value (e1 : y0 = _)
  refine .cut e1 ?_ fun h2 => ?_
  · refine .ite ?_ (by exact .refl _)
    refine .trans ?_ (record_keeps ..)
    exact .refl _
  clear e1
  extract_lets -merge -useContext +onlyGivenNames y3; clear_value (e4 : y3 = _)
  extract_lets -merge -useContext +onlyGivenNames y5; clear_value (e6 : y5 = _)
  refine .cut e6 ?_ fun h7 => ?_
  · refine .trans ?_ (stopRings_keeps ..)
    refine .upd ?_
    exact h2
  clear e6
  refine .trans ?_ (forEach_keeps _ _ _ ?_)
  rotate_left
  · intro t8 t9
    refine .trans ?_ (closeSession_keeps ..)
    exact .refl _
  exact h7

end Sys2Proof.Machine
end

