-- ==== Sys2Proof/Laws/KeepsE.lean ====
section
/-! SUPPORT. Operations that keep, each after those it calls (5 of 6). -/

set_option Elab.async false

namespace Sys2Proof.Machine

theorem execHotReset_keeps {m : Nat} x0 s (hm : Within 34359742464 m := by first | exact .trans (by assumption) ⟨rfl⟩ | exact ⟨rfl⟩) : KeepsR m s (execHotReset x0 s) := by
  unfold execHotReset
  refine .next ?_
  refine .trans ?_ (loseFunction_keeps ..)
  refine .trans ?_ (advance_keeps ..)
  exact .refl _

theorem execHousekeepingConversionDue_keeps {m : Nat} x0 s  : KeepsR m s (execHousekeepingConversionDue x0 s) := by
  unfold execHousekeepingConversionDue
  extract_lets -merge -useContext +onlyGivenNames y0; clear_value (e1 : y0 = _)
  refine .cut e1 ?_ fun h2 => ?_
  · refine .trans ?_ (advance_keeps ..)
    exact .refl _
  clear e1
  refine .next ?_
  refine .ite (by exact h2) ?_
  refine .trans ?_ (auxNext_keeps ..)
  refine .upd ?_
  exact h2

theorem execIcmpEchoRequest_keeps {m : Nat} x0 x1 x2 x3 x4 s  : KeepsR m s (execIcmpEchoRequest x0 x1 x2 x3 x4 s) := by
  unfold execIcmpEchoRequest
  extract_lets -merge -useContext +onlyGivenNames y0; clear_value (e1 : y0 = _)
  refine .cut e1 ?_ fun h2 => ?_
  · refine .trans ?_ (advance_keeps ..)
    exact .refl _
  clear e1
  refine .next ?_
  refine .ite ?_ (by exact h2)
  refine .trans ?_ (emit_keeps ..)
  exact h2

theorem startGrid_keeps {m : Nat} s  : Keeps m s (startGrid s) := by
  unfold startGrid
  refine .ite (by exact .refl _) ?_
  refine .trans ?_ (anchorHeads_keeps ..)
  refine .trans ?_ (updLoop_keeps ..)
  refine .trans ?_ (driveSample_keeps ..)
  refine .updTime ?_
  exact .refl _

theorem execImageCheckDone_keeps {m : Nat} x0 x1 x2 s (hm : Within 512 m := by first | exact .trans (by assumption) ⟨rfl⟩ | exact ⟨rfl⟩) : KeepsR m s (execImageCheckDone x0 x1 x2 s) := by
  unfold execImageCheckDone
  extract_lets -merge -useContext +onlyGivenNames y0; clear_value (e1 : y0 = _)
  refine .cut e1 ?_ fun h2 => ?_
  · refine .trans ?_ (advance_keeps ..)
    exact .refl _
  clear e1
  refine .next ?_
  refine .ite (by exact h2) ?_
  split
  · refine .trans ?_ (endBootState_keeps ..)
    exact h2
  · extract_lets -merge -useContext +onlyGivenNames y3; clear_value (e4 : y3 = _)
    extract_lets -merge -useContext +onlyGivenNames y5; clear_value (e6 : y5 = _)
    refine .cut e6 ?_ fun h7 => ?_
    · refine .trans ?_ (record_keeps ..)
      refine .trans ?_ (stageOpening_keeps ..)
      exact h2
    clear e6
    refine .trans ?_ (endBootState_keeps ..)
    refine .trans ?_ (startGrid_keeps ..)
    refine .trans ?_ (updLoop_keeps ..)
    exact h7

theorem inpGetStatusCmd_keeps {m : Nat} (w : Waiter) (q : Request) (s : State)  : Keeps m s (inpGetStatusCmd.act w q s) := by
  dsimp -zeta only [inpGetStatusCmd, setCmd, readCmd, readClearCmd]
  refine .trans ?_ (reply_keeps ..)
  refine .trans ?_ (updSession_keeps ..)
  exact .refl _

theorem execInpGetStatus_keeps {m : Nat} x0 s  : KeepsR m s (execInpGetStatus x0 s) := by
  unfold execInpGetStatus
  refine .next ?_
  refine .trans ?_ (runRequest_keeps _ _ _ (by exact inpGetStatusCmd_keeps ))
  exact .refl _

theorem execInpSetEnable_keeps {m : Nat} x0 s (hm : Within 51904512 m := by first | exact .trans (by assumption) ⟨rfl⟩ | exact ⟨rfl⟩) : KeepsR m s (execInpSetEnable x0 s) := by
  unfold execInpSetEnable
  refine .next ?_
  refine .trans ?_ (runRequest_keeps _ _ _ (by exact inpSetEnableCmd_keeps ))
  exact .refl _

theorem execInpSetPair_keeps {m : Nat} x0 s (hm : Within 50855936 m := by first | exact .trans (by assumption) ⟨rfl⟩ | exact ⟨rfl⟩) : KeepsR m s (execInpSetPair x0 s) := by
  unfold execInpSetPair
  refine .next ?_
  refine .trans ?_ (runRequest_keeps _ _ _ (by exact inpSetPairCmd_keeps ))
  exact .refl _

theorem execInputCalibrationDone_keeps {m : Nat} x0 x1 s (hm : Within 1108869120 m := by first | exact .trans (by assumption) ⟨rfl⟩ | exact ⟨rfl⟩) : KeepsR m s (execInputCalibrationDone x0 x1 s) := by
  unfold execInputCalibrationDone
  extract_lets +onlyGivenNames y
  have h : Keeps m s y := advance_keeps _ _
  clear_value y
  refine .next ?_
  split
  · exact h
  · rename_i f t e
    have h1 := h.trans (takeForeground_keeps _ _ _ e)
    refine .trans ?_ (replyOpt_keeps ..)
    refine .trans ?_ (endSubsystem_keeps ..)
    exact (h1.trans (endInterruption_keeps _ _)).trans (applyTrims_keeps _ _ _)

theorem updSource_keeps {m : Nat} x0 x1 s  : Keeps m s (updSource x0 x1 s) := by
  unfold updSource
  refine .upd ?_
  exact .refl _

theorem execInterpolatorRefresh_keeps {m : Nat} x0 x1 x2 x3 x4 s  : KeepsR m s (execInterpolatorRefresh x0 x1 x2 x3 x4 s) := by
  unfold execInterpolatorRefresh
  extract_lets -merge -useContext +onlyGivenNames y0; clear_value (e1 : y0 = _)
  refine .cut e1 ?_ fun h2 => ?_
  · refine .trans ?_ (advance_keeps ..)
    exact .refl _
  clear e1
  extract_lets -merge -useContext +onlyGivenNames y3; clear_value (e4 : y3 = _)
  refine .next ?_
  refine .ite ?_ (by exact h2)
  refine .trans ?_ (updSource_keeps ..)
  exact h2

theorem holdOpen_keeps {m : Nat} x0 x1 s  : Keeps m s (holdOpen x0 x1 s) := by
  unfold holdOpen
  refine .ite (by exact .refl _) ?_
  refine .upd ?_
  exact .refl _

theorem submitDatagram_keeps {m : Nat} x0 x1 s  : Keeps m s (submitDatagram x0 x1 s) := by
  unfold submitDatagram
  extract_lets -merge -useContext +onlyGivenNames y0; first | clear_value (e1 : y0 = _) | skip
  extract_lets -merge -useContext +onlyGivenNames y2; first | clear_value (e3 : y2 = _) | skip
  split
  · exact .refl _
  · refine .trans ?_ (holdRequest_keeps ..)
    exact .refl _
  · refine .ite ?_ ?_
    · refine .trans ?_ (resendReply_keeps ..)
      exact .refl _
    · refine .trans ?_ (holdRequest_keeps ..)
      exact .refl _
  · extract_lets -merge -useContext +onlyGivenNames y4; first | clear_value (e5 : y4 = _) | skip
    refine .ite (by exact .refl _) ?_
    refine .trans ?_ (replyPeer_keeps ..)
    exact .refl _

theorem takeDatagram_keeps {m : Nat} x0 x1 x2 s  : Keeps m s (takeDatagram x0 x1 x2 s) := by
  unfold takeDatagram
  refine .ite (by exact .refl _) ?_
  refine .ite ?_ ?_
  · refine .trans ?_ (holdOpen_keeps ..)
    exact .refl _
  · refine .ite ?_ (by exact .refl _)
    refine .trans ?_ (submitDatagram_keeps ..)
    exact .refl _

theorem takeUdp_keeps {m : Nat} x0 x1 x2 s  : Keeps m s (takeUdp x0 x1 x2 s) := by
  unfold takeUdp
  refine .ite (by exact .refl _) ?_
  extract_lets -merge -useContext +onlyGivenNames y0; clear_value (e1 : y0 = _)
  extract_lets -merge -useContext +onlyGivenNames y2; clear_value (e3 : y2 = _)
  extract_lets -merge -useContext +onlyGivenNames y4; clear_value (e5 : y4 = _)
  refine .trans ?_ (takeDatagram_keeps ..)
  exact .refl _

theorem takeFragment_keeps {m : Nat} x0 x1 x2 x3 x4 x5 s  : Keeps m s (takeFragment x0 x1 x2 x3 x4 x5 s) := by
  unfold takeFragment
  extract_lets -merge -useContext +onlyGivenNames y0; clear_value (e1 : y0 = _)
  extract_lets -merge -useContext +onlyGivenNames y2; clear_value (e3 : y2 = _)
  extract_lets -merge -useContext +onlyGivenNames y4; clear_value (e5 : y4 = _)
  refine .cut e5 ?_ fun h6 => ?_
  · refine .trans ?_ (dropReassembly_keeps ..)
    exact .refl _
  clear e5
  refine .ite (by exact h6) ?_
  split
  · refine .ite ?_ ?_
    · refine .trans ?_ (takeUdp_keeps ..)
      exact h6
    · refine .upd ?_
      exact h6
  · refine .upd ?_
    exact h6

theorem execIpv4FragmentReceived_keeps {m : Nat} x0 x1 x2 x3 x4 x5 x6 s  : KeepsR m s (execIpv4FragmentReceived x0 x1 x2 x3 x4 x5 x6 s) := by
  unfold execIpv4FragmentReceived
  extract_lets -merge -useContext +onlyGivenNames y0; clear_value (e1 : y0 = _)
  refine .cut e1 ?_ fun h2 => ?_
  · refine .trans ?_ (advance_keeps ..)
    exact .refl _
  clear e1
  refine .next ?_
  refine .ite ?_ (by exact h2)
  refine .trans ?_ (takeFragment_keeps ..)
  exact h2

theorem execIrqStatusWrite_keeps {m : Nat} x0 x1 s  : KeepsR m s (execIrqStatusWrite x0 x1 s) := by
  unfold execIrqStatusWrite
  extract_lets -merge -useContext +onlyGivenNames y0; clear_value (e1 : y0 = _)
  refine .cut e1 ?_ fun h2 => ?_
  · refine .trans ?_ (advance_keeps ..)
    exact .refl _
  clear e1
  refine .next ?_
  refine .ite ?_ (by exact h2)
  refine .upd ?_
  exact h2

theorem settleExtest_keeps {m : Nat} x0 s  : Keeps m s (settleExtest x0 s) := by
  unfold settleExtest
  extract_lets -merge -useContext +onlyGivenNames y0; clear_value (e1 : y0 = _)
  extract_lets -merge -useContext +onlyGivenNames y2; clear_value (e3 : y2 = _)
  extract_lets -merge -useContext +onlyGivenNames y4; clear_value (e5 : y4 = _)
  refine .cut e5 ?_ fun h6 => ?_
  · refine .upd ?_
    exact .refl _
  clear e5
  refine .ite (by exact h6) ?_
  refine .trans ?_ (emit_keeps ..)
  exact h6

theorem execJtagTckEdge_keeps {m : Nat} x0 x1 x2 x3 x4 s (hm : Within 70368744177664 m := by first | exact .trans (by assumption) ⟨rfl⟩ | exact ⟨rfl⟩) : KeepsR m s (execJtagTckEdge x0 x1 x2 x3 x4 s) := by
  unfold execJtagTckEdge
  extract_lets -merge -useContext +onlyGivenNames y0; clear_value (e1 : y0 = _)
  refine .cut e1 ?_ fun h2 => ?_
  · refine .trans ?_ (advance_keeps ..)
    exact .refl _
  clear e1
  refine .next ?_
  refine .ite (by exact h2) ?_
  refine .ite ?_ ?_
  · refine .upd ?_
    exact h2
  · extract_lets -merge -useContext +onlyGivenNames y3; clear_value (e4 : y3 = _)
    extract_lets -merge -useContext +onlyGivenNames y5; clear_value (e6 : y5 = _)
    refine .cut e6 ?_ fun h7 => ?_
    · refine .trans ?_ (settleExtest_keeps ..)
      refine .upd ?_
      exact h2
    clear e6
    split
    · refine .trans ?_ (emit_keeps ..)
      exact h7
    · exact h7

theorem execKeyEnrol_keeps {m : Nat} x0 s (hm : Within 1 m := by first | exact .trans (by assumption) ⟨rfl⟩ | exact ⟨rfl⟩) : KeepsR m s (execKeyEnrol x0 s) := by
  unfold execKeyEnrol
  refine .next ?_
  refine .trans ?_ (runRequest_keeps _ _ _ (by exact keyEnrolCmd_keeps ))
  exact .refl _

theorem keyListCmd_keeps {m : Nat} (w : Waiter) (q : Request) (s : State)  : Keeps m s (keyListCmd.act w q s) := by
  dsimp -zeta only [keyListCmd, setCmd, readCmd, readClearCmd]
  refine .trans ?_ (reply_keeps ..)
  exact .refl _

theorem execKeyList_keeps {m : Nat} x0 s  : KeepsR m s (execKeyList x0 s) := by
  unfold execKeyList
  refine .next ?_
  refine .trans ?_ (runRequest_keeps _ _ _ (by exact keyListCmd_keeps ))
  exact .refl _

theorem execKeyRemove_keeps {m : Nat} x0 s (hm : Within 5 m := by first | exact .trans (by assumption) ⟨rfl⟩ | exact ⟨rfl⟩) : KeepsR m s (execKeyRemove x0 s) := by
  unfold execKeyRemove
  refine .next ?_
  refine .trans ?_ (runRequest_keeps _ _ _ (by exact keyRemoveCmd_keeps ))
  exact .refl _

theorem takeSettings_keeps {m : Nat} x0 x1 s (hm : Within 33554432 m := by first | exact .trans (by assumption) ⟨rfl⟩ | exact ⟨rfl⟩) : Keeps m s (takeSettings x0 x1 s) := by
  unfold takeSettings
  refine .trans ?_ (forEach_keeps _ _ _ ?_)
  rotate_left
  · intro t0 t1
    extract_lets -merge -useContext +onlyGivenNames y2; clear_value (e3 : y2 = _)
    split
    · exact .refl _
    · extract_lets -merge -useContext +onlyGivenNames y4; clear_value (e5 : y4 = _)
      refine .cut e5 ?_ fun h6 => ?_
      · refine .trans ?_ (updComparator_keeps ..)
        exact .refl _
      clear e5
      refine .ite ?_ (by exact h6)
      refine .trans ?_ (pushEvent_keeps ..)
      exact h6
  exact .refl _

theorem interruptLane_keeps {m : Nat} x0 x1 s (hm : Within 33554432 m := by first | exact .trans (by assumption) ⟨rfl⟩ | exact ⟨rfl⟩) : Keeps m s (interruptLane x0 x1 s) := by
  unfold interruptLane
  refine .trans ?_ (loseComparators_keeps ..)
  refine .trans ?_ (flushTail_keeps ..)
  exact .refl _

theorem laneSample_keeps {m : Nat} x0 x1 x2 s (hm : Within 33554432 m := by first | exact .trans (by assumption) ⟨rfl⟩ | exact ⟨rfl⟩) : Keeps m s (laneSample x0 x1 x2 s) := by
  unfold laneSample
  refine .trans ?_ (setTail_keeps ..)
  refine .trans ?_ (stepTail_keeps ..)
  exact .refl _

theorem stageOne_keeps {m : Nat} x0 x1 s (hm : Within 33554432 m := by first | exact .trans (by assumption) ⟨rfl⟩ | exact ⟨rfl⟩) : Keeps m s (stageOne x0 x1 s) := by
  unfold stageOne
  extract_lets -merge -useContext +onlyGivenNames y0; clear_value (e1 : y0 = _)
  refine .cut e1 ?_ fun h2 => ?_
  · refine .trans ?_ (takeSettings_keeps ..)
    refine .trans ?_ (passGaps_keeps ..)
    exact .refl _
  clear e1
  extract_lets -merge -useContext +onlyGivenNames y3; clear_value (e4 : y3 = _)
  extract_lets -merge -useContext +onlyGivenNames y5; clear_value (e6 : y5 = _)
  refine .cut e6 ?_ fun h7 => ?_
  · refine .upd ?_
    exact h2
  clear e6
  refine .ite ?_ ?_
  · refine .trans ?_ (interruptLane_keeps ..)
    exact h7
  · refine .trans ?_ (Keeps.foldl ?_ _ _)
    rotate_left
    · intro t8 t9
      refine .trans ?_ (laneSample_keeps ..)
      exact .refl _
    exact h7

theorem leaveDecimated_keeps {m : Nat} x0 x1 x2 s (hm : Within 33554432 m := by first | exact .trans (by assumption) ⟨rfl⟩ | exact ⟨rfl⟩) : Keeps m s (leaveDecimated x0 x1 x2 s) := by
  unfold leaveDecimated
  refine .ite ?_ (by exact .refl _)
  refine .trans ?_ (loseComparators_keeps ..)
  exact .refl _

theorem stageOneDecimated_keeps {m : Nat} x0 x1 s (hm : Within 33554432 m := by first | exact .trans (by assumption) ⟨rfl⟩ | exact ⟨rfl⟩) : Keeps m s (stageOneDecimated x0 x1 s) := by
  unfold stageOneDecimated
  refine .trans ?_ (Keeps.foldl ?_ _ _)
  rotate_left
  · intro t0 t1
    refine .ite (by exact .refl _) ?_
    refine .ite ?_ ?_
    · refine .trans ?_ (loseComparators_keeps ..)
      exact .refl _
    · refine .trans ?_ (inputStep_keeps ..)
      exact .refl _
  exact .refl _

theorem prunePositions_keeps {m : Nat} x0 s (hm : Within 1073741824 m := by first | exact .trans (by assumption) ⟨rfl⟩ | exact ⟨rfl⟩) : Keeps m s (prunePositions x0 s) := by
  unfold prunePositions
  extract_lets -merge -useContext +onlyGivenNames y0; clear_value (e1 : y0 = _)
  extract_lets -merge -useContext +onlyGivenNames y2; clear_value (e3 : y2 = _)
  extract_lets -merge -useContext +onlyGivenNames y4; clear_value (e5 : y4 = _)
  extract_lets -merge -useContext +onlyGivenNames y6; clear_value (e7 : y6 = _)
  extract_lets -merge -useContext +onlyGivenNames y8; clear_value (e9 : y8 = _)
  refine .trans ?_ (updSg_keeps ..)
  exact .refl _

theorem toHamper_keeps {m : Nat} x0 x1 x2 s (hm : Within 4294967296 m := by first | exact .trans (by assumption) ⟨rfl⟩ | exact ⟨rfl⟩) : Keeps m s (toHamper x0 x1 x2 s) := by
  unfold toHamper
  extract_lets -merge -useContext +onlyGivenNames y0; clear_value (e1 : y0 = _)
  extract_lets -merge -useContext +onlyGivenNames y2; clear_value (e3 : y2 = _)
  extract_lets -merge -useContext +onlyGivenNames y4; clear_value (e5 : y4 = _)
  refine .trans ?_ (handSegment_keeps ..)
  exact .refl _

theorem handReady_keeps {m : Nat} x0 s (hm : Within 5368709120 m := by first | exact .trans (by assumption) ⟨rfl⟩ | exact ⟨rfl⟩) : Keeps m s (handReady x0 s) := by
  unfold handReady
  extract_lets -merge -useContext +onlyGivenNames y0; clear_value (e1 : y0 = _)
  extract_lets -merge -useContext +onlyGivenNames y2; clear_value (e3 : y2 = _)
  extract_lets -merge -useContext +onlyGivenNames y4; clear_value (e5 : y4 = _)
  refine .cut e5 ?_ fun h6 => ?_
  · refine .trans ?_ (forAll_keeps _ _ _ ?_)
    rotate_left
    · intro t7 t8
      refine .trans ?_ (toHamper_keeps ..)
      exact .refl _
    exact .refl _
  clear e5
  refine .trans ?_ (updSg_keeps ..)
  exact h6

theorem execLaneLiftsFrame_keeps {m : Nat} x0 x1 s (hm : Within 5889327104 m := by first | exact .trans (by assumption) ⟨rfl⟩ | exact ⟨rfl⟩) : KeepsR m s (execLaneLiftsFrame x0 x1 s) := by
  unfold execLaneLiftsFrame
  extract_lets +onlyGivenNames z
  have h : Keeps m s z := (advance_keeps _ _).trans (endFills_keeps _ _)
  clear_value z
  refine .next ?_
  split
  · exact h
  · rename_i f rest e
    refine .ite h ?_
    extract_lets +onlyGivenNames v u before
    have h1 : Keeps m s u := (h.trans (updInput_keeps _ _ _)).trans (stageOne_keeps _ _ _)
    clear_value u
    split
    rename_i v l e2
    have h2 : Keeps m s v := h1.trans (by have := decimateFrame_keeps (m := m) x1 f u; rw [e2] at this; exact this)
    refine .trans ?_ (reviewStops_keeps ..)
    refine .trans ?_ (evaluate_keeps ..)
    refine .trans ?_ (forEach_keeps _ _ _ fun a t => Keeps.ite ((handReady_keeps _ _).trans (prunePositions_keeps _ _)) (Keeps.refl _))
    refine .trans ?_ (deliverPositions_keeps ..)
    exact h2.trans (((stageOneDecimated_keeps _ _ _).trans (leaveDecimated_keeps _ _ _ _)).trans (passGaps_keeps _ _))

theorem execLinearityTableBuilt_keeps {m : Nat} x0 x1 x2 x3 s  : KeepsR m s (execLinearityTableBuilt x0 x1 x2 x3 s) := by
  unfold execLinearityTableBuilt
  extract_lets -merge -useContext +onlyGivenNames y0; clear_value (e1 : y0 = _)
  refine .cut e1 ?_ fun h2 => ?_
  · refine .trans ?_ (advance_keeps ..)
    exact .refl _
  clear e1
  refine .next ?_
  refine .trans ?_ (putTable_keeps ..)
  exact h2

theorem pollVcore_keeps {m : Nat} s  : Keeps m s (pollVcore s) := by
  unfold pollVcore
  refine .ite ?_ (by exact .refl _)
  refine .trans ?_ (sendPmbus_keeps ..)
  refine .trans ?_ (sendPmbus_keeps ..)
  refine .trans ?_ (sendPmbus_keeps ..)
  exact .refl _

theorem noteWindow_keeps {m : Nat} x0 s  : Keeps m s (noteWindow x0 s) := by
  unfold noteWindow
  extract_lets -merge -useContext +onlyGivenNames y0; clear_value (e1 : y0 = _)
  refine .upd ?_
  exact .refl _

theorem execMarginWindow_keeps {m : Nat} x0 x1 x2 s  : KeepsR m s (execMarginWindow x0 x1 x2 s) := by
  unfold execMarginWindow
  extract_lets -merge -useContext +onlyGivenNames y0; first | clear_value (e1 : y0 = _) | have e1 : y0 = _ := rfl
  refine .cut e1 ?_ fun h2 => ?_
  · refine .trans ?_ (advance_keeps ..)
    exact .refl _
  clear e1
  extract_lets -merge -useContext +onlyGivenNames y3; first | clear_value (e4 : y3 = _) | skip
  extract_lets -merge -useContext +onlyGivenNames y5; first | clear_value (e6 : y5 = _) | have e6 : y5 = _ := rfl
  refine .cut e6 ?_ fun h7 => ?_
  · refine .upd ?_
    exact h2
  clear e6
  refine .next ?_
  refine .ite (by exact h7) ?_
  extract_lets -merge -useContext +onlyGivenNames y8; first | clear_value (e9 : y8 = _) | have e9 : y8 = _ := rfl
  refine .cut e9 ?_ fun h10 => ?_
  · refine .trans ?_ (forEach_keeps _ _ _ ?_)
    rotate_left
    · intro t11 t12
      refine .trans ?_ (closeWindow_keeps ..)
      exact .refl _
    exact h7
  clear e9
  refine .trans ?_ (pollVcore_keeps ..)
  refine .trans ?_ (adaptVcore_keeps ..)
  refine .trans ?_ (noteWindow_keeps ..)
  exact h10

theorem execMarkerEdge_keeps {m : Nat} x0 x1 s (hm : Within 268435456 m := by first | exact .trans (by assumption) ⟨rfl⟩ | exact ⟨rfl⟩) : KeepsR m s (execMarkerEdge x0 x1 s) := by
  unfold execMarkerEdge
  extract_lets -merge -useContext +onlyGivenNames y0; clear_value (e1 : y0 = _)
  refine .cut e1 ?_ fun h2 => ?_
  · refine .trans ?_ (advance_keeps ..)
    exact .refl _
  clear e1
  refine .next ?_
  split
  · exact h2
  · refine .ite (by exact h2) ?_
    refine .trans ?_ (driveMarker_keeps ..)
    refine .trans ?_ (updMarker_keeps ..)
    exact h2

theorem execMbxDoorbellClose_keeps {m : Nat} x0 x1 x2 s  : KeepsR m s (execMbxDoorbellClose x0 x1 x2 s) :=
  doorbell_keeps _ _ _ _ _ fun t => closeByDoorbell_keeps _ t

theorem openByDoorbell_keeps {m : Nat} x0 x1 x2 s  : Keeps m s (openByDoorbell x0 x1 x2 s) := by
  unfold openByDoorbell
  refine .ite ?_ ?_
  · refine .trans ?_ (doorbellResult_keeps ..)
    exact .refl _
  · refine .trans ?_ (doorbellResult_keeps ..)
    refine .trans ?_ (openSession_keeps ..)
    exact .refl _

theorem execMbxDoorbellOpen_keeps {m : Nat} x0 x1 x2 x3 x4 s  : KeepsR m s (execMbxDoorbellOpen x0 x1 x2 x3 x4 s) :=
  doorbell_keeps _ _ _ _ _ fun t => openByDoorbell_keeps _ _ _ t

theorem submit_keeps {m : Nat} x0 s  : Keeps m s (submit x0 s) := by
  unfold submit
  extract_lets -merge -useContext +onlyGivenNames y0; clear_value (e1 : y0 = _)
  split
  · refine .trans ?_ (doorbellResult_keeps ..)
    exact .refl _
  · refine .trans ?_ (doorbellResult_keeps ..)
    exact .refl _
  · extract_lets -merge -useContext +onlyGivenNames y2; clear_value (e3 : y2 = _)
    refine .trans ?_ (doorbellResult_keeps ..)
    refine .trans ?_ (holdRequest_keeps ..)
    exact .refl _
  · extract_lets -merge -useContext +onlyGivenNames y4; clear_value (e5 : y4 = _)
    refine .trans ?_ (doorbellResult_keeps ..)
    refine .trans ?_ (holdRequest_keeps ..)
    exact .refl _

theorem execMbxDoorbellSubmit_keeps {m : Nat} x0 x1 x2 s  : KeepsR m s (execMbxDoorbellSubmit x0 x1 x2 s) :=
  doorbell_keeps _ _ _ _ _ fun t => submit_keeps _ t

theorem memGetStatusCmd_keeps {m : Nat} (w : Waiter) (q : Request) (s : State)  : Keeps m s (memGetStatusCmd.act w q s) := by
  dsimp -zeta only [memGetStatusCmd, setCmd, readCmd, readClearCmd]
  refine .trans ?_ (reply_keeps ..)
  exact .refl _

theorem execMemGetStatus_keeps {m : Nat} x0 s  : KeepsR m s (execMemGetStatus x0 s) := by
  unfold execMemGetStatus
  refine .next ?_
  refine .trans ?_ (runRequest_keeps _ _ _ (by exact memGetStatusCmd_keeps ))
  exact .refl _

theorem failCommand_keeps {m : Nat} s  : Keeps m s (failCommand s) := by
  unfold failCommand
  extract_lets -merge -useContext +onlyGivenNames y0; clear_value (e1 : y0 = _)
  extract_lets -merge -useContext +onlyGivenNames y2; clear_value (e3 : y2 = _)
  split
  · exact .refl _
  · extract_lets -merge -useContext +onlyGivenNames y4; clear_value (e5 : y4 = _)
    refine .trans ?_ (reply_keeps ..)
    exact .refl _

theorem rebuildDescriptor_keeps {m : Nat} x0 s (hm : Within 292057776128 m := by first | exact .trans (by assumption) ⟨rfl⟩ | exact ⟨rfl⟩) : Keeps m s (rebuildDescriptor x0 s) := by
  unfold rebuildDescriptor
  refine .trans ?_ (reviewWaiting_keeps ..)
  refine .trans ?_ (updPh_keeps ..)
  exact .refl _

theorem loseStaged_keeps {m : Nat} s (hm : Within 17179869184 m := by first | exact .trans (by assumption) ⟨rfl⟩ | exact ⟨rfl⟩) : Keeps m s (loseStaged s) := by
  unfold loseStaged
  extract_lets -merge -useContext +onlyGivenNames y0; clear_value (e1 : y0 = _)
  refine .ite ?_ ?_
  · subst e1
    refine .trans ?_ (takeFree_keeps ..)
    exact .refl _
  · extract_lets -merge -useContext +onlyGivenNames y2; clear_value (e3 : y2 = _)
    refine .cut e3 ?_ fun h4 => ?_
    · subst e1
      refine .trans ?_ (takeFree_keeps ..)
      exact .refl _
    clear e3
    refine .trans ?_ (resumeWriter_keeps ..)
    refine .upd ?_
    exact h4

theorem privilegedError_keeps {m : Nat} x0 x1 x2 s (hm : Within 292057776128 m := by first | exact .trans (by assumption) ⟨rfl⟩ | exact ⟨rfl⟩) : Keeps m s (privilegedError x0 x1 x2 s) := by
  unfold privilegedError
  extract_lets -merge -useContext +onlyGivenNames y0; clear_value (e1 : y0 = _)
  extract_lets -merge -useContext +onlyGivenNames y2; clear_value (e3 : y2 = _)
  extract_lets -merge -useContext +onlyGivenNames y4; clear_value (e5 : y4 = _)
  refine .cut e5 ?_ fun h6 => ?_
  · refine .upd ?_
    exact .refl _
  clear e5
  extract_lets -merge -useContext +onlyGivenNames y7; clear_value (e8 : y7 = _)
  refine .cut e8 ?_ fun h9 => ?_
  · refine .trans ?_ (record_keeps ..)
    exact h6
  clear e8
  split
  · refine .trans ?_ (failCommand_keeps ..)
    exact h9
  · refine .trans ?_ (rebuildDescriptor_keeps ..)
    exact h9
  · refine .trans ?_ (loseStaged_keeps ..)
    exact h9
  · exact h9

theorem execMemPrivilegedError_keeps {m : Nat} x0 x1 x2 x3 s (hm : Within 292057776128 m := by first | exact .trans (by assumption) ⟨rfl⟩ | exact ⟨rfl⟩) : KeepsR m s (execMemPrivilegedError x0 x1 x2 x3 s) := by
  unfold execMemPrivilegedError
  extract_lets -merge -useContext +onlyGivenNames y0; clear_value (e1 : y0 = _)
  refine .cut e1 ?_ fun h2 => ?_
  · refine .trans ?_ (advance_keeps ..)
    exact .refl _
  clear e1
  refine .next ?_
  refine .ite ?_ (by exact h2)
  refine .trans ?_ (privilegedError_keeps ..)
  exact h2

theorem retireRank_keeps {m : Nat} x0 s (hm : Within 549755813888 m := by first | exact .trans (by assumption) ⟨rfl⟩ | exact ⟨rfl⟩) : Keeps m s (retireRank x0 s) := by
  unfold retireRank
  refine .ite ?_ ?_
  · refine .upd ?_
    exact .refl _
  · refine .trans ?_ (startRetirement_keeps ..)
    exact .refl _

theorem nextRetirement_keeps {m : Nat} s (hm : Within 549755813888 m := by first | exact .trans (by assumption) ⟨rfl⟩ | exact ⟨rfl⟩) : Keeps m s (nextRetirement s) := by
  unfold nextRetirement
  refine .trans ?_ (forAll_keeps _ _ _ ?_)
  rotate_left
  · intro t0 t1
    refine .trans ?_ (retireRank_keeps ..)
    exact .refl _
  refine .upd ?_
  exact .refl _

theorem execMemRateChanged_keeps {m : Nat} x0 s (hm : Within 549755813888 m := by first | exact .trans (by assumption) ⟨rfl⟩ | exact ⟨rfl⟩) : KeepsR m s (execMemRateChanged x0 s) := by
  unfold execMemRateChanged
  extract_lets -merge -useContext +onlyGivenNames y0; clear_value (e1 : y0 = _)
  refine .cut e1 ?_ fun h2 => ?_
  · refine .trans ?_ (advance_keeps ..)
    exact .refl _
  clear e1
  refine .next ?_
  split
  · exact h2
  · extract_lets -merge -useContext +onlyGivenNames y3; clear_value (e4 : y3 = _)
    refine .ite (by exact h2) ?_
    extract_lets -merge -useContext +onlyGivenNames y5; clear_value (e6 : y5 = _)
    extract_lets -merge -useContext +onlyGivenNames y7; clear_value (e8 : y7 = _)
    refine .cut e8 ?_ fun h9 => ?_
    · refine .trans ?_ (releaseAlert_keeps ..)
      refine .trans ?_ (updLoop_keeps ..)
      refine .upd ?_
      exact h2
    clear e8
    extract_lets -merge -useContext +onlyGivenNames y10; clear_value (e11 : y10 = _)
    refine .cut e11 ?_ fun h12 => ?_
    · refine .trans ?_ (record_keeps ..)
      exact h9
    clear e11
    refine .trans ?_ (nextRetirement_keeps ..)
    refine .trans ?_ (replyOpt_keeps ..)
    exact h12

theorem execMemRemap_keeps {m : Nat} x0 s (hm : Within 36040144322560 m := by first | exact .trans (by assumption) ⟨rfl⟩ | exact ⟨rfl⟩) : KeepsR m s (execMemRemap x0 s) := by
  unfold execMemRemap
  refine .next ?_
  refine .trans ?_ (runRequest_keeps _ _ _ (by exact memRemapCmd_keeps ))
  exact .refl _

theorem execMemRetireRank_keeps {m : Nat} x0 s (hm : Within 549755813888 m := by first | exact .trans (by assumption) ⟨rfl⟩ | exact ⟨rfl⟩) : KeepsR m s (execMemRetireRank x0 s) := by
  unfold execMemRetireRank
  refine .next ?_
  refine .trans ?_ (runRequest_keeps _ _ _ (by exact memRetireRankCmd_keeps ))
  exact .refl _

theorem execMemSetRate_keeps {m : Nat} x0 s  : KeepsR m s (execMemSetRate x0 s) := by
  unfold execMemSetRate
  refine .next ?_
  refine .trans ?_ (runRequest_keeps _ _ _ (by exact memSetRateCmd_keeps ))
  exact .refl _

theorem poisonLine_keeps {m : Nat} x0 x1 s (hm : Within 824633720832 m := by first | exact .trans (by assumption) ⟨rfl⟩ | exact ⟨rfl⟩) : Keeps m s (poisonLine x0 x1 s) := by
  unfold poisonLine
  extract_lets -merge -useContext +onlyGivenNames y0; clear_value (e1 : y0 = _)
  extract_lets -merge -useContext +onlyGivenNames y2; clear_value (e3 : y2 = _)
  extract_lets -merge -useContext +onlyGivenNames y4; clear_value (e5 : y4 = _)
  extract_lets -merge -useContext +onlyGivenNames y6; clear_value (e7 : y6 = _)
  extract_lets -merge -useContext +onlyGivenNames y8; clear_value (e9 : y8 = _)
  refine .cut e9 ?_ fun h10 => ?_
  · refine .upd ?_
    exact .refl _
  clear e9
  extract_lets -merge -useContext +onlyGivenNames y11; clear_value (e12 : y11 = _)
  refine .cut e12 ?_ fun h13 => ?_
  · refine .trans ?_ (record_keeps ..)
    refine .trans ?_ (updRank_keeps ..)
    exact h10
  clear e12
  split
  · refine .ite (by exact h13) ?_
    refine .trans ?_ (retireRank_keeps ..)
    exact h13
  · refine .ite (by exact h13) ?_
    refine .trans ?_ (retireRank_keeps ..)
    exact h13
  · exact h13

theorem execMemUncorrectable_keeps {m : Nat} x0 x1 x2 s (hm : Within 841813590016 m := by first | exact .trans (by assumption) ⟨rfl⟩ | exact ⟨rfl⟩) : KeepsR m s (execMemUncorrectable x0 x1 x2 s) := by
  unfold execMemUncorrectable
  extract_lets -merge -useContext +onlyGivenNames y0; clear_value (e1 : y0 = _)
  refine .cut e1 ?_ fun h2 => ?_
  · refine .trans ?_ (advance_keeps ..)
    exact .refl _
  clear e1
  refine .next ?_
  refine .ite (by exact h2) ?_
  refine .trans ?_ (answerRequester_keeps ..)
  refine .trans ?_ (poisonLine_keeps ..)
  exact h2

theorem serveMemory_keeps {m : Nat} s (hm : Within 549755813888 m := by first | exact .trans (by assumption) ⟨rfl⟩ | exact ⟨rfl⟩) : Keeps m s (serveMemory s) := by
  unfold serveMemory
  extract_lets -merge -useContext +onlyGivenNames y0; clear_value (e1 : y0 = _)
  extract_lets -merge -useContext +onlyGivenNames y2; clear_value (e3 : y2 = _)
  refine .cut e3 ?_ fun h4 => ?_
  · refine .trans ?_ (updLoop_keeps ..)
    refine .ite ?_ (by exact .refl _)
    refine .trans ?_ (trainAll_keeps ..)
    exact .refl _
  clear e3
  extract_lets -merge -useContext +onlyGivenNames y5; clear_value (e6 : y5 = _)
  extract_lets -merge -useContext +onlyGivenNames y7; clear_value (e8 : y7 = _)
  extract_lets -merge -useContext +onlyGivenNames y9; clear_value (e10 : y9 = _)
  refine .cut e10 ?_ fun h11 => ?_
  · refine .upd ?_
    exact h4
  clear e10
  refine .ite ?_ (by exact h11)
  refine .trans ?_ (nextRetirement_keeps ..)
  exact h11

theorem leaveMemoryState_keeps {m : Nat} s (hm : Within 550864683520 m := by first | exact .trans (by assumption) ⟨rfl⟩ | exact ⟨rfl⟩) : Keeps m s (leaveMemoryState s) := by
  unfold leaveMemoryState
  extract_lets +onlyGivenNames y
  have h : Keeps m s y := (serveMemory_keeps _).trans (startGrid_keeps _)
  clear_value y
  refine .ite ((h.trans (convertersUp_keeps _)).trans (reachIdle_keeps _ _)) ?_
  refine .trans ?_ (askHold_keeps ..)
  have k := endBootState_keeps (m := m) 2 3 y
  refine h.trans (Keeps.of k.1 (k.2.1) (fun hi => ⟨?_, (k.2.2.1 hi).2⟩) (fun x hx => by have e := k.2.2.2 x hx; cases x <;> first | exact e | exact Eq.refl _ | (refine absurd hx (Within.written (by assumption) ?_); rfl)))
  have a := (k.2.2.1 hi).1
  have b := hi.1
  simp only [Sized] at a b ⊢
  exact ⟨a.1, a.2.1, a.2.2.1, a.2.2.2.1, a.2.2.2.2.1, a.2.2.2.2.2.1, b.2.2.2.2.2.2.1, a.2.2.2.2.2.2.2⟩

theorem execMemoryInitialised_keeps {m : Nat} x0 x1 s (hm : Within 54835358990848 m := by first | exact .trans (by assumption) ⟨rfl⟩ | exact ⟨rfl⟩) : KeepsR m s (execMemoryInitialised x0 x1 s) := by
  unfold execMemoryInitialised
  extract_lets -merge -useContext +onlyGivenNames y0; clear_value (e1 : y0 = _)
  refine .cut e1 ?_ fun h2 => ?_
  · refine .trans ?_ (advance_keeps ..)
    exact .refl _
  clear e1
  refine .next ?_
  refine .ite (by exact h2) ?_
  refine .ite ?_ ?_
  · refine .trans ?_ (leaveMemoryState_keeps ..)
    exact h2
  · extract_lets -merge -useContext +onlyGivenNames y3; clear_value (e4 : y3 = _)
    refine .cut e4 ?_ fun h5 => ?_
    · refine .trans ?_ (clearMemory_keeps ..)
      exact h2
    clear e4
    refine .ite ?_ ?_
    · refine .trans ?_ (leaveMemoryState_keeps ..)
      exact h5
    · refine .ite ?_ ?_
      · refine .trans ?_ (haltModule_keeps ..)
        refine .trans ?_ (record_keeps ..)
        exact h5
      · refine .trans ?_ (leaveMemoryState_keeps ..)
        refine .trans ?_ (remap_keeps ..)
        exact h5

theorem execMemoryLoopLockTimeout_keeps {m : Nat} x0 s (hm : Within 19101231088128 m := by first | exact .trans (by assumption) ⟨rfl⟩ | exact ⟨rfl⟩) : KeepsR m s (execMemoryLoopLockTimeout x0 s) := by
  unfold execMemoryLoopLockTimeout
  extract_lets -merge -useContext +onlyGivenNames y0; clear_value (e1 : y0 = _)
  refine .cut e1 ?_ fun h2 => ?_
  · refine .trans ?_ (advance_keeps ..)
    exact .refl _
  clear e1
  refine .next ?_
  split
  · exact h2
  · refine .trans ?_ (haltModule_keeps ..)
    refine .trans ?_ (failMemory_keeps ..)
    exact h2

theorem poisonUnit_keeps {m : Nat} x0 x1 x2 s (hm : Within 274877906944 m := by first | exact .trans (by assumption) ⟨rfl⟩ | exact ⟨rfl⟩) : Keeps m s (poisonUnit x0 x1 x2 s) := by
  unfold poisonUnit
  refine .ite (Keeps.refl _) ?_
  extract_lets +onlyGivenNames lines
  refine forEach_keeps _ _ _ fun i t => ?_
  extract_lets -merge +onlyGivenNames rest r
  have h : Keeps m t r.2 := takeFree_keeps _
  clear_value r
  split
  · exact Keeps.upd h
  · exact h

theorem execMigrationUnitCopied_keeps {m : Nat} x0 x1 x2 s (hm : Within 824633720832 m := by first | exact .trans (by assumption) ⟨rfl⟩ | exact ⟨rfl⟩) : KeepsR m s (execMigrationUnitCopied x0 x1 x2 s) := by
  unfold execMigrationUnitCopied
  extract_lets -merge -useContext +onlyGivenNames y0; clear_value (e1 : y0 = _)
  refine .cut e1 ?_ fun h2 => ?_
  · refine .trans ?_ (advance_keeps ..)
    exact .refl _
  clear e1
  refine .next ?_
  split
  · exact h2
  · refine .ite (by exact h2) ?_
    extract_lets -merge -useContext +onlyGivenNames y3; clear_value (e4 : y3 = _)
    extract_lets -merge -useContext +onlyGivenNames y5; clear_value (e6 : y5 = _)
    refine .cut e6 ?_ fun h7 => ?_
    · refine .upd ?_
      exact h2
    clear e6
    extract_lets -merge -useContext +onlyGivenNames y8; clear_value (e9 : y8 = _)
    refine .cut e9 ?_ fun h10 => ?_
    · refine .trans ?_ (updRank_keeps ..)
      exact h7
    clear e9
    extract_lets -merge -useContext +onlyGivenNames y11; clear_value (e12 : y11 = _)
    refine .cut e12 ?_ fun h13 => ?_
    · refine .trans ?_ (poisonUnit_keeps ..)
      exact h10
    clear e12
    extract_lets -merge -useContext +onlyGivenNames y14; clear_value (e15 : y14 = _)
    extract_lets -merge -useContext +onlyGivenNames y16; clear_value (e17 : y16 = _)
    refine .ite (by exact h13) ?_
    refine .trans ?_ (correctedError_keeps ..)
    subst e15
    refine .trans ?_ (takeFree_keeps ..)
    exact h13

theorem execMsixMask_keeps {m : Nat} x0 x1 s (hm : Within 4096 m := by first | exact .trans (by assumption) ⟨rfl⟩ | exact ⟨rfl⟩) : KeepsR m s (execMsixMask x0 x1 s) := by
  unfold execMsixMask
  extract_lets -merge -useContext +onlyGivenNames y0; clear_value (e1 : y0 = _)
  refine .cut e1 ?_ fun h2 => ?_
  · refine .trans ?_ (advance_keeps ..)
    exact .refl _
  clear e1
  refine .next ?_
  refine .upd ?_
  exact h2

theorem execMsixUnmask_keeps {m : Nat} x0 x1 s (hm : Within 4096 m := by first | exact .trans (by assumption) ⟨rfl⟩ | exact ⟨rfl⟩) : KeepsR m s (execMsixUnmask x0 x1 s) := by
  unfold execMsixUnmask
  extract_lets -merge -useContext +onlyGivenNames y0; clear_value (e1 : y0 = _)
  refine .cut e1 ?_ fun h2 => ?_
  · refine .trans ?_ (advance_keeps ..)
    exact .refl _
  clear e1
  refine .next ?_
  refine .ite (by exact h2) ?_
  extract_lets -merge -useContext +onlyGivenNames y3; clear_value (e4 : y3 = _)
  extract_lets -merge -useContext +onlyGivenNames y5; clear_value (e6 : y5 = _)
  extract_lets -merge -useContext +onlyGivenNames y7; clear_value (e8 : y7 = _)
  refine .cut e8 ?_ fun h9 => ?_
  · refine .upd ?_
    exact h2
  clear e8
  refine .ite ?_ (by exact h9)
  refine .trans ?_ (sendMsix_keeps ..)
  exact h9

theorem execNresetRise_keeps {m : Nat} x0 x1 x2 s (hm : Within 58823872051044 m := by first | exact .trans (by assumption) ⟨rfl⟩ | exact ⟨rfl⟩) : KeepsR m s (execNresetRise x0 x1 x2 s) := by
  unfold execNresetRise
  extract_lets -merge -useContext +onlyGivenNames y0; clear_value (e1 : y0 = _)
  refine .cut e1 ?_ fun h2 => ?_
  · refine .trans ?_ (advance_keeps ..)
    exact .refl _
  clear e1
  refine .next ?_
  refine .ite (by exact h2) ?_
  extract_lets -merge -useContext +onlyGivenNames y3; clear_value (e4 : y3 = _)
  refine .cut e4 ?_ fun h5 => ?_
  · refine .ite ?_ (by exact h2)
    refine .trans ?_ (enterReset_keeps ..)
    exact h2
  clear e4
  extract_lets -merge -useContext +onlyGivenNames y6; clear_value (e7 : y6 = _)
  extract_lets -merge -useContext +onlyGivenNames y8; clear_value (e9 : y8 = _)
  refine .cut e9 ?_ fun h10 => ?_
  · refine .upd ?_
    exact h5
  clear e9
  extract_lets -merge -useContext +onlyGivenNames y11; clear_value (e12 : y11 = _)
  refine .cut e12 ?_ fun h13 => ?_
  · refine .trans ?_ (settleExtest_keeps ..)
    exact h10
  clear e12
  refine .ite ?_ (by exact h13)
  refine .trans ?_ (coldStart_keeps ..)
  exact h13

theorem execOvenFault_keeps {m : Nat} x0 x1 s (hm : Within 32768 m := by first | exact .trans (by assumption) ⟨rfl⟩ | exact ⟨rfl⟩) : KeepsR m s (execOvenFault x0 x1 s) := by
  unfold execOvenFault
  extract_lets -merge -useContext +onlyGivenNames y0; clear_value (e1 : y0 = _)
  refine .cut e1 ?_ fun h2 => ?_
  · refine .trans ?_ (advance_keeps ..)
    exact .refl _
  clear e1
  extract_lets -merge -useContext +onlyGivenNames y3; clear_value (e4 : y3 = _)
  extract_lets -merge -useContext +onlyGivenNames y5; clear_value (e6 : y5 = _)
  refine .cut e6 ?_ fun h7 => ?_
  · refine .upd ?_
    exact h2
  clear e6
  refine .next ?_
  refine .ite (by exact h7) ?_
  refine .trans ?_ (record_keeps ..)
  refine .trans ?_ (assertAlert_keeps ..)
  refine .upd ?_
  exact h7

theorem execOvenReady_keeps {m : Nat} x0 x1 s (hm : Within 32768 m := by first | exact .trans (by assumption) ⟨rfl⟩ | exact ⟨rfl⟩) : KeepsR m s (execOvenReady x0 x1 s) := by
  unfold execOvenReady
  extract_lets -merge -useContext +onlyGivenNames y0; first | clear_value (e1 : y0 = _) | have e1 : y0 = _ := rfl
  refine .cut e1 ?_ fun h2 => ?_
  · refine .trans ?_ (advance_keeps ..)
    exact .refl _
  clear e1
  extract_lets -merge -useContext +onlyGivenNames y3; first | clear_value (e4 : y3 = _) | skip
  extract_lets -merge -useContext +onlyGivenNames y5; first | clear_value (e6 : y5 = _) | have e6 : y5 = _ := rfl
  refine .cut e6 ?_ fun h7 => ?_
  · refine .upd ?_
    exact h2
  clear e6
  refine .next ?_
  refine .ite (by exact h7) ?_
  refine .trans ?_ (record_keeps ..)
  refine .trans ?_ (releaseAlert_keeps ..)
  refine .upd ?_
  exact h7

theorem execOvenTimeout_keeps {m : Nat} x0 x1 x2 s  : KeepsR m s (execOvenTimeout x0 x1 x2 s) := by
  unfold execOvenTimeout
  extract_lets -merge -useContext +onlyGivenNames y0; first | clear_value (e1 : y0 = _) | have e1 : y0 = _ := rfl
  refine .cut e1 ?_ fun h2 => ?_
  · refine .trans ?_ (advance_keeps ..)
    exact .refl _
  clear e1
  extract_lets -merge -useContext +onlyGivenNames y3; first | clear_value (e4 : y3 = _) | skip
  extract_lets -merge -useContext +onlyGivenNames y5; first | clear_value (e6 : y5 = _) | have e6 : y5 = _ := rfl
  refine .cut e6 ?_ fun h7 => ?_
  · refine .upd ?_
    exact h2
  clear e6
  refine .next ?_
  refine .ite (by exact h7) ?_
  refine .trans ?_ (record_keeps ..)
  refine .trans ?_ (assertAlert_keeps ..)
  refine .upd ?_
  exact h7

theorem execOvenUnsettled_keeps {m : Nat} x0 x1 s (hm : Within 32768 m := by first | exact .trans (by assumption) ⟨rfl⟩ | exact ⟨rfl⟩) : KeepsR m s (execOvenUnsettled x0 x1 s) := by
  unfold execOvenUnsettled
  extract_lets -merge -useContext +onlyGivenNames y0; clear_value (e1 : y0 = _)
  refine .cut e1 ?_ fun h2 => ?_
  · refine .trans ?_ (advance_keeps ..)
    exact .refl _
  clear e1
  extract_lets -merge -useContext +onlyGivenNames y3; clear_value (e4 : y3 = _)
  extract_lets -merge -useContext +onlyGivenNames y5; clear_value (e6 : y5 = _)
  refine .cut e6 ?_ fun h7 => ?_
  · refine .upd ?_
    exact h2
  clear e6
  refine .next ?_
  refine .ite ?_ (by exact h7)
  refine .trans ?_ (record_keeps ..)
  refine .upd ?_
  exact h7

theorem execOverdriveDetected_keeps {m : Nat} x0 x1 x2 x3 x4 x5 s (hm : Within 524288 m := by first | exact .trans (by assumption) ⟨rfl⟩ | exact ⟨rfl⟩) : KeepsR m s (execOverdriveDetected x0 x1 x2 x3 x4 x5 s) := by
  unfold execOverdriveDetected
  extract_lets -merge -useContext +onlyGivenNames y0; clear_value (e1 : y0 = _)
  refine .cut e1 ?_ fun h2 => ?_
  · refine .trans ?_ (advance_keeps ..)
    exact .refl _
  clear e1
  refine .next ?_
  refine .ite (by exact h2) ?_
  extract_lets -merge -useContext +onlyGivenNames y3; clear_value (e4 : y3 = _)
  refine .cut e4 ?_ fun h5 => ?_
  · refine .trans ?_ (noteOverdrive_keeps ..)
    exact h2
  clear e4
  refine .ite ?_ (by exact h5)
  refine .trans ?_ (recordLimited_keeps ..)
  refine .trans ?_ (updSince_keeps ..)
  exact h5

theorem nextScrub_keeps {m : Nat} s  : Keeps m s (nextScrub s) := by
  unfold nextScrub
  extract_lets -merge -useContext +onlyGivenNames y0; clear_value (e1 : y0 = _)
  refine .ite ?_ ?_
  · refine .upd ?_
    exact .refl _
  · refine .upd ?_
    exact .refl _

theorem scrubError_keeps {m : Nat} x0 x1 s (hm : Within 841813590016 m := by first | exact .trans (by assumption) ⟨rfl⟩ | exact ⟨rfl⟩) : Keeps m s (scrubError x0 x1 s) := by
  unfold scrubError
  refine .ite ?_ ?_
  · refine .trans ?_ (assertAlert_keeps ..)
    refine .trans ?_ (record_keeps ..)
    refine .trans ?_ (updRank_keeps ..)
    exact .refl _
  · split
    · refine .trans ?_ (poisonLine_keeps ..)
      exact .refl _
    · extract_lets -merge -useContext +onlyGivenNames y0; clear_value (e1 : y0 = _)
      refine .cut e1 ?_ fun h2 => ?_
      · refine .trans ?_ (updRank_keeps ..)
        exact .refl _
      clear e1
      refine .ite ?_ (by exact h2)
      extract_lets -merge -useContext +onlyGivenNames y3; clear_value (e4 : y3 = _)
      extract_lets -merge -useContext +onlyGivenNames y5; clear_value (e6 : y5 = _)
      extract_lets -merge -useContext +onlyGivenNames y7; clear_value (e8 : y7 = _)
      refine .trans ?_ (privilegedError_keeps ..)
      subst e8
      refine .trans ?_ (takeFree_keeps ..)
      subst e6
      refine .trans ?_ (takeFree_keeps ..)
      subst e4
      refine .trans ?_ (takeFree_keeps ..)
      exact h2

theorem execPatrolScrub_keeps {m : Nat} x0 x1 s (hm : Within 841813590016 m := by first | exact .trans (by assumption) ⟨rfl⟩ | exact ⟨rfl⟩) : KeepsR m s (execPatrolScrub x0 x1 s) := by
  unfold execPatrolScrub
  extract_lets -merge -useContext +onlyGivenNames y0; clear_value (e1 : y0 = _)
  refine .cut e1 ?_ fun h2 => ?_
  · refine .trans ?_ (advance_keeps ..)
    exact .refl _
  clear e1
  refine .next ?_
  refine .ite (by exact h2) ?_
  extract_lets -merge -useContext +onlyGivenNames y3; clear_value (e4 : y3 = _)
  extract_lets -merge -useContext +onlyGivenNames y5; clear_value (e6 : y5 = _)
  refine .trans ?_ (nextScrub_keeps ..)
  split
  · exact h2
  · split
    · refine .trans ?_ (correctedError_keeps ..)
      exact h2
    · extract_lets -merge -useContext +onlyGivenNames y7; clear_value (e8 : y7 = _)
      refine .trans ?_ (correctedError_keeps ..)
      subst e8
      refine .trans ?_ (takeFree_keeps ..)
      exact h2
  · refine .trans ?_ (scrubError_keeps ..)
    exact h2

theorem execPauseFrame_keeps {m : Nat} x0 x1 x2 s (hm : Within 68719476736 m := by first | exact .trans (by assumption) ⟨rfl⟩ | exact ⟨rfl⟩) : KeepsR m s (execPauseFrame x0 x1 x2 s) := by
  unfold execPauseFrame
  extract_lets -merge -useContext +onlyGivenNames y0; clear_value (e1 : y0 = _)
  refine .cut e1 ?_ fun h2 => ?_
  · refine .trans ?_ (settlePaused_keeps ..)
    refine .trans ?_ (advance_keeps ..)
    exact .refl _
  clear e1
  refine .next ?_
  refine .ite (by exact h2) ?_
  refine .trans ?_ (updLink_keeps ..)
  exact h2

theorem execPauseTimeExpiry_keeps {m : Nat} x0 x1 s (hm : Within 68719476736 m := by first | exact .trans (by assumption) ⟨rfl⟩ | exact ⟨rfl⟩) : KeepsR m s (execPauseTimeExpiry x0 x1 s) := by
  unfold execPauseTimeExpiry
  extract_lets -merge -useContext +onlyGivenNames y0; clear_value (e1 : y0 = _)
  refine .cut e1 ?_ fun h2 => ?_
  · refine .trans ?_ (advance_keeps ..)
    exact .refl _
  clear e1
  refine .next ?_
  refine .ite ?_ (by exact h2)
  refine .trans ?_ (updLink_keeps ..)
  refine .trans ?_ (settlePaused_keeps ..)
  exact h2

theorem execPcieLinkDown_keeps {m : Nat} x0 s (hm : Within 34359742464 m := by first | exact .trans (by assumption) ⟨rfl⟩ | exact ⟨rfl⟩) : KeepsR m s (execPcieLinkDown x0 s) := by
  unfold execPcieLinkDown
  refine .next ?_
  refine .trans ?_ (loseFunction_keeps ..)
  refine .trans ?_ (advance_keeps ..)
  exact .refl _

theorem execPcieLinkTraining_keeps {m : Nat} x0 s  : KeepsR m s (execPcieLinkTraining x0 s) := by
  unfold execPcieLinkTraining
  extract_lets -merge -useContext +onlyGivenNames y0; clear_value (e1 : y0 = _)
  refine .cut e1 ?_ fun h2 => ?_
  · refine .trans ?_ (advance_keeps ..)
    exact .refl _
  clear e1
  refine .next ?_
  refine .ite (by exact h2) ?_
  refine .upd ?_
  exact h2

theorem execPcieSetClocking_keeps {m : Nat} x0 s (hm : Within 2048 m := by first | exact .trans (by assumption) ⟨rfl⟩ | exact ⟨rfl⟩) : KeepsR m s (execPcieSetClocking x0 s) := by
  unfold execPcieSetClocking
  refine .next ?_
  refine .trans ?_ (runRequest_keeps _ _ _ (by exact pcieSetClockingCmd_keeps ))
  exact .refl _

theorem execPePerstnAsserted_keeps {m : Nat} x0 s (hm : Within 34359742464 m := by first | exact .trans (by assumption) ⟨rfl⟩ | exact ⟨rfl⟩) : KeepsR m s (execPePerstnAsserted x0 s) := by
  unfold execPePerstnAsserted
  extract_lets -merge -useContext +onlyGivenNames y0; clear_value (e1 : y0 = _)
  refine .cut e1 ?_ fun h2 => ?_
  · refine .trans ?_ (loseFunction_keeps ..)
    refine .trans ?_ (advance_keeps ..)
    exact .refl _
  clear e1
  refine .next ?_
  refine .upd ?_
  exact h2

theorem execPePerstnReleased_keeps {m : Nat} x0 s  : KeepsR m s (execPePerstnReleased x0 s) := by
  unfold execPePerstnReleased
  extract_lets -merge -useContext +onlyGivenNames y0; clear_value (e1 : y0 = _)
  refine .cut e1 ?_ fun h2 => ?_
  · refine .trans ?_ (advance_keeps ..)
    exact .refl _
  clear e1
  refine .next ?_
  refine .upd ?_
  exact h2

theorem execPhBindEdge_keeps {m : Nat} x0 s (hm : Within 292057776128 m := by first | exact .trans (by assumption) ⟨rfl⟩ | exact ⟨rfl⟩) : KeepsR m s (execPhBindEdge x0 s) := by
  unfold execPhBindEdge
  refine .next ?_
  refine .trans ?_ (runRequest_keeps _ _ _ (by exact phBindEdgeCmd_keeps ))
  exact .refl _

theorem execPhConfigure_keeps {m : Nat} x0 s (hm : Within 17179869184 m := by first | exact .trans (by assumption) ⟨rfl⟩ | exact ⟨rfl⟩) : KeepsR m s (execPhConfigure x0 s) := by
  unfold execPhConfigure
  refine .next ?_
  refine .trans ?_ (runRequest_keeps _ _ _ (by exact phConfigureCmd_keeps ))
  exact .refl _

theorem execPhFlush_keeps {m : Nat} x0 s (hm : Within 292057776128 m := by first | exact .trans (by assumption) ⟨rfl⟩ | exact ⟨rfl⟩) : KeepsR m s (execPhFlush x0 s) := by
  unfold execPhFlush
  refine .next ?_
  refine .trans ?_ (runRequest_keeps _ _ _ (by exact phFlushCmd_keeps ))
  exact .refl _

theorem phGetStatusCmd_keeps {m : Nat} (w : Waiter) (q : Request) (s : State)  : Keeps m s (phGetStatusCmd.act w q s) := by
  dsimp -zeta only [phGetStatusCmd, setCmd, readCmd, readClearCmd]
  refine .trans ?_ (reply_keeps ..)
  exact .refl _

theorem execPhGetStatus_keeps {m : Nat} x0 s  : KeepsR m s (execPhGetStatus x0 s) := by
  unfold execPhGetStatus
  refine .next ?_
  refine .trans ?_ (runRequest_keeps _ _ _ (by exact phGetStatusCmd_keeps ))
  exact .refl _

theorem servePhRead_keeps {m : Nat} x0 x1 s (hm : Within 292057776128 m := by first | exact .trans (by assumption) ⟨rfl⟩ | exact ⟨rfl⟩) : Keeps m s (servePhRead x0 x1 s) := by
  unfold servePhRead
  extract_lets -merge -useContext +onlyGivenNames y0; clear_value (e1 : y0 = _)
  extract_lets -merge -useContext +onlyGivenNames y2; clear_value (e3 : y2 = _)
  refine .cut e3 ?_ fun h4 => ?_
  · split
    · refine .trans ?_ (dropPoisoned_keeps ..)
      exact .refl _
    · exact .refl _
  clear e3
  split
  · exact h4
  · extract_lets -merge -useContext +onlyGivenNames y5; clear_value (e6 : y5 = _)
    refine .cut e6 ?_ fun h7 => ?_
    · refine .trans ?_ (reply_keeps ..)
      exact h4
    clear e6
    split
    · exact h7
    · refine .ite ?_ (by exact h7)
      refine .trans ?_ (reviewWaiting_keeps ..)
      refine .trans ?_ (entryDelivered_keeps ..)
      exact h7

theorem phReadCmd_keeps {m : Nat} (w : Waiter) (q : Request) (s : State) (hm : Within 292057776128 m := by first | exact .trans (by assumption) ⟨rfl⟩ | exact ⟨rfl⟩) : Keeps m s (phReadCmd.act w q s) := by
  dsimp -zeta only [phReadCmd, setCmd, readCmd, readClearCmd]
  refine .trans ?_ (servePhRead_keeps ..)
  exact .refl _

theorem execPhRead_keeps {m : Nat} x0 s (hm : Within 292057776128 m := by first | exact .trans (by assumption) ⟨rfl⟩ | exact ⟨rfl⟩) : KeepsR m s (execPhRead x0 s) := by
  unfold execPhRead
  refine .next ?_
  refine .trans ?_ (runRequest_keeps _ _ _ (by exact phReadCmd_keeps ))
  exact .refl _

theorem execPhRelease_keeps {m : Nat} x0 s (hm : Within 35210141892608 m := by first | exact .trans (by assumption) ⟨rfl⟩ | exact ⟨rfl⟩) : KeepsR m s (execPhRelease x0 s) := by
  unfold execPhRelease
  refine .next ?_
  refine .trans ?_ (runRequest_keeps _ _ _ (by exact phReleaseCmd_keeps ))
  exact .refl _

theorem execPhRingConfigure_keeps {m : Nat} x0 s (hm : Within 34359738368 m := by first | exact .trans (by assumption) ⟨rfl⟩ | exact ⟨rfl⟩) : KeepsR m s (execPhRingConfigure x0 s) := by
  unfold execPhRingConfigure
  refine .next ?_
  refine .trans ?_ (runRequest_keeps _ _ _ (by exact phRingConfigureCmd_keeps ))
  exact .refl _

theorem execPhRingStart_keeps {m : Nat} x0 s (hm : Within 34359738368 m := by first | exact .trans (by assumption) ⟨rfl⟩ | exact ⟨rfl⟩) : KeepsR m s (execPhRingStart x0 s) := by
  unfold execPhRingStart
  refine .next ?_
  refine .trans ?_ (runRequest_keeps _ _ _ (by exact phRingStartCmd_keeps ))
  exact .refl _

theorem phRingStatusCmd_keeps {m : Nat} (w : Waiter) (q : Request) (s : State)  : Keeps m s (phRingStatusCmd.act w q s) := by
  dsimp -zeta only [phRingStatusCmd, setCmd, readCmd, readClearCmd]
  refine .trans ?_ (reply_keeps ..)
  exact .refl _

theorem execPhRingStatus_keeps {m : Nat} x0 s  : KeepsR m s (execPhRingStatus x0 s) := by
  unfold execPhRingStatus
  refine .next ?_
  refine .trans ?_ (runRequest_keeps _ _ _ (by exact phRingStatusCmd_keeps ))
  exact .refl _

theorem execPhRingStop_keeps {m : Nat} x0 s (hm : Within 34359738368 m := by first | exact .trans (by assumption) ⟨rfl⟩ | exact ⟨rfl⟩) : KeepsR m s (execPhRingStop x0 s) := by
  unfold execPhRingStop
  refine .next ?_
  refine .trans ?_ (runRequest_keeps _ _ _ (by exact phRingStopCmd_keeps ))
  exact .refl _

theorem execPhSetDrain_keeps {m : Nat} x0 s (hm : Within 17179869184 m := by first | exact .trans (by assumption) ⟨rfl⟩ | exact ⟨rfl⟩) : KeepsR m s (execPhSetDrain x0 s) := by
  unfold execPhSetDrain
  refine .next ?_
  refine .trans ?_ (runRequest_keeps _ _ _ (by exact phSetDrainCmd_keeps ))
  exact .refl _

theorem execPhSetPolicy_keeps {m : Nat} x0 s (hm : Within 292057776128 m := by first | exact .trans (by assumption) ⟨rfl⟩ | exact ⟨rfl⟩) : KeepsR m s (execPhSetPolicy x0 s) := by
  unfold execPhSetPolicy
  refine .next ?_
  refine .trans ?_ (runRequest_keeps _ _ _ (by exact phSetPolicyCmd_keeps ))
  exact .refl _

theorem execPhStreamConfigure_keeps {m : Nat} x0 s (hm : Within 68719476736 m := by first | exact .trans (by assumption) ⟨rfl⟩ | exact ⟨rfl⟩) : KeepsR m s (execPhStreamConfigure x0 s) := by
  unfold execPhStreamConfigure
  refine .next ?_
  refine .trans ?_ (runRequest_keeps _ _ _ (by exact phStreamConfigureCmd_keeps ))
  exact .refl _

theorem phStreamStatusCmd_keeps {m : Nat} (w : Waiter) (q : Request) (s : State)  : Keeps m s (phStreamStatusCmd.act w q s) := by
  dsimp -zeta only [phStreamStatusCmd, setCmd, readCmd, readClearCmd]
  refine .trans ?_ (reply_keeps ..)
  exact .refl _

theorem execPhStreamStatus_keeps {m : Nat} x0 s  : KeepsR m s (execPhStreamStatus x0 s) := by
  unfold execPhStreamStatus
  refine .next ?_
  refine .trans ?_ (runRequest_keeps _ _ _ (by exact phStreamStatusCmd_keeps ))
  exact .refl _

theorem execPhaseStepDone_keeps {m : Nat} x0 s  : KeepsR m s (execPhaseStepDone x0 s) := by
  unfold execPhaseStepDone
  extract_lets -merge -useContext +onlyGivenNames y0; clear_value (e1 : y0 = _)
  refine .cut e1 ?_ fun h2 => ?_
  · refine .trans ?_ (advance_keeps ..)
    exact .refl _
  clear e1
  refine .next ?_
  split
  · exact h2
  · refine .trans ?_ (reply_keeps ..)
    refine .upd ?_
    exact h2

theorem execPinReset_keeps {m : Nat} x0 s (hm : Within 40956808098660 m := by first | exact .trans (by assumption) ⟨rfl⟩ | exact ⟨rfl⟩) : KeepsR m s (execPinReset x0 s) := by
  unfold execPinReset
  extract_lets -merge -useContext +onlyGivenNames y0; clear_value (e1 : y0 = _)
  refine .cut e1 ?_ fun h2 => ?_
  · refine .trans ?_ (advance_keeps ..)
    exact .refl _
  clear e1
  extract_lets -merge -useContext +onlyGivenNames y3; clear_value (e4 : y3 = _)
  extract_lets -merge -useContext +onlyGivenNames y5; clear_value (e6 : y5 = _)
  refine .cut e6 ?_ fun h7 => ?_
  · refine .upd ?_
    exact h2
  clear e6
  refine .next ?_
  refine .trans ?_ (settleExtest_keeps ..)
  refine .ite (by exact h7) ?_
  refine .trans ?_ (enterReset_keeps ..)
  exact h7

theorem loseVcore_keeps {m : Nat} x0 s  : Keeps m s (loseVcore x0 s) := by
  unfold loseVcore
  refine .trans ?_ (record_keeps ..)
  refine .trans ?_ (assertAlert_keeps ..)
  refine .upd ?_
  exact .refl _

theorem execPmbusTransaction_keeps {m : Nat} x0 x1 x2 x3 s  : KeepsR m s (execPmbusTransaction x0 x1 x2 x3 s) := by
  unfold execPmbusTransaction
  extract_lets -merge -useContext +onlyGivenNames y0; clear_value (e1 : y0 = _)
  refine .cut e1 ?_ fun h2 => ?_
  · refine .trans ?_ (advance_keeps ..)
    exact .refl _
  clear e1
  refine .next ?_
  split
  · exact h2
  · extract_lets -merge -useContext +onlyGivenNames y3; clear_value (e4 : y3 = _)
    extract_lets -merge -useContext +onlyGivenNames y5; clear_value (e6 : y5 = _)
    refine .cut e6 ?_ fun h7 => ?_
    · refine .upd ?_
      exact h2
    clear e6
    refine .ite (by exact h7) ?_
    refine .ite ?_ ?_
    · refine .trans ?_ (loseVcore_keeps ..)
      exact h7
    · extract_lets -merge -useContext +onlyGivenNames y8; clear_value (e9 : y8 = _)
      refine .cut e9 ?_ fun h10 => ?_
      · refine .upd ?_
        exact h7
      clear e9
      split
      · exact h10
      · refine .trans ?_ (putPmbus_keeps ..)
        exact h10

theorem execPortTrainingEnd_keeps {m : Nat} x0 x1 x2 x3 s (hm : Within 8589934592 m := by first | exact .trans (by assumption) ⟨rfl⟩ | exact ⟨rfl⟩) : KeepsR m s (execPortTrainingEnd x0 x1 x2 x3 s) := by
  unfold execPortTrainingEnd
  extract_lets -merge -useContext +onlyGivenNames y0; clear_value (e1 : y0 = _)
  refine .cut e1 ?_ fun h2 => ?_
  · refine .trans ?_ (advance_keeps ..)
    exact .refl _
  clear e1
  refine .next ?_
  split
  · extract_lets -merge -useContext +onlyGivenNames y3; clear_value (e4 : y3 = _)
    refine .cut e4 ?_ fun h5 => ?_
    · refine .trans ?_ (updPort_keeps ..)
      exact h2
    clear e4
    refine .ite ?_ ?_
    · refine .trans ?_ (startWalk_keeps ..)
      refine .trans ?_ (setPortState_keeps ..)
      exact h5
    · refine .trans ?_ (setPortState_keeps ..)
      exact h5
  · extract_lets -merge -useContext +onlyGivenNames y6; clear_value (e7 : y6 = _)
    refine .cut e7 ?_ fun h8 => ?_
    · refine .trans ?_ (updPort_keeps ..)
      exact h2
    clear e7
    refine .ite ?_ ?_
    · refine .trans ?_ (startWalk_keeps ..)
      refine .trans ?_ (setPortState_keeps ..)
      exact h8
    · refine .trans ?_ (setPortState_keeps ..)
      exact h8
  · exact h2

theorem execPortTrainingRetry_keeps {m : Nat} x0 x1 s (hm : Within 8589934592 m := by first | exact .trans (by assumption) ⟨rfl⟩ | exact ⟨rfl⟩) : KeepsR m s (execPortTrainingRetry x0 x1 s) := by
  unfold execPortTrainingRetry
  extract_lets -merge -useContext +onlyGivenNames y0; clear_value (e1 : y0 = _)
  refine .cut e1 ?_ fun h2 => ?_
  · refine .trans ?_ (advance_keeps ..)
    exact .refl _
  clear e1
  refine .next ?_
  split
  · refine .trans ?_ (updPort_keeps ..)
    exact h2
  · exact h2

theorem memZero_keeps {m : Nat} x0 x1 s (hm : Within 274877906944 m := by first | exact .trans (by assumption) ⟨rfl⟩ | exact ⟨rfl⟩) : Keeps m s (memZero x0 x1 s) :=
  (Keeps.of rfl (Nat.le_refl _) (fun hi => ⟨by simpa [Sized, memZero] using hi.1, cellsWf_filter _ hi.2⟩))

theorem execPostmarkFill_keeps {m : Nat} x0 x1 s (hm : Within 275951648768 m := by first | exact .trans (by assumption) ⟨rfl⟩ | exact ⟨rfl⟩) : KeepsR m s (execPostmarkFill x0 x1 s) := by
  unfold execPostmarkFill
  extract_lets -merge -useContext +onlyGivenNames y0; clear_value (e1 : y0 = _)
  refine .cut e1 ?_ fun h2 => ?_
  · refine .trans ?_ (advance_keeps ..)
    exact .refl _
  clear e1
  extract_lets -merge -useContext +onlyGivenNames y3; clear_value (e4 : y3 = _)
  refine .cut e4 ?_ fun h5 => ?_
  · refine .trans ?_ (endFill_keeps ..)
    exact h2
  clear e4
  extract_lets -merge -useContext +onlyGivenNames y6; clear_value (e7 : y6 = _)
  refine .next ?_
  refine .ite (by exact h5) ?_
  split
  · refine .ite (by exact h5) ?_
    refine .trans ?_ (updSg_keeps ..)
    refine .trans ?_ (memZero_keeps ..)
    exact h5
  · refine .ite (by exact h5) ?_
    extract_lets -merge -useContext +onlyGivenNames y8; clear_value (e9 : y8 = _)
    refine .ite (by exact h5) ?_
    refine .trans ?_ (updSg_keeps ..)
    refine .trans ?_ (memZero_keeps ..)
    exact h5

theorem releaseSegment_keeps {m : Nat} x0 x1 x2 x3 x4 s  : Keeps m s (releaseSegment x0 x1 x2 x3 x4 s) := by
  unfold releaseSegment
  refine .trans ?_ (forAll_keeps _ _ _ ?_)
  rotate_left
  · intro t0 t1
    split
    · exact .refl _
    · extract_lets -merge -useContext +onlyGivenNames y2; clear_value (e3 : y2 = _)
      extract_lets -merge -useContext +onlyGivenNames y4; clear_value (e5 : y4 = _)
      refine .ite ?_ ?_
      · refine .trans ?_ (noteBusy_keeps ..)
        exact .refl _
      · refine .ite ?_ ?_
        · refine .trans ?_ (updJob_keeps ..)
          exact .refl _
        · refine .ite ?_ ?_
          · refine .trans ?_ (updJob_keeps ..)
            exact .refl _
          · refine .ite ?_ ?_
            · refine .trans ?_ (updJob_keeps ..)
              exact .refl _
            · refine .trans ?_ (releaseBlock_keeps ..)
              exact .refl _
  exact .refl _

theorem toEngines_keeps {m : Nat} x0 x1 x2 s  : Keeps m s (toEngines x0 x1 x2 s) := by
  unfold toEngines
  extract_lets -merge -useContext +onlyGivenNames y0; clear_value (e1 : y0 = _)
  extract_lets -merge -useContext +onlyGivenNames y2; clear_value (e3 : y2 = _)
  extract_lets -merge -useContext +onlyGivenNames y4; clear_value (e5 : y4 = _)
  refine .trans ?_ (releaseSegment_keeps ..)
  exact .refl _

theorem execPostmarkWritten_keeps {m : Nat} x0 x1 s (hm : Within 297829138432 m := by first | exact .trans (by assumption) ⟨rfl⟩ | exact ⟨rfl⟩) : KeepsR m s (execPostmarkWritten x0 x1 s) := by
  unfold execPostmarkWritten
  extract_lets -merge -useContext +onlyGivenNames y0; clear_value (e1 : y0 = _)
  refine .cut e1 ?_ fun h2 => ?_
  · refine .trans ?_ (advance_keeps ..)
    exact .refl _
  clear e1
  extract_lets -merge -useContext +onlyGivenNames y3; clear_value (e4 : y3 = _)
  refine .cut e4 ?_ fun h5 => ?_
  · refine .trans ?_ (endFill_keeps ..)
    exact h2
  clear e4
  extract_lets -merge -useContext +onlyGivenNames y6; clear_value (e7 : y6 = _)
  extract_lets -merge -useContext +onlyGivenNames y8; clear_value (e9 : y8 = _)
  refine .next ?_
  split
  · exact h5
  · refine .ite (by exact h5) ?_
    extract_lets -merge -useContext +onlyGivenNames y10; clear_value (e11 : y10 = _)
    extract_lets -merge -useContext +onlyGivenNames y12; clear_value (e13 : y12 = _)
    extract_lets -merge -useContext +onlyGivenNames y14; clear_value (e15 : y14 = _)
    refine .cut e15 ?_ fun h16 => ?_
    · refine .trans ?_ (memWrite_keeps ..)
      exact h5
    clear e15
    extract_lets -merge -useContext +onlyGivenNames y17; clear_value (e18 : y17 = _)
    extract_lets -merge -useContext +onlyGivenNames y19; clear_value (e20 : y19 = _)
    refine .cut e20 ?_ fun h21 => ?_
    · refine .trans ?_ (memWrite_keeps ..)
      exact h16
    clear e20
    extract_lets -merge -useContext +onlyGivenNames y22; clear_value (e23 : y22 = _)
    refine .cut e23 ?_ fun h24 => ?_
    · refine .trans ?_ (toEngines_keeps ..)
      refine .ite (by exact h21) ?_
      refine .trans ?_ (toHamper_keeps ..)
      exact h21
    clear e23
    extract_lets -merge -useContext +onlyGivenNames y25; clear_value (e26 : y25 = _)
    refine .cut e26 ?_ fun h27 => ?_
    · refine .trans ?_ (updSg_keeps ..)
      exact h24
    clear e26
    extract_lets -merge -useContext +onlyGivenNames y28; clear_value (e29 : y28 = _)
    refine .cut e29 ?_ fun h30 => ?_
    · refine .ite ?_ (by exact h27)
      refine .trans ?_ (offer_keeps ..)
      exact h27
    clear e29
    extract_lets -merge -useContext +onlyGivenNames y31; clear_value (e32 : y31 = _)
    refine .cut e32 ?_ fun h33 => ?_
    · refine .trans ?_ (capture_keeps ..)
      exact h30
    clear e32
    refine .trans ?_ (reviewStops_keeps ..)
    refine .trans ?_ (reviewStop_keeps ..)
    refine .trans ?_ (prunePositions_keeps ..)
    exact h33

theorem execPowerDown_keeps {m : Nat} x0 s (hm : Within 58823872050020 m := by first | exact .trans (by assumption) ⟨rfl⟩ | exact ⟨rfl⟩) : KeepsR m s (execPowerDown x0 s) := by
  unfold execPowerDown
  extract_lets -merge -useContext +onlyGivenNames y0; clear_value (e1 : y0 = _)
  refine .cut e1 ?_ fun h2 => ?_
  · refine .trans ?_ (advance_keeps ..)
    exact .refl _
  clear e1
  extract_lets -merge -useContext +onlyGivenNames y3; clear_value (e4 : y3 = _)
  extract_lets -merge -useContext +onlyGivenNames y5; clear_value (e6 : y5 = _)
  refine .cut e6 ?_ fun h7 => ?_
  · refine .upd ?_
    exact h2
  clear e6
  refine .next ?_
  refine .ite (by exact h7) ?_
  refine .ite ?_ ?_
  · refine .trans ?_ (enterReset_keeps ..)
    exact h7
  · extract_lets -merge -useContext +onlyGivenNames y8; clear_value (e9 : y8 = _)
    refine .cut e9 ?_ fun h10 => ?_
    · refine .trans ?_ (memorySleep_keeps ..)
      refine .trans ?_ (lastRecord_keeps ..)
      refine .trans ?_ (stopForSleep_keeps ..)
      exact h7
    clear e9
    refine .upd ?_
    exact h10

theorem restartAfterDown_keeps {m : Nat} s (hm : Within 58823872050020 m := by first | exact .trans (by assumption) ⟨rfl⟩ | exact ⟨rfl⟩) : Keeps m s (restartAfterDown s) := by
  unfold restartAfterDown
  extract_lets -merge -useContext +onlyGivenNames y0; clear_value (e1 : y0 = _)
  refine .cut e1 ?_ fun h2 => ?_
  · refine .trans ?_ (enterReset_keeps ..)
    exact .refl _
  clear e1
  refine .ite (by exact h2) ?_
  refine .trans ?_ (coldStart_keeps ..)
  exact h2

theorem execPowerDownDone_keeps {m : Nat} x0 s (hm : Within 58823872050020 m := by first | exact .trans (by assumption) ⟨rfl⟩ | exact ⟨rfl⟩) : KeepsR m s (execPowerDownDone x0 s) := by
  unfold execPowerDownDone
  extract_lets -merge -useContext +onlyGivenNames y0; clear_value (e1 : y0 = _)
  refine .cut e1 ?_ fun h2 => ?_
  · refine .trans ?_ (advance_keeps ..)
    exact .refl _
  clear e1
  refine .next ?_
  split
  · exact h2
  · extract_lets -merge -useContext +onlyGivenNames y3; clear_value (e4 : y3 = _)
    refine .cut e4 ?_ fun h5 => ?_
    · refine .trans ?_ (sleepModule_keeps ..)
      exact h2
    clear e4
    extract_lets -merge -useContext +onlyGivenNames y6; clear_value (e7 : y6 = _)
    extract_lets -merge -useContext +onlyGivenNames y8; clear_value (e9 : y8 = _)
    refine .cut e9 ?_ fun h10 => ?_
    · refine .upd ?_
      exact h5
    clear e9
    refine .ite ?_ (by exact h10)
    refine .trans ?_ (restartAfterDown_keeps ..)
    exact h10

theorem powerOnState_keeps {m : Nat} s (hm : Within 70929235345472 m := by first | exact .trans (by assumption) ⟨rfl⟩ | exact ⟨rfl⟩) : Keeps m s (powerOnState s) := by
  unfold powerOnState
  extract_lets -merge -useContext +onlyGivenNames y0; clear_value (e1 : y0 = _)
  refine .upd ?_
  exact .refl _

theorem execPowerOnReset_keeps {m : Nat} x0 s (hm : Within 112150186029924 m := by first | exact .trans (by assumption) ⟨rfl⟩ | exact ⟨rfl⟩) : KeepsR m s (execPowerOnReset x0 s) := by
  unfold execPowerOnReset
  extract_lets -merge -useContext +onlyGivenNames y0; clear_value (e1 : y0 = _)
  refine .cut e1 ?_ fun h2 => ?_
  · refine .trans ?_ (advance_keeps ..)
    exact .refl _
  clear e1
  refine .next ?_
  refine .trans ?_ (powerOnState_keeps ..)
  refine .trans ?_ (loseMemory_keeps ..)
  refine .ite (by exact h2) ?_
  refine .trans ?_ (enterReset_keeps ..)
  exact h2

theorem execPowergoodRestored_keeps {m : Nat} x0 x1 s (hm : Within 58823872050020 m := by first | exact .trans (by assumption) ⟨rfl⟩ | exact ⟨rfl⟩) : KeepsR m s (execPowergoodRestored x0 x1 s) := by
  unfold execPowergoodRestored
  extract_lets -merge -useContext +onlyGivenNames y0; first | clear_value (e1 : y0 = _) | have e1 : y0 = _ := rfl
  refine .cut e1 ?_ fun h2 => ?_
  · refine .trans ?_ (advance_keeps ..)
    exact .refl _
  clear e1
  extract_lets -merge -useContext +onlyGivenNames y3; first | clear_value (e4 : y3 = _) | skip
  extract_lets -merge -useContext +onlyGivenNames y5; first | clear_value (e6 : y5 = _) | have e6 : y5 = _ := rfl
  refine .cut e6 ?_ fun h7 => ?_
  · refine .upd ?_
    exact h2
  clear e6
  refine .next ?_
  refine .ite (by exact h7) ?_
  refine .ite ?_ ?_
  · refine .trans ?_ (restartAfterDown_keeps ..)
    refine .upd ?_
    exact h7
  · refine .ite ?_ (by exact h7)
    refine .trans ?_ (coldStart_keeps ..)
    refine .upd ?_
    exact h7

theorem execPpsLost_keeps {m : Nat} x0 s  : KeepsR m s (execPpsLost x0 s) := by
  unfold execPpsLost
  extract_lets -merge -useContext +onlyGivenNames y0; clear_value (e1 : y0 = _)
  refine .cut e1 ?_ fun h2 => ?_
  · refine .trans ?_ (advance_keeps ..)
    exact .refl _
  clear e1
  refine .next ?_
  refine .ite ?_ (by exact h2)
  refine .trans ?_ (record_keeps ..)
  refine .updTime ?_
  exact h2

theorem takeEdge_keeps {m : Nat} x0 x1 x2 s  : Keeps m s (takeEdge x0 x1 x2 s).2 := by
  unfold takeEdge
  extract_lets +onlyGivenNames x
  split
  · split
    exact updSource_keeps _ _ _
  · exact (updSource_keeps _ _ _).trans (recordLimited_keeps _ _ _ _ _)

theorem stampPps_keeps {m : Nat} x0 s (hm : Within 292058038272 m := by first | exact .trans (by assumption) ⟨rfl⟩ | exact ⟨rfl⟩) : Keeps m s (stampPps x0 s) := by
  unfold stampPps
  split
  rename_i st t e
  have h1 : Keeps m s t := by have := takeEdge_keeps (m := m) 8 true x0 s; rw [e] at this; exact this
  split
  · refine .trans ?_ (batchStamp_keeps ..)
    exact h1.trans (Keeps.of rfl (Nat.le_refl _) (fun hi => ⟨hi.1, hi.2⟩))
  · exact h1

theorem steerTime_keeps {m : Nat} s  : Keeps m s (steerTime s) := by
  unfold steerTime
  split
  rename_i a t e
  have h0 : Keeps m s t := by have := takeFree_keeps (m := m) s; rw [e] at this; exact this
  exact Keeps.updTime h0 (Nat.le_refl _)

theorem takePps_keeps {m : Nat} s (hm : Within 1073872896 m := by first | exact .trans (by assumption) ⟨rfl⟩ | exact ⟨rfl⟩) : Keeps m s (takePps s) := by
  unfold takePps
  extract_lets -merge -useContext +onlyGivenNames y0; clear_value (e1 : y0 = _)
  extract_lets -merge -useContext +onlyGivenNames y2; clear_value (e3 : y2 = _)
  refine .cut e3 ?_ fun h4 => ?_
  · refine .updTime ?_
    exact .refl _
  clear e3
  refine .ite (by exact h4) ?_
  extract_lets -merge -useContext +onlyGivenNames y5; clear_value (e6 : y5 = _)
  extract_lets -merge -useContext +onlyGivenNames y7; clear_value (e8 : y7 = _)
  refine .cut e8 ?_ fun h9 => ?_
  · refine .ite ?_ (by exact h4)
    refine .trans ?_ (record_keeps ..)
    refine .updTime ?_
    exact h4
  clear e8
  extract_lets -merge -useContext +onlyGivenNames y10; clear_value (e11 : y10 = _)
  refine .trans ?_ (correctTime_keeps ..)
  refine .trans ?_ (steerTime_keeps ..)
  refine .updTime ?_
  exact h9

theorem execPpsinEdge_keeps {m : Nat} x0 x1 s (hm : Within 293131911168 m := by first | exact .trans (by assumption) ⟨rfl⟩ | exact ⟨rfl⟩) : KeepsR m s (execPpsinEdge x0 x1 s) := by
  unfold execPpsinEdge
  extract_lets -merge -useContext +onlyGivenNames y0; clear_value (e1 : y0 = _)
  refine .cut e1 ?_ fun h2 => ?_
  · refine .trans ?_ (stampPps_keeps ..)
    refine .trans ?_ (advance_keeps ..)
    exact .refl _
  clear e1
  refine .next ?_
  refine .ite ?_ (by exact h2)
  refine .trans ?_ (takePps_keeps ..)
  exact h2

theorem execPreFillEnd_keeps {m : Nat} x0 x1 s (hm : Within 268435456 m := by first | exact .trans (by assumption) ⟨rfl⟩ | exact ⟨rfl⟩) : KeepsR m s (execPreFillEnd x0 x1 s) := by
  unfold execPreFillEnd
  extract_lets -merge -useContext +onlyGivenNames y0; clear_value (e1 : y0 = _)
  refine .cut e1 ?_ fun h2 => ?_
  · refine .trans ?_ (advance_keeps ..)
    exact .refl _
  clear e1
  refine .next ?_
  split
  · refine .ite ?_ (by exact h2)
    refine .trans ?_ (markReady_keeps ..)
    exact h2
  · exact h2

theorem execProbeReceived_keeps {m : Nat} x0 x1 x2 x3 x4 s  : KeepsR m s (execProbeReceived x0 x1 x2 x3 x4 s) := by
  unfold execProbeReceived
  extract_lets -merge -useContext +onlyGivenNames y0; clear_value (e1 : y0 = _)
  refine .cut e1 ?_ fun h2 => ?_
  · refine .trans ?_ (advance_keeps ..)
    exact .refl _
  clear e1
  refine .next ?_
  refine .ite (by exact h2) ?_
  refine .ite ?_ ?_
  · refine .upd ?_
    exact h2
  · refine .upd ?_
    exact h2

theorem protCountersignCmd_keeps {m : Nat} (w : Waiter) (q : Request) (s : State) (hm : Within 70368739945471 m := by first | exact .trans (by assumption) ⟨rfl⟩ | exact ⟨rfl⟩) : Keeps m s (protCountersignCmd.act w q s) := by
  dsimp -zeta only [protCountersignCmd, setCmd, readCmd, readClearCmd]
  refine .trans ?_ (countersign_keeps ..)
  exact .refl _

theorem execProtCountersign_keeps {m : Nat} x0 s (hm : Within 70368739945471 m := by first | exact .trans (by assumption) ⟨rfl⟩ | exact ⟨rfl⟩) : KeepsR m s (execProtCountersign x0 s) := by
  unfold execProtCountersign
  refine .next ?_
  refine .trans ?_ (runRequest_keeps _ _ _ (by exact protCountersignCmd_keeps ))
  exact .refl _

theorem protGetProtectedCmd_keeps {m : Nat} (w : Waiter) (q : Request) (s : State)  : Keeps m s (protGetProtectedCmd.act w q s) := by
  dsimp -zeta only [protGetProtectedCmd, setCmd, readCmd, readClearCmd]
  refine .trans ?_ (reply_keeps ..)
  exact .refl _

theorem execProtGetProtected_keeps {m : Nat} x0 s  : KeepsR m s (execProtGetProtected x0 s) := by
  unfold execProtGetProtected
  refine .next ?_
  refine .trans ?_ (runRequest_keeps _ _ _ (by exact protGetProtectedCmd_keeps ))
  exact .refl _

theorem openProposal_keeps {m : Nat} x0 x1 s (hm : Within 4 m := by first | exact .trans (by assumption) ⟨rfl⟩ | exact ⟨rfl⟩) : Keeps m s (openProposal x0 x1 s) := by
  unfold openProposal
  extract_lets -merge -useContext +onlyGivenNames y0; clear_value (e1 : y0 = _)
  split
  · extract_lets -merge -useContext +onlyGivenNames y2; clear_value (e3 : y2 = _)
    extract_lets -merge -useContext +onlyGivenNames y4; clear_value (e5 : y4 = _)
    extract_lets -merge -useContext +onlyGivenNames y6; clear_value (e7 : y6 = _)
    extract_lets -merge -useContext +onlyGivenNames y8; clear_value (e9 : y8 = _)
    extract_lets -merge -useContext +onlyGivenNames y10; clear_value (e11 : y10 = _)
    refine .cut e11 ?_ fun h12 => ?_
    · refine .trans ?_ (record_keeps ..)
      exact .refl _
    clear e11
    refine .trans ?_ (reply_keeps ..)
    refine .upd ?_
    exact h12

theorem protProposeCmd_keeps {m : Nat} (w : Waiter) (q : Request) (s : State) (hm : Within 4 m := by first | exact .trans (by assumption) ⟨rfl⟩ | exact ⟨rfl⟩) : Keeps m s (protProposeCmd.act w q s) := by
  dsimp -zeta only [protProposeCmd, setCmd, readCmd, readClearCmd]
  refine .trans ?_ (openProposal_keeps ..)
  exact .refl _

theorem execProtPropose_keeps {m : Nat} x0 s (hm : Within 4 m := by first | exact .trans (by assumption) ⟨rfl⟩ | exact ⟨rfl⟩) : KeepsR m s (execProtPropose x0 s) := by
  unfold execProtPropose
  refine .next ?_
  refine .trans ?_ (runRequest_keeps _ _ _ (by exact protProposeCmd_keeps ))
  exact .refl _

theorem execProtSetProtected_keeps {m : Nat} x0 s (hm : Within 2 m := by first | exact .trans (by assumption) ⟨rfl⟩ | exact ⟨rfl⟩) : KeepsR m s (execProtSetProtected x0 s) := by
  unfold execProtSetProtected
  refine .next ?_
  refine .trans ?_ (runRequest_keeps _ _ _ (by exact protSetProtectedCmd_keeps ))
  exact .refl _

theorem execProtectedExpired_keeps {m : Nat} x0 x1 s (hm : Within 4 m := by first | exact .trans (by assumption) ⟨rfl⟩ | exact ⟨rfl⟩) : KeepsR m s (execProtectedExpired x0 x1 s) := by
  unfold execProtectedExpired
  extract_lets -merge -useContext +onlyGivenNames y0; clear_value (e1 : y0 = _)
  refine .cut e1 ?_ fun h2 => ?_
  · refine .trans ?_ (advance_keeps ..)
    exact .refl _
  clear e1
  refine .next ?_
  refine .ite ?_ (by exact h2)
  refine .trans ?_ (expireProposal_keeps ..)
  exact h2

theorem execPtpConfigure_keeps {m : Nat} x0 s (hm : Within 137438953472 m := by first | exact .trans (by assumption) ⟨rfl⟩ | exact ⟨rfl⟩) : KeepsR m s (execPtpConfigure x0 s) := by
  unfold execPtpConfigure
  refine .next ?_
  refine .trans ?_ (runRequest_keeps _ _ _ (by exact ptpConfigureCmd_keeps ))
  exact .refl _

theorem ptpGetStatusCmd_keeps {m : Nat} (w : Waiter) (q : Request) (s : State)  : Keeps m s (ptpGetStatusCmd.act w q s) := by
  dsimp -zeta only [ptpGetStatusCmd, setCmd, readCmd, readClearCmd]
  refine .trans ?_ (reply_keeps ..)
  exact .refl _

theorem execPtpGetStatus_keeps {m : Nat} x0 s  : KeepsR m s (execPtpGetStatus x0 s) := by
  unfold execPtpGetStatus
  refine .next ?_
  refine .trans ?_ (runRequest_keeps _ _ _ (by exact ptpGetStatusCmd_keeps ))
  exact .refl _

theorem losePtp_keeps {m : Nat} x0 s (hm : Within 137438953472 m := by first | exact .trans (by assumption) ⟨rfl⟩ | exact ⟨rfl⟩) : Keeps m s (losePtp x0 s) := by
  unfold losePtp
  extract_lets -merge -useContext +onlyGivenNames y0; clear_value (e1 : y0 = _)
  refine .ite ?_ (by exact .refl _)
  refine .trans ?_ (record_keeps ..)
  refine .trans ?_ (updPtp_keeps ..)
  exact .refl _

theorem execPtpLost_keeps {m : Nat} x0 s (hm : Within 137438953472 m := by first | exact .trans (by assumption) ⟨rfl⟩ | exact ⟨rfl⟩) : KeepsR m s (execPtpLost x0 s) := by
  unfold execPtpLost
  refine .next ?_
  refine .trans ?_ (forEach_keeps _ _ _ ?_)
  rotate_left
  · intro t0 t1
    refine .trans ?_ (losePtp_keeps ..)
    exact .refl _
  refine .trans ?_ (advance_keeps ..)
  exact .refl _

theorem steerByPtp_keeps {m : Nat} x0 s (hm : Within 1073872896 m := by first | exact .trans (by assumption) ⟨rfl⟩ | exact ⟨rfl⟩) : Keeps m s (steerByPtp x0 s) := by
  unfold steerByPtp
  refine .ite ?_ (by exact .refl _)
  refine .trans ?_ (correctTime_keeps ..)
  refine .trans ?_ (steerTime_keeps ..)
  exact .refl _

theorem ptpPair_keeps {m : Nat} x0 x1 x2 s (hm : Within 138512826368 m := by first | exact .trans (by assumption) ⟨rfl⟩ | exact ⟨rfl⟩) : Keeps m s (ptpPair x0 x1 x2 s) := by
  unfold ptpPair
  extract_lets -merge -useContext +onlyGivenNames y0; clear_value (e1 : y0 = _)
  refine .cut e1 ?_ fun h2 => ?_
  · refine .trans ?_ (updPtp_keeps ..)
    exact .refl _
  clear e1
  extract_lets -merge -useContext +onlyGivenNames y3; clear_value (e4 : y3 = _)
  refine .ite ?_ (by exact h2)
  refine .trans ?_ (steerByPtp_keeps ..)
  exact h2

theorem ptpExchange_keeps {m : Nat} x0 x1 x2 x3 x4 s (hm : Within 138512826368 m := by first | exact .trans (by assumption) ⟨rfl⟩ | exact ⟨rfl⟩) : Keeps m s (ptpExchange x0 x1 x2 x3 x4 s) := by
  unfold ptpExchange
  extract_lets -merge -useContext +onlyGivenNames y0; clear_value (e1 : y0 = _)
  extract_lets -merge -useContext +onlyGivenNames y2; clear_value (e3 : y2 = _)
  extract_lets -merge -useContext +onlyGivenNames y4; clear_value (e5 : y4 = _)
  refine .cut e5 ?_ fun h6 => ?_
  · refine .trans ?_ (updPtp_keeps ..)
    exact .refl _
  clear e5
  refine .ite ?_ ?_
  · refine .trans ?_ (steerByPtp_keeps ..)
    refine .trans ?_ (record_keeps ..)
    exact h6
  · refine .ite ?_ (by exact h6)
    refine .trans ?_ (steerByPtp_keeps ..)
    exact h6

theorem receivePtp_keeps {m : Nat} x0 x1 s (hm : Within 138512826368 m := by first | exact .trans (by assumption) ⟨rfl⟩ | exact ⟨rfl⟩) : Keeps m s (receivePtp x0 x1 s) := by
  unfold receivePtp
  extract_lets -merge -useContext +onlyGivenNames y0; clear_value (e1 : y0 = _)
  split
  · refine .trans ?_ (updPtp_keeps ..)
    exact .refl _
  · refine .ite (by exact .refl _) ?_
    extract_lets -merge -useContext +onlyGivenNames y2; clear_value (e3 : y2 = _)
    refine .cut e3 ?_ fun h4 => ?_
    · refine .trans ?_ (updPtp_keeps ..)
      exact .refl _
    clear e3
    refine .ite ?_ ?_
    · refine .trans ?_ (updPtp_keeps ..)
      exact h4
    · refine .trans ?_ (ptpPair_keeps ..)
      exact h4
  · split
    · refine .ite ?_ (by exact .refl _)
      refine .trans ?_ (ptpPair_keeps ..)
      exact .refl _
    · exact .refl _
  · split
    · refine .ite ?_ (by exact .refl _)
      refine .trans ?_ (ptpExchange_keeps ..)
      exact .refl _
    · exact .refl _

theorem execPtpMessageReceived_keeps {m : Nat} x0 x1 x2 s (hm : Within 138512826368 m := by first | exact .trans (by assumption) ⟨rfl⟩ | exact ⟨rfl⟩) : KeepsR m s (execPtpMessageReceived x0 x1 x2 s) := by
  unfold execPtpMessageReceived
  extract_lets -merge -useContext +onlyGivenNames y0; clear_value (e1 : y0 = _)
  refine .cut e1 ?_ fun h2 => ?_
  · refine .trans ?_ (advance_keeps ..)
    exact .refl _
  clear e1
  refine .next ?_
  refine .ite ?_ (by exact h2)
  refine .trans ?_ (receivePtp_keeps ..)
  exact h2

theorem restartRegulator_keeps {m : Nat} s  : Keeps m s (restartRegulator s) := by
  unfold restartRegulator
  refine .upd ?_
  exact .refl _

theorem execRailsFall_keeps {m : Nat} x0 x1 s (hm : Within 58823872050020 m := by first | exact .trans (by assumption) ⟨rfl⟩ | exact ⟨rfl⟩) : KeepsR m s (execRailsFall x0 x1 s) := by
  unfold execRailsFall
  extract_lets -merge -useContext +onlyGivenNames y0; clear_value (e1 : y0 = _)
  refine .cut e1 ?_ fun h2 => ?_
  · refine .trans ?_ (advance_keeps ..)
    exact .refl _
  clear e1
  refine .next ?_
  refine .ite (by exact h2) ?_
  extract_lets -merge -useContext +onlyGivenNames y3; clear_value (e4 : y3 = _)
  refine .cut e4 ?_ fun h5 => ?_
  · refine .ite ?_ (by exact h2)
    refine .upd ?_
    exact h2
  clear e4
  extract_lets -merge -useContext +onlyGivenNames y6; clear_value (e7 : y6 = _)
  refine .cut e7 ?_ fun h8 => ?_
  · refine .trans ?_ (enterReset_keeps ..)
    exact h5
  clear e7
  extract_lets -merge -useContext +onlyGivenNames y9; clear_value (e10 : y9 = _)
  extract_lets -merge -useContext +onlyGivenNames y11; clear_value (e12 : y11 = _)
  refine .cut e12 ?_ fun h13 => ?_
  · refine .ite (by exact h5) ?_
    refine .upd ?_
    exact h8
  clear e12
  extract_lets -merge -useContext +onlyGivenNames y14; clear_value (e15 : y14 = _)
  refine .cut e15 ?_ fun h16 => ?_
  · refine .trans ?_ (restartRegulator_keeps ..)
    exact h13
  clear e15
  refine .ite (by exact h16) ?_
  refine .trans ?_ (dropMemoryRails_keeps ..)
  exact h16

theorem execRailsRemoved_keeps {m : Nat} x0 x1 s (hm : Within 274877906944 m := by first | exact .trans (by assumption) ⟨rfl⟩ | exact ⟨rfl⟩) : KeepsR m s (execRailsRemoved x0 x1 s) := by
  unfold execRailsRemoved
  extract_lets -merge -useContext +onlyGivenNames y0; clear_value (e1 : y0 = _)
  refine .cut e1 ?_ fun h2 => ?_
  · refine .trans ?_ (advance_keeps ..)
    exact .refl _
  clear e1
  refine .next ?_
  refine .ite (by exact h2) ?_
  extract_lets -merge -useContext +onlyGivenNames y3; clear_value (e4 : y3 = _)
  refine .cut e4 ?_ fun h5 => ?_
  · refine .trans ?_ (restartRegulator_keeps ..)
    exact h2
  clear e4
  refine .ite ?_ (by exact h5)
  refine .trans ?_ (dropMemoryRails_keeps ..)
  exact h5

theorem execRankRetired_keeps {m : Nat} x0 s (hm : Within 549755813888 m := by first | exact .trans (by assumption) ⟨rfl⟩ | exact ⟨rfl⟩) : KeepsR m s (execRankRetired x0 s) := by
  unfold execRankRetired
  extract_lets -merge -useContext +onlyGivenNames y0; clear_value (e1 : y0 = _)
  refine .cut e1 ?_ fun h2 => ?_
  · refine .trans ?_ (advance_keeps ..)
    exact .refl _
  clear e1
  refine .next ?_
  split
  · exact h2
  · refine .ite (by exact h2) ?_
    refine .trans ?_ (nextRetirement_keeps ..)
    refine .trans ?_ (releaseAlert_keeps ..)
    refine .trans ?_ (record_keeps ..)
    refine .trans ?_ (finishMigration_keeps ..)
    exact h2

end Sys2Proof.Machine
end

