-- ==== Sys2Proof/Laws/KeepsF.lean ====
section
/-! SUPPORT. Operations that keep, each after those it calls (6 of 6). -/

set_option Elab.async false

namespace Sys2Proof.Machine

theorem execReArmEnd_keeps {m : Nat} x0 x1 s (hm : Within 1476395008 m := by first | exact .trans (by assumption) ⟨rfl⟩ | exact ⟨rfl⟩) : KeepsR m s (execReArmEnd x0 x1 s) := by
  unfold execReArmEnd
  extract_lets -merge -useContext +onlyGivenNames y0; clear_value (e1 : y0 = _)
  refine .cut e1 ?_ fun h2 => ?_
  · refine .trans ?_ (advance_keeps ..)
    exact .refl _
  clear e1
  refine .next ?_
  refine .trans ?_ (settleGroup_keeps ..)
  exact h2

theorem execReassemblyTimeout_keeps {m : Nat} x0 x1 s  : KeepsR m s (execReassemblyTimeout x0 x1 s) := by
  unfold execReassemblyTimeout
  extract_lets -merge -useContext +onlyGivenNames y0; clear_value (e1 : y0 = _)
  refine .cut e1 ?_ fun h2 => ?_
  · refine .trans ?_ (advance_keeps ..)
    exact .refl _
  clear e1
  refine .next ?_
  refine .trans ?_ (dropReassembly_keeps ..)
  exact h2

theorem execRecordCopied_keeps {m : Nat} x0 s (hm : Within 292057776128 m := by first | exact .trans (by assumption) ⟨rfl⟩ | exact ⟨rfl⟩) : KeepsR m s (execRecordCopied x0 s) := by
  unfold execRecordCopied
  extract_lets -merge -useContext +onlyGivenNames y0; clear_value (e1 : y0 = _)
  refine .cut e1 ?_ fun h2 => ?_
  · refine .trans ?_ (advance_keeps ..)
    exact .refl _
  clear e1
  refine .next ?_
  refine .ite ?_ (by exact h2)
  refine .trans ?_ (copyRecord_keeps ..)
  exact h2

theorem failWrite_keeps {m : Nat} x0 s (hm : Within 17592186044416 m := by first | exact .trans (by assumption) ⟨rfl⟩ | exact ⟨rfl⟩) : Keeps m s (failWrite x0 s) := by
  unfold failWrite
  extract_lets -merge -useContext +onlyGivenNames y0; clear_value (e1 : y0 = _)
  extract_lets -merge -useContext +onlyGivenNames y2; clear_value (e3 : y2 = _)
  refine .cut e3 ?_ fun h4 => ?_
  · refine .upd ?_
    exact .refl _
  clear e3
  extract_lets -merge -useContext +onlyGivenNames y5; clear_value (e6 : y5 = _)
  extract_lets -merge -useContext +onlyGivenNames y7; clear_value (e8 : y7 = _)
  refine .cut e8 ?_ fun h9 => ?_
  · refine .trans ?_ (record_keeps ..)
    exact h4
  clear e8
  refine .ite ?_ (by exact h9)
  refine .trans ?_ (dropOldest_keeps ..)
  exact h9

theorem execRecordWrite_keeps {m : Nat} x0 x1 s (hm : Within 17592186044416 m := by first | exact .trans (by assumption) ⟨rfl⟩ | exact ⟨rfl⟩) : KeepsR m s (execRecordWrite x0 x1 s) := by
  unfold execRecordWrite
  extract_lets -merge -useContext +onlyGivenNames y0; clear_value (e1 : y0 = _)
  refine .cut e1 ?_ fun h2 => ?_
  · refine .trans ?_ (advance_keeps ..)
    exact .refl _
  clear e1
  split
  · refine .next ?_
    exact h2
  · refine .next ?_
    refine .ite (by exact h2) ?_
    refine .ite ?_ ?_
    · refine .upd ?_
      exact h2
    · refine .trans ?_ (failWrite_keeps ..)
      exact h2

theorem execRecordsLost_keeps {m : Nat} x0 s  : KeepsR m s (execRecordsLost x0 s) := by
  unfold execRecordsLost
  extract_lets -merge -useContext +onlyGivenNames y0; clear_value (e1 : y0 = _)
  refine .cut e1 ?_ fun h2 => ?_
  · refine .trans ?_ (advance_keeps ..)
    exact .refl _
  clear e1
  split
  · refine .next ?_
    exact h2
  · refine .next ?_
    refine .ite (by exact h2) ?_
    refine .trans ?_ (releaseAlert_keeps ..)
    refine .trans ?_ (carrying_keeps _ _ ?_)
    rotate_left
    · intro t3
      refine .trans ?_ (record_keeps ..)
      exact .refl _
    refine .upd ?_
    exact h2

theorem execRediscovery_keeps {m : Nat} x0 x1 s (hm : Within 8589934592 m := by first | exact .trans (by assumption) ⟨rfl⟩ | exact ⟨rfl⟩) : KeepsR m s (execRediscovery x0 x1 s) := by
  unfold execRediscovery
  extract_lets -merge -useContext +onlyGivenNames y0; clear_value (e1 : y0 = _)
  refine .cut e1 ?_ fun h2 => ?_
  · refine .trans ?_ (advance_keeps ..)
    exact .refl _
  clear e1
  refine .next ?_
  refine .ite ?_ (by exact h2)
  refine .trans ?_ (updPort_keeps ..)
  exact h2

theorem execRefSwitched_keeps {m : Nat} x0 x1 s  : KeepsR m s (execRefSwitched x0 x1 s) := by
  unfold execRefSwitched
  extract_lets -merge -useContext +onlyGivenNames y0; clear_value (e1 : y0 = _)
  refine .cut e1 ?_ fun h2 => ?_
  · refine .trans ?_ (advance_keeps ..)
    exact .refl _
  clear e1
  extract_lets -merge -useContext +onlyGivenNames y3; clear_value (e4 : y3 = _)
  refine .next ?_
  refine .ite ?_ (by exact h2)
  refine .trans ?_ (record_keeps ..)
  refine .trans ?_ (resumeLoop_keeps ..)
  refine .trans ?_ (updLoop_keeps ..)
  exact h2

theorem execRefresh_keeps {m : Nat} x0 x1 x2 s  : KeepsR m s (execRefresh x0 x1 x2 s) := by
  unfold execRefresh
  extract_lets -merge -useContext +onlyGivenNames y0; clear_value (e1 : y0 = _)
  refine .cut e1 ?_ fun h2 => ?_
  · refine .trans ?_ (advance_keeps ..)
    exact .refl _
  clear e1
  refine .next ?_
  refine .ite ?_ (by exact h2)
  refine .trans ?_ (updChannel_keeps ..)
  exact h2

theorem writeBar0Byte_keeps {m : Nat} x0 x1 s  : Keeps m s (writeBar0Byte x0 x1 s) := by
  unfold writeBar0Byte
  split
  · exact .refl _
  · refine .trans ?_ (updSession_keeps ..)
    exact .refl _

theorem writeBar0_keeps {m : Nat}   : ∀ x0 x1 x2 s, Keeps m s (writeBar0 x0 x1 x2 s)
  | _, [], _, s => Keeps.refl s
  | x0, b :: bs, x2, s => by
    unfold writeBar0
    exact Keeps.trans (Keeps.ite (writeBar0Byte_keeps _ _ _) (Keeps.refl _)) (writeBar0_keeps _ bs _ _)

theorem writeSmbus_keeps {m : Nat} x0 x1 x2 x3 s  : Keeps m s (writeSmbus x0 x1 x2 x3 s) := by
  unfold writeSmbus
  refine .ite ?_ ?_
  · refine .trans ?_ (emit_keeps ..)
    refine .trans ?_ (updSession_keeps ..)
    exact .refl _
  · refine .trans ?_ (emit_keeps ..)
    exact .refl _

theorem execRegisterWrite_keeps {m : Nat} x0 x1 s  : KeepsR m s (execRegisterWrite x0 x1 s) := by
  unfold execRegisterWrite
  extract_lets -merge -useContext +onlyGivenNames y0; clear_value (e1 : y0 = _)
  refine .cut e1 ?_ fun h2 => ?_
  · refine .trans ?_ (advance_keeps ..)
    exact .refl _
  clear e1
  refine .next ?_
  split
  · refine .ite ?_ (by exact h2)
    refine .trans ?_ (writeBar0_keeps ..)
    exact h2
  · refine .ite (by exact h2) ?_
    refine .trans ?_ (writeSmbus_keeps ..)
    exact h2

theorem sendReport_keeps {m : Nat} s  : Keeps m s (sendReport s) := by
  unfold sendReport
  extract_lets -merge -useContext +onlyGivenNames y0; clear_value (e1 : y0 = _)
  refine .trans ?_ (emit_keeps ..)
  refine .upd ?_
  exact .refl _

theorem execReportBitsChanged_keeps {m : Nat} x0 s  : KeepsR m s (execReportBitsChanged x0 s) := by
  unfold execReportBitsChanged
  extract_lets -merge -useContext +onlyGivenNames y0; clear_value (e1 : y0 = _)
  refine .cut e1 ?_ fun h2 => ?_
  · refine .trans ?_ (advance_keeps ..)
    exact .refl _
  clear e1
  refine .next ?_
  refine .ite ?_ (by exact h2)
  refine .trans ?_ (sendReport_keeps ..)
  exact h2

theorem execRingCleared_keeps {m : Nat} x0 s (hm : Within 17592186044416 m := by first | exact .trans (by assumption) ⟨rfl⟩ | exact ⟨rfl⟩) : KeepsR m s (execRingCleared x0 s) := by
  unfold execRingCleared
  extract_lets -merge -useContext +onlyGivenNames y0; clear_value (e1 : y0 = _)
  refine .cut e1 ?_ fun h2 => ?_
  · refine .trans ?_ (advance_keeps ..)
    exact .refl _
  clear e1
  split
  · refine .next ?_
    exact h2
  · refine .next ?_
    refine .ite (by exact h2) ?_
    refine .trans ?_ (clearRing_keeps ..)
    exact h2

theorem execRotationShadowStart_keeps {m : Nat} x0 x1 s (hm : Within 1048576 m := by first | exact .trans (by assumption) ⟨rfl⟩ | exact ⟨rfl⟩) : KeepsR m s (execRotationShadowStart x0 x1 s) := by
  unfold execRotationShadowStart
  extract_lets -merge -useContext +onlyGivenNames y0; clear_value (e1 : y0 = _)
  refine .cut e1 ?_ fun h2 => ?_
  · refine .trans ?_ (advance_keeps ..)
    exact .refl _
  clear e1
  refine .next ?_
  refine .ite ?_ (by exact h2)
  refine .trans ?_ (updCore_keeps ..)
  exact h2

theorem execRotationTrim_keeps {m : Nat} x0 x1 s (hm : Within 1572864 m := by first | exact .trans (by assumption) ⟨rfl⟩ | exact ⟨rfl⟩) : KeepsR m s (execRotationTrim x0 x1 s) := by
  unfold execRotationTrim
  extract_lets -merge -useContext +onlyGivenNames y0; clear_value (e1 : y0 = _)
  refine .cut e1 ?_ fun h2 => ?_
  · refine .trans ?_ (advance_keeps ..)
    exact .refl _
  clear e1
  extract_lets -merge -useContext +onlyGivenNames y3; clear_value (e4 : y3 = _)
  refine .next ?_
  refine .ite ?_ (by exact h2)
  extract_lets -merge -useContext +onlyGivenNames y5; clear_value (e6 : y5 = _)
  refine .cut e6 ?_ fun h7 => ?_
  · refine .trans ?_ (trimCore_keeps ..)
    exact h2
  clear e6
  refine .ite ?_ ?_
  · extract_lets -merge -useContext +onlyGivenNames y8; clear_value (e9 : y8 = _)
    refine .trans ?_ (closePass_keeps ..)
    refine .trans ?_ (updInput_keeps ..)
    exact h7
  · refine .trans ?_ (updCore_keeps ..)
    exact h7

theorem loseHead_keeps {m : Nat} x0 x1 s (hm : Within 12884901888 m := by first | exact .trans (by assumption) ⟨rfl⟩ | exact ⟨rfl⟩) : Keeps m s (loseHead x0 x1 s) := by
  unfold loseHead
  extract_lets -merge -useContext +onlyGivenNames y0; clear_value (e1 : y0 = _)
  split
  · extract_lets -merge -useContext +onlyGivenNames y2; clear_value (e3 : y2 = _)
    refine .cut e3 ?_ fun h4 => ?_
    · refine .trans ?_ (updHead_keeps ..)
      exact .refl _
    clear e3
    extract_lets -merge -useContext +onlyGivenNames y5; clear_value (e6 : y5 = _)
    refine .cut e6 ?_ fun h7 => ?_
    · refine .trans ?_ (assertAlert_keeps ..)
      refine .trans ?_ (record_keeps ..)
      exact h4
    clear e6
    extract_lets -merge -useContext +onlyGivenNames y8; clear_value (e9 : y8 = _)
    refine .cut e9 ?_ fun h10 => ?_
    · refine .trans ?_ (headGone_keeps ..)
      refine .trans ?_ (clearAlarms_keeps ..)
      refine .trans ?_ (failCommands_keeps ..)
      exact h7
    clear e9
    refine .trans ?_ (reschedule_keeps ..)
    refine .trans ?_ (refitPeriod_keeps ..)
    exact h10
  · extract_lets -merge -useContext +onlyGivenNames y11; clear_value (e12 : y11 = _)
    refine .cut e12 ?_ fun h13 => ?_
    · refine .trans ?_ (updHead_keeps ..)
      exact .refl _
    clear e12
    extract_lets -merge -useContext +onlyGivenNames y14; clear_value (e15 : y14 = _)
    refine .cut e15 ?_ fun h16 => ?_
    · refine .trans ?_ (assertAlert_keeps ..)
      refine .trans ?_ (record_keeps ..)
      exact h13
    clear e15
    extract_lets -merge -useContext +onlyGivenNames y17; clear_value (e18 : y17 = _)
    refine .cut e18 ?_ fun h19 => ?_
    · refine .trans ?_ (headGone_keeps ..)
      refine .trans ?_ (clearAlarms_keeps ..)
      refine .trans ?_ (failCommands_keeps ..)
      exact h16
    clear e18
    refine .trans ?_ (reschedule_keeps ..)
    refine .trans ?_ (refitPeriod_keeps ..)
    exact h19
  · exact .refl _

theorem putLane_keeps {m : Nat} x0 s  : Keeps m s (putLane x0 s) := by
  unfold putLane
  split
  rename_i a t e
  have h0 : Keeps m s t := by have := takeFree_keeps (m := m) s; rw [e] at this; exact this
  split
  rename_i b u e1
  have h1 : Keeps m s u := h0.trans (by have := takeFree_keeps (m := m) t; rw [e1] at this; exact this)
  exact Keeps.upd h1

theorem sendBeacons_keeps {m : Nat} x0 s (hm : Within 8589934592 m := by first | exact .trans (by assumption) ⟨rfl⟩ | exact ⟨rfl⟩) : Keeps m s (sendBeacons x0 s) := by
  unfold sendBeacons
  extract_lets -merge -useContext +onlyGivenNames y0; clear_value (e1 : y0 = _)
  extract_lets -merge -useContext +onlyGivenNames y2; clear_value (e3 : y2 = _)
  refine .cut e3 ?_ fun h4 => ?_
  · refine .trans ?_ (emit_keeps ..)
    refine .trans ?_ (emit_keeps ..)
    exact .refl _
  clear e3
  refine .trans ?_ (updPort_keeps ..)
  exact h4

theorem execRoundStart_keeps {m : Nat} x0 x1 s (hm : Within 12884901888 m := by first | exact .trans (by assumption) ⟨rfl⟩ | exact ⟨rfl⟩) : KeepsR m s (execRoundStart x0 x1 s) := by
  unfold execRoundStart
  extract_lets -merge -useContext +onlyGivenNames y0; clear_value (e1 : y0 = _)
  refine .cut e1 ?_ fun h2 => ?_
  · refine .trans ?_ (advance_keeps ..)
    exact .refl _
  clear e1
  refine .next ?_
  refine .ite (by exact h2) ?_
  extract_lets -merge -useContext +onlyGivenNames y3; clear_value (e4 : y3 = _)
  refine .cut e4 ?_ fun h5 => ?_
  · refine .trans ?_ (forAll_keeps _ _ _ ?_)
    rotate_left
    · intro t6 t7
      refine .trans ?_ (loseHead_keeps ..)
      exact .refl _
    exact h2
  clear e4
  extract_lets -merge -useContext +onlyGivenNames y8; clear_value (e9 : y8 = _)
  refine .cut e9 ?_ fun h10 => ?_
  · refine .trans ?_ (putLane_keeps ..)
    refine .trans ?_ (putLane_keeps ..)
    exact h5
  clear e9
  extract_lets -merge -useContext +onlyGivenNames y11; clear_value (e12 : y11 = _)
  refine .cut e12 ?_ fun h13 => ?_
  · refine .trans ?_ (countMiss_keeps ..)
    exact h10
  clear e12
  extract_lets -merge -useContext +onlyGivenNames y14; clear_value (e15 : y14 = _)
  refine .cut e15 ?_ fun h16 => ?_
  · refine .trans ?_ (updPort_keeps ..)
    exact h13
  clear e15
  extract_lets -merge -useContext +onlyGivenNames y17; clear_value (e18 : y17 = _)
  extract_lets -merge -useContext +onlyGivenNames y19; clear_value (e20 : y19 = _)
  refine .cut e20 ?_ fun h21 => ?_
  · split
    · refine .trans ?_ (record_keeps ..)
      refine .trans ?_ (updPort_keeps ..)
      exact h16
    · exact h16
  clear e20
  extract_lets -merge -useContext +onlyGivenNames y22; clear_value (e23 : y22 = _)
  refine .cut e23 ?_ fun h24 => ?_
  · refine .ite ?_ (by exact h21)
    refine .trans ?_ (forAll_keeps _ _ _ ?_)
    rotate_left
    · intro t25 t26
      refine .trans ?_ (scheduleHead_keeps ..)
      exact .refl _
    exact h21
  clear e23
  extract_lets -merge -useContext +onlyGivenNames y27; clear_value (e28 : y27 = _)
  extract_lets -merge -useContext +onlyGivenNames y29; clear_value (e30 : y29 = _)
  refine .cut e30 ?_ fun h31 => ?_
  · refine .trans ?_ (updPort_keeps ..)
    exact h24
  clear e30
  refine .trans ?_ (sendBeacons_keeps ..)
  exact h31

theorem execSeamDone_keeps {m : Nat} x0 x1 s (hm : Within 1572864 m := by first | exact .trans (by assumption) ⟨rfl⟩ | exact ⟨rfl⟩) : KeepsR m s (execSeamDone x0 x1 s) := by
  unfold execSeamDone
  extract_lets -merge -useContext +onlyGivenNames y0; clear_value (e1 : y0 = _)
  refine .cut e1 ?_ fun h2 => ?_
  · refine .trans ?_ (advance_keeps ..)
    exact .refl _
  clear e1
  refine .next ?_
  split
  · exact h2
  · refine .ite (by exact h2) ?_
    extract_lets -merge -useContext +onlyGivenNames y3; clear_value (e4 : y3 = _)
    extract_lets -merge -useContext +onlyGivenNames y5; clear_value (e6 : y5 = _)
    extract_lets -merge -useContext +onlyGivenNames y7; clear_value (e8 : y7 = _)
    refine .cut e8 ?_ fun h9 => ?_
    · refine .trans ?_ (updInput_keeps ..)
      exact h2
    clear e8
    extract_lets -merge -useContext +onlyGivenNames y10; clear_value (e11 : y10 = _)
    refine .cut e11 ?_ fun h12 => ?_
    · refine .trans ?_ (goLive_keeps ..)
      refine .trans ?_ (loadCore_keeps ..)
      exact h9
    clear e11
    extract_lets -merge -useContext +onlyGivenNames y13; clear_value (e14 : y13 = _)
    refine .cut e14 ?_ fun h15 => ?_
    · refine .trans ?_ (updCore_keeps ..)
      exact h12
    clear e14
    extract_lets -merge -useContext +onlyGivenNames y16; clear_value (e17 : y16 = _)
    refine .cut e17 ?_ fun h18 => ?_
    · refine .trans ?_ (rotateCore_keeps ..)
      exact h15
    clear e17
    extract_lets -merge -useContext +onlyGivenNames y19; clear_value (e20 : y19 = _)
    refine .cut e20 ?_ fun h21 => ?_
    · refine .trans ?_ (updInCal_keeps ..)
      exact h18
    clear e20
    extract_lets -merge -useContext +onlyGivenNames y22; clear_value (e23 : y22 = _)
    refine .cut e23 ?_ fun h24 => ?_
    · refine .trans ?_ (record_keeps ..)
      exact h21
    clear e23
    extract_lets -merge -useContext +onlyGivenNames y25; clear_value (e26 : y25 = _)
    refine .cut e26 ?_ fun h27 => ?_
    · refine .ite ?_ (by exact h24)
      refine .trans ?_ (releaseAlert_keeps ..)
      refine .trans ?_ (record_keeps ..)
      exact h24
    clear e26
    refine .trans ?_ (closePass_keeps ..)
    exact h27

theorem execSeamRetry_keeps {m : Nat} x0 x1 s (hm : Within 524288 m := by first | exact .trans (by assumption) ⟨rfl⟩ | exact ⟨rfl⟩) : KeepsR m s (execSeamRetry x0 x1 s) := by
  unfold execSeamRetry
  extract_lets -merge -useContext +onlyGivenNames y0; clear_value (e1 : y0 = _)
  refine .cut e1 ?_ fun h2 => ?_
  · refine .trans ?_ (advance_keeps ..)
    exact .refl _
  clear e1
  refine .next ?_
  refine .ite ?_ (by exact h2)
  refine .trans ?_ (beginSeam_keeps ..)
  exact h2

theorem execSeamStart_keeps {m : Nat} x0 x1 s (hm : Within 524288 m := by first | exact .trans (by assumption) ⟨rfl⟩ | exact ⟨rfl⟩) : KeepsR m s (execSeamStart x0 x1 s) := by
  unfold execSeamStart
  extract_lets -merge -useContext +onlyGivenNames y0; clear_value (e1 : y0 = _)
  refine .cut e1 ?_ fun h2 => ?_
  · refine .trans ?_ (advance_keeps ..)
    exact .refl _
  clear e1
  refine .next ?_
  refine .ite ?_ (by exact h2)
  refine .trans ?_ (beginSeam_keeps ..)
  exact h2

theorem failSeam_keeps {m : Nat} x0 x1 s (hm : Within 1572864 m := by first | exact .trans (by assumption) ⟨rfl⟩ | exact ⟨rfl⟩) : Keeps m s (failSeam x0 x1 s) := by
  unfold failSeam
  extract_lets -merge -useContext +onlyGivenNames y0; clear_value (e1 : y0 = _)
  refine .cut e1 ?_ fun h2 => ?_
  · refine .trans ?_ (updCore_keeps ..)
    exact .refl _
  clear e1
  extract_lets -merge -useContext +onlyGivenNames y3; clear_value (e4 : y3 = _)
  refine .cut e4 ?_ fun h5 => ?_
  · refine .trans ?_ (updInput_keeps ..)
    exact h2
  clear e4
  extract_lets -merge -useContext +onlyGivenNames y6; clear_value (e7 : y6 = _)
  extract_lets -merge -useContext +onlyGivenNames y8; clear_value (e9 : y8 = _)
  refine .cut e9 ?_ fun h10 => ?_
  · refine .trans ?_ (record_keeps ..)
    exact h5
  clear e9
  refine .ite ?_ (by exact h10)
  refine .trans ?_ (stageBody_keeps ..)
  refine .trans ?_ (assertAlert_keeps ..)
  refine .trans ?_ (updInput_keeps ..)
  exact h10

theorem execSeamTest_keeps {m : Nat} x0 x1 x2 s (hm : Within 1572864 m := by first | exact .trans (by assumption) ⟨rfl⟩ | exact ⟨rfl⟩) : KeepsR m s (execSeamTest x0 x1 x2 s) := by
  unfold execSeamTest
  extract_lets -merge -useContext +onlyGivenNames y0; clear_value (e1 : y0 = _)
  refine .cut e1 ?_ fun h2 => ?_
  · refine .trans ?_ (advance_keeps ..)
    exact .refl _
  clear e1
  refine .next ?_
  split
  · exact h2
  · extract_lets -merge -useContext +onlyGivenNames y3; clear_value (e4 : y3 = _)
    extract_lets -merge -useContext +onlyGivenNames y5; clear_value (e6 : y5 = _)
    refine .cut e6 ?_ fun h7 => ?_
    · refine .trans ?_ (updInput_keeps ..)
      exact h2
    clear e6
    refine .ite ?_ ?_
    · refine .trans ?_ (updInput_keeps ..)
      exact h7
    · refine .trans ?_ (failSeam_keeps ..)
      exact h7

theorem execSegArm_keeps {m : Nat} x0 s (hm : Within 1073741824 m := by first | exact .trans (by assumption) ⟨rfl⟩ | exact ⟨rfl⟩) : KeepsR m s (execSegArm x0 s) := by
  unfold execSegArm
  refine .next ?_
  refine .trans ?_ (runRequest_keeps _ _ _ (by exact segArmCmd_keeps ))
  exact .refl _

theorem execSegConfigure_keeps {m : Nat} x0 s (hm : Within 1073741824 m := by first | exact .trans (by assumption) ⟨rfl⟩ | exact ⟨rfl⟩) : KeepsR m s (execSegConfigure x0 s) := by
  unfold execSegConfigure
  refine .next ?_
  refine .trans ?_ (runRequest_keeps _ _ _ (by exact segConfigureCmd_keeps ))
  exact .refl _

theorem segGetStatusCmd_keeps {m : Nat} (w : Waiter) (q : Request) (s : State)  : Keeps m s (segGetStatusCmd.act w q s) := by
  dsimp -zeta only [segGetStatusCmd, setCmd, readCmd, readClearCmd]
  refine .trans ?_ (reply_keeps ..)
  exact .refl _

theorem execSegGetStatus_keeps {m : Nat} x0 s  : KeepsR m s (execSegGetStatus x0 s) := by
  unfold execSegGetStatus
  refine .next ?_
  refine .trans ?_ (runRequest_keeps _ _ _ (by exact segGetStatusCmd_keeps ))
  exact .refl _

theorem execSegStop_keeps {m : Nat} x0 s (hm : Within 5502926848 m := by first | exact .trans (by assumption) ⟨rfl⟩ | exact ⟨rfl⟩) : KeepsR m s (execSegStop x0 s) := by
  unfold execSegStop
  refine .next ?_
  refine .trans ?_ (runRequest_keeps _ _ _ (by exact segStopCmd_keeps ))
  exact .refl _

theorem finishCount_keeps {m : Nat} x0 x1 s (hm : Within 4294967296 m := by first | exact .trans (by assumption) ⟨rfl⟩ | exact ⟨rfl⟩) : Keeps m s (finishCount x0 x1 s) := by
  unfold finishCount
  extract_lets -merge -useContext +onlyGivenNames y0; clear_value (e1 : y0 = _)
  extract_lets -merge -useContext +onlyGivenNames y2; clear_value (e3 : y2 = _)
  extract_lets -merge -useContext +onlyGivenNames y4; clear_value (e5 : y4 = _)
  extract_lets -merge -useContext +onlyGivenNames y6; clear_value (e7 : y6 = _)
  refine .cut e7 ?_ fun h8 => ?_
  · refine .trans ?_ (updAcc_keeps ..)
    exact .refl _
  clear e7
  extract_lets -merge -useContext +onlyGivenNames y9; clear_value (e10 : y9 = _)
  refine .cut e10 ?_ fun h11 => ?_
  · refine .ite ?_ (by exact h8)
    refine .trans ?_ (updAcc_keeps ..)
    exact h8
  clear e10
  extract_lets -merge -useContext +onlyGivenNames y12; clear_value (e13 : y12 = _)
  refine .cut e13 ?_ fun h14 => ?_
  · refine .trans ?_ (stageBody_keeps ..)
    exact h11
  clear e13
  refine .trans ?_ (replyOpt_keeps ..)
  exact h14

theorem takeSegment_keeps {m : Nat} x0 x1 s (hm : Within 4294967296 m := by first | exact .trans (by assumption) ⟨rfl⟩ | exact ⟨rfl⟩) : Keeps m s (takeSegment x0 x1 s) := by
  unfold takeSegment
  extract_lets -merge -useContext +onlyGivenNames y0; clear_value (e1 : y0 = _)
  split
  · refine .trans ?_ (updAcc_keeps ..)
    exact .refl _
  · extract_lets -merge -useContext +onlyGivenNames y2; clear_value (e3 : y2 = _)
    extract_lets -merge -useContext +onlyGivenNames y4; clear_value (e5 : y4 = _)
    refine .cut e5 ?_ fun h6 => ?_
    · refine .trans ?_ (updAcc_keeps ..)
      exact .refl _
    clear e5
    extract_lets -merge -useContext +onlyGivenNames y7; clear_value (e8 : y7 = _)
    refine .cut e8 ?_ fun h9 => ?_
    · split
      · refine .trans ?_ (record_keeps ..)
        exact h6
      · exact h6
    clear e8
    refine .ite ?_ (by exact h9)
    refine .trans ?_ (finishCount_keeps ..)
    exact h9

theorem execSegmentCombined_keeps {m : Nat} x0 x1 s (hm : Within 4294967296 m := by first | exact .trans (by assumption) ⟨rfl⟩ | exact ⟨rfl⟩) : KeepsR m s (execSegmentCombined x0 x1 s) := by
  unfold execSegmentCombined
  extract_lets -merge -useContext +onlyGivenNames y0; clear_value (e1 : y0 = _)
  refine .cut e1 ?_ fun h2 => ?_
  · refine .trans ?_ (advance_keeps ..)
    exact .refl _
  clear e1
  refine .next ?_
  split
  · refine .trans ?_ (reviewStops_keeps ..)
    exact h2
  · refine .ite ?_ (by exact h2)
    refine .trans ?_ (reviewStops_keeps ..)
    refine .trans ?_ (takeSegment_keeps ..)
    refine .trans ?_ (updAcc_keeps ..)
    exact h2

theorem takeSequenceDue_keeps {m : Nat} (x0 : Option (Nat × Nat)) (x1 : AuxSequence → AuxSequence) s (hm : Within 1099511627776 m := by first | exact .trans (by assumption) ⟨rfl⟩ | exact ⟨rfl⟩) : Keeps m s { s with aux := { s.aux with seqDue := x0, seq := x1 s.aux.seq } } := by
  exact Keeps.upd (Keeps.refl _)

theorem execSequenceConversionDue_keeps {m : Nat} x0 s (hm : Within 1099511627776 m := by first | exact .trans (by assumption) ⟨rfl⟩ | exact ⟨rfl⟩) : KeepsR m s (execSequenceConversionDue x0 s) := by
  unfold execSequenceConversionDue
  extract_lets +onlyGivenNames y x
  have h : Keeps m s y := advance_keeps _ _
  refine KeepsR.next (Keeps.ite h ?_)
  extract_lets +onlyGivenNames source
  refine .trans ?_ (auxNext_keeps ..)
  exact h.trans (takeSequenceDue_keeps _ (fun x => { x with next := (x.next + 1) % x.sources.length, start := x.start + x.step }) _)

theorem execSequenceWindowClose_keeps {m : Nat} x0 x1 s (hm : Within 469762048 m := by first | exact .trans (by assumption) ⟨rfl⟩ | exact ⟨rfl⟩) : KeepsR m s (execSequenceWindowClose x0 x1 s) := by
  unfold execSequenceWindowClose
  extract_lets -merge -useContext +onlyGivenNames y0; clear_value (e1 : y0 = _)
  refine .cut e1 ?_ fun h2 => ?_
  · refine .trans ?_ (evaluate_keeps ..)
    refine .trans ?_ (advance_keeps ..)
    exact .refl _
  clear e1
  refine .next ?_
  refine .trans ?_ (settleHits_keeps ..)
  exact h2

theorem execSessionDatagram_keeps {m : Nat} x0 x1 x2 x3 s  : KeepsR m s (execSessionDatagram x0 x1 x2 x3 s) := by
  unfold execSessionDatagram
  refine .next ?_
  refine .trans ?_ (takeDatagram_keeps ..)
  refine .trans ?_ (advance_keeps ..)
  exact .refl _

theorem execSessionTimeout_keeps {m : Nat} x0 x1 s  : KeepsR m s (execSessionTimeout x0 x1 s) := by
  unfold execSessionTimeout
  extract_lets -merge -useContext +onlyGivenNames y0; clear_value (e1 : y0 = _)
  refine .cut e1 ?_ fun h2 => ?_
  · refine .trans ?_ (advance_keeps ..)
    exact .refl _
  clear e1
  extract_lets -merge -useContext +onlyGivenNames y3; clear_value (e4 : y3 = _)
  refine .next ?_
  refine .ite ?_ (by exact h2)
  refine .trans ?_ (closeSession_keeps ..)
  exact h2

theorem missSlot_keeps {m : Nat} x0 x1 s (hm : Within 12884901888 m := by first | exact .trans (by assumption) ⟨rfl⟩ | exact ⟨rfl⟩) : Keeps m s (missSlot x0 x1 s) := by
  unfold missSlot
  extract_lets -merge -useContext +onlyGivenNames y0; clear_value (e1 : y0 = _)
  extract_lets -merge -useContext +onlyGivenNames y2; clear_value (e3 : y2 = _)
  refine .cut e3 ?_ fun h4 => ?_
  · refine .trans ?_ (updHead_keeps ..)
    exact .refl _
  clear e3
  refine .ite ?_ (by exact h4)
  refine .trans ?_ (loseHead_keeps ..)
  exact h4

theorem execSlotWindowEnd_keeps {m : Nat} x0 x1 x2 s (hm : Within 12884901888 m := by first | exact .trans (by assumption) ⟨rfl⟩ | exact ⟨rfl⟩) : KeepsR m s (execSlotWindowEnd x0 x1 x2 s) := by
  unfold execSlotWindowEnd
  extract_lets -merge -useContext +onlyGivenNames y0; clear_value (e1 : y0 = _)
  refine .cut e1 ?_ fun h2 => ?_
  · refine .trans ?_ (advance_keeps ..)
    exact .refl _
  clear e1
  extract_lets -merge -useContext +onlyGivenNames y3; clear_value (e4 : y3 = _)
  refine .next ?_
  refine .ite (by exact h2) ?_
  extract_lets -merge -useContext +onlyGivenNames y5; clear_value (e6 : y5 = _)
  refine .cut e6 ?_ fun h7 => ?_
  · refine .ite (by exact h2) ?_
    refine .trans ?_ (updHead_keeps ..)
    exact h2
  clear e6
  refine .trans ?_ (missSlot_keeps ..)
  exact h7

theorem execSmbusTimeout_keeps {m : Nat} x0 s  : KeepsR m s (execSmbusTimeout x0 s) := by
  unfold execSmbusTimeout
  extract_lets -merge -useContext +onlyGivenNames y0; clear_value (e1 : y0 = _)
  refine .cut e1 ?_ fun h2 => ?_
  · refine .trans ?_ (advance_keeps ..)
    exact .refl _
  clear e1
  refine .next ?_
  refine .ite (by exact h2) ?_
  refine .trans ?_ (emit_keeps ..)
  exact h2

theorem setSource_keeps {m : Nat} x0 x1 x2 s  : Keeps m s (setSource x0 x1 x2 s) := by
  unfold setSource
  split
  · refine .upd ?_
    exact .refl _
  · refine .upd ?_
    exact .refl _
  · exact .refl _

theorem forLoops_keeps {m : Nat} x0 x1 s (h : ∀ a s, Keeps m s (x1 a s))  : Keeps m s (forLoops x0 x1 s) := by
  unfold forLoops
  refine .trans ?_ (Keeps.foldl ?_ _ _)
  rotate_left
  · intro t0 t1
    refine .ite ?_ (by exact .refl _)
    refine .trans ?_ (h _ _)
    exact .refl _
  exact .refl _

theorem execSourceAbsent_keeps {m : Nat} x0 x1 s (hm : Within 1572864 m := by first | exact .trans (by assumption) ⟨rfl⟩ | exact ⟨rfl⟩) : KeepsR m s (execSourceAbsent x0 x1 s) := by
  unfold execSourceAbsent
  extract_lets -merge -useContext +onlyGivenNames y0; clear_value (e1 : y0 = _)
  refine .cut e1 ?_ fun h2 => ?_
  · refine .trans ?_ (advance_keeps ..)
    exact .refl _
  clear e1
  refine .next ?_
  refine .ite (by exact h2) ?_
  extract_lets -merge -useContext +onlyGivenNames y3; clear_value (e4 : y3 = _)
  refine .cut e4 ?_ fun h5 => ?_
  · refine .trans ?_ (setSource_keeps ..)
    exact h2
  clear e4
  extract_lets -merge -useContext +onlyGivenNames y6; clear_value (e7 : y6 = _)
  refine .cut e7 ?_ fun h8 => ?_
  · refine .ite ?_ (by exact h5)
    refine .trans ?_ (record_keeps ..)
    exact h5
  clear e7
  extract_lets -merge -useContext +onlyGivenNames y9; clear_value (e10 : y9 = _)
  refine .cut e10 ?_ fun h11 => ?_
  · refine .ite ?_ (by exact h8)
    refine .trans ?_ (startCoast_keeps ..)
    exact h8
  clear e10
  refine .trans ?_ (forLoops_keeps _ _ _ ?_)
  rotate_left
  · intro t12 t13
    refine .trans ?_ (startCoast_keeps ..)
    exact .refl _
  exact h11

theorem execSourcePresent_keeps {m : Nat} x0 x1 x2 s  : KeepsR m s (execSourcePresent x0 x1 x2 s) := by
  unfold execSourcePresent
  extract_lets -merge -useContext +onlyGivenNames y0; clear_value (e1 : y0 = _)
  refine .cut e1 ?_ fun h2 => ?_
  · refine .trans ?_ (advance_keeps ..)
    exact .refl _
  clear e1
  refine .next ?_
  refine .ite (by exact h2) ?_
  refine .ite ?_ ?_
  · refine .trans ?_ (setSource_keeps ..)
    exact h2
  · extract_lets -merge -useContext +onlyGivenNames y3; clear_value (e4 : y3 = _)
    refine .cut e4 ?_ fun h5 => ?_
    · refine .trans ?_ (setSource_keeps ..)
      exact h2
    clear e4
    extract_lets -merge -useContext +onlyGivenNames y6; clear_value (e7 : y6 = _)
    refine .cut e7 ?_ fun h8 => ?_
    · refine .trans ?_ (forLoops_keeps _ _ _ ?_)
      rotate_left
      · intro t9 t10
        refine .trans ?_ (record_keeps ..)
        exact .refl _
      exact h5
    clear e7
    refine .trans ?_ (forLoops_keeps _ _ _ ?_)
    rotate_left
    · intro t11 t12
      refine .trans ?_ (resumeLoop_keeps ..)
      exact .refl _
    exact h8

theorem writeSpill_keeps {m : Nat} x0 x1 s (hm : Within 274877906944 m := by first | exact .trans (by assumption) ⟨rfl⟩ | exact ⟨rfl⟩) : Keeps m s (writeSpill x0 x1 s) := by
  unfold writeSpill
  extract_lets -merge -useContext +onlyGivenNames y0; clear_value (e1 : y0 = _)
  extract_lets -merge -useContext +onlyGivenNames y2; clear_value (e3 : y2 = _)
  refine .cut e3 ?_ fun h4 => ?_
  · refine .trans ?_ (memWrite_keeps ..)
    refine .trans ?_ (memZero_keeps ..)
    exact .refl _
  clear e3
  extract_lets -merge -useContext +onlyGivenNames y5; clear_value (e6 : y5 = _)
  refine .cut e6 ?_ fun h7 => ?_
  · refine .ite ?_ (by exact h4)
    refine .trans ?_ (forAll_keeps _ _ _ ?_)
    rotate_left
    · intro t8 t9
      refine .trans ?_ (memWrite_keeps ..)
      exact .refl _
    exact h4
  clear e6
  refine .trans ?_ (memWrite_keeps ..)
  exact h7

theorem execSpillDone_keeps {m : Nat} x0 s (hm : Within 274877906944 m := by first | exact .trans (by assumption) ⟨rfl⟩ | exact ⟨rfl⟩) : KeepsR m s (execSpillDone x0 s) := by
  unfold execSpillDone
  extract_lets -merge -useContext +onlyGivenNames y0; clear_value (e1 : y0 = _)
  refine .cut e1 ?_ fun h2 => ?_
  · refine .trans ?_ (advance_keeps ..)
    exact .refl _
  clear e1
  refine .next ?_
  split
  · exact h2
  · refine .ite (by exact h2) ?_
    extract_lets -merge -useContext +onlyGivenNames y3; clear_value (e4 : y3 = _)
    refine .trans ?_ (reply_keeps ..)
    refine .trans ?_ (writeSpill_keeps ..)
    refine .upd ?_
    exact h2

theorem execStampBatchClose_keeps {m : Nat} x0 x1 s (hm : Within 292057776128 m := by first | exact .trans (by assumption) ⟨rfl⟩ | exact ⟨rfl⟩) : KeepsR m s (execStampBatchClose x0 x1 s) := by
  unfold execStampBatchClose
  extract_lets -merge -useContext +onlyGivenNames y0; clear_value (e1 : y0 = _)
  refine .cut e1 ?_ fun h2 => ?_
  · refine .trans ?_ (advance_keeps ..)
    exact .refl _
  clear e1
  refine .next ?_
  split
  · exact h2
  · refine .ite ?_ (by exact h2)
    refine .trans ?_ (closeBatch_keeps ..)
    exact h2

theorem execStandbyEntryComplete_keeps {m : Nat} x0 s (hm : Within 304977805824 m := by first | exact .trans (by assumption) ⟨rfl⟩ | exact ⟨rfl⟩) : KeepsR m s (execStandbyEntryComplete x0 s) := by
  unfold execStandbyEntryComplete
  extract_lets -merge -useContext +onlyGivenNames y0; clear_value (e1 : y0 = _)
  refine .cut e1 ?_ fun h2 => ?_
  · refine .trans ?_ (advance_keeps ..)
    exact .refl _
  clear e1
  refine .next ?_
  split
  · refine .ite (by exact h2) ?_
    extract_lets -merge -useContext +onlyGivenNames y3; clear_value (e4 : y3 = _)
    refine .cut e4 ?_ fun h5 => ?_
    · refine .trans ?_ (record_keeps ..)
      refine .trans ?_ (memorySleep_keeps ..)
      refine .trans ?_ (convertersDown_keeps ..)
      refine .trans ?_ (idleAccumulators_keeps ..)
      exact h2
    clear e4
    refine .trans ?_ (endTransition_keeps ..)
    refine .trans ?_ (setBootState_keeps ..)
    exact h5
  · exact h2

theorem returnPorts_keeps {m : Nat} s (hm : Within 8589934592 m := by first | exact .trans (by assumption) ⟨rfl⟩ | exact ⟨rfl⟩) : Keeps m s (returnPorts s) := by
  unfold returnPorts
  refine .trans ?_ (forEach_keeps _ _ _ ?_)
  rotate_left
  · intro t0 t1
    refine .ite ?_ (by exact .refl _)
    extract_lets -merge -useContext +onlyGivenNames y2; clear_value (e3 : y2 = _)
    refine .cut e3 ?_ fun h4 => ?_
    · refine .trans ?_ (updPort_keeps ..)
      exact .refl _
    clear e3
    refine .ite (by exact h4) ?_
    refine .trans ?_ (setPortState_keeps ..)
    exact h4
  exact .refl _

theorem execStandbyExitComplete_keeps {m : Nat} x0 s (hm : Within 855824138752 m := by first | exact .trans (by assumption) ⟨rfl⟩ | exact ⟨rfl⟩) : KeepsR m s (execStandbyExitComplete x0 s) := by
  unfold execStandbyExitComplete
  extract_lets -merge -useContext +onlyGivenNames y0; clear_value (e1 : y0 = _)
  refine .cut e1 ?_ fun h2 => ?_
  · refine .trans ?_ (advance_keeps ..)
    exact .refl _
  clear e1
  refine .next ?_
  split
  · extract_lets -merge -useContext +onlyGivenNames y3; clear_value (e4 : y3 = _)
    refine .cut e4 ?_ fun h5 => ?_
    · refine .trans ?_ (convertersUp_keeps ..)
      exact h2
    clear e4
    extract_lets -merge -useContext +onlyGivenNames y6; clear_value (e7 : y6 = _)
    refine .cut e7 ?_ fun h8 => ?_
    · refine .trans ?_ (syncInputs_keeps ..)
      exact h5
    clear e7
    extract_lets -merge -useContext +onlyGivenNames y9; clear_value (e10 : y9 = _)
    refine .cut e10 ?_ fun h11 => ?_
    · refine .trans ?_ (returnPorts_keeps ..)
      refine .trans ?_ (settleAll_keeps ..)
      refine .trans ?_ (runOwed_keeps ..)
      exact h8
    clear e10
    extract_lets -merge -useContext +onlyGivenNames y12; clear_value (e13 : y12 = _)
    refine .cut e13 ?_ fun h14 => ?_
    · refine .trans ?_ (record_keeps ..)
      exact h11
    clear e13
    extract_lets -merge -useContext +onlyGivenNames y15; clear_value (e16 : y15 = _)
    refine .cut e16 ?_ fun h17 => ?_
    · refine .trans ?_ (setBootState_keeps ..)
      exact h14
    clear e16
    refine .trans ?_ (endTransition_keeps ..)
    refine .ite ?_ (by exact h17)
    refine .trans ?_ (nextRetirement_keeps ..)
    exact h17
  · exact h2

theorem markWritten_keeps {m : Nat} x0 x1 x2 s (hm : Within 1073741824 m := by first | exact .trans (by assumption) ⟨rfl⟩ | exact ⟨rfl⟩) : Keeps m s (markWritten x0 x1 x2 s) := by
  unfold markWritten
  refine .trans ?_ (updSg_keeps ..)
  exact .refl _

theorem writeStrand_keeps {m : Nat} x0 x1 x2 x3 x4 s (hm : Within 274877906944 m := by first | exact .trans (by assumption) ⟨rfl⟩ | exact ⟨rfl⟩) : Keeps m s (writeStrand x0 x1 x2 x3 x4 s) := by
  unfold writeStrand
  extract_lets -merge -useContext +onlyGivenNames y0; clear_value (e1 : y0 = _)
  extract_lets -merge -useContext +onlyGivenNames y2; clear_value (e3 : y2 = _)
  extract_lets -merge -useContext +onlyGivenNames y4; clear_value (e5 : y4 = _)
  extract_lets -merge -useContext +onlyGivenNames y6; clear_value (e7 : y6 = _)
  refine .cut e7 ?_ fun h8 => ?_
  · refine .trans ?_ (memWrite_keeps ..)
    exact .refl _
  clear e7
  refine .trans ?_ (memWrite_keeps ..)
  exact h8

theorem writeSegment_keeps {m : Nat} x0 x1 x2 s (hm : Within 274877906944 m := by first | exact .trans (by assumption) ⟨rfl⟩ | exact ⟨rfl⟩) : Keeps m s (writeSegment x0 x1 x2 s) := by
  unfold writeSegment
  extract_lets -merge -useContext +onlyGivenNames y0; clear_value (e1 : y0 = _)
  extract_lets -merge -useContext +onlyGivenNames y2; clear_value (e3 : y2 = _)
  extract_lets -merge -useContext +onlyGivenNames y4; clear_value (e5 : y4 = _)
  refine .trans ?_ (forAll_keeps _ _ _ ?_)
  rotate_left
  · intro t6 t7
    refine .trans ?_ (writeStrand_keeps ..)
    exact .refl _
  exact .refl _

theorem writeStore_keeps {m : Nat} x0 x1 s (hm : Within 275951648768 m := by first | exact .trans (by assumption) ⟨rfl⟩ | exact ⟨rfl⟩) : Keeps m s (writeStore x0 x1 s) := by
  unfold writeStore
  extract_lets -merge -useContext +onlyGivenNames y0; clear_value (e1 : y0 = _)
  extract_lets -merge -useContext +onlyGivenNames y2; clear_value (e3 : y2 = _)
  extract_lets -merge -useContext +onlyGivenNames y4; clear_value (e5 : y4 = _)
  split
  · extract_lets -merge -useContext +onlyGivenNames y6; clear_value (e7 : y6 = _)
    split
    · extract_lets -merge -useContext +onlyGivenNames y8; clear_value (e9 : y8 = _)
      extract_lets -merge -useContext +onlyGivenNames y10; clear_value (e11 : y10 = _)
      extract_lets -merge -useContext +onlyGivenNames y12; clear_value (e13 : y12 = _)
      extract_lets -merge -useContext +onlyGivenNames y14; clear_value (e15 : y14 = _)
      refine .cut e15 ?_ fun h16 => ?_
      · refine .trans ?_ (forAll_keeps _ _ _ ?_)
        rotate_left
        · intro t17 t18
          refine .trans ?_ (writeStrand_keeps ..)
          exact .refl _
        exact .refl _
      clear e15
      refine .trans ?_ (updSg_keeps ..)
      exact h16
    · exact .refl _

theorem execStrandWritten_keeps {m : Nat} x0 x1 x2 s (hm : Within 275951648768 m := by first | exact .trans (by assumption) ⟨rfl⟩ | exact ⟨rfl⟩) : KeepsR m s (execStrandWritten x0 x1 x2 s) := by
  unfold execStrandWritten
  extract_lets -merge -useContext +onlyGivenNames y0; clear_value (e1 : y0 = _)
  refine .cut e1 ?_ fun h2 => ?_
  · refine .trans ?_ (advance_keeps ..)
    exact .refl _
  clear e1
  extract_lets -merge -useContext +onlyGivenNames y3; clear_value (e4 : y3 = _)
  refine .cut e4 ?_ fun h5 => ?_
  · refine .trans ?_ (endFill_keeps ..)
    exact h2
  clear e4
  extract_lets -merge -useContext +onlyGivenNames y6; clear_value (e7 : y6 = _)
  refine .next ?_
  refine .ite (by exact h5) ?_
  split
  · refine .ite ?_ (by exact h5)
    refine .trans ?_ (markWritten_keeps ..)
    refine .trans ?_ (writeSegment_keeps ..)
    exact h5
  · refine .ite ?_ (by exact h5)
    refine .trans ?_ (writeStore_keeps ..)
    exact h5

theorem updStream_keeps {m : Nat} x0 x1 s (hm : Within 68719476736 m := by first | exact .trans (by assumption) ⟨rfl⟩ | exact ⟨rfl⟩) : Keeps m s (updStream x0 x1 s) := by
  unfold updStream
  refine .upd ?_
  exact .refl _

theorem sendDatagram_keeps {m : Nat} x0 x1 x2 x3 x4 s (hm : Within 360777252864 m := by first | exact .trans (by assumption) ⟨rfl⟩ | exact ⟨rfl⟩) : Keeps m s (sendDatagram x0 x1 x2 x3 x4 s) := by
  unfold sendDatagram
  extract_lets -merge -useContext +onlyGivenNames y0; clear_value (e1 : y0 = _)
  extract_lets -merge -useContext +onlyGivenNames y2; clear_value (e3 : y2 = _)
  extract_lets -merge -useContext +onlyGivenNames y4; clear_value (e5 : y4 = _)
  extract_lets -merge -useContext +onlyGivenNames y6; clear_value (e7 : y6 = _)
  refine .cut e7 ?_ fun h8 => ?_
  · refine .trans ?_ (emit_keeps ..)
    exact .refl _
  clear e7
  extract_lets -merge -useContext +onlyGivenNames y9; clear_value (e10 : y9 = _)
  refine .cut e10 ?_ fun h11 => ?_
  · refine .trans ?_ (updStream_keeps ..)
    exact h8
  clear e10
  refine .trans ?_ (reviewWaiting_keeps ..)
  refine .trans ?_ (entryDelivered_keeps ..)
  refine .trans ?_ (updLink_keeps ..)
  exact h11

theorem execStreamDatagramSent_keeps {m : Nat} x0 x1 s (hm : Within 360777252864 m := by first | exact .trans (by assumption) ⟨rfl⟩ | exact ⟨rfl⟩) : KeepsR m s (execStreamDatagramSent x0 x1 s) := by
  unfold execStreamDatagramSent
  extract_lets -merge -useContext +onlyGivenNames y0; clear_value (e1 : y0 = _)
  refine .cut e1 ?_ fun h2 => ?_
  · refine .trans ?_ (advance_keeps ..)
    exact .refl _
  clear e1
  refine .next ?_
  extract_lets -merge -useContext +onlyGivenNames y3; clear_value (e4 : y3 = _)
  refine .cut e4 ?_ fun h5 => ?_
  · refine .ite ?_ (by exact h2)
    refine .trans ?_ (dropSpoilt_keeps ..)
    exact h2
  clear e4
  split
  · exact h5
  · refine .ite (by exact h5) ?_
    split
    · exact h5
    · split
      · exact h5
      · split
        · exact h5
        · refine .trans ?_ (sendDatagram_keeps ..)
          exact h5

theorem execSyncCalibrateDelay_keeps {m : Nat} x0 s  : KeepsR m s (execSyncCalibrateDelay x0 s) := by
  unfold execSyncCalibrateDelay
  refine .next ?_
  refine .trans ?_ (runRequest_keeps _ _ _ (by exact syncCalibrateDelayCmd_keeps ))
  exact .refl _

theorem execSyncCheck_keeps {m : Nat} x0 s  : KeepsR m s (execSyncCheck x0 s) := by
  unfold execSyncCheck
  refine .next ?_
  refine .trans ?_ (runRequest_keeps _ _ _ (by exact syncCheckCmd_keeps ))
  exact .refl _

theorem execSyncConfigure_keeps {m : Nat} x0 s (hm : Within 2199023255552 m := by first | exact .trans (by assumption) ⟨rfl⟩ | exact ⟨rfl⟩) : KeepsR m s (execSyncConfigure x0 s) := by
  unfold execSyncConfigure
  refine .next ?_
  refine .trans ?_ (runRequest_keeps _ _ _ (by exact syncConfigureCmd_keeps ))
  exact .refl _

theorem resetCapture_keeps {m : Nat} x0 x1 s (hm : Within 5502926848 m := by first | exact .trans (by assumption) ⟨rfl⟩ | exact ⟨rfl⟩) : Keeps m s (resetCapture x0 x1 s) := by
  unfold resetCapture
  extract_lets -merge -useContext +onlyGivenNames y0; clear_value (e1 : y0 = _)
  refine .cut e1 ?_ fun h2 => ?_
  · refine .trans ?_ (endFill_keeps ..)
    exact .refl _
  clear e1
  split
  · refine .trans ?_ (discardFill_keeps ..)
    refine .trans ?_ (updSg_keeps ..)
    exact h2
  · refine .trans ?_ (discardFill_keeps ..)
    refine .trans ?_ (updSg_keeps ..)
    exact h2
  · exact h2

theorem resetGroups_keeps {m : Nat} x0 s (hm : Within 5502926848 m := by first | exact .trans (by assumption) ⟨rfl⟩ | exact ⟨rfl⟩) : Keeps m s (resetGroups x0 s) := by
  unfold resetGroups
  refine .trans ?_ (forEach_keeps _ _ _ ?_)
  rotate_left
  · intro t0 t1
    refine .trans ?_ (endPending_keeps ..)
    refine .trans ?_ (resetCapture_keeps ..)
    exact .refl _
  exact .refl _

theorem resetGates_keeps {m : Nat} x0 s (hm : Within 294205259776 m := by first | exact .trans (by assumption) ⟨rfl⟩ | exact ⟨rfl⟩) : Keeps m s (resetGates x0 s) := by
  unfold resetGates
  refine .trans ?_ (restartGates_keeps ..)
  refine .trans ?_ (abortGates_keeps ..)
  exact .refl _

theorem execSyncDomainReset_keeps {m : Nat} x0 s (hm : Within 299724963840 m := by first | exact .trans (by assumption) ⟨rfl⟩ | exact ⟨rfl⟩) : KeepsR m s (execSyncDomainReset x0 s) := by
  unfold execSyncDomainReset
  extract_lets -merge -useContext +onlyGivenNames y0; clear_value (e1 : y0 = _)
  refine .cut e1 ?_ fun h2 => ?_
  · refine .trans ?_ (advance_keeps ..)
    exact .refl _
  clear e1
  refine .next ?_
  split
  · exact h2
  · extract_lets -merge -useContext +onlyGivenNames y3; clear_value (e4 : y3 = _)
    refine .ite (by exact h2) ?_
    extract_lets -merge -useContext +onlyGivenNames y5; clear_value (e6 : y5 = _)
    extract_lets -merge -useContext +onlyGivenNames y7; clear_value (e8 : y7 = _)
    extract_lets -merge -useContext +onlyGivenNames y9; clear_value (e10 : y9 = _)
    refine .cut e10 ?_ fun h11 => ?_
    · refine .trans ?_ (resetGroups_keeps ..)
      refine .upd ?_
      exact h2
    clear e10
    extract_lets -merge -useContext +onlyGivenNames y12; clear_value (e13 : y12 = _)
    refine .cut e13 ?_ fun h14 => ?_
    · refine .ite ?_ (by exact h11)
      refine .trans ?_ (syncChain_keeps ..)
      exact h11
    clear e13
    extract_lets -merge -useContext +onlyGivenNames y15; clear_value (e16 : y15 = _)
    refine .cut e16 ?_ fun h17 => ?_
    · refine .trans ?_ (resetGates_keeps ..)
      exact h14
    clear e16
    refine .trans ?_ (replyOpt_keeps ..)
    refine .trans ?_ (record_keeps ..)
    exact h17

theorem memberActs_keeps {m : Nat} x0 s (hm : Within 1073741824 m := by first | exact .trans (by assumption) ⟨rfl⟩ | exact ⟨rfl⟩) : Keeps m s (memberActs x0 s) := by
  unfold memberActs
  split
  · refine .upd ?_
    exact .refl _
  · refine .ite ?_ (by exact .refl _)
    dsimp only
    refine .trans ?_ (record_keeps ..)
    refine .upd ?_
    exact takeFree_keeps _
  · refine .ite ?_ (by exact .refl _)
    refine .trans ?_ (record_keeps ..)
    refine .upd ?_
    exact .refl _
  · refine .trans ?_ (armGroups_keeps ..)
    exact .refl _
  · refine .upd ?_
    exact .refl _
  · exact .refl _

theorem finishDelay_keeps {m : Nat} x0 x1 x2 s (hm : Within 4398046511104 m := by first | exact .trans (by assumption) ⟨rfl⟩ | exact ⟨rfl⟩) : Keeps m s (finishDelay x0 x1 x2 s) := by
  unfold finishDelay
  extract_lets -merge -useContext +onlyGivenNames y0; clear_value (e1 : y0 = _)
  extract_lets -merge -useContext +onlyGivenNames y2; clear_value (e3 : y2 = _)
  extract_lets -merge -useContext +onlyGivenNames y4; clear_value (e5 : y4 = _)
  extract_lets -merge -useContext +onlyGivenNames y6; clear_value (e7 : y6 = _)
  extract_lets -merge -useContext +onlyGivenNames y8; clear_value (e9 : y8 = _)
  extract_lets -merge -useContext +onlyGivenNames y10; clear_value (e11 : y10 = _)
  extract_lets -merge -useContext +onlyGivenNames y12; clear_value (e13 : y12 = _)
  refine .cut e13 ?_ fun h14 => ?_
  · refine .trans ?_ (stepDelay_keeps ..)
    refine .upd ?_
    exact .refl _
  clear e13
  extract_lets -merge -useContext +onlyGivenNames y15; clear_value (e16 : y15 = _)
  extract_lets -merge -useContext +onlyGivenNames y17; clear_value (e18 : y17 = _)
  refine .cut e18 ?_ fun h19 => ?_
  · refine .ite ?_ ?_
    · refine .upd ?_
      exact .refl _
    · refine .upd ?_
      exact h14
  clear e18
  extract_lets -merge -useContext +onlyGivenNames y20; clear_value (e21 : y20 = _)
  refine .cut e21 ?_ fun h22 => ?_
  · refine .trans ?_ (record_keeps ..)
    exact h19
  clear e21
  refine .trans ?_ (reply_keeps ..)
  exact h22

theorem takeEcho_keeps {m : Nat} x0 x1 s (hm : Within 4398046511104 m := by first | exact .trans (by assumption) ⟨rfl⟩ | exact ⟨rfl⟩) : Keeps m s (takeEcho x0 x1 s) := by
  unfold takeEcho
  split
  · exact .refl _
  · split
    · exact .refl _
    · split
      · extract_lets -merge -useContext +onlyGivenNames y0; first | clear_value (e1 : y0 = _) | skip
        extract_lets -merge -useContext +onlyGivenNames y2; first | clear_value (e3 : y2 = _) | skip
        extract_lets -merge -useContext +onlyGivenNames y4; first | clear_value (e5 : y4 = _) | skip
        refine .ite ?_ ?_
        · refine .trans ?_ (finishDelay_keeps ..)
          exact .refl _
        · refine .upd ?_
          exact .refl _
      · extract_lets -merge -useContext +onlyGivenNames y6; first | clear_value (e7 : y6 = _) | skip
        refine .upd ?_
        exact .refl _

theorem setUnaligned_keeps {m : Nat} x0 s  : Keeps m s (setUnaligned x0 s) := by
  unfold setUnaligned
  refine .ite (by exact .refl _) ?_
  extract_lets -merge -useContext +onlyGivenNames y0; clear_value (e1 : y0 = _)
  refine .cut e1 ?_ fun h2 => ?_
  · refine .trans ?_ (keepAlignment_keeps ..)
    exact .refl _
  clear e1
  refine .trans ?_ (record_keeps ..)
  refine .upd ?_
  exact h2

theorem reviewTime_keeps {m : Nat} x0 x1 s (hm : Within 1073872896 m := by first | exact .trans (by assumption) ⟨rfl⟩ | exact ⟨rfl⟩) : Keeps m s (reviewTime x0 x1 s) := by
  unfold reviewTime
  extract_lets -merge -useContext +onlyGivenNames y0; clear_value (e1 : y0 = _)
  extract_lets -merge -useContext +onlyGivenNames y2; clear_value (e3 : y2 = _)
  extract_lets -merge -useContext +onlyGivenNames y4; clear_value (e5 : y4 = _)
  refine .cut e5 ?_ fun h6 => ?_
  · refine .trans ?_ (setUnaligned_keeps ..)
    refine .upd ?_
    exact .refl _
  clear e5
  refine .ite ?_ (by exact h6)
  refine .trans ?_ (correctTime_keeps ..)
  refine .trans ?_ (steerTime_keeps ..)
  exact h6

theorem reviewDelta_keeps {m : Nat} x0 x1 s  : Keeps m s (reviewDelta x0 x1 s) := by
  unfold reviewDelta
  extract_lets -merge -useContext +onlyGivenNames y0; clear_value (e1 : y0 = _)
  refine .ite (by exact .refl _) ?_
  refine .trans ?_ (record_keeps ..)
  refine .upd ?_
  exact .refl _

theorem restoreSync_keeps {m : Nat} s  : Keeps m s (restoreSync s) := by
  unfold restoreSync
  refine .ite ?_ (by exact .refl _)
  extract_lets -merge -useContext +onlyGivenNames y0; clear_value (e1 : y0 = _)
  refine .cut e1 ?_ fun h2 => ?_
  · refine .trans ?_ (keepAlignment_keeps ..)
    exact .refl _
  clear e1
  refine .trans ?_ (releaseAlert_keeps ..)
  refine .trans ?_ (record_keeps ..)
  refine .upd ?_
  exact h2

theorem execSyncFrameReceived_keeps {m : Nat} x0 x1 x2 s (hm : Within 4399120384000 m := by first | exact .trans (by assumption) ⟨rfl⟩ | exact ⟨rfl⟩) : KeepsR m s (execSyncFrameReceived x0 x1 x2 s) := by
  unfold execSyncFrameReceived
  extract_lets -merge -useContext +onlyGivenNames y0; clear_value (e1 : y0 = _)
  refine .cut e1 ?_ fun h2 => ?_
  · refine .trans ?_ (advance_keeps ..)
    exact .refl _
  clear e1
  refine .next ?_
  refine .ite (by exact h2) ?_
  refine .ite ?_ ?_
  · refine .upd ?_
    exact h2
  · extract_lets -merge -useContext +onlyGivenNames y3; clear_value (e4 : y3 = _)
    extract_lets -merge -useContext +onlyGivenNames y5; clear_value (e6 : y5 = _)
    refine .cut e6 ?_ fun h7 => ?_
    · refine .upd ?_
      exact h2
    clear e6
    refine .trans ?_ (memberActs_keeps ..)
    refine .trans ?_ (takeEcho_keeps ..)
    refine .trans ?_ (reviewTime_keeps ..)
    refine .trans ?_ (reviewDelta_keeps ..)
    refine .trans ?_ (restoreSync_keeps ..)
    exact h7

theorem queueArms_keeps {m : Nat} s  : Keeps m s (queueArms s) := by
  unfold queueArms
  refine .trans ?_ (forEach_keeps _ _ _ ?_)
  rotate_left
  · intro t0 t1
    refine .ite ?_ ?_
    · refine .upd ?_
      exact .refl _
    · refine .ite (by exact .refl _) ?_
      refine .trans ?_ (queueSync_keeps ..)
      refine .upd ?_
      exact .refl _
  exact .refl _

theorem leaderActs_keeps {m : Nat} x0 x1 s (hm : Within 1073741824 m := by first | exact .trans (by assumption) ⟨rfl⟩ | exact ⟨rfl⟩) : Keeps m s (leaderActs x0 x1 s) := by
  unfold leaderActs
  split
  · refine .trans ?_ (armGroups_keeps ..)
    exact .refl _
  · refine .upd ?_
    exact .refl _
  · exact .refl _

theorem execSyncFrameSend_keeps {m : Nat} x0 s (hm : Within 1073741824 m := by first | exact .trans (by assumption) ⟨rfl⟩ | exact ⟨rfl⟩) : KeepsR m s (execSyncFrameSend x0 s) := by
  unfold execSyncFrameSend
  extract_lets -merge -useContext +onlyGivenNames y0; clear_value (e1 : y0 = _)
  refine .cut e1 ?_ fun h2 => ?_
  · refine .trans ?_ (advance_keeps ..)
    exact .refl _
  clear e1
  refine .next ?_
  refine .ite (by exact h2) ?_
  extract_lets -merge -useContext +onlyGivenNames y3; clear_value (e4 : y3 = _)
  refine .cut e4 ?_ fun h5 => ?_
  · refine .trans ?_ (queueArms_keeps ..)
    exact h2
  clear e4
  extract_lets -merge -useContext +onlyGivenNames y6; clear_value (e7 : y6 = _)
  extract_lets -merge -useContext +onlyGivenNames y8; clear_value (e9 : y8 = _)
  extract_lets -merge -useContext +onlyGivenNames y10; clear_value (e11 : y10 = _)
  extract_lets -merge -useContext +onlyGivenNames y12; clear_value (e13 : y12 = _)
  extract_lets -merge -useContext +onlyGivenNames y14; clear_value (e15 : y14 = _)
  refine .cut e15 ?_ fun h16 => ?_
  · refine .trans ?_ (emit_keeps ..)
    exact h5
  clear e15
  extract_lets -merge -useContext +onlyGivenNames y17; clear_value (e18 : y17 = _)
  extract_lets -merge -useContext +onlyGivenNames y19; clear_value (e20 : y19 = _)
  refine .cut e20 ?_ fun h21 => ?_
  · refine .upd ?_
    exact h16
  clear e20
  refine .trans ?_ (leaderActs_keeps ..)
  exact h21

theorem syncGetStatusCmd_keeps {m : Nat} (w : Waiter) (q : Request) (s : State)  : Keeps m s (syncGetStatusCmd.act w q s) := by
  dsimp -zeta only [syncGetStatusCmd, setCmd, readCmd, readClearCmd]
  refine .trans ?_ (reply_keeps ..)
  exact .refl _

theorem execSyncGetStatus_keeps {m : Nat} x0 s  : KeepsR m s (execSyncGetStatus x0 s) := by
  unfold execSyncGetStatus
  refine .next ?_
  refine .trans ?_ (runRequest_keeps _ _ _ (by exact syncGetStatusCmd_keeps ))
  exact .refl _

theorem execSyncLock_keeps {m : Nat} x0 s (hm : Within 8796093022208 m := by first | exact .trans (by assumption) ⟨rfl⟩ | exact ⟨rfl⟩) : KeepsR m s (execSyncLock x0 s) := by
  unfold execSyncLock
  refine .next ?_
  refine .trans ?_ (runRequest_keeps _ _ _ (by exact syncLockCmd_keeps ))
  exact .refl _

theorem execSyncLost_keeps {m : Nat} x0 s (hm : Within 1073741824 m := by first | exact .trans (by assumption) ⟨rfl⟩ | exact ⟨rfl⟩) : KeepsR m s (execSyncLost x0 s) := by
  unfold execSyncLost
  extract_lets -merge -useContext +onlyGivenNames y0; clear_value (e1 : y0 = _)
  refine .cut e1 ?_ fun h2 => ?_
  · refine .trans ?_ (advance_keeps ..)
    exact .refl _
  clear e1
  refine .next ?_
  refine .ite (by exact h2) ?_
  extract_lets -merge -useContext +onlyGivenNames y3; clear_value (e4 : y3 = _)
  refine .cut e4 ?_ fun h5 => ?_
  · refine .trans ?_ (keepAlignment_keeps ..)
    exact h2
  clear e4
  extract_lets -merge -useContext +onlyGivenNames y6; clear_value (e7 : y6 = _)
  extract_lets -merge -useContext +onlyGivenNames y8; clear_value (e9 : y8 = _)
  refine .cut e9 ?_ fun h10 => ?_
  · refine .trans ?_ (assertAlert_keeps ..)
    refine .trans ?_ (record_keeps ..)
    refine .upd ?_
    exact h5
  clear e9
  refine .trans ?_ (setUnaligned_keeps ..)
  refine .trans ?_ (forEach_keeps _ _ _ ?_)
  rotate_left
  · intro t11 t12
    refine .trans ?_ (endPending_keeps ..)
    exact .refl _
  exact h10

theorem sendProbe_keeps {m : Nat} x0 s  : Keeps m s (sendProbe x0 s) := by
  unfold sendProbe
  refine .trans ?_ (emit_keeps ..)
  refine .upd ?_
  exact .refl _

theorem execSyncReportSlot_keeps {m : Nat} x0 s  : KeepsR m s (execSyncReportSlot x0 s) := by
  unfold execSyncReportSlot
  extract_lets -merge -useContext +onlyGivenNames y0; clear_value (e1 : y0 = _)
  refine .cut e1 ?_ fun h2 => ?_
  · refine .trans ?_ (advance_keeps ..)
    exact .refl _
  clear e1
  refine .next ?_
  refine .ite (by exact h2) ?_
  refine .trans ?_ (sendReport_keeps ..)
  split
  · refine .ite ?_ (by exact h2)
    refine .trans ?_ (sendProbe_keeps ..)
    exact h2
  · exact h2

theorem execSyncResetDomain_keeps {m : Nat} x0 s  : KeepsR m s (execSyncResetDomain x0 s) := by
  unfold execSyncResetDomain
  refine .next ?_
  refine .trans ?_ (runRequest_keeps _ _ _ (by exact syncResetDomainCmd_keeps ))
  exact .refl _

theorem execSysClearFlags_keeps {m : Nat} x0 s (hm : Within 256 m := by first | exact .trans (by assumption) ⟨rfl⟩ | exact ⟨rfl⟩) : KeepsR m s (execSysClearFlags x0 s) := by
  unfold execSysClearFlags
  refine .next ?_
  refine .trans ?_ (runRequest_keeps _ _ _ (by exact sysClearFlagsCmd_keeps ))
  exact .refl _

theorem sysCloseSessionCmd_keeps {m : Nat} (w : Waiter) (q : Request) (s : State)  : Keeps m s (sysCloseSessionCmd.act w q s) := by
  dsimp -zeta only [sysCloseSessionCmd, setCmd, readCmd, readClearCmd]
  refine .trans ?_ (closeAfterReply_keeps ..)
  refine .trans ?_ (reply_keeps ..)
  exact .refl _

theorem execSysCloseSession_keeps {m : Nat} x0 s  : KeepsR m s (execSysCloseSession x0 s) := by
  unfold execSysCloseSession
  refine .next ?_
  refine .trans ?_ (runRequest_keeps _ _ _ (by exact sysCloseSessionCmd_keeps ))
  exact .refl _

theorem sysGetFabricCmd_keeps {m : Nat} (w : Waiter) (q : Request) (s : State)  : Keeps m s (sysGetFabricCmd.act w q s) := by
  dsimp -zeta only [sysGetFabricCmd, setCmd, readCmd, readClearCmd]
  refine .trans ?_ (reply_keeps ..)
  refine .trans ?_ (updSession_keeps ..)
  exact .refl _

theorem execSysGetFabric_keeps {m : Nat} x0 s  : KeepsR m s (execSysGetFabric x0 s) := by
  unfold execSysGetFabric
  refine .next ?_
  refine .trans ?_ (runRequest_keeps _ _ _ (by exact sysGetFabricCmd_keeps ))
  exact .refl _

theorem sysGetIdentityCmd_keeps {m : Nat} (w : Waiter) (q : Request) (s : State)  : Keeps m s (sysGetIdentityCmd.act w q s) := by
  dsimp -zeta only [sysGetIdentityCmd, setCmd, readCmd, readClearCmd]
  refine .trans ?_ (reply_keeps ..)
  exact .refl _

theorem execSysGetIdentity_keeps {m : Nat} x0 s  : KeepsR m s (execSysGetIdentity x0 s) := by
  unfold execSysGetIdentity
  refine .next ?_
  refine .trans ?_ (runRequest_keeps _ _ _ (by exact sysGetIdentityCmd_keeps ))
  exact .refl _

theorem sysGetPowerCmd_keeps {m : Nat} (w : Waiter) (q : Request) (s : State)  : Keeps m s (sysGetPowerCmd.act w q s) := by
  dsimp -zeta only [sysGetPowerCmd, setCmd, readCmd, readClearCmd]
  refine .trans ?_ (reply_keeps ..)
  exact .refl _

theorem execSysGetPower_keeps {m : Nat} x0 s  : KeepsR m s (execSysGetPower x0 s) := by
  unfold execSysGetPower
  refine .next ?_
  refine .trans ?_ (runRequest_keeps _ _ _ (by exact sysGetPowerCmd_keeps ))
  exact .refl _

theorem rejectOpen_keeps {m : Nat} x0 x1 s  : Keeps m s (rejectOpen x0 x1 s) := by
  unfold rejectOpen
  extract_lets -merge -useContext +onlyGivenNames y0; clear_value (e1 : y0 = _)
  extract_lets -merge -useContext +onlyGivenNames y2; clear_value (e3 : y2 = _)
  refine .trans ?_ (replyPeer_keeps ..)
  refine .trans ?_ (carrying_keeps _ _ ?_)
  rotate_left
  · intro t4
    refine .trans ?_ (stageBody_keeps ..)
    exact .refl _
  exact .refl _

theorem openOverEthernet_keeps {m : Nat} x0 x1 s  : Keeps m s (openOverEthernet x0 x1 s) := by
  unfold openOverEthernet
  extract_lets -merge -useContext +onlyGivenNames y0; clear_value (e1 : y0 = _)
  refine .cut e1 ?_ fun h2 => ?_
  · refine .trans ?_ (dropOpen_keeps ..)
    exact .refl _
  clear e1
  split
  · refine .trans ?_ (rejectOpen_keeps ..)
    exact h2
  · split
    · refine .trans ?_ (rejectOpen_keeps ..)
      exact h2
    · refine .trans ?_ (acceptOpen_keeps ..)
      exact h2

theorem sysOpenSessionCmd_keeps {m : Nat} (w : Waiter) (q : Request) (s : State)  : Keeps m s (sysOpenSessionCmd.act w q s) := by
  dsimp -zeta only [sysOpenSessionCmd, setCmd, readCmd, readClearCmd]
  refine .trans ?_ (reply_keeps ..)
  exact .refl _

theorem execSysOpenSession_keeps {m : Nat} x0 s  : KeepsR m s (execSysOpenSession x0 s) := by
  unfold execSysOpenSession
  refine .ite ?_ ?_
  · extract_lets -merge -useContext +onlyGivenNames y0; clear_value (e1 : y0 = _)
    refine .cut e1 ?_ fun h2 => ?_
    · refine .trans ?_ (advance_keeps ..)
      exact .refl _
    clear e1
    refine .next ?_
    split
    · exact h2
    · refine .ite (by exact h2) ?_
      refine .ite ?_ ?_
      · refine .trans ?_ (openOverEthernet_keeps ..)
        exact h2
      · refine .trans ?_ (holdOpen_keeps ..)
        exact h2
  · refine .next ?_
    refine .trans ?_ (runRequest_keeps _ _ _ (by exact sysOpenSessionCmd_keeps ))
    exact .refl _

theorem execSysResetSubsystem_keeps {m : Nat} x0 s (hm : Within 309229780992 m := by first | exact .trans (by assumption) ⟨rfl⟩ | exact ⟨rfl⟩) : KeepsR m s (execSysResetSubsystem x0 s) := by
  unfold execSysResetSubsystem
  refine .next ?_
  refine .trans ?_ (runRequest_keeps _ _ _ (by exact sysResetSubsystemCmd_keeps ))
  exact .refl _

theorem execSysRestart_keeps {m : Nat} x0 s (hm : Within 58548989789028 m := by first | exact .trans (by assumption) ⟨rfl⟩ | exact ⟨rfl⟩) : KeepsR m s (execSysRestart x0 s) := by
  unfold execSysRestart
  refine .next ?_
  refine .trans ?_ (runRequest_keeps _ _ _ (by exact sysRestartCmd_keeps ))
  exact .refl _

theorem execSysSetMarginFloor_keeps {m : Nat} x0 s (hm : Within 64 m := by first | exact .trans (by assumption) ⟨rfl⟩ | exact ⟨rfl⟩) : KeepsR m s (execSysSetMarginFloor x0 s) := by
  unfold execSysSetMarginFloor
  refine .next ?_
  refine .trans ?_ (runRequest_keeps _ _ _ (by exact sysSetMarginFloorCmd_keeps ))
  exact .refl _

theorem execSysSetNetwork_keeps {m : Nat} x0 s (hm : Within 8 m := by first | exact .trans (by assumption) ⟨rfl⟩ | exact ⟨rfl⟩) : KeepsR m s (execSysSetNetwork x0 s) := by
  unfold execSysSetNetwork
  refine .next ?_
  refine .trans ?_ (runRequest_keeps _ _ _ (by exact sysSetNetworkCmd_keeps ))
  exact .refl _

theorem execSysSetPowerState_keeps {m : Nat} x0 s (hm : Within 304942678016 m := by first | exact .trans (by assumption) ⟨rfl⟩ | exact ⟨rfl⟩) : KeepsR m s (execSysSetPowerState x0 s) := by
  unfold execSysSetPowerState
  refine .next ?_
  refine .trans ?_ (runRequest_keeps _ _ _ (by exact sysSetPowerStateCmd_keeps ))
  exact .refl _

theorem execSysSetVcoreMode_keeps {m : Nat} x0 s (hm : Within 128 m := by first | exact .trans (by assumption) ⟨rfl⟩ | exact ⟨rfl⟩) : KeepsR m s (execSysSetVcoreMode x0 s) := by
  unfold execSysSetVcoreMode
  refine .next ?_
  refine .trans ?_ (runRequest_keeps _ _ _ (by exact sysSetVcoreModeCmd_keeps ))
  exact .refl _

theorem gateEdge_keeps {m : Nat} x0 x1 x2 s (hm : Within 294205259776 m := by first | exact .trans (by assumption) ⟨rfl⟩ | exact ⟨rfl⟩) : Keeps m s (gateEdge x0 x1 x2 s) := by
  unfold gateEdge
  extract_lets -merge -useContext +onlyGivenNames y0; clear_value (e1 : y0 = _)
  extract_lets -merge -useContext +onlyGivenNames y2; clear_value (e3 : y2 = _)
  refine .cut e3 ?_ fun h4 => ?_
  · refine .trans ?_ (settleGate_keeps ..)
    exact .refl _
  clear e3
  extract_lets -merge -useContext +onlyGivenNames y5; clear_value (e6 : y5 = _)
  extract_lets -merge -useContext +onlyGivenNames y7; clear_value (e8 : y7 = _)
  refine .cut e8 ?_ fun h9 => ?_
  · refine .trans ?_ (updTach_keeps ..)
    exact h4
  clear e8
  refine .ite ?_ (by exact h9)
  refine .trans ?_ (settleGate_keeps ..)
  exact h9

theorem slotEdge_keeps {m : Nat} x0 x1 s  : Keeps m s (slotEdge x0 x1 s) := by
  unfold slotEdge
  refine .trans ?_ (pushEvent_keeps ..)
  exact .refl _

theorem execTachEdge_keeps {m : Nat} x0 x1 x2 x3 s (hm : Within 294205259776 m := by first | exact .trans (by assumption) ⟨rfl⟩ | exact ⟨rfl⟩) : KeepsR m s (execTachEdge x0 x1 x2 x3 s) := by
  unfold execTachEdge
  extract_lets +onlyGivenNames y
  have h : Keeps m s y := advance_keeps _ _
  clear_value y
  refine KeepsR.next (Keeps.ite h ?_)
  split
  rename_i st t e
  have h1 : Keeps m s t := by
    have := takeEdge_keeps (m := m) x1 x2 x3 (updTach x1 (fun x => { x with level := some x2 }) y)
    rw [e] at this; exact (h.trans (updTach_keeps _ _ _)).trans this
  extract_lets +onlyGivenNames z
  have h2 : Keeps m s z := (h1.trans (gateEdge_keeps _ _ _ _)).trans (angleEdge_keeps _ _ _ _)
  clear_value z
  split
  · exact (h2.trans (batchStamp_keeps _ _ _)).trans (slotEdge_keeps _ _ _)
  · exact h2

theorem execTachSettingTakesEffect_keeps {m : Nat} x0 x1 s (hm : Within 2147483648 m := by first | exact .trans (by assumption) ⟨rfl⟩ | exact ⟨rfl⟩) : KeepsR m s (execTachSettingTakesEffect x0 x1 s) := by
  unfold execTachSettingTakesEffect
  extract_lets -merge -useContext +onlyGivenNames y0; clear_value (e1 : y0 = _)
  refine .cut e1 ?_ fun h2 => ?_
  · refine .trans ?_ (advance_keeps ..)
    exact .refl _
  clear e1
  refine .next ?_
  split
  · exact h2
  · refine .trans ?_ (updSource_keeps ..)
    refine .trans ?_ (updTach_keeps ..)
    exact h2

theorem execTaskComplete_keeps {m : Nat} x0 x1 s (hm : Within 292057776128 m := by first | exact .trans (by assumption) ⟨rfl⟩ | exact ⟨rfl⟩) : KeepsR m s (execTaskComplete x0 x1 s) := by
  unfold execTaskComplete
  extract_lets -merge -useContext +onlyGivenNames y0; clear_value (e1 : y0 = _)
  refine .cut e1 ?_ fun h2 => ?_
  · refine .trans ?_ (advance_keeps ..)
    exact .refl _
  clear e1
  refine .next ?_
  split
  · exact h2
  · extract_lets -merge -useContext +onlyGivenNames y3; clear_value (e4 : y3 = _)
    refine .cut e4 ?_ fun h5 => ?_
    · refine .trans ?_ (updEngine_keeps ..)
      exact h2
    clear e4
    refine .trans ?_ (startNext_keeps ..)
    refine .trans ?_ (answerStops_keeps ..)
    refine .ite (by exact h5) ?_
    refine .trans ?_ (completeRelease_keeps ..)
    exact h5

theorem execTdcTableStale_keeps {m : Nat} x0 x1 x2 s  : KeepsR m s (execTdcTableStale x0 x1 x2 s) := by
  unfold execTdcTableStale
  extract_lets -merge -useContext +onlyGivenNames y0; clear_value (e1 : y0 = _)
  refine .cut e1 ?_ fun h2 => ?_
  · refine .trans ?_ (advance_keeps ..)
    exact .refl _
  clear e1
  extract_lets -merge -useContext +onlyGivenNames y3; clear_value (e4 : y3 = _)
  refine .next ?_
  refine .ite ?_ (by exact h2)
  refine .trans ?_ (record_keeps ..)
  refine .trans ?_ (updSource_keeps ..)
  exact h2

theorem sensorFault_keeps {m : Nat} x0 s  : Keeps m s (sensorFault x0 s) := by
  unfold sensorFault
  refine .ite (by exact .refl _) ?_
  refine .trans ?_ (record_keeps ..)
  refine .trans ?_ (assertAlert_keeps ..)
  refine .trans ?_ (updInCal_keeps ..)
  exact .refl _

theorem execTemperatureReading_keeps {m : Nat} x0 x1 x2 s (hm : Within 1572864 m := by first | exact .trans (by assumption) ⟨rfl⟩ | exact ⟨rfl⟩) : KeepsR m s (execTemperatureReading x0 x1 x2 s) := by
  unfold execTemperatureReading
  extract_lets -merge -useContext +onlyGivenNames y0; clear_value (e1 : y0 = _)
  refine .cut e1 ?_ fun h2 => ?_
  · refine .trans ?_ (advance_keeps ..)
    exact .refl _
  clear e1
  refine .next ?_
  refine .ite (by exact h2) ?_
  extract_lets -merge -useContext +onlyGivenNames y3; clear_value (e4 : y3 = _)
  extract_lets -merge -useContext +onlyGivenNames y5; clear_value (e6 : y5 = _)
  refine .cut e6 ?_ fun h7 => ?_
  · refine .trans ?_ (updInCal_keeps ..)
    exact h2
  clear e6
  extract_lets -merge -useContext +onlyGivenNames y8; clear_value (e9 : y8 = _)
  refine .cut e9 ?_ fun h10 => ?_
  · refine .ite ?_ (by exact h7)
    refine .trans ?_ (sensorFault_keeps ..)
    exact h7
  clear e9
  extract_lets -merge -useContext +onlyGivenNames y11; clear_value (e12 : y11 = _)
  refine .cut e12 ?_ fun h13 => ?_
  · refine .trans ?_ (checkQuality_keeps ..)
    exact h10
  clear e12
  extract_lets -merge -useContext +onlyGivenNames y14; clear_value (e15 : y14 = _)
  refine .ite ?_ (by exact h13)
  refine .trans ?_ (passDue_keeps ..)
  exact h13

theorem judgeHalt_keeps {m : Nat} s (hm : Within 19101231088128 m := by first | exact .trans (by assumption) ⟨rfl⟩ | exact ⟨rfl⟩) : Keeps m s (judgeHalt s) := by
  unfold judgeHalt
  refine .ite ?_ ?_
  · refine .upd ?_
    exact .refl _
  · refine .ite ?_ ?_
    · refine .upd ?_
      exact .refl _
    · refine .trans ?_ (haltModule_keeps ..)
      refine .trans ?_ (record_keeps ..)
      refine .upd ?_
      exact .refl _

theorem judgeTj_keeps {m : Nat} s  : Keeps m s (judgeTj s) := by
  unfold judgeTj
  refine .ite ?_ ?_
  · refine .trans ?_ (record_keeps ..)
    refine .trans ?_ (assertAlert_keeps ..)
    refine .upd ?_
    exact .refl _
  · refine .ite ?_ (by exact .refl _)
    refine .trans ?_ (releaseAlert_keeps ..)
    refine .trans ?_ (record_keeps ..)
    refine .upd ?_
    exact .refl _

theorem execTjReading_keeps {m : Nat} x0 x1 s (hm : Within 19101231088128 m := by first | exact .trans (by assumption) ⟨rfl⟩ | exact ⟨rfl⟩) : KeepsR m s (execTjReading x0 x1 s) := by
  unfold execTjReading
  extract_lets -merge -useContext +onlyGivenNames y0; clear_value (e1 : y0 = _)
  refine .cut e1 ?_ fun h2 => ?_
  · refine .trans ?_ (advance_keeps ..)
    exact .refl _
  clear e1
  refine .next ?_
  refine .ite (by exact h2) ?_
  refine .trans ?_ (judgeHalt_keeps ..)
  refine .trans ?_ (judgeTj_keeps ..)
  refine .upd ?_
  exact h2

theorem execTokenGain_keeps {m : Nat} x0 s (hm : Within 402653184 m := by first | exact .trans (by assumption) ⟨rfl⟩ | exact ⟨rfl⟩) : KeepsR m s (execTokenGain x0 s) := by
  unfold execTokenGain
  extract_lets -merge -useContext +onlyGivenNames y0; clear_value (e1 : y0 = _)
  refine .cut e1 ?_ fun h2 => ?_
  · refine .trans ?_ (settleTokens_keeps ..)
    refine .trans ?_ (advance_keeps ..)
    exact .refl _
  clear e1
  extract_lets -merge -useContext +onlyGivenNames y3; clear_value (e4 : y3 = _)
  refine .next ?_
  refine .ite (by exact h2) ?_
  refine .trans ?_ (setTokens_keeps ..)
  exact h2

theorem execTrainingPause_keeps {m : Nat} x0 x1 x2 x3 x4 s (hm : Within 549755813888 m := by first | exact .trans (by assumption) ⟨rfl⟩ | exact ⟨rfl⟩) : KeepsR m s (execTrainingPause x0 x1 x2 x3 x4 s) := by
  unfold execTrainingPause
  extract_lets -merge -useContext +onlyGivenNames y0; first | clear_value (e1 : y0 = _) | have e1 : y0 = _ := rfl
  refine .cut e1 ?_ fun h2 => ?_
  · refine .trans ?_ (advance_keeps ..)
    exact .refl _
  clear e1
  refine .next ?_
  split
  · exact h2
  · extract_lets -merge -useContext +onlyGivenNames y3; first | clear_value (e4 : y3 = _) | have e4 : y3 = _ := rfl
    refine .cut e4 ?_ fun h5 => ?_
    · refine .trans ?_ (updRank_keeps ..)
      refine .trans ?_ (updRank_keeps ..)
      exact h2
    clear e4
    extract_lets -merge -useContext +onlyGivenNames y6; first | clear_value (e7 : y6 = _) | skip
    refine .ite ?_ ?_
    · refine .ite ?_ ?_
      · refine .trans ?_ (completeStep_keeps ..)
        exact h5
      · refine .upd ?_
        exact h5
    · refine .ite ?_ ?_
      · refine .trans ?_ (abandonStep_keeps ..)
        exact h5
      · refine .upd ?_
        exact h5

theorem execTrainingStep_keeps {m : Nat} x0 s  : KeepsR m s (execTrainingStep x0 s) := by
  unfold execTrainingStep
  extract_lets -merge -useContext +onlyGivenNames y0; clear_value (e1 : y0 = _)
  refine .cut e1 ?_ fun h2 => ?_
  · refine .trans ?_ (advance_keeps ..)
    exact .refl _
  clear e1
  refine .next ?_
  refine .ite (by exact h2) ?_
  extract_lets -merge -useContext +onlyGivenNames y3; clear_value (e4 : y3 = _)
  refine .trans ?_ (startStep_keeps ..)
  refine .upd ?_
  exact h2

theorem execTrigForce_keeps {m : Nat} x0 s (hm : Within 134217728 m := by first | exact .trans (by assumption) ⟨rfl⟩ | exact ⟨rfl⟩) : KeepsR m s (execTrigForce x0 s) := by
  unfold execTrigForce
  refine .next ?_
  refine .trans ?_ (runRequest_keeps _ _ _ (by exact trigForceCmd_keeps ))
  exact .refl _

theorem trigGetStatusCmd_keeps {m : Nat} (w : Waiter) (q : Request) (s : State) (hm : Within 402653184 m := by first | exact .trans (by assumption) ⟨rfl⟩ | exact ⟨rfl⟩) : Keeps m s (trigGetStatusCmd.act w q s) := by
  dsimp -zeta only [trigGetStatusCmd, setCmd, readCmd, readClearCmd]
  refine .trans ?_ (reply_keeps ..)
  exact .refl _

theorem execTrigGetStatus_keeps {m : Nat} x0 s (hm : Within 402653184 m := by first | exact .trans (by assumption) ⟨rfl⟩ | exact ⟨rfl⟩) : KeepsR m s (execTrigGetStatus x0 s) := by
  unfold execTrigGetStatus
  refine .next ?_
  refine .trans ?_ (runRequest_keeps _ _ _ (by exact trigGetStatusCmd_keeps ))
  exact .refl _

theorem execTrigSetBus_keeps {m : Nat} x0 s (hm : Within 536870912 m := by first | exact .trans (by assumption) ⟨rfl⟩ | exact ⟨rfl⟩) : KeepsR m s (execTrigSetBus x0 s) := by
  unfold execTrigSetBus
  refine .next ?_
  refine .trans ?_ (runRequest_keeps _ _ _ (by exact trigSetBusCmd_keeps ))
  exact .refl _

theorem execTrigSetComparator_keeps {m : Nat} x0 s (hm : Within 33554432 m := by first | exact .trans (by assumption) ⟨rfl⟩ | exact ⟨rfl⟩) : KeepsR m s (execTrigSetComparator x0 s) := by
  unfold execTrigSetComparator
  refine .next ?_
  refine .trans ?_ (runRequest_keeps _ _ _ (by exact trigSetComparatorCmd_keeps ))
  exact .refl _

theorem execTrigSetCondition_keeps {m : Nat} x0 s (hm : Within 67108864 m := by first | exact .trans (by assumption) ⟨rfl⟩ | exact ⟨rfl⟩) : KeepsR m s (execTrigSetCondition x0 s) := by
  unfold execTrigSetCondition
  refine .next ?_
  refine .trans ?_ (runRequest_keeps _ _ _ (by exact trigSetConditionCmd_keeps ))
  exact .refl _

theorem execTrigSetGroup_keeps {m : Nat} x0 s (hm : Within 134217728 m := by first | exact .trans (by assumption) ⟨rfl⟩ | exact ⟨rfl⟩) : KeepsR m s (execTrigSetGroup x0 s) := by
  unfold execTrigSetGroup
  refine .next ?_
  refine .trans ?_ (runRequest_keeps _ _ _ (by exact trigSetGroupCmd_keeps ))
  exact .refl _

theorem execTrigSetMarker_keeps {m : Nat} x0 s (hm : Within 268435456 m := by first | exact .trans (by assumption) ⟨rfl⟩ | exact ⟨rfl⟩) : KeepsR m s (execTrigSetMarker x0 s) := by
  unfold execTrigSetMarker
  refine .next ?_
  refine .trans ?_ (runRequest_keeps _ _ _ (by exact trigSetMarkerCmd_keeps ))
  exact .refl _

theorem execTrigSetPattern_keeps {m : Nat} x0 s (hm : Within 134217728 m := by first | exact .trans (by assumption) ⟨rfl⟩ | exact ⟨rfl⟩) : KeepsR m s (execTrigSetPattern x0 s) := by
  unfold execTrigSetPattern
  refine .next ?_
  refine .trans ?_ (runRequest_keeps _ _ _ (by exact trigSetPatternCmd_keeps ))
  exact .refl _

theorem execTrigbusFrameSent_keeps {m : Nat} x0 s  : KeepsR m s (execTrigbusFrameSent x0 s) := by
  unfold execTrigbusFrameSent
  extract_lets -merge -useContext +onlyGivenNames y0; clear_value (e1 : y0 = _)
  refine .cut e1 ?_ fun h2 => ?_
  · refine .trans ?_ (advance_keeps ..)
    exact .refl _
  clear e1
  refine .next ?_
  split
  · exact h2
  · refine .trans ?_ (emit_keeps ..)
    refine .upd ?_
    exact h2

theorem execTrigbusMessageReceived_keeps {m : Nat} x0 x1 s (hm : Within 134217728 m := by first | exact .trans (by assumption) ⟨rfl⟩ | exact ⟨rfl⟩) : KeepsR m s (execTrigbusMessageReceived x0 x1 s) := by
  unfold execTrigbusMessageReceived
  extract_lets +onlyGivenNames y bytes
  have h : Keeps m s y := advance_keeps _ _
  clear_value bytes
  refine KeepsR.next (Keeps.ite ?_ ?_)
  · refine .trans ?_ (recordLimited_keeps ..)
    exact Keeps.upd h
  · extract_lets -merge +onlyGivenNames a z u
    have h1 : Keeps m s z := Keeps.upd h
    have h2 : Keeps m s u := Keeps.ite (h1.trans (emit_keeps _ _ _ _)) h1
    exact Keeps.ite h2 (h2.trans (forEach_keeps _ _ _ fun a t => busTrigger_keeps _ _ _))

theorem execTrigbusReportReceived_keeps {m : Nat} x0 x1 s  : KeepsR m s (execTrigbusReportReceived x0 x1 s) := by
  unfold execTrigbusReportReceived
  extract_lets -merge -useContext +onlyGivenNames y0; clear_value (e1 : y0 = _)
  refine .cut e1 ?_ fun h2 => ?_
  · refine .trans ?_ (advance_keeps ..)
    exact .refl _
  clear e1
  refine .next ?_
  refine .ite (by exact h2) ?_
  refine .ite ?_ ?_
  · refine .upd ?_
    exact h2
  · refine .upd ?_
    exact h2

theorem execTriggerClassified_keeps {m : Nat} x0 x1 s (hm : Within 5838471168 m := by first | exact .trans (by assumption) ⟨rfl⟩ | exact ⟨rfl⟩) : KeepsR m s (execTriggerClassified x0 x1 s) := by
  unfold execTriggerClassified
  extract_lets -merge -useContext +onlyGivenNames y0; clear_value (e1 : y0 = _)
  refine .cut e1 ?_ fun h2 => ?_
  · refine .trans ?_ (settleTokens_keeps ..)
    refine .trans ?_ (evaluate_keeps ..)
    refine .trans ?_ (advance_keeps ..)
    exact .refl _
  clear e1
  refine .next ?_
  split
  · exact h2
  · refine .ite ?_ (by exact h2)
    refine .trans ?_ (settleTokens_keeps ..)
    refine .trans ?_ (classify_keeps ..)
    refine .trans ?_ (updTg_keeps ..)
    exact h2

theorem execTriginEdge_keeps {m : Nat} x0 x1 x2 x3 s  : KeepsR m s (execTriginEdge x0 x1 x2 x3 s) := by
  unfold execTriginEdge
  extract_lets -merge -useContext +onlyGivenNames y0; clear_value (e1 : y0 = _)
  refine .cut e1 ?_ fun h2 => ?_
  · refine .trans ?_ (advance_keeps ..)
    exact .refl _
  clear e1
  refine .next ?_
  refine .ite (by exact h2) ?_
  refine .trans ?_ (pushEvent_keeps ..)
  refine .upd ?_
  exact h2

theorem resetTap_keeps {m : Nat} s (hm : Within 70368744177664 m := by first | exact .trans (by assumption) ⟨rfl⟩ | exact ⟨rfl⟩) : Keeps m s (resetTap s) := by
  unfold resetTap
  refine .trans ?_ (settleExtest_keeps ..)
  refine .upd ?_
  exact .refl _

theorem execTrstnAsserted_keeps {m : Nat} x0 s (hm : Within 70368744177664 m := by first | exact .trans (by assumption) ⟨rfl⟩ | exact ⟨rfl⟩) : KeepsR m s (execTrstnAsserted x0 s) := by
  unfold execTrstnAsserted
  extract_lets -merge -useContext +onlyGivenNames y0; clear_value (e1 : y0 = _)
  refine .cut e1 ?_ fun h2 => ?_
  · refine .trans ?_ (advance_keeps ..)
    exact .refl _
  clear e1
  refine .next ?_
  refine .trans ?_ (resetTap_keeps ..)
  exact h2

theorem unallocatedCmd_keeps {m : Nat} x0 w q s  : Keeps m s ((unallocatedCmd x0).act w q s) := by
  dsimp -zeta only [unallocatedCmd, setCmd, readCmd, readClearCmd]
  refine .trans ?_ (reply_keeps ..)
  exact .refl _

theorem execUnallocatedOpcodeRequest_keeps {m : Nat} x0 x1 s  : KeepsR m s (execUnallocatedOpcodeRequest x0 x1 s) := by
  unfold execUnallocatedOpcodeRequest
  refine .next ?_
  refine .ite ?_ ?_
  · refine .trans ?_ (advance_keeps ..)
    exact .refl _
  · refine .trans ?_ (runRequest_keeps _ _ _ (by exact unallocatedCmd_keeps _))
    exact .refl _

theorem execVauxLeavesTolerance_keeps {m : Nat} x0 s (hm : Within 41231686038372 m := by first | exact .trans (by assumption) ⟨rfl⟩ | exact ⟨rfl⟩) : KeepsR m s (execVauxLeavesTolerance x0 s) := by
  unfold execVauxLeavesTolerance
  extract_lets -merge -useContext +onlyGivenNames y0; clear_value (e1 : y0 = _)
  refine .cut e1 ?_ fun h2 => ?_
  · refine .trans ?_ (advance_keeps ..)
    exact .refl _
  clear e1
  refine .next ?_
  refine .ite (by exact h2) ?_
  extract_lets -merge -useContext +onlyGivenNames y3; clear_value (e4 : y3 = _)
  refine .cut e4 ?_ fun h5 => ?_
  · refine .trans ?_ (loseMemory_keeps ..)
    refine .trans ?_ (enterReset_keeps ..)
    exact h2
  clear e4
  refine .upd ?_
  exact h5

theorem execVovenApplied_keeps {m : Nat} x0 s  : KeepsR m s (execVovenApplied x0 s) := by
  unfold execVovenApplied
  extract_lets -merge -useContext +onlyGivenNames y0; clear_value (e1 : y0 = _)
  refine .cut e1 ?_ fun h2 => ?_
  · refine .trans ?_ (advance_keeps ..)
    exact .refl _
  clear e1
  refine .next ?_
  refine .upd ?_
  exact h2

theorem execVovenRemoved_keeps {m : Nat} x0 s  : KeepsR m s (execVovenRemoved x0 s) := by
  unfold execVovenRemoved
  extract_lets -merge -useContext +onlyGivenNames y0; clear_value (e1 : y0 = _)
  refine .cut e1 ?_ fun h2 => ?_
  · refine .trans ?_ (advance_keeps ..)
    exact .refl _
  clear e1
  refine .next ?_
  refine .upd ?_
  exact h2

theorem execWakeEdge_keeps {m : Nat} x0 s  : KeepsR m s (execWakeEdge x0 s) := by
  unfold execWakeEdge
  extract_lets -merge -useContext +onlyGivenNames y0; clear_value (e1 : y0 = _)
  refine .cut e1 ?_ fun h2 => ?_
  · refine .trans ?_ (advance_keeps ..)
    exact .refl _
  clear e1
  refine .next ?_
  refine .ite ?_ (by exact h2)
  refine .trans ?_ (wake_keeps ..)
  exact h2

theorem execWatchdogExpiry_keeps {m : Nat} x0 s (hm : Within 58548989789028 m := by first | exact .trans (by assumption) ⟨rfl⟩ | exact ⟨rfl⟩) : KeepsR m s (execWatchdogExpiry x0 s) := by
  unfold execWatchdogExpiry
  extract_lets -merge -useContext +onlyGivenNames y0; clear_value (e1 : y0 = _)
  refine .cut e1 ?_ fun h2 => ?_
  · refine .trans ?_ (advance_keeps ..)
    exact .refl _
  clear e1
  refine .next ?_
  refine .ite (by exact h2) ?_
  extract_lets -merge -useContext +onlyGivenNames y3; clear_value (e4 : y3 = _)
  refine .trans ?_ (warmStart_keeps ..)
  refine .upd ?_
  exact h2

end Sys2Proof.Machine
end

