-- ==== Sys2Proof/Laws/State.lean ====
section
/-! SUPPORT. What the shared operations leave as it is: one equation for each part of the state that an operation does not
touch. Proofs read a field through a chain of operations by `simp` with these, and unfold no record update. -/

namespace Sys2Proof.Machine

@[simp] theorem emit_time l a d s : (emit l a d s).time = s.time := rfl
@[simp] theorem emit_clk l a d s : (emit l a d s).clk = s.clk := rfl
@[simp] theorem emit_boot l a d s : (emit l a d s).boot = s.boot := rfl
@[simp] theorem emit_pwr l a d s : (emit l a d s).pwr = s.pwr := rfl
@[simp] theorem emit_pcie l a d s : (emit l a d s).pcie = s.pcie := rfl
@[simp] theorem emit_sess l a d s : (emit l a d s).sess = s.sess := rfl
@[simp] theorem emit_evt l a d s : (emit l a d s).evt = s.evt := rfl
@[simp] theorem emit_prot l a d s : (emit l a d s).prot = s.prot := rfl
@[simp] theorem emit_inp l a d s : (emit l a d s).inp = s.inp := rfl
@[simp] theorem emit_cal l a d s : (emit l a d s).cal = s.cal := rfl
@[simp] theorem emit_flt l a d s : (emit l a d s).flt = s.flt := rfl
@[simp] theorem emit_trg l a d s : (emit l a d s).trg = s.trg := rfl
@[simp] theorem emit_seg l a d s : (emit l a d s).seg = s.seg := rfl
@[simp] theorem emit_edge l a d s : (emit l a d s).edge = s.edge := rfl
@[simp] theorem emit_aux l a d s : (emit l a d s).aux = s.aux := rfl
@[simp] theorem emit_mem l a d s : (emit l a d s).mem = s.mem := rfl
@[simp] theorem emit_xfer l a d s : (emit l a d s).xfer = s.xfer := rfl
@[simp] theorem emit_ham l a d s : (emit l a d s).ham = s.ham := rfl
@[simp] theorem emit_dmx l a d s : (emit l a d s).dmx = s.dmx := rfl
@[simp] theorem emit_eng l a d s : (emit l a d s).eng = s.eng := rfl
@[simp] theorem emit_sync l a d s : (emit l a d s).sync = s.sync := rfl
@[simp] theorem emit_jtag l a d s : (emit l a d s).jtag = s.jtag := rfl
@[simp] theorem emit_free l a d s : (emit l a d s).free = s.free := rfl
@[simp] theorem emit_pending l a d s : (emit l a d s).pending = s.pending := rfl
@[simp] theorem sendMsix_time v s : (sendMsix v s).time = s.time := by
  unfold sendMsix
  repeat' first | rfl | split | simp
@[simp] theorem sendMsix_clk v s : (sendMsix v s).clk = s.clk := by
  unfold sendMsix
  repeat' first | rfl | split | simp
@[simp] theorem sendMsix_boot v s : (sendMsix v s).boot = s.boot := by
  unfold sendMsix
  repeat' first | rfl | split | simp
@[simp] theorem sendMsix_pwr v s : (sendMsix v s).pwr = s.pwr := by
  unfold sendMsix
  repeat' first | rfl | split | simp
@[simp] theorem sendMsix_sess v s : (sendMsix v s).sess = s.sess := by
  unfold sendMsix
  repeat' first | rfl | split | simp
@[simp] theorem sendMsix_evt v s : (sendMsix v s).evt = s.evt := by
  unfold sendMsix
  repeat' first | rfl | split | simp
@[simp] theorem sendMsix_prot v s : (sendMsix v s).prot = s.prot := by
  unfold sendMsix
  repeat' first | rfl | split | simp
@[simp] theorem sendMsix_inp v s : (sendMsix v s).inp = s.inp := by
  unfold sendMsix
  repeat' first | rfl | split | simp
@[simp] theorem sendMsix_cal v s : (sendMsix v s).cal = s.cal := by
  unfold sendMsix
  repeat' first | rfl | split | simp
@[simp] theorem sendMsix_flt v s : (sendMsix v s).flt = s.flt := by
  unfold sendMsix
  repeat' first | rfl | split | simp
@[simp] theorem sendMsix_trg v s : (sendMsix v s).trg = s.trg := by
  unfold sendMsix
  repeat' first | rfl | split | simp
@[simp] theorem sendMsix_seg v s : (sendMsix v s).seg = s.seg := by
  unfold sendMsix
  repeat' first | rfl | split | simp
@[simp] theorem sendMsix_edge v s : (sendMsix v s).edge = s.edge := by
  unfold sendMsix
  repeat' first | rfl | split | simp
@[simp] theorem sendMsix_aux v s : (sendMsix v s).aux = s.aux := by
  unfold sendMsix
  repeat' first | rfl | split | simp
@[simp] theorem sendMsix_mem v s : (sendMsix v s).mem = s.mem := by
  unfold sendMsix
  repeat' first | rfl | split | simp
@[simp] theorem sendMsix_xfer v s : (sendMsix v s).xfer = s.xfer := by
  unfold sendMsix
  repeat' first | rfl | split | simp
@[simp] theorem sendMsix_ham v s : (sendMsix v s).ham = s.ham := by
  unfold sendMsix
  repeat' first | rfl | split | simp
@[simp] theorem sendMsix_dmx v s : (sendMsix v s).dmx = s.dmx := by
  unfold sendMsix
  repeat' first | rfl | split | simp
@[simp] theorem sendMsix_eng v s : (sendMsix v s).eng = s.eng := by
  unfold sendMsix
  repeat' first | rfl | split | simp
@[simp] theorem sendMsix_sync v s : (sendMsix v s).sync = s.sync := by
  unfold sendMsix
  repeat' first | rfl | split | simp
@[simp] theorem sendMsix_jtag v s : (sendMsix v s).jtag = s.jtag := by
  unfold sendMsix
  repeat' first | rfl | split | simp
@[simp] theorem sendMsix_free v s : (sendMsix v s).free = s.free := by
  unfold sendMsix
  repeat' first | rfl | split | simp
@[simp] theorem sendMsix_pending v s : (sendMsix v s).pending = s.pending := by
  unfold sendMsix
  repeat' first | rfl | split | simp
@[simp] theorem sendMsix_pcie_linkUp v s : (sendMsix v s).pcie.linkUp = s.pcie.linkUp := by
  unfold sendMsix
  repeat' first | rfl | split | simp
@[simp] theorem sendMsix_pcie_busMaster v s : (sendMsix v s).pcie.busMaster = s.pcie.busMaster := by
  unfold sendMsix
  repeat' first | rfl | split | simp
@[simp] theorem sendMsix_pcie_perst v s : (sendMsix v s).pcie.perst = s.pcie.perst := by
  unfold sendMsix
  repeat' first | rfl | split | simp
@[simp] theorem sendMsix_pcie_unmasked v s : (sendMsix v s).pcie.unmasked = s.pcie.unmasked := by
  unfold sendMsix
  repeat' first | rfl | split | simp
@[simp] theorem sendMsix_pcie_clocking v s : (sendMsix v s).pcie.clocking = s.pcie.clocking := by
  unfold sendMsix
  repeat' first | rfl | split | simp
@[simp] theorem sendMsix_pcie_clockingSet v s : (sendMsix v s).pcie.clockingSet = s.pcie.clockingSet := by
  unfold sendMsix
  repeat' first | rfl | split | simp
@[simp] theorem setIrq_time b s : (setIrq b s).time = s.time := by
  unfold setIrq
  repeat' first | rfl | split | simp
@[simp] theorem setIrq_clk b s : (setIrq b s).clk = s.clk := by
  unfold setIrq
  repeat' first | rfl | split | simp
@[simp] theorem setIrq_pwr b s : (setIrq b s).pwr = s.pwr := by
  unfold setIrq
  repeat' first | rfl | split | simp
@[simp] theorem setIrq_sess b s : (setIrq b s).sess = s.sess := by
  unfold setIrq
  repeat' first | rfl | split | simp
@[simp] theorem setIrq_evt b s : (setIrq b s).evt = s.evt := by
  unfold setIrq
  repeat' first | rfl | split | simp
@[simp] theorem setIrq_prot b s : (setIrq b s).prot = s.prot := by
  unfold setIrq
  repeat' first | rfl | split | simp
@[simp] theorem setIrq_inp b s : (setIrq b s).inp = s.inp := by
  unfold setIrq
  repeat' first | rfl | split | simp
@[simp] theorem setIrq_cal b s : (setIrq b s).cal = s.cal := by
  unfold setIrq
  repeat' first | rfl | split | simp
@[simp] theorem setIrq_flt b s : (setIrq b s).flt = s.flt := by
  unfold setIrq
  repeat' first | rfl | split | simp
@[simp] theorem setIrq_trg b s : (setIrq b s).trg = s.trg := by
  unfold setIrq
  repeat' first | rfl | split | simp
@[simp] theorem setIrq_seg b s : (setIrq b s).seg = s.seg := by
  unfold setIrq
  repeat' first | rfl | split | simp
@[simp] theorem setIrq_edge b s : (setIrq b s).edge = s.edge := by
  unfold setIrq
  repeat' first | rfl | split | simp
@[simp] theorem setIrq_aux b s : (setIrq b s).aux = s.aux := by
  unfold setIrq
  repeat' first | rfl | split | simp
@[simp] theorem setIrq_mem b s : (setIrq b s).mem = s.mem := by
  unfold setIrq
  repeat' first | rfl | split | simp
@[simp] theorem setIrq_xfer b s : (setIrq b s).xfer = s.xfer := by
  unfold setIrq
  repeat' first | rfl | split | simp
@[simp] theorem setIrq_ham b s : (setIrq b s).ham = s.ham := by
  unfold setIrq
  repeat' first | rfl | split | simp
@[simp] theorem setIrq_dmx b s : (setIrq b s).dmx = s.dmx := by
  unfold setIrq
  repeat' first | rfl | split | simp
@[simp] theorem setIrq_eng b s : (setIrq b s).eng = s.eng := by
  unfold setIrq
  repeat' first | rfl | split | simp
@[simp] theorem setIrq_sync b s : (setIrq b s).sync = s.sync := by
  unfold setIrq
  repeat' first | rfl | split | simp
@[simp] theorem setIrq_jtag b s : (setIrq b s).jtag = s.jtag := by
  unfold setIrq
  repeat' first | rfl | split | simp
@[simp] theorem setIrq_free b s : (setIrq b s).free = s.free := by
  unfold setIrq
  repeat' first | rfl | split | simp
@[simp] theorem setIrq_pending b s : (setIrq b s).pending = s.pending := by
  unfold setIrq
  repeat' first | rfl | split | simp
@[simp] theorem setIrq_boot_st b s : (setIrq b s).boot.st = s.boot.st := by
  unfold setIrq
  repeat' first | rfl | split | simp
@[simp] theorem setIrq_boot_owedCal b s : (setIrq b s).boot.owedCal = s.boot.owedCal := by
  unfold setIrq
  repeat' first | rfl | split | simp
@[simp] theorem setIrq_boot_owedMem b s : (setIrq b s).boot.owedMem = s.boot.owedMem := by
  unfold setIrq
  repeat' first | rfl | split | simp
@[simp] theorem setIrq_boot_memReady b s : (setIrq b s).boot.memReady = s.boot.memReady := by
  unfold setIrq
  repeat' first | rfl | split | simp
@[simp] theorem setIrq_boot_armedBefore b s : (setIrq b s).boot.armedBefore = s.boot.armedBefore := by
  unfold setIrq
  repeat' first | rfl | split | simp
@[simp] theorem setIrq_boot_cause b s : (setIrq b s).boot.cause = s.boot.cause := by
  unfold setIrq
  repeat' first | rfl | split | simp
@[simp] theorem setIrq_boot_queued b s : (setIrq b s).boot.queued = s.boot.queued := by
  unfold setIrq
  repeat' first | rfl | split | simp
@[simp] theorem setIrq_boot_deepAfter b s : (setIrq b s).boot.deepAfter = s.boot.deepAfter := by
  unfold setIrq
  repeat' first | rfl | split | simp
@[simp] theorem setIrq_boot_memPreserved b s : (setIrq b s).boot.memPreserved = s.boot.memPreserved := by
  unfold setIrq
  repeat' first | rfl | split | simp
@[simp] theorem setIrq_boot_cfgDefaulted b s : (setIrq b s).boot.cfgDefaulted = s.boot.cfgDefaulted := by
  unfold setIrq
  repeat' first | rfl | split | simp
@[simp] theorem setIrq_boot_off b s : (setIrq b s).boot.off = s.boot.off := by
  unfold setIrq
  repeat' first | rfl | split | simp
@[simp] theorem setIrq_boot_downing b s : (setIrq b s).boot.downing = s.boot.downing := by
  unfold setIrq
  repeat' first | rfl | split | simp
@[simp] theorem setIrq_boot_nresetLow b s : (setIrq b s).boot.nresetLow = s.boot.nresetLow := by
  unfold setIrq
  repeat' first | rfl | split | simp
@[simp] theorem setIrq_boot_transition b s : (setIrq b s).boot.transition = s.boot.transition := by
  unfold setIrq
  repeat' first | rfl | split | simp
@[simp] theorem setIrq_boot_haltCause b s : (setIrq b s).boot.haltCause = s.boot.haltCause := by
  unfold setIrq
  repeat' first | rfl | split | simp
@[simp] theorem setIrq_boot_since b s : (setIrq b s).boot.since = s.boot.since := by
  unfold setIrq
  repeat' first | rfl | split | simp
@[simp] theorem setIrq_boot_control b s : (setIrq b s).boot.control = s.boot.control := by
  unfold setIrq
  repeat' first | rfl | split | simp
@[simp] theorem setIrq_boot_initMemory b s : (setIrq b s).boot.initMemory = s.boot.initMemory := by
  unfold setIrq
  repeat' first | rfl | split | simp
@[simp] theorem setIrq_boot_subsystem b s : (setIrq b s).boot.subsystem = s.boot.subsystem := by
  unfold setIrq
  repeat' first | rfl | split | simp
@[simp] theorem setIrq_pcie_linkUp b s : (setIrq b s).pcie.linkUp = s.pcie.linkUp := by
  unfold setIrq
  repeat' first | rfl | split | simp
@[simp] theorem setIrq_pcie_busMaster b s : (setIrq b s).pcie.busMaster = s.pcie.busMaster := by
  unfold setIrq
  repeat' first | rfl | split | simp
@[simp] theorem setIrq_pcie_perst b s : (setIrq b s).pcie.perst = s.pcie.perst := by
  unfold setIrq
  repeat' first | rfl | split | simp
@[simp] theorem setIrq_pcie_unmasked b s : (setIrq b s).pcie.unmasked = s.pcie.unmasked := by
  unfold setIrq
  repeat' first | rfl | split | simp
@[simp] theorem setIrq_pcie_clocking b s : (setIrq b s).pcie.clocking = s.pcie.clocking := by
  unfold setIrq
  repeat' first | rfl | split | simp
@[simp] theorem setIrq_pcie_clockingSet b s : (setIrq b s).pcie.clockingSet = s.pcie.clockingSet := by
  unfold setIrq
  repeat' first | rfl | split | simp
@[simp] theorem assertAlert_time a s : (assertAlert a s).time = s.time := by
  unfold assertAlert
  repeat' first | rfl | split | simp
@[simp] theorem assertAlert_clk a s : (assertAlert a s).clk = s.clk := by
  unfold assertAlert
  repeat' first | rfl | split | simp
@[simp] theorem assertAlert_sess a s : (assertAlert a s).sess = s.sess := by
  unfold assertAlert
  repeat' first | rfl | split | simp
@[simp] theorem assertAlert_evt a s : (assertAlert a s).evt = s.evt := by
  unfold assertAlert
  repeat' first | rfl | split | simp
@[simp] theorem assertAlert_prot a s : (assertAlert a s).prot = s.prot := by
  unfold assertAlert
  repeat' first | rfl | split | simp
@[simp] theorem assertAlert_inp a s : (assertAlert a s).inp = s.inp := by
  unfold assertAlert
  repeat' first | rfl | split | simp
@[simp] theorem assertAlert_cal a s : (assertAlert a s).cal = s.cal := by
  unfold assertAlert
  repeat' first | rfl | split | simp
@[simp] theorem assertAlert_flt a s : (assertAlert a s).flt = s.flt := by
  unfold assertAlert
  repeat' first | rfl | split | simp
@[simp] theorem assertAlert_trg a s : (assertAlert a s).trg = s.trg := by
  unfold assertAlert
  repeat' first | rfl | split | simp
@[simp] theorem assertAlert_seg a s : (assertAlert a s).seg = s.seg := by
  unfold assertAlert
  repeat' first | rfl | split | simp
@[simp] theorem assertAlert_edge a s : (assertAlert a s).edge = s.edge := by
  unfold assertAlert
  repeat' first | rfl | split | simp
@[simp] theorem assertAlert_aux a s : (assertAlert a s).aux = s.aux := by
  unfold assertAlert
  repeat' first | rfl | split | simp
@[simp] theorem assertAlert_mem a s : (assertAlert a s).mem = s.mem := by
  unfold assertAlert
  repeat' first | rfl | split | simp
@[simp] theorem assertAlert_xfer a s : (assertAlert a s).xfer = s.xfer := by
  unfold assertAlert
  repeat' first | rfl | split | simp
@[simp] theorem assertAlert_ham a s : (assertAlert a s).ham = s.ham := by
  unfold assertAlert
  repeat' first | rfl | split | simp
@[simp] theorem assertAlert_dmx a s : (assertAlert a s).dmx = s.dmx := by
  unfold assertAlert
  repeat' first | rfl | split | simp
@[simp] theorem assertAlert_eng a s : (assertAlert a s).eng = s.eng := by
  unfold assertAlert
  repeat' first | rfl | split | simp
@[simp] theorem assertAlert_sync a s : (assertAlert a s).sync = s.sync := by
  unfold assertAlert
  repeat' first | rfl | split | simp
@[simp] theorem assertAlert_jtag a s : (assertAlert a s).jtag = s.jtag := by
  unfold assertAlert
  repeat' first | rfl | split | simp
@[simp] theorem assertAlert_free a s : (assertAlert a s).free = s.free := by
  unfold assertAlert
  repeat' first | rfl | split | simp
@[simp] theorem assertAlert_pending a s : (assertAlert a s).pending = s.pending := by
  unfold assertAlert
  repeat' first | rfl | split | simp
@[simp] theorem assertAlert_boot_st a s : (assertAlert a s).boot.st = s.boot.st := by
  unfold assertAlert
  repeat' first | rfl | split | simp
@[simp] theorem assertAlert_boot_owedCal a s : (assertAlert a s).boot.owedCal = s.boot.owedCal := by
  unfold assertAlert
  repeat' first | rfl | split | simp
@[simp] theorem assertAlert_boot_owedMem a s : (assertAlert a s).boot.owedMem = s.boot.owedMem := by
  unfold assertAlert
  repeat' first | rfl | split | simp
@[simp] theorem assertAlert_boot_memReady a s : (assertAlert a s).boot.memReady = s.boot.memReady := by
  unfold assertAlert
  repeat' first | rfl | split | simp
@[simp] theorem assertAlert_boot_armedBefore a s : (assertAlert a s).boot.armedBefore = s.boot.armedBefore := by
  unfold assertAlert
  repeat' first | rfl | split | simp
@[simp] theorem assertAlert_boot_cause a s : (assertAlert a s).boot.cause = s.boot.cause := by
  unfold assertAlert
  repeat' first | rfl | split | simp
@[simp] theorem assertAlert_boot_queued a s : (assertAlert a s).boot.queued = s.boot.queued := by
  unfold assertAlert
  repeat' first | rfl | split | simp
@[simp] theorem assertAlert_boot_deepAfter a s : (assertAlert a s).boot.deepAfter = s.boot.deepAfter := by
  unfold assertAlert
  repeat' first | rfl | split | simp
@[simp] theorem assertAlert_boot_memPreserved a s : (assertAlert a s).boot.memPreserved = s.boot.memPreserved := by
  unfold assertAlert
  repeat' first | rfl | split | simp
@[simp] theorem assertAlert_boot_cfgDefaulted a s : (assertAlert a s).boot.cfgDefaulted = s.boot.cfgDefaulted := by
  unfold assertAlert
  repeat' first | rfl | split | simp
@[simp] theorem assertAlert_boot_off a s : (assertAlert a s).boot.off = s.boot.off := by
  unfold assertAlert
  repeat' first | rfl | split | simp
@[simp] theorem assertAlert_boot_downing a s : (assertAlert a s).boot.downing = s.boot.downing := by
  unfold assertAlert
  repeat' first | rfl | split | simp
@[simp] theorem assertAlert_boot_nresetLow a s : (assertAlert a s).boot.nresetLow = s.boot.nresetLow := by
  unfold assertAlert
  repeat' first | rfl | split | simp
@[simp] theorem assertAlert_boot_transition a s : (assertAlert a s).boot.transition = s.boot.transition := by
  unfold assertAlert
  repeat' first | rfl | split | simp
@[simp] theorem assertAlert_boot_haltCause a s : (assertAlert a s).boot.haltCause = s.boot.haltCause := by
  unfold assertAlert
  repeat' first | rfl | split | simp
@[simp] theorem assertAlert_boot_since a s : (assertAlert a s).boot.since = s.boot.since := by
  unfold assertAlert
  repeat' first | rfl | split | simp
@[simp] theorem assertAlert_boot_control a s : (assertAlert a s).boot.control = s.boot.control := by
  unfold assertAlert
  repeat' first | rfl | split | simp
@[simp] theorem assertAlert_boot_initMemory a s : (assertAlert a s).boot.initMemory = s.boot.initMemory := by
  unfold assertAlert
  repeat' first | rfl | split | simp
@[simp] theorem assertAlert_boot_subsystem a s : (assertAlert a s).boot.subsystem = s.boot.subsystem := by
  unfold assertAlert
  repeat' first | rfl | split | simp
@[simp] theorem assertAlert_pwr_floor a s : (assertAlert a s).pwr.floor = s.pwr.floor := by
  unfold assertAlert
  repeat' first | rfl | split | simp
@[simp] theorem assertAlert_pwr_sensed a s : (assertAlert a s).pwr.sensed = s.pwr.sensed := by
  unfold assertAlert
  repeat' first | rfl | split | simp
@[simp] theorem assertAlert_pwr_history a s : (assertAlert a s).pwr.history = s.pwr.history := by
  unfold assertAlert
  repeat' first | rfl | split | simp
@[simp] theorem assertAlert_pwr_adaptive a s : (assertAlert a s).pwr.adaptive = s.pwr.adaptive := by
  unfold assertAlert
  repeat' first | rfl | split | simp
@[simp] theorem assertAlert_pwr_lost a s : (assertAlert a s).pwr.lost = s.pwr.lost := by
  unfold assertAlert
  repeat' first | rfl | split | simp
@[simp] theorem assertAlert_pwr_lanes a s : (assertAlert a s).pwr.lanes = s.pwr.lanes := by
  unfold assertAlert
  repeat' first | rfl | split | simp
@[simp] theorem assertAlert_pwr_mode a s : (assertAlert a s).pwr.mode = s.pwr.mode := by
  unfold assertAlert
  repeat' first | rfl | split | simp
@[simp] theorem assertAlert_pwr_regulator a s : (assertAlert a s).pwr.regulator = s.pwr.regulator := by
  unfold assertAlert
  repeat' first | rfl | split | simp
@[simp] theorem assertAlert_pwr_fixed a s : (assertAlert a s).pwr.fixed = s.pwr.fixed := by
  unfold assertAlert
  repeat' first | rfl | split | simp
@[simp] theorem assertAlert_pwr_commanded a s : (assertAlert a s).pwr.commanded = s.pwr.commanded := by
  unfold assertAlert
  repeat' first | rfl | split | simp
@[simp] theorem assertAlert_pwr_pmbus a s : (assertAlert a s).pwr.pmbus = s.pwr.pmbus := by
  unfold assertAlert
  repeat' first | rfl | split | simp
@[simp] theorem assertAlert_pwr_tj a s : (assertAlert a s).pwr.tj = s.pwr.tj := by
  unfold assertAlert
  repeat' first | rfl | split | simp
@[simp] theorem assertAlert_pwr_hot a s : (assertAlert a s).pwr.hot = s.pwr.hot := by
  unfold assertAlert
  repeat' first | rfl | split | simp
@[simp] theorem assertAlert_pwr_fault a s : (assertAlert a s).pwr.fault = s.pwr.fault := by
  unfold assertAlert
  repeat' first | rfl | split | simp
@[simp] theorem assertAlert_pcie_linkUp a s : (assertAlert a s).pcie.linkUp = s.pcie.linkUp := by
  unfold assertAlert
  repeat' first | rfl | split | simp
@[simp] theorem assertAlert_pcie_busMaster a s : (assertAlert a s).pcie.busMaster = s.pcie.busMaster := by
  unfold assertAlert
  repeat' first | rfl | split | simp
@[simp] theorem assertAlert_pcie_perst a s : (assertAlert a s).pcie.perst = s.pcie.perst := by
  unfold assertAlert
  repeat' first | rfl | split | simp
@[simp] theorem assertAlert_pcie_unmasked a s : (assertAlert a s).pcie.unmasked = s.pcie.unmasked := by
  unfold assertAlert
  repeat' first | rfl | split | simp
@[simp] theorem assertAlert_pcie_clocking a s : (assertAlert a s).pcie.clocking = s.pcie.clocking := by
  unfold assertAlert
  repeat' first | rfl | split | simp
@[simp] theorem assertAlert_pcie_clockingSet a s : (assertAlert a s).pcie.clockingSet = s.pcie.clockingSet := by
  unfold assertAlert
  repeat' first | rfl | split | simp
@[simp] theorem releaseAlert_time a s : (releaseAlert a s).time = s.time := rfl
@[simp] theorem releaseAlert_clk a s : (releaseAlert a s).clk = s.clk := rfl
@[simp] theorem releaseAlert_boot a s : (releaseAlert a s).boot = s.boot := rfl
@[simp] theorem releaseAlert_pcie a s : (releaseAlert a s).pcie = s.pcie := rfl
@[simp] theorem releaseAlert_sess a s : (releaseAlert a s).sess = s.sess := rfl
@[simp] theorem releaseAlert_evt a s : (releaseAlert a s).evt = s.evt := rfl
@[simp] theorem releaseAlert_prot a s : (releaseAlert a s).prot = s.prot := rfl
@[simp] theorem releaseAlert_inp a s : (releaseAlert a s).inp = s.inp := rfl
@[simp] theorem releaseAlert_cal a s : (releaseAlert a s).cal = s.cal := rfl
@[simp] theorem releaseAlert_flt a s : (releaseAlert a s).flt = s.flt := rfl
@[simp] theorem releaseAlert_trg a s : (releaseAlert a s).trg = s.trg := rfl
@[simp] theorem releaseAlert_seg a s : (releaseAlert a s).seg = s.seg := rfl
@[simp] theorem releaseAlert_edge a s : (releaseAlert a s).edge = s.edge := rfl
@[simp] theorem releaseAlert_aux a s : (releaseAlert a s).aux = s.aux := rfl
@[simp] theorem releaseAlert_mem a s : (releaseAlert a s).mem = s.mem := rfl
@[simp] theorem releaseAlert_xfer a s : (releaseAlert a s).xfer = s.xfer := rfl
@[simp] theorem releaseAlert_ham a s : (releaseAlert a s).ham = s.ham := rfl
@[simp] theorem releaseAlert_dmx a s : (releaseAlert a s).dmx = s.dmx := rfl
@[simp] theorem releaseAlert_eng a s : (releaseAlert a s).eng = s.eng := rfl
@[simp] theorem releaseAlert_sync a s : (releaseAlert a s).sync = s.sync := rfl
@[simp] theorem releaseAlert_jtag a s : (releaseAlert a s).jtag = s.jtag := rfl
@[simp] theorem releaseAlert_sent a s : (releaseAlert a s).sent = s.sent := rfl
@[simp] theorem releaseAlert_free a s : (releaseAlert a s).free = s.free := rfl
@[simp] theorem releaseAlert_pending a s : (releaseAlert a s).pending = s.pending := rfl
@[simp] theorem releaseAlert_pwr_floor a s : (releaseAlert a s).pwr.floor = s.pwr.floor := rfl
@[simp] theorem releaseAlert_pwr_sensed a s : (releaseAlert a s).pwr.sensed = s.pwr.sensed := rfl
@[simp] theorem releaseAlert_pwr_history a s : (releaseAlert a s).pwr.history = s.pwr.history := rfl
@[simp] theorem releaseAlert_pwr_adaptive a s : (releaseAlert a s).pwr.adaptive = s.pwr.adaptive := rfl
@[simp] theorem releaseAlert_pwr_lost a s : (releaseAlert a s).pwr.lost = s.pwr.lost := rfl
@[simp] theorem releaseAlert_pwr_lanes a s : (releaseAlert a s).pwr.lanes = s.pwr.lanes := rfl
@[simp] theorem releaseAlert_pwr_mode a s : (releaseAlert a s).pwr.mode = s.pwr.mode := rfl
@[simp] theorem releaseAlert_pwr_regulator a s : (releaseAlert a s).pwr.regulator = s.pwr.regulator := rfl
@[simp] theorem releaseAlert_pwr_fixed a s : (releaseAlert a s).pwr.fixed = s.pwr.fixed := rfl
@[simp] theorem releaseAlert_pwr_commanded a s : (releaseAlert a s).pwr.commanded = s.pwr.commanded := rfl
@[simp] theorem releaseAlert_pwr_pmbus a s : (releaseAlert a s).pwr.pmbus = s.pwr.pmbus := rfl
@[simp] theorem releaseAlert_pwr_tj a s : (releaseAlert a s).pwr.tj = s.pwr.tj := rfl
@[simp] theorem releaseAlert_pwr_hot a s : (releaseAlert a s).pwr.hot = s.pwr.hot := rfl
@[simp] theorem releaseAlert_pwr_fault a s : (releaseAlert a s).pwr.fault = s.pwr.fault := rfl
@[simp] theorem releaseAlerts_time p s : (releaseAlerts p s).time = s.time := rfl
@[simp] theorem releaseAlerts_clk p s : (releaseAlerts p s).clk = s.clk := rfl
@[simp] theorem releaseAlerts_boot p s : (releaseAlerts p s).boot = s.boot := rfl
@[simp] theorem releaseAlerts_pcie p s : (releaseAlerts p s).pcie = s.pcie := rfl
@[simp] theorem releaseAlerts_sess p s : (releaseAlerts p s).sess = s.sess := rfl
@[simp] theorem releaseAlerts_evt p s : (releaseAlerts p s).evt = s.evt := rfl
@[simp] theorem releaseAlerts_prot p s : (releaseAlerts p s).prot = s.prot := rfl
@[simp] theorem releaseAlerts_inp p s : (releaseAlerts p s).inp = s.inp := rfl
@[simp] theorem releaseAlerts_cal p s : (releaseAlerts p s).cal = s.cal := rfl
@[simp] theorem releaseAlerts_flt p s : (releaseAlerts p s).flt = s.flt := rfl
@[simp] theorem releaseAlerts_trg p s : (releaseAlerts p s).trg = s.trg := rfl
@[simp] theorem releaseAlerts_seg p s : (releaseAlerts p s).seg = s.seg := rfl
@[simp] theorem releaseAlerts_edge p s : (releaseAlerts p s).edge = s.edge := rfl
@[simp] theorem releaseAlerts_aux p s : (releaseAlerts p s).aux = s.aux := rfl
@[simp] theorem releaseAlerts_mem p s : (releaseAlerts p s).mem = s.mem := rfl
@[simp] theorem releaseAlerts_xfer p s : (releaseAlerts p s).xfer = s.xfer := rfl
@[simp] theorem releaseAlerts_ham p s : (releaseAlerts p s).ham = s.ham := rfl
@[simp] theorem releaseAlerts_dmx p s : (releaseAlerts p s).dmx = s.dmx := rfl
@[simp] theorem releaseAlerts_eng p s : (releaseAlerts p s).eng = s.eng := rfl
@[simp] theorem releaseAlerts_sync p s : (releaseAlerts p s).sync = s.sync := rfl
@[simp] theorem releaseAlerts_jtag p s : (releaseAlerts p s).jtag = s.jtag := rfl
@[simp] theorem releaseAlerts_sent p s : (releaseAlerts p s).sent = s.sent := rfl
@[simp] theorem releaseAlerts_free p s : (releaseAlerts p s).free = s.free := rfl
@[simp] theorem releaseAlerts_pending p s : (releaseAlerts p s).pending = s.pending := rfl
@[simp] theorem releaseAlerts_pwr_floor p s : (releaseAlerts p s).pwr.floor = s.pwr.floor := rfl
@[simp] theorem releaseAlerts_pwr_sensed p s : (releaseAlerts p s).pwr.sensed = s.pwr.sensed := rfl
@[simp] theorem releaseAlerts_pwr_history p s : (releaseAlerts p s).pwr.history = s.pwr.history := rfl
@[simp] theorem releaseAlerts_pwr_adaptive p s : (releaseAlerts p s).pwr.adaptive = s.pwr.adaptive := rfl
@[simp] theorem releaseAlerts_pwr_lost p s : (releaseAlerts p s).pwr.lost = s.pwr.lost := rfl
@[simp] theorem releaseAlerts_pwr_lanes p s : (releaseAlerts p s).pwr.lanes = s.pwr.lanes := rfl
@[simp] theorem releaseAlerts_pwr_mode p s : (releaseAlerts p s).pwr.mode = s.pwr.mode := rfl
@[simp] theorem releaseAlerts_pwr_regulator p s : (releaseAlerts p s).pwr.regulator = s.pwr.regulator := rfl
@[simp] theorem releaseAlerts_pwr_fixed p s : (releaseAlerts p s).pwr.fixed = s.pwr.fixed := rfl
@[simp] theorem releaseAlerts_pwr_commanded p s : (releaseAlerts p s).pwr.commanded = s.pwr.commanded := rfl
@[simp] theorem releaseAlerts_pwr_pmbus p s : (releaseAlerts p s).pwr.pmbus = s.pwr.pmbus := rfl
@[simp] theorem releaseAlerts_pwr_tj p s : (releaseAlerts p s).pwr.tj = s.pwr.tj := rfl
@[simp] theorem releaseAlerts_pwr_hot p s : (releaseAlerts p s).pwr.hot = s.pwr.hot := rfl
@[simp] theorem releaseAlerts_pwr_fault p s : (releaseAlerts p s).pwr.fault = s.pwr.fault := rfl
@[simp] theorem setBootState_time n s : (setBootState n s).time = s.time := by
  unfold setBootState
  repeat' first | rfl | split | simp
@[simp] theorem setBootState_clk n s : (setBootState n s).clk = s.clk := by
  unfold setBootState
  repeat' first | rfl | split | simp
@[simp] theorem setBootState_pwr n s : (setBootState n s).pwr = s.pwr := by
  unfold setBootState
  repeat' first | rfl | split | simp
@[simp] theorem setBootState_sess n s : (setBootState n s).sess = s.sess := by
  unfold setBootState
  repeat' first | rfl | split | simp
@[simp] theorem setBootState_evt n s : (setBootState n s).evt = s.evt := by
  unfold setBootState
  repeat' first | rfl | split | simp
@[simp] theorem setBootState_prot n s : (setBootState n s).prot = s.prot := by
  unfold setBootState
  repeat' first | rfl | split | simp
@[simp] theorem setBootState_inp n s : (setBootState n s).inp = s.inp := by
  unfold setBootState
  repeat' first | rfl | split | simp
@[simp] theorem setBootState_cal n s : (setBootState n s).cal = s.cal := by
  unfold setBootState
  repeat' first | rfl | split | simp
@[simp] theorem setBootState_flt n s : (setBootState n s).flt = s.flt := by
  unfold setBootState
  repeat' first | rfl | split | simp
@[simp] theorem setBootState_trg n s : (setBootState n s).trg = s.trg := by
  unfold setBootState
  repeat' first | rfl | split | simp
@[simp] theorem setBootState_seg n s : (setBootState n s).seg = s.seg := by
  unfold setBootState
  repeat' first | rfl | split | simp
@[simp] theorem setBootState_edge n s : (setBootState n s).edge = s.edge := by
  unfold setBootState
  repeat' first | rfl | split | simp
@[simp] theorem setBootState_aux n s : (setBootState n s).aux = s.aux := by
  unfold setBootState
  repeat' first | rfl | split | simp
@[simp] theorem setBootState_mem n s : (setBootState n s).mem = s.mem := by
  unfold setBootState
  repeat' first | rfl | split | simp
@[simp] theorem setBootState_xfer n s : (setBootState n s).xfer = s.xfer := by
  unfold setBootState
  repeat' first | rfl | split | simp
@[simp] theorem setBootState_ham n s : (setBootState n s).ham = s.ham := by
  unfold setBootState
  repeat' first | rfl | split | simp
@[simp] theorem setBootState_dmx n s : (setBootState n s).dmx = s.dmx := by
  unfold setBootState
  repeat' first | rfl | split | simp
@[simp] theorem setBootState_eng n s : (setBootState n s).eng = s.eng := by
  unfold setBootState
  repeat' first | rfl | split | simp
@[simp] theorem setBootState_sync n s : (setBootState n s).sync = s.sync := by
  unfold setBootState
  repeat' first | rfl | split | simp
@[simp] theorem setBootState_jtag n s : (setBootState n s).jtag = s.jtag := by
  unfold setBootState
  repeat' first | rfl | split | simp
@[simp] theorem setBootState_free n s : (setBootState n s).free = s.free := by
  unfold setBootState
  repeat' first | rfl | split | simp
@[simp] theorem setBootState_pending n s : (setBootState n s).pending = s.pending := by
  unfold setBootState
  repeat' first | rfl | split | simp
@[simp] theorem setBootState_boot_off n s : (setBootState n s).boot.off = s.boot.off := by
  unfold setBootState
  repeat' first | rfl | split | simp
@[simp] theorem setBootState_boot_owedCal n s : (setBootState n s).boot.owedCal = s.boot.owedCal := by
  unfold setBootState
  repeat' first | rfl | split | simp
@[simp] theorem setBootState_boot_owedMem n s : (setBootState n s).boot.owedMem = s.boot.owedMem := by
  unfold setBootState
  repeat' first | rfl | split | simp
@[simp] theorem setBootState_boot_memReady n s : (setBootState n s).boot.memReady = s.boot.memReady := by
  unfold setBootState
  repeat' first | rfl | split | simp
@[simp] theorem setBootState_boot_armedBefore n s : (setBootState n s).boot.armedBefore = s.boot.armedBefore := by
  unfold setBootState
  repeat' first | rfl | split | simp
@[simp] theorem setBootState_boot_cause n s : (setBootState n s).boot.cause = s.boot.cause := by
  unfold setBootState
  repeat' first | rfl | split | simp
@[simp] theorem setBootState_boot_queued n s : (setBootState n s).boot.queued = s.boot.queued := by
  unfold setBootState
  repeat' first | rfl | split | simp
@[simp] theorem setBootState_boot_deepAfter n s : (setBootState n s).boot.deepAfter = s.boot.deepAfter := by
  unfold setBootState
  repeat' first | rfl | split | simp
@[simp] theorem setBootState_boot_memPreserved n s : (setBootState n s).boot.memPreserved = s.boot.memPreserved := by
  unfold setBootState
  repeat' first | rfl | split | simp
@[simp] theorem setBootState_boot_cfgDefaulted n s : (setBootState n s).boot.cfgDefaulted = s.boot.cfgDefaulted := by
  unfold setBootState
  repeat' first | rfl | split | simp
@[simp] theorem setBootState_boot_downing n s : (setBootState n s).boot.downing = s.boot.downing := by
  unfold setBootState
  repeat' first | rfl | split | simp
@[simp] theorem setBootState_boot_nresetLow n s : (setBootState n s).boot.nresetLow = s.boot.nresetLow := by
  unfold setBootState
  repeat' first | rfl | split | simp
@[simp] theorem setBootState_boot_transition n s : (setBootState n s).boot.transition = s.boot.transition := by
  unfold setBootState
  repeat' first | rfl | split | simp
@[simp] theorem setBootState_boot_haltCause n s : (setBootState n s).boot.haltCause = s.boot.haltCause := by
  unfold setBootState
  repeat' first | rfl | split | simp
@[simp] theorem setBootState_boot_control n s : (setBootState n s).boot.control = s.boot.control := by
  unfold setBootState
  repeat' first | rfl | split | simp
@[simp] theorem setBootState_boot_initMemory n s : (setBootState n s).boot.initMemory = s.boot.initMemory := by
  unfold setBootState
  repeat' first | rfl | split | simp
@[simp] theorem setBootState_boot_subsystem n s : (setBootState n s).boot.subsystem = s.boot.subsystem := by
  unfold setBootState
  repeat' first | rfl | split | simp
@[simp] theorem setBootState_pcie_linkUp n s : (setBootState n s).pcie.linkUp = s.pcie.linkUp := by
  unfold setBootState
  repeat' first | rfl | split | simp
@[simp] theorem setBootState_pcie_busMaster n s : (setBootState n s).pcie.busMaster = s.pcie.busMaster := by
  unfold setBootState
  repeat' first | rfl | split | simp
@[simp] theorem setBootState_pcie_perst n s : (setBootState n s).pcie.perst = s.pcie.perst := by
  unfold setBootState
  repeat' first | rfl | split | simp
@[simp] theorem setBootState_pcie_unmasked n s : (setBootState n s).pcie.unmasked = s.pcie.unmasked := by
  unfold setBootState
  repeat' first | rfl | split | simp
@[simp] theorem setBootState_pcie_clocking n s : (setBootState n s).pcie.clocking = s.pcie.clocking := by
  unfold setBootState
  repeat' first | rfl | split | simp
@[simp] theorem setBootState_pcie_clockingSet n s : (setBootState n s).pcie.clockingSet = s.pcie.clockingSet := by
  unfold setBootState
  repeat' first | rfl | split | simp
@[simp] theorem dropRecord_time r s : (dropRecord r s).time = s.time := by
  unfold dropRecord
  repeat' first | rfl | split | simp
@[simp] theorem dropRecord_clk r s : (dropRecord r s).clk = s.clk := by
  unfold dropRecord
  repeat' first | rfl | split | simp
@[simp] theorem dropRecord_sess r s : (dropRecord r s).sess = s.sess := by
  unfold dropRecord
  repeat' first | rfl | split | simp
@[simp] theorem dropRecord_prot r s : (dropRecord r s).prot = s.prot := by
  unfold dropRecord
  repeat' first | rfl | split | simp
@[simp] theorem dropRecord_inp r s : (dropRecord r s).inp = s.inp := by
  unfold dropRecord
  repeat' first | rfl | split | simp
@[simp] theorem dropRecord_cal r s : (dropRecord r s).cal = s.cal := by
  unfold dropRecord
  repeat' first | rfl | split | simp
@[simp] theorem dropRecord_flt r s : (dropRecord r s).flt = s.flt := by
  unfold dropRecord
  repeat' first | rfl | split | simp
@[simp] theorem dropRecord_trg r s : (dropRecord r s).trg = s.trg := by
  unfold dropRecord
  repeat' first | rfl | split | simp
@[simp] theorem dropRecord_seg r s : (dropRecord r s).seg = s.seg := by
  unfold dropRecord
  repeat' first | rfl | split | simp
@[simp] theorem dropRecord_edge r s : (dropRecord r s).edge = s.edge := by
  unfold dropRecord
  repeat' first | rfl | split | simp
@[simp] theorem dropRecord_aux r s : (dropRecord r s).aux = s.aux := by
  unfold dropRecord
  repeat' first | rfl | split | simp
@[simp] theorem dropRecord_mem r s : (dropRecord r s).mem = s.mem := by
  unfold dropRecord
  repeat' first | rfl | split | simp
@[simp] theorem dropRecord_xfer r s : (dropRecord r s).xfer = s.xfer := by
  unfold dropRecord
  repeat' first | rfl | split | simp
@[simp] theorem dropRecord_ham r s : (dropRecord r s).ham = s.ham := by
  unfold dropRecord
  repeat' first | rfl | split | simp
@[simp] theorem dropRecord_dmx r s : (dropRecord r s).dmx = s.dmx := by
  unfold dropRecord
  repeat' first | rfl | split | simp
@[simp] theorem dropRecord_eng r s : (dropRecord r s).eng = s.eng := by
  unfold dropRecord
  repeat' first | rfl | split | simp
@[simp] theorem dropRecord_sync r s : (dropRecord r s).sync = s.sync := by
  unfold dropRecord
  repeat' first | rfl | split | simp
@[simp] theorem dropRecord_jtag r s : (dropRecord r s).jtag = s.jtag := by
  unfold dropRecord
  repeat' first | rfl | split | simp
@[simp] theorem dropRecord_free r s : (dropRecord r s).free = s.free := by
  unfold dropRecord
  repeat' first | rfl | split | simp
@[simp] theorem dropRecord_pending r s : (dropRecord r s).pending = s.pending := by
  unfold dropRecord
  repeat' first | rfl | split | simp
@[simp] theorem dropRecord_boot_st r s : (dropRecord r s).boot.st = s.boot.st := by
  unfold dropRecord
  repeat' first | rfl | split | simp
@[simp] theorem dropRecord_boot_owedCal r s : (dropRecord r s).boot.owedCal = s.boot.owedCal := by
  unfold dropRecord
  repeat' first | rfl | split | simp
@[simp] theorem dropRecord_boot_owedMem r s : (dropRecord r s).boot.owedMem = s.boot.owedMem := by
  unfold dropRecord
  repeat' first | rfl | split | simp
@[simp] theorem dropRecord_boot_memReady r s : (dropRecord r s).boot.memReady = s.boot.memReady := by
  unfold dropRecord
  repeat' first | rfl | split | simp
@[simp] theorem dropRecord_boot_armedBefore r s : (dropRecord r s).boot.armedBefore = s.boot.armedBefore := by
  unfold dropRecord
  repeat' first | rfl | split | simp
@[simp] theorem dropRecord_boot_cause r s : (dropRecord r s).boot.cause = s.boot.cause := by
  unfold dropRecord
  repeat' first | rfl | split | simp
@[simp] theorem dropRecord_boot_queued r s : (dropRecord r s).boot.queued = s.boot.queued := by
  unfold dropRecord
  repeat' first | rfl | split | simp
@[simp] theorem dropRecord_boot_deepAfter r s : (dropRecord r s).boot.deepAfter = s.boot.deepAfter := by
  unfold dropRecord
  repeat' first | rfl | split | simp
@[simp] theorem dropRecord_boot_memPreserved r s : (dropRecord r s).boot.memPreserved = s.boot.memPreserved := by
  unfold dropRecord
  repeat' first | rfl | split | simp
@[simp] theorem dropRecord_boot_cfgDefaulted r s : (dropRecord r s).boot.cfgDefaulted = s.boot.cfgDefaulted := by
  unfold dropRecord
  repeat' first | rfl | split | simp
@[simp] theorem dropRecord_boot_off r s : (dropRecord r s).boot.off = s.boot.off := by
  unfold dropRecord
  repeat' first | rfl | split | simp
@[simp] theorem dropRecord_boot_downing r s : (dropRecord r s).boot.downing = s.boot.downing := by
  unfold dropRecord
  repeat' first | rfl | split | simp
@[simp] theorem dropRecord_boot_nresetLow r s : (dropRecord r s).boot.nresetLow = s.boot.nresetLow := by
  unfold dropRecord
  repeat' first | rfl | split | simp
@[simp] theorem dropRecord_boot_transition r s : (dropRecord r s).boot.transition = s.boot.transition := by
  unfold dropRecord
  repeat' first | rfl | split | simp
@[simp] theorem dropRecord_boot_haltCause r s : (dropRecord r s).boot.haltCause = s.boot.haltCause := by
  unfold dropRecord
  repeat' first | rfl | split | simp
@[simp] theorem dropRecord_boot_since r s : (dropRecord r s).boot.since = s.boot.since := by
  unfold dropRecord
  repeat' first | rfl | split | simp
@[simp] theorem dropRecord_boot_control r s : (dropRecord r s).boot.control = s.boot.control := by
  unfold dropRecord
  repeat' first | rfl | split | simp
@[simp] theorem dropRecord_boot_initMemory r s : (dropRecord r s).boot.initMemory = s.boot.initMemory := by
  unfold dropRecord
  repeat' first | rfl | split | simp
@[simp] theorem dropRecord_boot_subsystem r s : (dropRecord r s).boot.subsystem = s.boot.subsystem := by
  unfold dropRecord
  repeat' first | rfl | split | simp
@[simp] theorem dropRecord_pwr_floor r s : (dropRecord r s).pwr.floor = s.pwr.floor := by
  unfold dropRecord
  repeat' first | rfl | split | simp
@[simp] theorem dropRecord_pwr_sensed r s : (dropRecord r s).pwr.sensed = s.pwr.sensed := by
  unfold dropRecord
  repeat' first | rfl | split | simp
@[simp] theorem dropRecord_pwr_history r s : (dropRecord r s).pwr.history = s.pwr.history := by
  unfold dropRecord
  repeat' first | rfl | split | simp
@[simp] theorem dropRecord_pwr_adaptive r s : (dropRecord r s).pwr.adaptive = s.pwr.adaptive := by
  unfold dropRecord
  repeat' first | rfl | split | simp
@[simp] theorem dropRecord_pwr_lost r s : (dropRecord r s).pwr.lost = s.pwr.lost := by
  unfold dropRecord
  repeat' first | rfl | split | simp
@[simp] theorem dropRecord_pwr_lanes r s : (dropRecord r s).pwr.lanes = s.pwr.lanes := by
  unfold dropRecord
  repeat' first | rfl | split | simp
@[simp] theorem dropRecord_pwr_mode r s : (dropRecord r s).pwr.mode = s.pwr.mode := by
  unfold dropRecord
  repeat' first | rfl | split | simp
@[simp] theorem dropRecord_pwr_regulator r s : (dropRecord r s).pwr.regulator = s.pwr.regulator := by
  unfold dropRecord
  repeat' first | rfl | split | simp
@[simp] theorem dropRecord_pwr_fixed r s : (dropRecord r s).pwr.fixed = s.pwr.fixed := by
  unfold dropRecord
  repeat' first | rfl | split | simp
@[simp] theorem dropRecord_pwr_commanded r s : (dropRecord r s).pwr.commanded = s.pwr.commanded := by
  unfold dropRecord
  repeat' first | rfl | split | simp
@[simp] theorem dropRecord_pwr_pmbus r s : (dropRecord r s).pwr.pmbus = s.pwr.pmbus := by
  unfold dropRecord
  repeat' first | rfl | split | simp
@[simp] theorem dropRecord_pwr_tj r s : (dropRecord r s).pwr.tj = s.pwr.tj := by
  unfold dropRecord
  repeat' first | rfl | split | simp
@[simp] theorem dropRecord_pwr_hot r s : (dropRecord r s).pwr.hot = s.pwr.hot := by
  unfold dropRecord
  repeat' first | rfl | split | simp
@[simp] theorem dropRecord_pwr_fault r s : (dropRecord r s).pwr.fault = s.pwr.fault := by
  unfold dropRecord
  repeat' first | rfl | split | simp
@[simp] theorem dropRecord_pcie_linkUp r s : (dropRecord r s).pcie.linkUp = s.pcie.linkUp := by
  unfold dropRecord
  repeat' first | rfl | split | simp
@[simp] theorem dropRecord_pcie_busMaster r s : (dropRecord r s).pcie.busMaster = s.pcie.busMaster := by
  unfold dropRecord
  repeat' first | rfl | split | simp
@[simp] theorem dropRecord_pcie_perst r s : (dropRecord r s).pcie.perst = s.pcie.perst := by
  unfold dropRecord
  repeat' first | rfl | split | simp
@[simp] theorem dropRecord_pcie_unmasked r s : (dropRecord r s).pcie.unmasked = s.pcie.unmasked := by
  unfold dropRecord
  repeat' first | rfl | split | simp
@[simp] theorem dropRecord_pcie_clocking r s : (dropRecord r s).pcie.clocking = s.pcie.clocking := by
  unfold dropRecord
  repeat' first | rfl | split | simp
@[simp] theorem dropRecord_pcie_clockingSet r s : (dropRecord r s).pcie.clockingSet = s.pcie.clockingSet := by
  unfold dropRecord
  repeat' first | rfl | split | simp
@[simp] theorem dropRecord_evt_boots r s : (dropRecord r s).evt.boots = s.evt.boots := by
  unfold dropRecord
  repeat' first | rfl | split | simp
@[simp] theorem dropRecord_evt_carrying r s : (dropRecord r s).evt.carrying = s.evt.carrying := by
  unfold dropRecord
  repeat' first | rfl | split | simp
@[simp] theorem dropRecord_evt_first r s : (dropRecord r s).evt.first = s.evt.first := by
  unfold dropRecord
  repeat' first | rfl | split | simp
@[simp] theorem dropRecord_evt_journal r s : (dropRecord r s).evt.journal = s.evt.journal := by
  unfold dropRecord
  repeat' first | rfl | split | simp
@[simp] theorem dropRecord_evt_ring r s : (dropRecord r s).evt.ring = s.evt.ring := by
  unfold dropRecord
  repeat' first | rfl | split | simp
@[simp] theorem dropRecord_evt_copyTo r s : (dropRecord r s).evt.copyTo = s.evt.copyTo := by
  unfold dropRecord
  repeat' first | rfl | split | simp
@[simp] theorem dropRecord_evt_clears r s : (dropRecord r s).evt.clears = s.evt.clears := by
  unfold dropRecord
  repeat' first | rfl | split | simp
@[simp] theorem stageRecord_time r s : (stageRecord r s).time = s.time := by
  unfold stageRecord
  repeat' first | rfl | split | simp
@[simp] theorem stageRecord_clk r s : (stageRecord r s).clk = s.clk := by
  unfold stageRecord
  repeat' first | rfl | split | simp
@[simp] theorem stageRecord_sess r s : (stageRecord r s).sess = s.sess := by
  unfold stageRecord
  repeat' first | rfl | split | simp
@[simp] theorem stageRecord_prot r s : (stageRecord r s).prot = s.prot := by
  unfold stageRecord
  repeat' first | rfl | split | simp
@[simp] theorem stageRecord_inp r s : (stageRecord r s).inp = s.inp := by
  unfold stageRecord
  repeat' first | rfl | split | simp
@[simp] theorem stageRecord_cal r s : (stageRecord r s).cal = s.cal := by
  unfold stageRecord
  repeat' first | rfl | split | simp
@[simp] theorem stageRecord_flt r s : (stageRecord r s).flt = s.flt := by
  unfold stageRecord
  repeat' first | rfl | split | simp
@[simp] theorem stageRecord_trg r s : (stageRecord r s).trg = s.trg := by
  unfold stageRecord
  repeat' first | rfl | split | simp
@[simp] theorem stageRecord_seg r s : (stageRecord r s).seg = s.seg := by
  unfold stageRecord
  repeat' first | rfl | split | simp
@[simp] theorem stageRecord_edge r s : (stageRecord r s).edge = s.edge := by
  unfold stageRecord
  repeat' first | rfl | split | simp
@[simp] theorem stageRecord_aux r s : (stageRecord r s).aux = s.aux := by
  unfold stageRecord
  repeat' first | rfl | split | simp
@[simp] theorem stageRecord_mem r s : (stageRecord r s).mem = s.mem := by
  unfold stageRecord
  repeat' first | rfl | split | simp
@[simp] theorem stageRecord_xfer r s : (stageRecord r s).xfer = s.xfer := by
  unfold stageRecord
  repeat' first | rfl | split | simp
@[simp] theorem stageRecord_ham r s : (stageRecord r s).ham = s.ham := by
  unfold stageRecord
  repeat' first | rfl | split | simp
@[simp] theorem stageRecord_dmx r s : (stageRecord r s).dmx = s.dmx := by
  unfold stageRecord
  repeat' first | rfl | split | simp
@[simp] theorem stageRecord_eng r s : (stageRecord r s).eng = s.eng := by
  unfold stageRecord
  repeat' first | rfl | split | simp
@[simp] theorem stageRecord_sync r s : (stageRecord r s).sync = s.sync := by
  unfold stageRecord
  repeat' first | rfl | split | simp
@[simp] theorem stageRecord_jtag r s : (stageRecord r s).jtag = s.jtag := by
  unfold stageRecord
  repeat' first | rfl | split | simp
@[simp] theorem stageRecord_free r s : (stageRecord r s).free = s.free := by
  unfold stageRecord
  repeat' first | rfl | split | simp
@[simp] theorem stageRecord_pending r s : (stageRecord r s).pending = s.pending := by
  unfold stageRecord
  repeat' first | rfl | split | simp
@[simp] theorem stageRecord_boot_st r s : (stageRecord r s).boot.st = s.boot.st := by
  unfold stageRecord
  repeat' first | rfl | split | simp
@[simp] theorem stageRecord_boot_owedCal r s : (stageRecord r s).boot.owedCal = s.boot.owedCal := by
  unfold stageRecord
  repeat' first | rfl | split | simp
@[simp] theorem stageRecord_boot_owedMem r s : (stageRecord r s).boot.owedMem = s.boot.owedMem := by
  unfold stageRecord
  repeat' first | rfl | split | simp
@[simp] theorem stageRecord_boot_memReady r s : (stageRecord r s).boot.memReady = s.boot.memReady := by
  unfold stageRecord
  repeat' first | rfl | split | simp
@[simp] theorem stageRecord_boot_armedBefore r s : (stageRecord r s).boot.armedBefore = s.boot.armedBefore := by
  unfold stageRecord
  repeat' first | rfl | split | simp
@[simp] theorem stageRecord_boot_cause r s : (stageRecord r s).boot.cause = s.boot.cause := by
  unfold stageRecord
  repeat' first | rfl | split | simp
@[simp] theorem stageRecord_boot_queued r s : (stageRecord r s).boot.queued = s.boot.queued := by
  unfold stageRecord
  repeat' first | rfl | split | simp
@[simp] theorem stageRecord_boot_deepAfter r s : (stageRecord r s).boot.deepAfter = s.boot.deepAfter := by
  unfold stageRecord
  repeat' first | rfl | split | simp
@[simp] theorem stageRecord_boot_memPreserved r s : (stageRecord r s).boot.memPreserved = s.boot.memPreserved := by
  unfold stageRecord
  repeat' first | rfl | split | simp
@[simp] theorem stageRecord_boot_cfgDefaulted r s : (stageRecord r s).boot.cfgDefaulted = s.boot.cfgDefaulted := by
  unfold stageRecord
  repeat' first | rfl | split | simp
@[simp] theorem stageRecord_boot_off r s : (stageRecord r s).boot.off = s.boot.off := by
  unfold stageRecord
  repeat' first | rfl | split | simp
@[simp] theorem stageRecord_boot_downing r s : (stageRecord r s).boot.downing = s.boot.downing := by
  unfold stageRecord
  repeat' first | rfl | split | simp
@[simp] theorem stageRecord_boot_nresetLow r s : (stageRecord r s).boot.nresetLow = s.boot.nresetLow := by
  unfold stageRecord
  repeat' first | rfl | split | simp
@[simp] theorem stageRecord_boot_transition r s : (stageRecord r s).boot.transition = s.boot.transition := by
  unfold stageRecord
  repeat' first | rfl | split | simp
@[simp] theorem stageRecord_boot_haltCause r s : (stageRecord r s).boot.haltCause = s.boot.haltCause := by
  unfold stageRecord
  repeat' first | rfl | split | simp
@[simp] theorem stageRecord_boot_since r s : (stageRecord r s).boot.since = s.boot.since := by
  unfold stageRecord
  repeat' first | rfl | split | simp
@[simp] theorem stageRecord_boot_control r s : (stageRecord r s).boot.control = s.boot.control := by
  unfold stageRecord
  repeat' first | rfl | split | simp
@[simp] theorem stageRecord_boot_initMemory r s : (stageRecord r s).boot.initMemory = s.boot.initMemory := by
  unfold stageRecord
  repeat' first | rfl | split | simp
@[simp] theorem stageRecord_boot_subsystem r s : (stageRecord r s).boot.subsystem = s.boot.subsystem := by
  unfold stageRecord
  repeat' first | rfl | split | simp
@[simp] theorem stageRecord_pwr_floor r s : (stageRecord r s).pwr.floor = s.pwr.floor := by
  unfold stageRecord
  repeat' first | rfl | split | simp
@[simp] theorem stageRecord_pwr_sensed r s : (stageRecord r s).pwr.sensed = s.pwr.sensed := by
  unfold stageRecord
  repeat' first | rfl | split | simp
@[simp] theorem stageRecord_pwr_history r s : (stageRecord r s).pwr.history = s.pwr.history := by
  unfold stageRecord
  repeat' first | rfl | split | simp
@[simp] theorem stageRecord_pwr_adaptive r s : (stageRecord r s).pwr.adaptive = s.pwr.adaptive := by
  unfold stageRecord
  repeat' first | rfl | split | simp
@[simp] theorem stageRecord_pwr_lost r s : (stageRecord r s).pwr.lost = s.pwr.lost := by
  unfold stageRecord
  repeat' first | rfl | split | simp
@[simp] theorem stageRecord_pwr_lanes r s : (stageRecord r s).pwr.lanes = s.pwr.lanes := by
  unfold stageRecord
  repeat' first | rfl | split | simp
@[simp] theorem stageRecord_pwr_mode r s : (stageRecord r s).pwr.mode = s.pwr.mode := by
  unfold stageRecord
  repeat' first | rfl | split | simp
@[simp] theorem stageRecord_pwr_regulator r s : (stageRecord r s).pwr.regulator = s.pwr.regulator := by
  unfold stageRecord
  repeat' first | rfl | split | simp
@[simp] theorem stageRecord_pwr_fixed r s : (stageRecord r s).pwr.fixed = s.pwr.fixed := by
  unfold stageRecord
  repeat' first | rfl | split | simp
@[simp] theorem stageRecord_pwr_commanded r s : (stageRecord r s).pwr.commanded = s.pwr.commanded := by
  unfold stageRecord
  repeat' first | rfl | split | simp
@[simp] theorem stageRecord_pwr_pmbus r s : (stageRecord r s).pwr.pmbus = s.pwr.pmbus := by
  unfold stageRecord
  repeat' first | rfl | split | simp
@[simp] theorem stageRecord_pwr_tj r s : (stageRecord r s).pwr.tj = s.pwr.tj := by
  unfold stageRecord
  repeat' first | rfl | split | simp
@[simp] theorem stageRecord_pwr_hot r s : (stageRecord r s).pwr.hot = s.pwr.hot := by
  unfold stageRecord
  repeat' first | rfl | split | simp
@[simp] theorem stageRecord_pwr_fault r s : (stageRecord r s).pwr.fault = s.pwr.fault := by
  unfold stageRecord
  repeat' first | rfl | split | simp
@[simp] theorem stageRecord_pcie_linkUp r s : (stageRecord r s).pcie.linkUp = s.pcie.linkUp := by
  unfold stageRecord
  repeat' first | rfl | split | simp
@[simp] theorem stageRecord_pcie_busMaster r s : (stageRecord r s).pcie.busMaster = s.pcie.busMaster := by
  unfold stageRecord
  repeat' first | rfl | split | simp
@[simp] theorem stageRecord_pcie_perst r s : (stageRecord r s).pcie.perst = s.pcie.perst := by
  unfold stageRecord
  repeat' first | rfl | split | simp
@[simp] theorem stageRecord_pcie_unmasked r s : (stageRecord r s).pcie.unmasked = s.pcie.unmasked := by
  unfold stageRecord
  repeat' first | rfl | split | simp
@[simp] theorem stageRecord_pcie_clocking r s : (stageRecord r s).pcie.clocking = s.pcie.clocking := by
  unfold stageRecord
  repeat' first | rfl | split | simp
@[simp] theorem stageRecord_pcie_clockingSet r s : (stageRecord r s).pcie.clockingSet = s.pcie.clockingSet := by
  unfold stageRecord
  repeat' first | rfl | split | simp
@[simp] theorem stageRecord_evt_boots r s : (stageRecord r s).evt.boots = s.evt.boots := by
  unfold stageRecord
  repeat' first | rfl | split | simp
@[simp] theorem stageRecord_evt_carrying r s : (stageRecord r s).evt.carrying = s.evt.carrying := by
  unfold stageRecord
  repeat' first | rfl | split | simp
@[simp] theorem stageRecord_evt_first r s : (stageRecord r s).evt.first = s.evt.first := by
  unfold stageRecord
  repeat' first | rfl | split | simp
@[simp] theorem stageRecord_evt_journal r s : (stageRecord r s).evt.journal = s.evt.journal := by
  unfold stageRecord
  repeat' first | rfl | split | simp
@[simp] theorem stageRecord_evt_ring r s : (stageRecord r s).evt.ring = s.evt.ring := by
  unfold stageRecord
  repeat' first | rfl | split | simp
@[simp] theorem stageRecord_evt_copyTo r s : (stageRecord r s).evt.copyTo = s.evt.copyTo := by
  unfold stageRecord
  repeat' first | rfl | split | simp
@[simp] theorem stageRecord_evt_clears r s : (stageRecord r s).evt.clears = s.evt.clears := by
  unfold stageRecord
  repeat' first | rfl | split | simp
@[simp] theorem openRecord_time n b s : (openRecord n b s).time = s.time := rfl
@[simp] theorem openRecord_clk n b s : (openRecord n b s).clk = s.clk := rfl
@[simp] theorem openRecord_boot n b s : (openRecord n b s).boot = s.boot := rfl
@[simp] theorem openRecord_pwr n b s : (openRecord n b s).pwr = s.pwr := rfl
@[simp] theorem openRecord_pcie n b s : (openRecord n b s).pcie = s.pcie := rfl
@[simp] theorem openRecord_sess n b s : (openRecord n b s).sess = s.sess := rfl
@[simp] theorem openRecord_prot n b s : (openRecord n b s).prot = s.prot := rfl
@[simp] theorem openRecord_inp n b s : (openRecord n b s).inp = s.inp := rfl
@[simp] theorem openRecord_cal n b s : (openRecord n b s).cal = s.cal := rfl
@[simp] theorem openRecord_flt n b s : (openRecord n b s).flt = s.flt := rfl
@[simp] theorem openRecord_trg n b s : (openRecord n b s).trg = s.trg := rfl
@[simp] theorem openRecord_seg n b s : (openRecord n b s).seg = s.seg := rfl
@[simp] theorem openRecord_edge n b s : (openRecord n b s).edge = s.edge := rfl
@[simp] theorem openRecord_aux n b s : (openRecord n b s).aux = s.aux := rfl
@[simp] theorem openRecord_mem n b s : (openRecord n b s).mem = s.mem := rfl
@[simp] theorem openRecord_xfer n b s : (openRecord n b s).xfer = s.xfer := rfl
@[simp] theorem openRecord_ham n b s : (openRecord n b s).ham = s.ham := rfl
@[simp] theorem openRecord_dmx n b s : (openRecord n b s).dmx = s.dmx := rfl
@[simp] theorem openRecord_eng n b s : (openRecord n b s).eng = s.eng := rfl
@[simp] theorem openRecord_sync n b s : (openRecord n b s).sync = s.sync := rfl
@[simp] theorem openRecord_jtag n b s : (openRecord n b s).jtag = s.jtag := rfl
@[simp] theorem openRecord_sent n b s : (openRecord n b s).sent = s.sent := rfl
@[simp] theorem openRecord_free n b s : (openRecord n b s).free = s.free := rfl
@[simp] theorem openRecord_pending n b s : (openRecord n b s).pending = s.pending := rfl
@[simp] theorem openRecord_evt_boots n b s : (openRecord n b s).evt.boots = s.evt.boots := rfl
@[simp] theorem openRecord_evt_nextSeq n b s : (openRecord n b s).evt.nextSeq = s.evt.nextSeq := rfl
@[simp] theorem openRecord_evt_carrying n b s : (openRecord n b s).evt.carrying = s.evt.carrying := rfl
@[simp] theorem openRecord_evt_first n b s : (openRecord n b s).evt.first = s.evt.first := rfl
@[simp] theorem openRecord_evt_journal n b s : (openRecord n b s).evt.journal = s.evt.journal := rfl
@[simp] theorem openRecord_evt_ring n b s : (openRecord n b s).evt.ring = s.evt.ring := rfl
@[simp] theorem openRecord_evt_copyTo n b s : (openRecord n b s).evt.copyTo = s.evt.copyTo := rfl
@[simp] theorem openRecord_evt_clears n b s : (openRecord n b s).evt.clears = s.evt.clears := rfl
@[simp] theorem stageBody_time n b s : (stageBody n b s).time = s.time := by
  unfold stageBody
  repeat' first | rfl | split | simp
@[simp] theorem stageBody_clk n b s : (stageBody n b s).clk = s.clk := by
  unfold stageBody
  repeat' first | rfl | split | simp
@[simp] theorem stageBody_sess n b s : (stageBody n b s).sess = s.sess := by
  unfold stageBody
  repeat' first | rfl | split | simp
@[simp] theorem stageBody_prot n b s : (stageBody n b s).prot = s.prot := by
  unfold stageBody
  repeat' first | rfl | split | simp
@[simp] theorem stageBody_inp n b s : (stageBody n b s).inp = s.inp := by
  unfold stageBody
  repeat' first | rfl | split | simp
@[simp] theorem stageBody_cal n b s : (stageBody n b s).cal = s.cal := by
  unfold stageBody
  repeat' first | rfl | split | simp
@[simp] theorem stageBody_flt n b s : (stageBody n b s).flt = s.flt := by
  unfold stageBody
  repeat' first | rfl | split | simp
@[simp] theorem stageBody_trg n b s : (stageBody n b s).trg = s.trg := by
  unfold stageBody
  repeat' first | rfl | split | simp
@[simp] theorem stageBody_seg n b s : (stageBody n b s).seg = s.seg := by
  unfold stageBody
  repeat' first | rfl | split | simp
@[simp] theorem stageBody_edge n b s : (stageBody n b s).edge = s.edge := by
  unfold stageBody
  repeat' first | rfl | split | simp
@[simp] theorem stageBody_aux n b s : (stageBody n b s).aux = s.aux := by
  unfold stageBody
  repeat' first | rfl | split | simp
@[simp] theorem stageBody_mem n b s : (stageBody n b s).mem = s.mem := by
  unfold stageBody
  repeat' first | rfl | split | simp
@[simp] theorem stageBody_xfer n b s : (stageBody n b s).xfer = s.xfer := by
  unfold stageBody
  repeat' first | rfl | split | simp
@[simp] theorem stageBody_ham n b s : (stageBody n b s).ham = s.ham := by
  unfold stageBody
  repeat' first | rfl | split | simp
@[simp] theorem stageBody_dmx n b s : (stageBody n b s).dmx = s.dmx := by
  unfold stageBody
  repeat' first | rfl | split | simp
@[simp] theorem stageBody_eng n b s : (stageBody n b s).eng = s.eng := by
  unfold stageBody
  repeat' first | rfl | split | simp
@[simp] theorem stageBody_sync n b s : (stageBody n b s).sync = s.sync := by
  unfold stageBody
  repeat' first | rfl | split | simp
@[simp] theorem stageBody_jtag n b s : (stageBody n b s).jtag = s.jtag := by
  unfold stageBody
  repeat' first | rfl | split | simp
@[simp] theorem stageBody_free n b s : (stageBody n b s).free = s.free := by
  unfold stageBody
  repeat' first | rfl | split | simp
@[simp] theorem stageBody_pending n b s : (stageBody n b s).pending = s.pending := by
  unfold stageBody
  repeat' first | rfl | split | simp
@[simp] theorem stageBody_boot_st n b s : (stageBody n b s).boot.st = s.boot.st := by
  unfold stageBody
  repeat' first | rfl | split | simp
@[simp] theorem stageBody_boot_owedCal n b s : (stageBody n b s).boot.owedCal = s.boot.owedCal := by
  unfold stageBody
  repeat' first | rfl | split | simp
@[simp] theorem stageBody_boot_owedMem n b s : (stageBody n b s).boot.owedMem = s.boot.owedMem := by
  unfold stageBody
  repeat' first | rfl | split | simp
@[simp] theorem stageBody_boot_memReady n b s : (stageBody n b s).boot.memReady = s.boot.memReady := by
  unfold stageBody
  repeat' first | rfl | split | simp
@[simp] theorem stageBody_boot_armedBefore n b s : (stageBody n b s).boot.armedBefore = s.boot.armedBefore := by
  unfold stageBody
  repeat' first | rfl | split | simp
@[simp] theorem stageBody_boot_cause n b s : (stageBody n b s).boot.cause = s.boot.cause := by
  unfold stageBody
  repeat' first | rfl | split | simp
@[simp] theorem stageBody_boot_queued n b s : (stageBody n b s).boot.queued = s.boot.queued := by
  unfold stageBody
  repeat' first | rfl | split | simp
@[simp] theorem stageBody_boot_deepAfter n b s : (stageBody n b s).boot.deepAfter = s.boot.deepAfter := by
  unfold stageBody
  repeat' first | rfl | split | simp
@[simp] theorem stageBody_boot_memPreserved n b s : (stageBody n b s).boot.memPreserved = s.boot.memPreserved := by
  unfold stageBody
  repeat' first | rfl | split | simp
@[simp] theorem stageBody_boot_cfgDefaulted n b s : (stageBody n b s).boot.cfgDefaulted = s.boot.cfgDefaulted := by
  unfold stageBody
  repeat' first | rfl | split | simp
@[simp] theorem stageBody_boot_off n b s : (stageBody n b s).boot.off = s.boot.off := by
  unfold stageBody
  repeat' first | rfl | split | simp
@[simp] theorem stageBody_boot_downing n b s : (stageBody n b s).boot.downing = s.boot.downing := by
  unfold stageBody
  repeat' first | rfl | split | simp
@[simp] theorem stageBody_boot_nresetLow n b s : (stageBody n b s).boot.nresetLow = s.boot.nresetLow := by
  unfold stageBody
  repeat' first | rfl | split | simp
@[simp] theorem stageBody_boot_transition n b s : (stageBody n b s).boot.transition = s.boot.transition := by
  unfold stageBody
  repeat' first | rfl | split | simp
@[simp] theorem stageBody_boot_haltCause n b s : (stageBody n b s).boot.haltCause = s.boot.haltCause := by
  unfold stageBody
  repeat' first | rfl | split | simp
@[simp] theorem stageBody_boot_since n b s : (stageBody n b s).boot.since = s.boot.since := by
  unfold stageBody
  repeat' first | rfl | split | simp
@[simp] theorem stageBody_boot_control n b s : (stageBody n b s).boot.control = s.boot.control := by
  unfold stageBody
  repeat' first | rfl | split | simp
@[simp] theorem stageBody_boot_initMemory n b s : (stageBody n b s).boot.initMemory = s.boot.initMemory := by
  unfold stageBody
  repeat' first | rfl | split | simp
@[simp] theorem stageBody_boot_subsystem n b s : (stageBody n b s).boot.subsystem = s.boot.subsystem := by
  unfold stageBody
  repeat' first | rfl | split | simp
@[simp] theorem stageBody_pwr_floor n b s : (stageBody n b s).pwr.floor = s.pwr.floor := by
  unfold stageBody
  repeat' first | rfl | split | simp
@[simp] theorem stageBody_pwr_sensed n b s : (stageBody n b s).pwr.sensed = s.pwr.sensed := by
  unfold stageBody
  repeat' first | rfl | split | simp
@[simp] theorem stageBody_pwr_history n b s : (stageBody n b s).pwr.history = s.pwr.history := by
  unfold stageBody
  repeat' first | rfl | split | simp
@[simp] theorem stageBody_pwr_adaptive n b s : (stageBody n b s).pwr.adaptive = s.pwr.adaptive := by
  unfold stageBody
  repeat' first | rfl | split | simp
@[simp] theorem stageBody_pwr_lost n b s : (stageBody n b s).pwr.lost = s.pwr.lost := by
  unfold stageBody
  repeat' first | rfl | split | simp
@[simp] theorem stageBody_pwr_lanes n b s : (stageBody n b s).pwr.lanes = s.pwr.lanes := by
  unfold stageBody
  repeat' first | rfl | split | simp
@[simp] theorem stageBody_pwr_mode n b s : (stageBody n b s).pwr.mode = s.pwr.mode := by
  unfold stageBody
  repeat' first | rfl | split | simp
@[simp] theorem stageBody_pwr_regulator n b s : (stageBody n b s).pwr.regulator = s.pwr.regulator := by
  unfold stageBody
  repeat' first | rfl | split | simp
@[simp] theorem stageBody_pwr_fixed n b s : (stageBody n b s).pwr.fixed = s.pwr.fixed := by
  unfold stageBody
  repeat' first | rfl | split | simp
@[simp] theorem stageBody_pwr_commanded n b s : (stageBody n b s).pwr.commanded = s.pwr.commanded := by
  unfold stageBody
  repeat' first | rfl | split | simp
@[simp] theorem stageBody_pwr_pmbus n b s : (stageBody n b s).pwr.pmbus = s.pwr.pmbus := by
  unfold stageBody
  repeat' first | rfl | split | simp
@[simp] theorem stageBody_pwr_tj n b s : (stageBody n b s).pwr.tj = s.pwr.tj := by
  unfold stageBody
  repeat' first | rfl | split | simp
@[simp] theorem stageBody_pwr_hot n b s : (stageBody n b s).pwr.hot = s.pwr.hot := by
  unfold stageBody
  repeat' first | rfl | split | simp
@[simp] theorem stageBody_pwr_fault n b s : (stageBody n b s).pwr.fault = s.pwr.fault := by
  unfold stageBody
  repeat' first | rfl | split | simp
@[simp] theorem stageBody_pcie_linkUp n b s : (stageBody n b s).pcie.linkUp = s.pcie.linkUp := by
  unfold stageBody
  repeat' first | rfl | split | simp
@[simp] theorem stageBody_pcie_busMaster n b s : (stageBody n b s).pcie.busMaster = s.pcie.busMaster := by
  unfold stageBody
  repeat' first | rfl | split | simp
@[simp] theorem stageBody_pcie_perst n b s : (stageBody n b s).pcie.perst = s.pcie.perst := by
  unfold stageBody
  repeat' first | rfl | split | simp
@[simp] theorem stageBody_pcie_unmasked n b s : (stageBody n b s).pcie.unmasked = s.pcie.unmasked := by
  unfold stageBody
  repeat' first | rfl | split | simp
@[simp] theorem stageBody_pcie_clocking n b s : (stageBody n b s).pcie.clocking = s.pcie.clocking := by
  unfold stageBody
  repeat' first | rfl | split | simp
@[simp] theorem stageBody_pcie_clockingSet n b s : (stageBody n b s).pcie.clockingSet = s.pcie.clockingSet := by
  unfold stageBody
  repeat' first | rfl | split | simp
@[simp] theorem stageBody_evt_boots n b s : (stageBody n b s).evt.boots = s.evt.boots := by
  unfold stageBody
  repeat' first | rfl | split | simp
@[simp] theorem stageBody_evt_carrying n b s : (stageBody n b s).evt.carrying = s.evt.carrying := by
  unfold stageBody
  repeat' first | rfl | split | simp
@[simp] theorem stageBody_evt_first n b s : (stageBody n b s).evt.first = s.evt.first := by
  unfold stageBody
  repeat' first | rfl | split | simp
@[simp] theorem stageBody_evt_journal n b s : (stageBody n b s).evt.journal = s.evt.journal := by
  unfold stageBody
  repeat' first | rfl | split | simp
@[simp] theorem stageBody_evt_ring n b s : (stageBody n b s).evt.ring = s.evt.ring := by
  unfold stageBody
  repeat' first | rfl | split | simp
@[simp] theorem stageBody_evt_copyTo n b s : (stageBody n b s).evt.copyTo = s.evt.copyTo := by
  unfold stageBody
  repeat' first | rfl | split | simp
@[simp] theorem stageBody_evt_clears n b s : (stageBody n b s).evt.clears = s.evt.clears := by
  unfold stageBody
  repeat' first | rfl | split | simp
@[simp] theorem record_time n b s : (record n b s).time = s.time := by
  unfold record
  repeat' first | rfl | split | simp
@[simp] theorem record_clk n b s : (record n b s).clk = s.clk := by
  unfold record
  repeat' first | rfl | split | simp
@[simp] theorem record_sess n b s : (record n b s).sess = s.sess := by
  unfold record
  repeat' first | rfl | split | simp
@[simp] theorem record_prot n b s : (record n b s).prot = s.prot := by
  unfold record
  repeat' first | rfl | split | simp
@[simp] theorem record_inp n b s : (record n b s).inp = s.inp := by
  unfold record
  repeat' first | rfl | split | simp
@[simp] theorem record_cal n b s : (record n b s).cal = s.cal := by
  unfold record
  repeat' first | rfl | split | simp
@[simp] theorem record_flt n b s : (record n b s).flt = s.flt := by
  unfold record
  repeat' first | rfl | split | simp
@[simp] theorem record_trg n b s : (record n b s).trg = s.trg := by
  unfold record
  repeat' first | rfl | split | simp
@[simp] theorem record_seg n b s : (record n b s).seg = s.seg := by
  unfold record
  repeat' first | rfl | split | simp
@[simp] theorem record_edge n b s : (record n b s).edge = s.edge := by
  unfold record
  repeat' first | rfl | split | simp
@[simp] theorem record_aux n b s : (record n b s).aux = s.aux := by
  unfold record
  repeat' first | rfl | split | simp
@[simp] theorem record_mem n b s : (record n b s).mem = s.mem := by
  unfold record
  repeat' first | rfl | split | simp
@[simp] theorem record_xfer n b s : (record n b s).xfer = s.xfer := by
  unfold record
  repeat' first | rfl | split | simp
@[simp] theorem record_ham n b s : (record n b s).ham = s.ham := by
  unfold record
  repeat' first | rfl | split | simp
@[simp] theorem record_dmx n b s : (record n b s).dmx = s.dmx := by
  unfold record
  repeat' first | rfl | split | simp
@[simp] theorem record_eng n b s : (record n b s).eng = s.eng := by
  unfold record
  repeat' first | rfl | split | simp
@[simp] theorem record_sync n b s : (record n b s).sync = s.sync := by
  unfold record
  repeat' first | rfl | split | simp
@[simp] theorem record_jtag n b s : (record n b s).jtag = s.jtag := by
  unfold record
  repeat' first | rfl | split | simp
@[simp] theorem record_free n b s : (record n b s).free = s.free := by
  unfold record
  repeat' first | rfl | split | simp
@[simp] theorem record_pending n b s : (record n b s).pending = s.pending := by
  unfold record
  repeat' first | rfl | split | simp
@[simp] theorem record_boot_st n b s : (record n b s).boot.st = s.boot.st := by
  unfold record
  repeat' first | rfl | split | simp
@[simp] theorem record_boot_owedCal n b s : (record n b s).boot.owedCal = s.boot.owedCal := by
  unfold record
  repeat' first | rfl | split | simp
@[simp] theorem record_boot_owedMem n b s : (record n b s).boot.owedMem = s.boot.owedMem := by
  unfold record
  repeat' first | rfl | split | simp
@[simp] theorem record_boot_memReady n b s : (record n b s).boot.memReady = s.boot.memReady := by
  unfold record
  repeat' first | rfl | split | simp
@[simp] theorem record_boot_armedBefore n b s : (record n b s).boot.armedBefore = s.boot.armedBefore := by
  unfold record
  repeat' first | rfl | split | simp
@[simp] theorem record_boot_cause n b s : (record n b s).boot.cause = s.boot.cause := by
  unfold record
  repeat' first | rfl | split | simp
@[simp] theorem record_boot_queued n b s : (record n b s).boot.queued = s.boot.queued := by
  unfold record
  repeat' first | rfl | split | simp
@[simp] theorem record_boot_deepAfter n b s : (record n b s).boot.deepAfter = s.boot.deepAfter := by
  unfold record
  repeat' first | rfl | split | simp
@[simp] theorem record_boot_memPreserved n b s : (record n b s).boot.memPreserved = s.boot.memPreserved := by
  unfold record
  repeat' first | rfl | split | simp
@[simp] theorem record_boot_cfgDefaulted n b s : (record n b s).boot.cfgDefaulted = s.boot.cfgDefaulted := by
  unfold record
  repeat' first | rfl | split | simp
@[simp] theorem record_boot_off n b s : (record n b s).boot.off = s.boot.off := by
  unfold record
  repeat' first | rfl | split | simp
@[simp] theorem record_boot_downing n b s : (record n b s).boot.downing = s.boot.downing := by
  unfold record
  repeat' first | rfl | split | simp
@[simp] theorem record_boot_nresetLow n b s : (record n b s).boot.nresetLow = s.boot.nresetLow := by
  unfold record
  repeat' first | rfl | split | simp
@[simp] theorem record_boot_transition n b s : (record n b s).boot.transition = s.boot.transition := by
  unfold record
  repeat' first | rfl | split | simp
@[simp] theorem record_boot_haltCause n b s : (record n b s).boot.haltCause = s.boot.haltCause := by
  unfold record
  repeat' first | rfl | split | simp
@[simp] theorem record_boot_since n b s : (record n b s).boot.since = s.boot.since := by
  unfold record
  repeat' first | rfl | split | simp
@[simp] theorem record_boot_control n b s : (record n b s).boot.control = s.boot.control := by
  unfold record
  repeat' first | rfl | split | simp
@[simp] theorem record_boot_initMemory n b s : (record n b s).boot.initMemory = s.boot.initMemory := by
  unfold record
  repeat' first | rfl | split | simp
@[simp] theorem record_boot_subsystem n b s : (record n b s).boot.subsystem = s.boot.subsystem := by
  unfold record
  repeat' first | rfl | split | simp
@[simp] theorem record_pwr_floor n b s : (record n b s).pwr.floor = s.pwr.floor := by
  unfold record
  repeat' first | rfl | split | simp
@[simp] theorem record_pwr_sensed n b s : (record n b s).pwr.sensed = s.pwr.sensed := by
  unfold record
  repeat' first | rfl | split | simp
@[simp] theorem record_pwr_history n b s : (record n b s).pwr.history = s.pwr.history := by
  unfold record
  repeat' first | rfl | split | simp
@[simp] theorem record_pwr_adaptive n b s : (record n b s).pwr.adaptive = s.pwr.adaptive := by
  unfold record
  repeat' first | rfl | split | simp
@[simp] theorem record_pwr_lost n b s : (record n b s).pwr.lost = s.pwr.lost := by
  unfold record
  repeat' first | rfl | split | simp
@[simp] theorem record_pwr_lanes n b s : (record n b s).pwr.lanes = s.pwr.lanes := by
  unfold record
  repeat' first | rfl | split | simp
@[simp] theorem record_pwr_mode n b s : (record n b s).pwr.mode = s.pwr.mode := by
  unfold record
  repeat' first | rfl | split | simp
@[simp] theorem record_pwr_regulator n b s : (record n b s).pwr.regulator = s.pwr.regulator := by
  unfold record
  repeat' first | rfl | split | simp
@[simp] theorem record_pwr_fixed n b s : (record n b s).pwr.fixed = s.pwr.fixed := by
  unfold record
  repeat' first | rfl | split | simp
@[simp] theorem record_pwr_commanded n b s : (record n b s).pwr.commanded = s.pwr.commanded := by
  unfold record
  repeat' first | rfl | split | simp
@[simp] theorem record_pwr_pmbus n b s : (record n b s).pwr.pmbus = s.pwr.pmbus := by
  unfold record
  repeat' first | rfl | split | simp
@[simp] theorem record_pwr_tj n b s : (record n b s).pwr.tj = s.pwr.tj := by
  unfold record
  repeat' first | rfl | split | simp
@[simp] theorem record_pwr_hot n b s : (record n b s).pwr.hot = s.pwr.hot := by
  unfold record
  repeat' first | rfl | split | simp
@[simp] theorem record_pwr_fault n b s : (record n b s).pwr.fault = s.pwr.fault := by
  unfold record
  repeat' first | rfl | split | simp
@[simp] theorem record_pcie_linkUp n b s : (record n b s).pcie.linkUp = s.pcie.linkUp := by
  unfold record
  repeat' first | rfl | split | simp
@[simp] theorem record_pcie_busMaster n b s : (record n b s).pcie.busMaster = s.pcie.busMaster := by
  unfold record
  repeat' first | rfl | split | simp
@[simp] theorem record_pcie_perst n b s : (record n b s).pcie.perst = s.pcie.perst := by
  unfold record
  repeat' first | rfl | split | simp
@[simp] theorem record_pcie_unmasked n b s : (record n b s).pcie.unmasked = s.pcie.unmasked := by
  unfold record
  repeat' first | rfl | split | simp
@[simp] theorem record_pcie_clocking n b s : (record n b s).pcie.clocking = s.pcie.clocking := by
  unfold record
  repeat' first | rfl | split | simp
@[simp] theorem record_pcie_clockingSet n b s : (record n b s).pcie.clockingSet = s.pcie.clockingSet := by
  unfold record
  repeat' first | rfl | split | simp
@[simp] theorem record_evt_boots n b s : (record n b s).evt.boots = s.evt.boots := by
  unfold record
  repeat' first | rfl | split | simp
@[simp] theorem record_evt_carrying n b s : (record n b s).evt.carrying = s.evt.carrying := by
  unfold record
  repeat' first | rfl | split | simp
@[simp] theorem record_evt_first n b s : (record n b s).evt.first = s.evt.first := by
  unfold record
  repeat' first | rfl | split | simp
@[simp] theorem record_evt_journal n b s : (record n b s).evt.journal = s.evt.journal := by
  unfold record
  repeat' first | rfl | split | simp
@[simp] theorem record_evt_ring n b s : (record n b s).evt.ring = s.evt.ring := by
  unfold record
  repeat' first | rfl | split | simp
@[simp] theorem record_evt_copyTo n b s : (record n b s).evt.copyTo = s.evt.copyTo := by
  unfold record
  repeat' first | rfl | split | simp
@[simp] theorem record_evt_clears n b s : (record n b s).evt.clears = s.evt.clears := by
  unfold record
  repeat' first | rfl | split | simp
@[simp] theorem recordLimited_time n i g b s : (recordLimited n i g b s).time = s.time := by
  unfold recordLimited
  repeat' first | rfl | split | simp
@[simp] theorem recordLimited_clk n i g b s : (recordLimited n i g b s).clk = s.clk := by
  unfold recordLimited
  repeat' first | rfl | split | simp
@[simp] theorem recordLimited_sess n i g b s : (recordLimited n i g b s).sess = s.sess := by
  unfold recordLimited
  repeat' first | rfl | split | simp
@[simp] theorem recordLimited_prot n i g b s : (recordLimited n i g b s).prot = s.prot := by
  unfold recordLimited
  repeat' first | rfl | split | simp
@[simp] theorem recordLimited_inp n i g b s : (recordLimited n i g b s).inp = s.inp := by
  unfold recordLimited
  repeat' first | rfl | split | simp
@[simp] theorem recordLimited_cal n i g b s : (recordLimited n i g b s).cal = s.cal := by
  unfold recordLimited
  repeat' first | rfl | split | simp
@[simp] theorem recordLimited_flt n i g b s : (recordLimited n i g b s).flt = s.flt := by
  unfold recordLimited
  repeat' first | rfl | split | simp
@[simp] theorem recordLimited_trg n i g b s : (recordLimited n i g b s).trg = s.trg := by
  unfold recordLimited
  repeat' first | rfl | split | simp
@[simp] theorem recordLimited_seg n i g b s : (recordLimited n i g b s).seg = s.seg := by
  unfold recordLimited
  repeat' first | rfl | split | simp
@[simp] theorem recordLimited_edge n i g b s : (recordLimited n i g b s).edge = s.edge := by
  unfold recordLimited
  repeat' first | rfl | split | simp
@[simp] theorem recordLimited_aux n i g b s : (recordLimited n i g b s).aux = s.aux := by
  unfold recordLimited
  repeat' first | rfl | split | simp
@[simp] theorem recordLimited_mem n i g b s : (recordLimited n i g b s).mem = s.mem := by
  unfold recordLimited
  repeat' first | rfl | split | simp
@[simp] theorem recordLimited_xfer n i g b s : (recordLimited n i g b s).xfer = s.xfer := by
  unfold recordLimited
  repeat' first | rfl | split | simp
@[simp] theorem recordLimited_ham n i g b s : (recordLimited n i g b s).ham = s.ham := by
  unfold recordLimited
  repeat' first | rfl | split | simp
@[simp] theorem recordLimited_dmx n i g b s : (recordLimited n i g b s).dmx = s.dmx := by
  unfold recordLimited
  repeat' first | rfl | split | simp
@[simp] theorem recordLimited_eng n i g b s : (recordLimited n i g b s).eng = s.eng := by
  unfold recordLimited
  repeat' first | rfl | split | simp
@[simp] theorem recordLimited_sync n i g b s : (recordLimited n i g b s).sync = s.sync := by
  unfold recordLimited
  repeat' first | rfl | split | simp
@[simp] theorem recordLimited_jtag n i g b s : (recordLimited n i g b s).jtag = s.jtag := by
  unfold recordLimited
  repeat' first | rfl | split | simp
@[simp] theorem recordLimited_free n i g b s : (recordLimited n i g b s).free = s.free := by
  unfold recordLimited
  repeat' first | rfl | split | simp
@[simp] theorem recordLimited_pending n i g b s : (recordLimited n i g b s).pending = s.pending := by
  unfold recordLimited
  repeat' first | rfl | split | simp
@[simp] theorem correctTime_clk x s : (correctTime x s).clk = s.clk := by
  unfold correctTime
  repeat' first | rfl | split | simp
@[simp] theorem correctTime_sess x s : (correctTime x s).sess = s.sess := by
  unfold correctTime
  repeat' first | rfl | split | simp
@[simp] theorem correctTime_prot x s : (correctTime x s).prot = s.prot := by
  unfold correctTime
  repeat' first | rfl | split | simp
@[simp] theorem correctTime_inp x s : (correctTime x s).inp = s.inp := by
  unfold correctTime
  repeat' first | rfl | split | simp
@[simp] theorem correctTime_cal x s : (correctTime x s).cal = s.cal := by
  unfold correctTime
  repeat' first | rfl | split | simp
@[simp] theorem correctTime_flt x s : (correctTime x s).flt = s.flt := by
  unfold correctTime
  repeat' first | rfl | split | simp
@[simp] theorem correctTime_trg x s : (correctTime x s).trg = s.trg := by
  unfold correctTime
  repeat' first | rfl | split | simp
@[simp] theorem correctTime_edge x s : (correctTime x s).edge = s.edge := by
  unfold correctTime
  repeat' first | rfl | split | simp
@[simp] theorem correctTime_aux x s : (correctTime x s).aux = s.aux := by
  unfold correctTime
  repeat' first | rfl | split | simp
@[simp] theorem correctTime_mem x s : (correctTime x s).mem = s.mem := by
  unfold correctTime
  repeat' first | rfl | split | simp
@[simp] theorem correctTime_xfer x s : (correctTime x s).xfer = s.xfer := by
  unfold correctTime
  repeat' first | rfl | split | simp
@[simp] theorem correctTime_ham x s : (correctTime x s).ham = s.ham := by
  unfold correctTime
  repeat' first | rfl | split | simp
@[simp] theorem correctTime_dmx x s : (correctTime x s).dmx = s.dmx := by
  unfold correctTime
  repeat' first | rfl | split | simp
@[simp] theorem correctTime_eng x s : (correctTime x s).eng = s.eng := by
  unfold correctTime
  repeat' first | rfl | split | simp
@[simp] theorem correctTime_sync x s : (correctTime x s).sync = s.sync := by
  unfold correctTime
  repeat' first | rfl | split | simp
@[simp] theorem correctTime_jtag x s : (correctTime x s).jtag = s.jtag := by
  unfold correctTime
  repeat' first | rfl | split | simp
@[simp] theorem correctTime_free x s : (correctTime x s).free = s.free := by
  unfold correctTime
  repeat' first | rfl | split | simp
@[simp] theorem correctTime_pending x s : (correctTime x s).pending = s.pending := by
  unfold correctTime
  repeat' first | rfl | split | simp
@[simp] theorem carrying_time f s : (carrying f s).time = (f { s with evt := { s.evt with carrying := true } }).time := rfl
@[simp] theorem carrying_clk f s : (carrying f s).clk = (f { s with evt := { s.evt with carrying := true } }).clk := rfl
@[simp] theorem carrying_boot f s : (carrying f s).boot = (f { s with evt := { s.evt with carrying := true } }).boot := rfl
@[simp] theorem carrying_pwr f s : (carrying f s).pwr = (f { s with evt := { s.evt with carrying := true } }).pwr := rfl
@[simp] theorem carrying_pcie f s : (carrying f s).pcie = (f { s with evt := { s.evt with carrying := true } }).pcie := rfl
@[simp] theorem carrying_sess f s : (carrying f s).sess = (f { s with evt := { s.evt with carrying := true } }).sess := rfl
@[simp] theorem carrying_prot f s : (carrying f s).prot = (f { s with evt := { s.evt with carrying := true } }).prot := rfl
@[simp] theorem carrying_inp f s : (carrying f s).inp = (f { s with evt := { s.evt with carrying := true } }).inp := rfl
@[simp] theorem carrying_cal f s : (carrying f s).cal = (f { s with evt := { s.evt with carrying := true } }).cal := rfl
@[simp] theorem carrying_flt f s : (carrying f s).flt = (f { s with evt := { s.evt with carrying := true } }).flt := rfl
@[simp] theorem carrying_trg f s : (carrying f s).trg = (f { s with evt := { s.evt with carrying := true } }).trg := rfl
@[simp] theorem carrying_seg f s : (carrying f s).seg = (f { s with evt := { s.evt with carrying := true } }).seg := rfl
@[simp] theorem carrying_edge f s : (carrying f s).edge = (f { s with evt := { s.evt with carrying := true } }).edge := rfl
@[simp] theorem carrying_aux f s : (carrying f s).aux = (f { s with evt := { s.evt with carrying := true } }).aux := rfl
@[simp] theorem carrying_mem f s : (carrying f s).mem = (f { s with evt := { s.evt with carrying := true } }).mem := rfl
@[simp] theorem carrying_xfer f s : (carrying f s).xfer = (f { s with evt := { s.evt with carrying := true } }).xfer := rfl
@[simp] theorem carrying_ham f s : (carrying f s).ham = (f { s with evt := { s.evt with carrying := true } }).ham := rfl
@[simp] theorem carrying_dmx f s : (carrying f s).dmx = (f { s with evt := { s.evt with carrying := true } }).dmx := rfl
@[simp] theorem carrying_eng f s : (carrying f s).eng = (f { s with evt := { s.evt with carrying := true } }).eng := rfl
@[simp] theorem carrying_sync f s : (carrying f s).sync = (f { s with evt := { s.evt with carrying := true } }).sync := rfl
@[simp] theorem carrying_jtag f s : (carrying f s).jtag = (f { s with evt := { s.evt with carrying := true } }).jtag := rfl
@[simp] theorem carrying_sent f s : (carrying f s).sent = (f { s with evt := { s.evt with carrying := true } }).sent := rfl
@[simp] theorem carrying_free f s : (carrying f s).free = (f { s with evt := { s.evt with carrying := true } }).free := rfl
@[simp] theorem carrying_pending f s : (carrying f s).pending = (f { s with evt := { s.evt with carrying := true } }).pending := rfl

@[simp] theorem capture_time n v s : (capture n v s).time = s.time := rfl
@[simp] theorem capture_clk n v s : (capture n v s).clk = s.clk := rfl
@[simp] theorem capture_boot n v s : (capture n v s).boot = s.boot := rfl
@[simp] theorem capture_pwr n v s : (capture n v s).pwr = s.pwr := rfl
@[simp] theorem capture_pcie n v s : (capture n v s).pcie = s.pcie := rfl
@[simp] theorem capture_sess n v s : (capture n v s).sess = s.sess := rfl
@[simp] theorem capture_evt n v s : (capture n v s).evt = s.evt := rfl
@[simp] theorem capture_prot n v s : (capture n v s).prot = s.prot := rfl
@[simp] theorem capture_inp n v s : (capture n v s).inp = s.inp := rfl
@[simp] theorem capture_cal n v s : (capture n v s).cal = s.cal := rfl
@[simp] theorem capture_flt n v s : (capture n v s).flt = s.flt := rfl
@[simp] theorem capture_trg n v s : (capture n v s).trg = s.trg := rfl
@[simp] theorem capture_seg n v s : (capture n v s).seg = s.seg := rfl
@[simp] theorem capture_edge n v s : (capture n v s).edge = s.edge := rfl
@[simp] theorem capture_mem n v s : (capture n v s).mem = s.mem := rfl
@[simp] theorem capture_xfer n v s : (capture n v s).xfer = s.xfer := rfl
@[simp] theorem capture_ham n v s : (capture n v s).ham = s.ham := rfl
@[simp] theorem capture_dmx n v s : (capture n v s).dmx = s.dmx := rfl
@[simp] theorem capture_eng n v s : (capture n v s).eng = s.eng := rfl
@[simp] theorem capture_sync n v s : (capture n v s).sync = s.sync := rfl
@[simp] theorem capture_jtag n v s : (capture n v s).jtag = s.jtag := rfl
@[simp] theorem capture_sent n v s : (capture n v s).sent = s.sent := rfl
@[simp] theorem capture_free n v s : (capture n v s).free = s.free := rfl
@[simp] theorem capture_pending n v s : (capture n v s).pending = s.pending := rfl
@[simp] theorem capture_aux_running n v s : (capture n v s).aux.running = s.aux.running := rfl
@[simp] theorem capture_aux_inject n v s : (capture n v s).aux.inject = s.aux.inject := rfl
@[simp] theorem capture_aux_holdWaits n v s : (capture n v s).aux.holdWaits = s.aux.holdWaits := rfl
@[simp] theorem capture_aux_seq n v s : (capture n v s).aux.seq = s.aux.seq := rfl
@[simp] theorem capture_aux_seqNew n v s : (capture n v s).aux.seqNew = s.aux.seqNew := rfl
@[simp] theorem capture_aux_code n v s : (capture n v s).aux.code = s.aux.code := rfl
@[simp] theorem capture_aux_source n v s : (capture n v s).aux.source = s.aux.source := rfl
@[simp] theorem capture_aux_valid n v s : (capture n v s).aux.valid = s.aux.valid := rfl
@[simp] theorem capture_aux_overrun n v s : (capture n v s).aux.overrun = s.aux.overrun := rfl
@[simp] theorem capture_aux_monitors n v s : (capture n v s).aux.monitors = s.aux.monitors := rfl
@[simp] theorem updSession_time n f s : (updSession n f s).time = s.time := rfl
@[simp] theorem updSession_clk n f s : (updSession n f s).clk = s.clk := rfl
@[simp] theorem updSession_boot n f s : (updSession n f s).boot = s.boot := rfl
@[simp] theorem updSession_pwr n f s : (updSession n f s).pwr = s.pwr := rfl
@[simp] theorem updSession_pcie n f s : (updSession n f s).pcie = s.pcie := rfl
@[simp] theorem updSession_evt n f s : (updSession n f s).evt = s.evt := rfl
@[simp] theorem updSession_prot n f s : (updSession n f s).prot = s.prot := rfl
@[simp] theorem updSession_inp n f s : (updSession n f s).inp = s.inp := rfl
@[simp] theorem updSession_cal n f s : (updSession n f s).cal = s.cal := rfl
@[simp] theorem updSession_flt n f s : (updSession n f s).flt = s.flt := rfl
@[simp] theorem updSession_trg n f s : (updSession n f s).trg = s.trg := rfl
@[simp] theorem updSession_seg n f s : (updSession n f s).seg = s.seg := rfl
@[simp] theorem updSession_edge n f s : (updSession n f s).edge = s.edge := rfl
@[simp] theorem updSession_aux n f s : (updSession n f s).aux = s.aux := rfl
@[simp] theorem updSession_mem n f s : (updSession n f s).mem = s.mem := rfl
@[simp] theorem updSession_xfer n f s : (updSession n f s).xfer = s.xfer := rfl
@[simp] theorem updSession_ham n f s : (updSession n f s).ham = s.ham := rfl
@[simp] theorem updSession_dmx n f s : (updSession n f s).dmx = s.dmx := rfl
@[simp] theorem updSession_eng n f s : (updSession n f s).eng = s.eng := rfl
@[simp] theorem updSession_sync n f s : (updSession n f s).sync = s.sync := rfl
@[simp] theorem updSession_jtag n f s : (updSession n f s).jtag = s.jtag := rfl
@[simp] theorem updSession_sent n f s : (updSession n f s).sent = s.sent := rfl
@[simp] theorem updSession_free n f s : (updSession n f s).free = s.free := rfl
@[simp] theorem updSession_pending n f s : (updSession n f s).pending = s.pending := rfl
@[simp] theorem updSince_time f s : (updSince f s).time = s.time := rfl
@[simp] theorem updSince_clk f s : (updSince f s).clk = s.clk := rfl
@[simp] theorem updSince_boot f s : (updSince f s).boot = s.boot := rfl
@[simp] theorem updSince_pwr f s : (updSince f s).pwr = s.pwr := rfl
@[simp] theorem updSince_pcie f s : (updSince f s).pcie = s.pcie := rfl
@[simp] theorem updSince_evt f s : (updSince f s).evt = s.evt := rfl
@[simp] theorem updSince_prot f s : (updSince f s).prot = s.prot := rfl
@[simp] theorem updSince_inp f s : (updSince f s).inp = s.inp := rfl
@[simp] theorem updSince_cal f s : (updSince f s).cal = s.cal := rfl
@[simp] theorem updSince_flt f s : (updSince f s).flt = s.flt := rfl
@[simp] theorem updSince_trg f s : (updSince f s).trg = s.trg := rfl
@[simp] theorem updSince_seg f s : (updSince f s).seg = s.seg := rfl
@[simp] theorem updSince_edge f s : (updSince f s).edge = s.edge := rfl
@[simp] theorem updSince_aux f s : (updSince f s).aux = s.aux := rfl
@[simp] theorem updSince_mem f s : (updSince f s).mem = s.mem := rfl
@[simp] theorem updSince_xfer f s : (updSince f s).xfer = s.xfer := rfl
@[simp] theorem updSince_ham f s : (updSince f s).ham = s.ham := rfl
@[simp] theorem updSince_dmx f s : (updSince f s).dmx = s.dmx := rfl
@[simp] theorem updSince_eng f s : (updSince f s).eng = s.eng := rfl
@[simp] theorem updSince_sync f s : (updSince f s).sync = s.sync := rfl
@[simp] theorem updSince_jtag f s : (updSince f s).jtag = s.jtag := rfl
@[simp] theorem updSince_sent f s : (updSince f s).sent = s.sent := rfl
@[simp] theorem updSince_free f s : (updSince f s).free = s.free := rfl
@[simp] theorem updSince_pending f s : (updSince f s).pending = s.pending := rfl
@[simp] theorem deliver_time w n b s : (deliver w n b s).time = s.time := by
  unfold deliver
  repeat' first | rfl | split | simp
@[simp] theorem deliver_clk w n b s : (deliver w n b s).clk = s.clk := by
  unfold deliver
  repeat' first | rfl | split | simp
@[simp] theorem deliver_pwr w n b s : (deliver w n b s).pwr = s.pwr := by
  unfold deliver
  repeat' first | rfl | split | simp
@[simp] theorem deliver_evt w n b s : (deliver w n b s).evt = s.evt := by
  unfold deliver
  repeat' first | rfl | split | simp
@[simp] theorem deliver_prot w n b s : (deliver w n b s).prot = s.prot := by
  unfold deliver
  repeat' first | rfl | split | simp
@[simp] theorem deliver_inp w n b s : (deliver w n b s).inp = s.inp := by
  unfold deliver
  repeat' first | rfl | split | simp
@[simp] theorem deliver_cal w n b s : (deliver w n b s).cal = s.cal := by
  unfold deliver
  repeat' first | rfl | split | simp
@[simp] theorem deliver_flt w n b s : (deliver w n b s).flt = s.flt := by
  unfold deliver
  repeat' first | rfl | split | simp
@[simp] theorem deliver_trg w n b s : (deliver w n b s).trg = s.trg := by
  unfold deliver
  repeat' first | rfl | split | simp
@[simp] theorem deliver_seg w n b s : (deliver w n b s).seg = s.seg := by
  unfold deliver
  repeat' first | rfl | split | simp
@[simp] theorem deliver_edge w n b s : (deliver w n b s).edge = s.edge := by
  unfold deliver
  repeat' first | rfl | split | simp
@[simp] theorem deliver_mem w n b s : (deliver w n b s).mem = s.mem := by
  unfold deliver
  repeat' first | rfl | split | simp
@[simp] theorem deliver_xfer w n b s : (deliver w n b s).xfer = s.xfer := by
  unfold deliver
  repeat' first | rfl | split | simp
@[simp] theorem deliver_ham w n b s : (deliver w n b s).ham = s.ham := by
  unfold deliver
  repeat' first | rfl | split | simp
@[simp] theorem deliver_dmx w n b s : (deliver w n b s).dmx = s.dmx := by
  unfold deliver
  repeat' first | rfl | split | simp
@[simp] theorem deliver_eng w n b s : (deliver w n b s).eng = s.eng := by
  unfold deliver
  repeat' first | rfl | split | simp
@[simp] theorem deliver_sync w n b s : (deliver w n b s).sync = s.sync := by
  unfold deliver
  repeat' first | rfl | split | simp
@[simp] theorem deliver_jtag w n b s : (deliver w n b s).jtag = s.jtag := by
  unfold deliver
  repeat' first | rfl | split | simp
@[simp] theorem deliver_free w n b s : (deliver w n b s).free = s.free := by
  unfold deliver
  repeat' first | rfl | split | simp
@[simp] theorem deliver_pending w n b s : (deliver w n b s).pending = s.pending := by
  unfold deliver
  repeat' first | rfl | split | simp
@[simp] theorem deliver_boot_st w n b s : (deliver w n b s).boot.st = s.boot.st := by
  unfold deliver
  repeat' first | rfl | split | simp
@[simp] theorem deliver_boot_owedCal w n b s : (deliver w n b s).boot.owedCal = s.boot.owedCal := by
  unfold deliver
  repeat' first | rfl | split | simp
@[simp] theorem deliver_boot_owedMem w n b s : (deliver w n b s).boot.owedMem = s.boot.owedMem := by
  unfold deliver
  repeat' first | rfl | split | simp
@[simp] theorem deliver_boot_memReady w n b s : (deliver w n b s).boot.memReady = s.boot.memReady := by
  unfold deliver
  repeat' first | rfl | split | simp
@[simp] theorem deliver_boot_armedBefore w n b s : (deliver w n b s).boot.armedBefore = s.boot.armedBefore := by
  unfold deliver
  repeat' first | rfl | split | simp
@[simp] theorem deliver_boot_cause w n b s : (deliver w n b s).boot.cause = s.boot.cause := by
  unfold deliver
  repeat' first | rfl | split | simp
@[simp] theorem deliver_boot_queued w n b s : (deliver w n b s).boot.queued = s.boot.queued := by
  unfold deliver
  repeat' first | rfl | split | simp
@[simp] theorem deliver_boot_deepAfter w n b s : (deliver w n b s).boot.deepAfter = s.boot.deepAfter := by
  unfold deliver
  repeat' first | rfl | split | simp
@[simp] theorem deliver_boot_memPreserved w n b s : (deliver w n b s).boot.memPreserved = s.boot.memPreserved := by
  unfold deliver
  repeat' first | rfl | split | simp
@[simp] theorem deliver_boot_cfgDefaulted w n b s : (deliver w n b s).boot.cfgDefaulted = s.boot.cfgDefaulted := by
  unfold deliver
  repeat' first | rfl | split | simp
@[simp] theorem deliver_boot_off w n b s : (deliver w n b s).boot.off = s.boot.off := by
  unfold deliver
  repeat' first | rfl | split | simp
@[simp] theorem deliver_boot_downing w n b s : (deliver w n b s).boot.downing = s.boot.downing := by
  unfold deliver
  repeat' first | rfl | split | simp
@[simp] theorem deliver_boot_nresetLow w n b s : (deliver w n b s).boot.nresetLow = s.boot.nresetLow := by
  unfold deliver
  repeat' first | rfl | split | simp
@[simp] theorem deliver_boot_transition w n b s : (deliver w n b s).boot.transition = s.boot.transition := by
  unfold deliver
  repeat' first | rfl | split | simp
@[simp] theorem deliver_boot_haltCause w n b s : (deliver w n b s).boot.haltCause = s.boot.haltCause := by
  unfold deliver
  repeat' first | rfl | split | simp
@[simp] theorem deliver_boot_since w n b s : (deliver w n b s).boot.since = s.boot.since := by
  unfold deliver
  repeat' first | rfl | split | simp
@[simp] theorem deliver_boot_control w n b s : (deliver w n b s).boot.control = s.boot.control := by
  unfold deliver
  repeat' first | rfl | split | simp
@[simp] theorem deliver_boot_initMemory w n b s : (deliver w n b s).boot.initMemory = s.boot.initMemory := by
  unfold deliver
  repeat' first | rfl | split | simp
@[simp] theorem deliver_boot_subsystem w n b s : (deliver w n b s).boot.subsystem = s.boot.subsystem := by
  unfold deliver
  repeat' first | rfl | split | simp
@[simp] theorem deliver_pcie_linkUp w n b s : (deliver w n b s).pcie.linkUp = s.pcie.linkUp := by
  unfold deliver
  repeat' first | rfl | split | simp
@[simp] theorem deliver_pcie_busMaster w n b s : (deliver w n b s).pcie.busMaster = s.pcie.busMaster := by
  unfold deliver
  repeat' first | rfl | split | simp
@[simp] theorem deliver_pcie_perst w n b s : (deliver w n b s).pcie.perst = s.pcie.perst := by
  unfold deliver
  repeat' first | rfl | split | simp
@[simp] theorem deliver_pcie_unmasked w n b s : (deliver w n b s).pcie.unmasked = s.pcie.unmasked := by
  unfold deliver
  repeat' first | rfl | split | simp
@[simp] theorem deliver_pcie_clocking w n b s : (deliver w n b s).pcie.clocking = s.pcie.clocking := by
  unfold deliver
  repeat' first | rfl | split | simp
@[simp] theorem deliver_pcie_clockingSet w n b s : (deliver w n b s).pcie.clockingSet = s.pcie.clockingSet := by
  unfold deliver
  repeat' first | rfl | split | simp
@[simp] theorem deliver_aux_running w n b s : (deliver w n b s).aux.running = s.aux.running := by
  unfold deliver
  repeat' first | rfl | split | simp
@[simp] theorem deliver_aux_inject w n b s : (deliver w n b s).aux.inject = s.aux.inject := by
  unfold deliver
  repeat' first | rfl | split | simp
@[simp] theorem deliver_aux_holdWaits w n b s : (deliver w n b s).aux.holdWaits = s.aux.holdWaits := by
  unfold deliver
  repeat' first | rfl | split | simp
@[simp] theorem deliver_aux_seq w n b s : (deliver w n b s).aux.seq = s.aux.seq := by
  unfold deliver
  repeat' first | rfl | split | simp
@[simp] theorem deliver_aux_seqNew w n b s : (deliver w n b s).aux.seqNew = s.aux.seqNew := by
  unfold deliver
  repeat' first | rfl | split | simp
@[simp] theorem deliver_aux_code w n b s : (deliver w n b s).aux.code = s.aux.code := by
  unfold deliver
  repeat' first | rfl | split | simp
@[simp] theorem deliver_aux_source w n b s : (deliver w n b s).aux.source = s.aux.source := by
  unfold deliver
  repeat' first | rfl | split | simp
@[simp] theorem deliver_aux_valid w n b s : (deliver w n b s).aux.valid = s.aux.valid := by
  unfold deliver
  repeat' first | rfl | split | simp
@[simp] theorem deliver_aux_overrun w n b s : (deliver w n b s).aux.overrun = s.aux.overrun := by
  unfold deliver
  repeat' first | rfl | split | simp
@[simp] theorem deliver_aux_monitors w n b s : (deliver w n b s).aux.monitors = s.aux.monitors := by
  unfold deliver
  repeat' first | rfl | split | simp
@[simp] theorem protectedDone_time w n s : (protectedDone w n s).time = s.time := by
  unfold protectedDone
  repeat' first | rfl | split | simp
@[simp] theorem protectedDone_clk w n s : (protectedDone w n s).clk = s.clk := by
  unfold protectedDone
  repeat' first | rfl | split | simp
@[simp] theorem protectedDone_sess w n s : (protectedDone w n s).sess = s.sess := by
  unfold protectedDone
  repeat' first | rfl | split | simp
@[simp] theorem protectedDone_prot w n s : (protectedDone w n s).prot = s.prot := by
  unfold protectedDone
  repeat' first | rfl | split | simp
@[simp] theorem protectedDone_inp w n s : (protectedDone w n s).inp = s.inp := by
  unfold protectedDone
  repeat' first | rfl | split | simp
@[simp] theorem protectedDone_cal w n s : (protectedDone w n s).cal = s.cal := by
  unfold protectedDone
  repeat' first | rfl | split | simp
@[simp] theorem protectedDone_flt w n s : (protectedDone w n s).flt = s.flt := by
  unfold protectedDone
  repeat' first | rfl | split | simp
@[simp] theorem protectedDone_trg w n s : (protectedDone w n s).trg = s.trg := by
  unfold protectedDone
  repeat' first | rfl | split | simp
@[simp] theorem protectedDone_seg w n s : (protectedDone w n s).seg = s.seg := by
  unfold protectedDone
  repeat' first | rfl | split | simp
@[simp] theorem protectedDone_edge w n s : (protectedDone w n s).edge = s.edge := by
  unfold protectedDone
  repeat' first | rfl | split | simp
@[simp] theorem protectedDone_aux w n s : (protectedDone w n s).aux = s.aux := by
  unfold protectedDone
  repeat' first | rfl | split | simp
@[simp] theorem protectedDone_mem w n s : (protectedDone w n s).mem = s.mem := by
  unfold protectedDone
  repeat' first | rfl | split | simp
@[simp] theorem protectedDone_xfer w n s : (protectedDone w n s).xfer = s.xfer := by
  unfold protectedDone
  repeat' first | rfl | split | simp
@[simp] theorem protectedDone_ham w n s : (protectedDone w n s).ham = s.ham := by
  unfold protectedDone
  repeat' first | rfl | split | simp
@[simp] theorem protectedDone_dmx w n s : (protectedDone w n s).dmx = s.dmx := by
  unfold protectedDone
  repeat' first | rfl | split | simp
@[simp] theorem protectedDone_eng w n s : (protectedDone w n s).eng = s.eng := by
  unfold protectedDone
  repeat' first | rfl | split | simp
@[simp] theorem protectedDone_sync w n s : (protectedDone w n s).sync = s.sync := by
  unfold protectedDone
  repeat' first | rfl | split | simp
@[simp] theorem protectedDone_jtag w n s : (protectedDone w n s).jtag = s.jtag := by
  unfold protectedDone
  repeat' first | rfl | split | simp
@[simp] theorem protectedDone_free w n s : (protectedDone w n s).free = s.free := by
  unfold protectedDone
  repeat' first | rfl | split | simp
@[simp] theorem protectedDone_pending w n s : (protectedDone w n s).pending = s.pending := by
  unfold protectedDone
  repeat' first | rfl | split | simp
@[simp] theorem protectedDone_boot_st w n s : (protectedDone w n s).boot.st = s.boot.st := by
  unfold protectedDone
  repeat' first | rfl | split | simp
@[simp] theorem protectedDone_boot_owedCal w n s : (protectedDone w n s).boot.owedCal = s.boot.owedCal := by
  unfold protectedDone
  repeat' first | rfl | split | simp
@[simp] theorem protectedDone_boot_owedMem w n s : (protectedDone w n s).boot.owedMem = s.boot.owedMem := by
  unfold protectedDone
  repeat' first | rfl | split | simp
@[simp] theorem protectedDone_boot_memReady w n s : (protectedDone w n s).boot.memReady = s.boot.memReady := by
  unfold protectedDone
  repeat' first | rfl | split | simp
@[simp] theorem protectedDone_boot_armedBefore w n s : (protectedDone w n s).boot.armedBefore = s.boot.armedBefore := by
  unfold protectedDone
  repeat' first | rfl | split | simp
@[simp] theorem protectedDone_boot_cause w n s : (protectedDone w n s).boot.cause = s.boot.cause := by
  unfold protectedDone
  repeat' first | rfl | split | simp
@[simp] theorem protectedDone_boot_queued w n s : (protectedDone w n s).boot.queued = s.boot.queued := by
  unfold protectedDone
  repeat' first | rfl | split | simp
@[simp] theorem protectedDone_boot_deepAfter w n s : (protectedDone w n s).boot.deepAfter = s.boot.deepAfter := by
  unfold protectedDone
  repeat' first | rfl | split | simp
@[simp] theorem protectedDone_boot_memPreserved w n s : (protectedDone w n s).boot.memPreserved = s.boot.memPreserved := by
  unfold protectedDone
  repeat' first | rfl | split | simp
@[simp] theorem protectedDone_boot_cfgDefaulted w n s : (protectedDone w n s).boot.cfgDefaulted = s.boot.cfgDefaulted := by
  unfold protectedDone
  repeat' first | rfl | split | simp
@[simp] theorem protectedDone_boot_off w n s : (protectedDone w n s).boot.off = s.boot.off := by
  unfold protectedDone
  repeat' first | rfl | split | simp
@[simp] theorem protectedDone_boot_downing w n s : (protectedDone w n s).boot.downing = s.boot.downing := by
  unfold protectedDone
  repeat' first | rfl | split | simp
@[simp] theorem protectedDone_boot_nresetLow w n s : (protectedDone w n s).boot.nresetLow = s.boot.nresetLow := by
  unfold protectedDone
  repeat' first | rfl | split | simp
@[simp] theorem protectedDone_boot_transition w n s : (protectedDone w n s).boot.transition = s.boot.transition := by
  unfold protectedDone
  repeat' first | rfl | split | simp
@[simp] theorem protectedDone_boot_haltCause w n s : (protectedDone w n s).boot.haltCause = s.boot.haltCause := by
  unfold protectedDone
  repeat' first | rfl | split | simp
@[simp] theorem protectedDone_boot_since w n s : (protectedDone w n s).boot.since = s.boot.since := by
  unfold protectedDone
  repeat' first | rfl | split | simp
@[simp] theorem protectedDone_boot_control w n s : (protectedDone w n s).boot.control = s.boot.control := by
  unfold protectedDone
  repeat' first | rfl | split | simp
@[simp] theorem protectedDone_boot_initMemory w n s : (protectedDone w n s).boot.initMemory = s.boot.initMemory := by
  unfold protectedDone
  repeat' first | rfl | split | simp
@[simp] theorem protectedDone_boot_subsystem w n s : (protectedDone w n s).boot.subsystem = s.boot.subsystem := by
  unfold protectedDone
  repeat' first | rfl | split | simp
@[simp] theorem protectedDone_pwr_floor w n s : (protectedDone w n s).pwr.floor = s.pwr.floor := by
  unfold protectedDone
  repeat' first | rfl | split | simp
@[simp] theorem protectedDone_pwr_sensed w n s : (protectedDone w n s).pwr.sensed = s.pwr.sensed := by
  unfold protectedDone
  repeat' first | rfl | split | simp
@[simp] theorem protectedDone_pwr_history w n s : (protectedDone w n s).pwr.history = s.pwr.history := by
  unfold protectedDone
  repeat' first | rfl | split | simp
@[simp] theorem protectedDone_pwr_adaptive w n s : (protectedDone w n s).pwr.adaptive = s.pwr.adaptive := by
  unfold protectedDone
  repeat' first | rfl | split | simp
@[simp] theorem protectedDone_pwr_lost w n s : (protectedDone w n s).pwr.lost = s.pwr.lost := by
  unfold protectedDone
  repeat' first | rfl | split | simp
@[simp] theorem protectedDone_pwr_lanes w n s : (protectedDone w n s).pwr.lanes = s.pwr.lanes := by
  unfold protectedDone
  repeat' first | rfl | split | simp
@[simp] theorem protectedDone_pwr_mode w n s : (protectedDone w n s).pwr.mode = s.pwr.mode := by
  unfold protectedDone
  repeat' first | rfl | split | simp
@[simp] theorem protectedDone_pwr_regulator w n s : (protectedDone w n s).pwr.regulator = s.pwr.regulator := by
  unfold protectedDone
  repeat' first | rfl | split | simp
@[simp] theorem protectedDone_pwr_fixed w n s : (protectedDone w n s).pwr.fixed = s.pwr.fixed := by
  unfold protectedDone
  repeat' first | rfl | split | simp
@[simp] theorem protectedDone_pwr_commanded w n s : (protectedDone w n s).pwr.commanded = s.pwr.commanded := by
  unfold protectedDone
  repeat' first | rfl | split | simp
@[simp] theorem protectedDone_pwr_pmbus w n s : (protectedDone w n s).pwr.pmbus = s.pwr.pmbus := by
  unfold protectedDone
  repeat' first | rfl | split | simp
@[simp] theorem protectedDone_pwr_tj w n s : (protectedDone w n s).pwr.tj = s.pwr.tj := by
  unfold protectedDone
  repeat' first | rfl | split | simp
@[simp] theorem protectedDone_pwr_hot w n s : (protectedDone w n s).pwr.hot = s.pwr.hot := by
  unfold protectedDone
  repeat' first | rfl | split | simp
@[simp] theorem protectedDone_pwr_fault w n s : (protectedDone w n s).pwr.fault = s.pwr.fault := by
  unfold protectedDone
  repeat' first | rfl | split | simp
@[simp] theorem protectedDone_pcie_linkUp w n s : (protectedDone w n s).pcie.linkUp = s.pcie.linkUp := by
  unfold protectedDone
  repeat' first | rfl | split | simp
@[simp] theorem protectedDone_pcie_busMaster w n s : (protectedDone w n s).pcie.busMaster = s.pcie.busMaster := by
  unfold protectedDone
  repeat' first | rfl | split | simp
@[simp] theorem protectedDone_pcie_perst w n s : (protectedDone w n s).pcie.perst = s.pcie.perst := by
  unfold protectedDone
  repeat' first | rfl | split | simp
@[simp] theorem protectedDone_pcie_unmasked w n s : (protectedDone w n s).pcie.unmasked = s.pcie.unmasked := by
  unfold protectedDone
  repeat' first | rfl | split | simp
@[simp] theorem protectedDone_pcie_clocking w n s : (protectedDone w n s).pcie.clocking = s.pcie.clocking := by
  unfold protectedDone
  repeat' first | rfl | split | simp
@[simp] theorem protectedDone_pcie_clockingSet w n s : (protectedDone w n s).pcie.clockingSet = s.pcie.clockingSet := by
  unfold protectedDone
  repeat' first | rfl | split | simp
@[simp] theorem protectedDone_evt_carrying w n s : (protectedDone w n s).evt.carrying = s.evt.carrying := by
  unfold protectedDone
  repeat' first | rfl | split | simp
@[simp] theorem reply_time w n b s : (reply w n b s).time = s.time := by
  unfold reply
  repeat' first | rfl | split | simp
@[simp] theorem reply_clk w n b s : (reply w n b s).clk = s.clk := by
  unfold reply
  repeat' first | rfl | split | simp
@[simp] theorem reply_prot w n b s : (reply w n b s).prot = s.prot := by
  unfold reply
  repeat' first | rfl | split | simp
@[simp] theorem reply_inp w n b s : (reply w n b s).inp = s.inp := by
  unfold reply
  repeat' first | rfl | split | simp
@[simp] theorem reply_cal w n b s : (reply w n b s).cal = s.cal := by
  unfold reply
  repeat' first | rfl | split | simp
@[simp] theorem reply_flt w n b s : (reply w n b s).flt = s.flt := by
  unfold reply
  repeat' first | rfl | split | simp
@[simp] theorem reply_trg w n b s : (reply w n b s).trg = s.trg := by
  unfold reply
  repeat' first | rfl | split | simp
@[simp] theorem reply_seg w n b s : (reply w n b s).seg = s.seg := by
  unfold reply
  repeat' first | rfl | split | simp
@[simp] theorem reply_edge w n b s : (reply w n b s).edge = s.edge := by
  unfold reply
  repeat' first | rfl | split | simp
@[simp] theorem reply_mem w n b s : (reply w n b s).mem = s.mem := by
  unfold reply
  repeat' first | rfl | split | simp
@[simp] theorem reply_xfer w n b s : (reply w n b s).xfer = s.xfer := by
  unfold reply
  repeat' first | rfl | split | simp
@[simp] theorem reply_ham w n b s : (reply w n b s).ham = s.ham := by
  unfold reply
  repeat' first | rfl | split | simp
@[simp] theorem reply_dmx w n b s : (reply w n b s).dmx = s.dmx := by
  unfold reply
  repeat' first | rfl | split | simp
@[simp] theorem reply_eng w n b s : (reply w n b s).eng = s.eng := by
  unfold reply
  repeat' first | rfl | split | simp
@[simp] theorem reply_sync w n b s : (reply w n b s).sync = s.sync := by
  unfold reply
  repeat' first | rfl | split | simp
@[simp] theorem reply_jtag w n b s : (reply w n b s).jtag = s.jtag := by
  unfold reply
  repeat' first | rfl | split | simp
@[simp] theorem reply_free w n b s : (reply w n b s).free = s.free := by
  unfold reply
  repeat' first | rfl | split | simp
@[simp] theorem reply_pending w n b s : (reply w n b s).pending = s.pending := by
  unfold reply
  repeat' first | rfl | split | simp
@[simp] theorem reply_boot_st w n b s : (reply w n b s).boot.st = s.boot.st := by
  unfold reply
  repeat' first | rfl | split | simp
@[simp] theorem reply_boot_owedCal w n b s : (reply w n b s).boot.owedCal = s.boot.owedCal := by
  unfold reply
  repeat' first | rfl | split | simp
@[simp] theorem reply_boot_owedMem w n b s : (reply w n b s).boot.owedMem = s.boot.owedMem := by
  unfold reply
  repeat' first | rfl | split | simp
@[simp] theorem reply_boot_memReady w n b s : (reply w n b s).boot.memReady = s.boot.memReady := by
  unfold reply
  repeat' first | rfl | split | simp
@[simp] theorem reply_boot_armedBefore w n b s : (reply w n b s).boot.armedBefore = s.boot.armedBefore := by
  unfold reply
  repeat' first | rfl | split | simp
@[simp] theorem reply_boot_cause w n b s : (reply w n b s).boot.cause = s.boot.cause := by
  unfold reply
  repeat' first | rfl | split | simp
@[simp] theorem reply_boot_queued w n b s : (reply w n b s).boot.queued = s.boot.queued := by
  unfold reply
  repeat' first | rfl | split | simp
@[simp] theorem reply_boot_deepAfter w n b s : (reply w n b s).boot.deepAfter = s.boot.deepAfter := by
  unfold reply
  repeat' first | rfl | split | simp
@[simp] theorem reply_boot_memPreserved w n b s : (reply w n b s).boot.memPreserved = s.boot.memPreserved := by
  unfold reply
  repeat' first | rfl | split | simp
@[simp] theorem reply_boot_cfgDefaulted w n b s : (reply w n b s).boot.cfgDefaulted = s.boot.cfgDefaulted := by
  unfold reply
  repeat' first | rfl | split | simp
@[simp] theorem reply_boot_off w n b s : (reply w n b s).boot.off = s.boot.off := by
  unfold reply
  repeat' first | rfl | split | simp
@[simp] theorem reply_boot_downing w n b s : (reply w n b s).boot.downing = s.boot.downing := by
  unfold reply
  repeat' first | rfl | split | simp
@[simp] theorem reply_boot_nresetLow w n b s : (reply w n b s).boot.nresetLow = s.boot.nresetLow := by
  unfold reply
  repeat' first | rfl | split | simp
@[simp] theorem reply_boot_transition w n b s : (reply w n b s).boot.transition = s.boot.transition := by
  unfold reply
  repeat' first | rfl | split | simp
@[simp] theorem reply_boot_haltCause w n b s : (reply w n b s).boot.haltCause = s.boot.haltCause := by
  unfold reply
  repeat' first | rfl | split | simp
@[simp] theorem reply_boot_since w n b s : (reply w n b s).boot.since = s.boot.since := by
  unfold reply
  repeat' first | rfl | split | simp
@[simp] theorem reply_boot_control w n b s : (reply w n b s).boot.control = s.boot.control := by
  unfold reply
  repeat' first | rfl | split | simp
@[simp] theorem reply_boot_initMemory w n b s : (reply w n b s).boot.initMemory = s.boot.initMemory := by
  unfold reply
  repeat' first | rfl | split | simp
@[simp] theorem reply_boot_subsystem w n b s : (reply w n b s).boot.subsystem = s.boot.subsystem := by
  unfold reply
  repeat' first | rfl | split | simp
@[simp] theorem reply_pwr_floor w n b s : (reply w n b s).pwr.floor = s.pwr.floor := by
  unfold reply
  repeat' first | rfl | split | simp
@[simp] theorem reply_pwr_sensed w n b s : (reply w n b s).pwr.sensed = s.pwr.sensed := by
  unfold reply
  repeat' first | rfl | split | simp
@[simp] theorem reply_pwr_history w n b s : (reply w n b s).pwr.history = s.pwr.history := by
  unfold reply
  repeat' first | rfl | split | simp
@[simp] theorem reply_pwr_adaptive w n b s : (reply w n b s).pwr.adaptive = s.pwr.adaptive := by
  unfold reply
  repeat' first | rfl | split | simp
@[simp] theorem reply_pwr_lost w n b s : (reply w n b s).pwr.lost = s.pwr.lost := by
  unfold reply
  repeat' first | rfl | split | simp
@[simp] theorem reply_pwr_lanes w n b s : (reply w n b s).pwr.lanes = s.pwr.lanes := by
  unfold reply
  repeat' first | rfl | split | simp
@[simp] theorem reply_pwr_mode w n b s : (reply w n b s).pwr.mode = s.pwr.mode := by
  unfold reply
  repeat' first | rfl | split | simp
@[simp] theorem reply_pwr_regulator w n b s : (reply w n b s).pwr.regulator = s.pwr.regulator := by
  unfold reply
  repeat' first | rfl | split | simp
@[simp] theorem reply_pwr_fixed w n b s : (reply w n b s).pwr.fixed = s.pwr.fixed := by
  unfold reply
  repeat' first | rfl | split | simp
@[simp] theorem reply_pwr_commanded w n b s : (reply w n b s).pwr.commanded = s.pwr.commanded := by
  unfold reply
  repeat' first | rfl | split | simp
@[simp] theorem reply_pwr_pmbus w n b s : (reply w n b s).pwr.pmbus = s.pwr.pmbus := by
  unfold reply
  repeat' first | rfl | split | simp
@[simp] theorem reply_pwr_tj w n b s : (reply w n b s).pwr.tj = s.pwr.tj := by
  unfold reply
  repeat' first | rfl | split | simp
@[simp] theorem reply_pwr_hot w n b s : (reply w n b s).pwr.hot = s.pwr.hot := by
  unfold reply
  repeat' first | rfl | split | simp
@[simp] theorem reply_pwr_fault w n b s : (reply w n b s).pwr.fault = s.pwr.fault := by
  unfold reply
  repeat' first | rfl | split | simp
@[simp] theorem reply_pcie_linkUp w n b s : (reply w n b s).pcie.linkUp = s.pcie.linkUp := by
  unfold reply
  repeat' first | rfl | split | simp
@[simp] theorem reply_pcie_busMaster w n b s : (reply w n b s).pcie.busMaster = s.pcie.busMaster := by
  unfold reply
  repeat' first | rfl | split | simp
@[simp] theorem reply_pcie_perst w n b s : (reply w n b s).pcie.perst = s.pcie.perst := by
  unfold reply
  repeat' first | rfl | split | simp
@[simp] theorem reply_pcie_unmasked w n b s : (reply w n b s).pcie.unmasked = s.pcie.unmasked := by
  unfold reply
  repeat' first | rfl | split | simp
@[simp] theorem reply_pcie_clocking w n b s : (reply w n b s).pcie.clocking = s.pcie.clocking := by
  unfold reply
  repeat' first | rfl | split | simp
@[simp] theorem reply_pcie_clockingSet w n b s : (reply w n b s).pcie.clockingSet = s.pcie.clockingSet := by
  unfold reply
  repeat' first | rfl | split | simp
@[simp] theorem reply_aux_running w n b s : (reply w n b s).aux.running = s.aux.running := by
  unfold reply
  repeat' first | rfl | split | simp
@[simp] theorem reply_aux_inject w n b s : (reply w n b s).aux.inject = s.aux.inject := by
  unfold reply
  repeat' first | rfl | split | simp
@[simp] theorem reply_aux_holdWaits w n b s : (reply w n b s).aux.holdWaits = s.aux.holdWaits := by
  unfold reply
  repeat' first | rfl | split | simp
@[simp] theorem reply_aux_seq w n b s : (reply w n b s).aux.seq = s.aux.seq := by
  unfold reply
  repeat' first | rfl | split | simp
@[simp] theorem reply_aux_seqNew w n b s : (reply w n b s).aux.seqNew = s.aux.seqNew := by
  unfold reply
  repeat' first | rfl | split | simp
@[simp] theorem reply_aux_code w n b s : (reply w n b s).aux.code = s.aux.code := by
  unfold reply
  repeat' first | rfl | split | simp
@[simp] theorem reply_aux_source w n b s : (reply w n b s).aux.source = s.aux.source := by
  unfold reply
  repeat' first | rfl | split | simp
@[simp] theorem reply_aux_valid w n b s : (reply w n b s).aux.valid = s.aux.valid := by
  unfold reply
  repeat' first | rfl | split | simp
@[simp] theorem reply_aux_overrun w n b s : (reply w n b s).aux.overrun = s.aux.overrun := by
  unfold reply
  repeat' first | rfl | split | simp
@[simp] theorem reply_aux_monitors w n b s : (reply w n b s).aux.monitors = s.aux.monitors := by
  unfold reply
  repeat' first | rfl | split | simp
@[simp] theorem reply_evt_carrying w n b s : (reply w n b s).evt.carrying = s.evt.carrying := by
  unfold reply
  repeat' first | rfl | split | simp
@[simp] theorem replyOpt_time w n b s : (replyOpt w n b s).time = s.time := by
  unfold replyOpt
  repeat' first | rfl | split | simp
@[simp] theorem replyOpt_clk w n b s : (replyOpt w n b s).clk = s.clk := by
  unfold replyOpt
  repeat' first | rfl | split | simp
@[simp] theorem replyOpt_prot w n b s : (replyOpt w n b s).prot = s.prot := by
  unfold replyOpt
  repeat' first | rfl | split | simp
@[simp] theorem replyOpt_inp w n b s : (replyOpt w n b s).inp = s.inp := by
  unfold replyOpt
  repeat' first | rfl | split | simp
@[simp] theorem replyOpt_cal w n b s : (replyOpt w n b s).cal = s.cal := by
  unfold replyOpt
  repeat' first | rfl | split | simp
@[simp] theorem replyOpt_flt w n b s : (replyOpt w n b s).flt = s.flt := by
  unfold replyOpt
  repeat' first | rfl | split | simp
@[simp] theorem replyOpt_trg w n b s : (replyOpt w n b s).trg = s.trg := by
  unfold replyOpt
  repeat' first | rfl | split | simp
@[simp] theorem replyOpt_seg w n b s : (replyOpt w n b s).seg = s.seg := by
  unfold replyOpt
  repeat' first | rfl | split | simp
@[simp] theorem replyOpt_edge w n b s : (replyOpt w n b s).edge = s.edge := by
  unfold replyOpt
  repeat' first | rfl | split | simp
@[simp] theorem replyOpt_mem w n b s : (replyOpt w n b s).mem = s.mem := by
  unfold replyOpt
  repeat' first | rfl | split | simp
@[simp] theorem replyOpt_xfer w n b s : (replyOpt w n b s).xfer = s.xfer := by
  unfold replyOpt
  repeat' first | rfl | split | simp
@[simp] theorem replyOpt_ham w n b s : (replyOpt w n b s).ham = s.ham := by
  unfold replyOpt
  repeat' first | rfl | split | simp
@[simp] theorem replyOpt_dmx w n b s : (replyOpt w n b s).dmx = s.dmx := by
  unfold replyOpt
  repeat' first | rfl | split | simp
@[simp] theorem replyOpt_eng w n b s : (replyOpt w n b s).eng = s.eng := by
  unfold replyOpt
  repeat' first | rfl | split | simp
@[simp] theorem replyOpt_sync w n b s : (replyOpt w n b s).sync = s.sync := by
  unfold replyOpt
  repeat' first | rfl | split | simp
@[simp] theorem replyOpt_jtag w n b s : (replyOpt w n b s).jtag = s.jtag := by
  unfold replyOpt
  repeat' first | rfl | split | simp
@[simp] theorem replyOpt_free w n b s : (replyOpt w n b s).free = s.free := by
  unfold replyOpt
  repeat' first | rfl | split | simp
@[simp] theorem replyOpt_pending w n b s : (replyOpt w n b s).pending = s.pending := by
  unfold replyOpt
  repeat' first | rfl | split | simp
@[simp] theorem replyPeer_time w n s : (replyPeer w n s).time = s.time := rfl
@[simp] theorem replyPeer_clk w n s : (replyPeer w n s).clk = s.clk := rfl
@[simp] theorem replyPeer_boot w n s : (replyPeer w n s).boot = s.boot := rfl
@[simp] theorem replyPeer_pwr w n s : (replyPeer w n s).pwr = s.pwr := rfl
@[simp] theorem replyPeer_pcie w n s : (replyPeer w n s).pcie = s.pcie := rfl
@[simp] theorem replyPeer_sess w n s : (replyPeer w n s).sess = s.sess := rfl
@[simp] theorem replyPeer_evt w n s : (replyPeer w n s).evt = s.evt := rfl
@[simp] theorem replyPeer_prot w n s : (replyPeer w n s).prot = s.prot := rfl
@[simp] theorem replyPeer_inp w n s : (replyPeer w n s).inp = s.inp := rfl
@[simp] theorem replyPeer_cal w n s : (replyPeer w n s).cal = s.cal := rfl
@[simp] theorem replyPeer_flt w n s : (replyPeer w n s).flt = s.flt := rfl
@[simp] theorem replyPeer_trg w n s : (replyPeer w n s).trg = s.trg := rfl
@[simp] theorem replyPeer_seg w n s : (replyPeer w n s).seg = s.seg := rfl
@[simp] theorem replyPeer_edge w n s : (replyPeer w n s).edge = s.edge := rfl
@[simp] theorem replyPeer_aux w n s : (replyPeer w n s).aux = s.aux := rfl
@[simp] theorem replyPeer_mem w n s : (replyPeer w n s).mem = s.mem := rfl
@[simp] theorem replyPeer_xfer w n s : (replyPeer w n s).xfer = s.xfer := rfl
@[simp] theorem replyPeer_ham w n s : (replyPeer w n s).ham = s.ham := rfl
@[simp] theorem replyPeer_dmx w n s : (replyPeer w n s).dmx = s.dmx := rfl
@[simp] theorem replyPeer_eng w n s : (replyPeer w n s).eng = s.eng := rfl
@[simp] theorem replyPeer_sync w n s : (replyPeer w n s).sync = s.sync := rfl
@[simp] theorem replyPeer_jtag w n s : (replyPeer w n s).jtag = s.jtag := rfl
@[simp] theorem replyPeer_free w n s : (replyPeer w n s).free = s.free := rfl
@[simp] theorem replyPeer_pending w n s : (replyPeer w n s).pending = s.pending := rfl
@[simp] theorem takeRequest_time n q s : (takeRequest n q s).time = s.time := rfl
@[simp] theorem takeRequest_clk n q s : (takeRequest n q s).clk = s.clk := rfl
@[simp] theorem takeRequest_boot n q s : (takeRequest n q s).boot = s.boot := rfl
@[simp] theorem takeRequest_pwr n q s : (takeRequest n q s).pwr = s.pwr := rfl
@[simp] theorem takeRequest_pcie n q s : (takeRequest n q s).pcie = s.pcie := rfl
@[simp] theorem takeRequest_evt n q s : (takeRequest n q s).evt = s.evt := rfl
@[simp] theorem takeRequest_prot n q s : (takeRequest n q s).prot = s.prot := rfl
@[simp] theorem takeRequest_inp n q s : (takeRequest n q s).inp = s.inp := rfl
@[simp] theorem takeRequest_cal n q s : (takeRequest n q s).cal = s.cal := rfl
@[simp] theorem takeRequest_flt n q s : (takeRequest n q s).flt = s.flt := rfl
@[simp] theorem takeRequest_trg n q s : (takeRequest n q s).trg = s.trg := rfl
@[simp] theorem takeRequest_seg n q s : (takeRequest n q s).seg = s.seg := rfl
@[simp] theorem takeRequest_edge n q s : (takeRequest n q s).edge = s.edge := rfl
@[simp] theorem takeRequest_aux n q s : (takeRequest n q s).aux = s.aux := rfl
@[simp] theorem takeRequest_mem n q s : (takeRequest n q s).mem = s.mem := rfl
@[simp] theorem takeRequest_xfer n q s : (takeRequest n q s).xfer = s.xfer := rfl
@[simp] theorem takeRequest_ham n q s : (takeRequest n q s).ham = s.ham := rfl
@[simp] theorem takeRequest_dmx n q s : (takeRequest n q s).dmx = s.dmx := rfl
@[simp] theorem takeRequest_eng n q s : (takeRequest n q s).eng = s.eng := rfl
@[simp] theorem takeRequest_sync n q s : (takeRequest n q s).sync = s.sync := rfl
@[simp] theorem takeRequest_jtag n q s : (takeRequest n q s).jtag = s.jtag := rfl
@[simp] theorem takeRequest_sent n q s : (takeRequest n q s).sent = s.sent := rfl
@[simp] theorem takeRequest_free n q s : (takeRequest n q s).free = s.free := rfl
@[simp] theorem takeRequest_pending n q s : (takeRequest n q s).pending = s.pending := rfl
@[simp] theorem holdRequest_time n q s : (holdRequest n q s).time = s.time := rfl
@[simp] theorem holdRequest_clk n q s : (holdRequest n q s).clk = s.clk := rfl
@[simp] theorem holdRequest_boot n q s : (holdRequest n q s).boot = s.boot := rfl
@[simp] theorem holdRequest_pwr n q s : (holdRequest n q s).pwr = s.pwr := rfl
@[simp] theorem holdRequest_pcie n q s : (holdRequest n q s).pcie = s.pcie := rfl
@[simp] theorem holdRequest_evt n q s : (holdRequest n q s).evt = s.evt := rfl
@[simp] theorem holdRequest_prot n q s : (holdRequest n q s).prot = s.prot := rfl
@[simp] theorem holdRequest_inp n q s : (holdRequest n q s).inp = s.inp := rfl
@[simp] theorem holdRequest_cal n q s : (holdRequest n q s).cal = s.cal := rfl
@[simp] theorem holdRequest_flt n q s : (holdRequest n q s).flt = s.flt := rfl
@[simp] theorem holdRequest_trg n q s : (holdRequest n q s).trg = s.trg := rfl
@[simp] theorem holdRequest_seg n q s : (holdRequest n q s).seg = s.seg := rfl
@[simp] theorem holdRequest_edge n q s : (holdRequest n q s).edge = s.edge := rfl
@[simp] theorem holdRequest_aux n q s : (holdRequest n q s).aux = s.aux := rfl
@[simp] theorem holdRequest_mem n q s : (holdRequest n q s).mem = s.mem := rfl
@[simp] theorem holdRequest_xfer n q s : (holdRequest n q s).xfer = s.xfer := rfl
@[simp] theorem holdRequest_ham n q s : (holdRequest n q s).ham = s.ham := rfl
@[simp] theorem holdRequest_dmx n q s : (holdRequest n q s).dmx = s.dmx := rfl
@[simp] theorem holdRequest_eng n q s : (holdRequest n q s).eng = s.eng := rfl
@[simp] theorem holdRequest_sync n q s : (holdRequest n q s).sync = s.sync := rfl
@[simp] theorem holdRequest_jtag n q s : (holdRequest n q s).jtag = s.jtag := rfl
@[simp] theorem holdRequest_sent n q s : (holdRequest n q s).sent = s.sent := rfl
@[simp] theorem holdRequest_free n q s : (holdRequest n q s).free = s.free := rfl
@[simp] theorem holdRequest_pending n q s : (holdRequest n q s).pending = s.pending := rfl
@[simp] theorem resendReply_time n s : (resendReply n s).time = s.time := rfl
@[simp] theorem resendReply_clk n s : (resendReply n s).clk = s.clk := rfl
@[simp] theorem resendReply_boot n s : (resendReply n s).boot = s.boot := rfl
@[simp] theorem resendReply_pwr n s : (resendReply n s).pwr = s.pwr := rfl
@[simp] theorem resendReply_pcie n s : (resendReply n s).pcie = s.pcie := rfl
@[simp] theorem resendReply_sess n s : (resendReply n s).sess = s.sess := rfl
@[simp] theorem resendReply_evt n s : (resendReply n s).evt = s.evt := rfl
@[simp] theorem resendReply_prot n s : (resendReply n s).prot = s.prot := rfl
@[simp] theorem resendReply_inp n s : (resendReply n s).inp = s.inp := rfl
@[simp] theorem resendReply_cal n s : (resendReply n s).cal = s.cal := rfl
@[simp] theorem resendReply_flt n s : (resendReply n s).flt = s.flt := rfl
@[simp] theorem resendReply_trg n s : (resendReply n s).trg = s.trg := rfl
@[simp] theorem resendReply_seg n s : (resendReply n s).seg = s.seg := rfl
@[simp] theorem resendReply_edge n s : (resendReply n s).edge = s.edge := rfl
@[simp] theorem resendReply_aux n s : (resendReply n s).aux = s.aux := rfl
@[simp] theorem resendReply_mem n s : (resendReply n s).mem = s.mem := rfl
@[simp] theorem resendReply_xfer n s : (resendReply n s).xfer = s.xfer := rfl
@[simp] theorem resendReply_ham n s : (resendReply n s).ham = s.ham := rfl
@[simp] theorem resendReply_dmx n s : (resendReply n s).dmx = s.dmx := rfl
@[simp] theorem resendReply_eng n s : (resendReply n s).eng = s.eng := rfl
@[simp] theorem resendReply_sync n s : (resendReply n s).sync = s.sync := rfl
@[simp] theorem resendReply_jtag n s : (resendReply n s).jtag = s.jtag := rfl
@[simp] theorem resendReply_free n s : (resendReply n s).free = s.free := rfl
@[simp] theorem resendReply_pending n s : (resendReply n s).pending = s.pending := rfl
@[simp] theorem rejectRequest_time w n b q s : (rejectRequest w n b q s).time = s.time := by
  unfold rejectRequest
  repeat' first | rfl | split | simp
@[simp] theorem rejectRequest_clk w n b q s : (rejectRequest w n b q s).clk = s.clk := by
  unfold rejectRequest
  repeat' first | rfl | split | simp
@[simp] theorem rejectRequest_prot w n b q s : (rejectRequest w n b q s).prot = s.prot := by
  unfold rejectRequest
  repeat' first | rfl | split | simp
@[simp] theorem rejectRequest_inp w n b q s : (rejectRequest w n b q s).inp = s.inp := by
  unfold rejectRequest
  repeat' first | rfl | split | simp
@[simp] theorem rejectRequest_cal w n b q s : (rejectRequest w n b q s).cal = s.cal := by
  unfold rejectRequest
  repeat' first | rfl | split | simp
@[simp] theorem rejectRequest_flt w n b q s : (rejectRequest w n b q s).flt = s.flt := by
  unfold rejectRequest
  repeat' first | rfl | split | simp
@[simp] theorem rejectRequest_trg w n b q s : (rejectRequest w n b q s).trg = s.trg := by
  unfold rejectRequest
  repeat' first | rfl | split | simp
@[simp] theorem rejectRequest_seg w n b q s : (rejectRequest w n b q s).seg = s.seg := by
  unfold rejectRequest
  repeat' first | rfl | split | simp
@[simp] theorem rejectRequest_edge w n b q s : (rejectRequest w n b q s).edge = s.edge := by
  unfold rejectRequest
  repeat' first | rfl | split | simp
@[simp] theorem rejectRequest_mem w n b q s : (rejectRequest w n b q s).mem = s.mem := by
  unfold rejectRequest
  repeat' first | rfl | split | simp
@[simp] theorem rejectRequest_xfer w n b q s : (rejectRequest w n b q s).xfer = s.xfer := by
  unfold rejectRequest
  repeat' first | rfl | split | simp
@[simp] theorem rejectRequest_ham w n b q s : (rejectRequest w n b q s).ham = s.ham := by
  unfold rejectRequest
  repeat' first | rfl | split | simp
@[simp] theorem rejectRequest_dmx w n b q s : (rejectRequest w n b q s).dmx = s.dmx := by
  unfold rejectRequest
  repeat' first | rfl | split | simp
@[simp] theorem rejectRequest_eng w n b q s : (rejectRequest w n b q s).eng = s.eng := by
  unfold rejectRequest
  repeat' first | rfl | split | simp
@[simp] theorem rejectRequest_sync w n b q s : (rejectRequest w n b q s).sync = s.sync := by
  unfold rejectRequest
  repeat' first | rfl | split | simp
@[simp] theorem rejectRequest_jtag w n b q s : (rejectRequest w n b q s).jtag = s.jtag := by
  unfold rejectRequest
  repeat' first | rfl | split | simp
@[simp] theorem rejectRequest_free w n b q s : (rejectRequest w n b q s).free = s.free := by
  unfold rejectRequest
  repeat' first | rfl | split | simp
@[simp] theorem rejectRequest_pending w n b q s : (rejectRequest w n b q s).pending = s.pending := by
  unfold rejectRequest
  repeat' first | rfl | split | simp
@[simp] theorem updInput_time n f s : (updInput n f s).time = s.time := rfl
@[simp] theorem updInput_clk n f s : (updInput n f s).clk = s.clk := rfl
@[simp] theorem updInput_boot n f s : (updInput n f s).boot = s.boot := rfl
@[simp] theorem updInput_pwr n f s : (updInput n f s).pwr = s.pwr := rfl
@[simp] theorem updInput_pcie n f s : (updInput n f s).pcie = s.pcie := rfl
@[simp] theorem updInput_sess n f s : (updInput n f s).sess = s.sess := rfl
@[simp] theorem updInput_evt n f s : (updInput n f s).evt = s.evt := rfl
@[simp] theorem updInput_prot n f s : (updInput n f s).prot = s.prot := rfl
@[simp] theorem updInput_cal n f s : (updInput n f s).cal = s.cal := rfl
@[simp] theorem updInput_flt n f s : (updInput n f s).flt = s.flt := rfl
@[simp] theorem updInput_trg n f s : (updInput n f s).trg = s.trg := rfl
@[simp] theorem updInput_seg n f s : (updInput n f s).seg = s.seg := rfl
@[simp] theorem updInput_edge n f s : (updInput n f s).edge = s.edge := rfl
@[simp] theorem updInput_aux n f s : (updInput n f s).aux = s.aux := rfl
@[simp] theorem updInput_mem n f s : (updInput n f s).mem = s.mem := rfl
@[simp] theorem updInput_xfer n f s : (updInput n f s).xfer = s.xfer := rfl
@[simp] theorem updInput_ham n f s : (updInput n f s).ham = s.ham := rfl
@[simp] theorem updInput_dmx n f s : (updInput n f s).dmx = s.dmx := rfl
@[simp] theorem updInput_eng n f s : (updInput n f s).eng = s.eng := rfl
@[simp] theorem updInput_sync n f s : (updInput n f s).sync = s.sync := rfl
@[simp] theorem updInput_jtag n f s : (updInput n f s).jtag = s.jtag := rfl
@[simp] theorem updInput_sent n f s : (updInput n f s).sent = s.sent := rfl
@[simp] theorem updInput_free n f s : (updInput n f s).free = s.free := rfl
@[simp] theorem updInput_pending n f s : (updInput n f s).pending = s.pending := rfl
@[simp] theorem updCore_time n f s : (updCore n f s).time = s.time := rfl
@[simp] theorem updCore_clk n f s : (updCore n f s).clk = s.clk := rfl
@[simp] theorem updCore_boot n f s : (updCore n f s).boot = s.boot := rfl
@[simp] theorem updCore_pwr n f s : (updCore n f s).pwr = s.pwr := rfl
@[simp] theorem updCore_pcie n f s : (updCore n f s).pcie = s.pcie := rfl
@[simp] theorem updCore_sess n f s : (updCore n f s).sess = s.sess := rfl
@[simp] theorem updCore_evt n f s : (updCore n f s).evt = s.evt := rfl
@[simp] theorem updCore_prot n f s : (updCore n f s).prot = s.prot := rfl
@[simp] theorem updCore_cal n f s : (updCore n f s).cal = s.cal := rfl
@[simp] theorem updCore_flt n f s : (updCore n f s).flt = s.flt := rfl
@[simp] theorem updCore_trg n f s : (updCore n f s).trg = s.trg := rfl
@[simp] theorem updCore_seg n f s : (updCore n f s).seg = s.seg := rfl
@[simp] theorem updCore_edge n f s : (updCore n f s).edge = s.edge := rfl
@[simp] theorem updCore_aux n f s : (updCore n f s).aux = s.aux := rfl
@[simp] theorem updCore_mem n f s : (updCore n f s).mem = s.mem := rfl
@[simp] theorem updCore_xfer n f s : (updCore n f s).xfer = s.xfer := rfl
@[simp] theorem updCore_ham n f s : (updCore n f s).ham = s.ham := rfl
@[simp] theorem updCore_dmx n f s : (updCore n f s).dmx = s.dmx := rfl
@[simp] theorem updCore_eng n f s : (updCore n f s).eng = s.eng := rfl
@[simp] theorem updCore_sync n f s : (updCore n f s).sync = s.sync := rfl
@[simp] theorem updCore_jtag n f s : (updCore n f s).jtag = s.jtag := rfl
@[simp] theorem updCore_sent n f s : (updCore n f s).sent = s.sent := rfl
@[simp] theorem updCore_free n f s : (updCore n f s).free = s.free := rfl
@[simp] theorem updCore_pending n f s : (updCore n f s).pending = s.pending := rfl
@[simp] theorem updInCal_time n f s : (updInCal n f s).time = s.time := rfl
@[simp] theorem updInCal_clk n f s : (updInCal n f s).clk = s.clk := rfl
@[simp] theorem updInCal_boot n f s : (updInCal n f s).boot = s.boot := rfl
@[simp] theorem updInCal_pwr n f s : (updInCal n f s).pwr = s.pwr := rfl
@[simp] theorem updInCal_pcie n f s : (updInCal n f s).pcie = s.pcie := rfl
@[simp] theorem updInCal_sess n f s : (updInCal n f s).sess = s.sess := rfl
@[simp] theorem updInCal_evt n f s : (updInCal n f s).evt = s.evt := rfl
@[simp] theorem updInCal_prot n f s : (updInCal n f s).prot = s.prot := rfl
@[simp] theorem updInCal_inp n f s : (updInCal n f s).inp = s.inp := rfl
@[simp] theorem updInCal_flt n f s : (updInCal n f s).flt = s.flt := rfl
@[simp] theorem updInCal_trg n f s : (updInCal n f s).trg = s.trg := rfl
@[simp] theorem updInCal_seg n f s : (updInCal n f s).seg = s.seg := rfl
@[simp] theorem updInCal_edge n f s : (updInCal n f s).edge = s.edge := rfl
@[simp] theorem updInCal_aux n f s : (updInCal n f s).aux = s.aux := rfl
@[simp] theorem updInCal_mem n f s : (updInCal n f s).mem = s.mem := rfl
@[simp] theorem updInCal_xfer n f s : (updInCal n f s).xfer = s.xfer := rfl
@[simp] theorem updInCal_ham n f s : (updInCal n f s).ham = s.ham := rfl
@[simp] theorem updInCal_dmx n f s : (updInCal n f s).dmx = s.dmx := rfl
@[simp] theorem updInCal_eng n f s : (updInCal n f s).eng = s.eng := rfl
@[simp] theorem updInCal_sync n f s : (updInCal n f s).sync = s.sync := rfl
@[simp] theorem updInCal_jtag n f s : (updInCal n f s).jtag = s.jtag := rfl
@[simp] theorem updInCal_sent n f s : (updInCal n f s).sent = s.sent := rfl
@[simp] theorem updInCal_free n f s : (updInCal n f s).free = s.free := rfl
@[simp] theorem updInCal_pending n f s : (updInCal n f s).pending = s.pending := rfl
@[simp] theorem updFin_time n f s : (updFin n f s).time = s.time := rfl
@[simp] theorem updFin_clk n f s : (updFin n f s).clk = s.clk := rfl
@[simp] theorem updFin_boot n f s : (updFin n f s).boot = s.boot := rfl
@[simp] theorem updFin_pwr n f s : (updFin n f s).pwr = s.pwr := rfl
@[simp] theorem updFin_pcie n f s : (updFin n f s).pcie = s.pcie := rfl
@[simp] theorem updFin_sess n f s : (updFin n f s).sess = s.sess := rfl
@[simp] theorem updFin_evt n f s : (updFin n f s).evt = s.evt := rfl
@[simp] theorem updFin_prot n f s : (updFin n f s).prot = s.prot := rfl
@[simp] theorem updFin_inp n f s : (updFin n f s).inp = s.inp := rfl
@[simp] theorem updFin_cal n f s : (updFin n f s).cal = s.cal := rfl
@[simp] theorem updFin_trg n f s : (updFin n f s).trg = s.trg := rfl
@[simp] theorem updFin_seg n f s : (updFin n f s).seg = s.seg := rfl
@[simp] theorem updFin_edge n f s : (updFin n f s).edge = s.edge := rfl
@[simp] theorem updFin_aux n f s : (updFin n f s).aux = s.aux := rfl
@[simp] theorem updFin_mem n f s : (updFin n f s).mem = s.mem := rfl
@[simp] theorem updFin_xfer n f s : (updFin n f s).xfer = s.xfer := rfl
@[simp] theorem updFin_ham n f s : (updFin n f s).ham = s.ham := rfl
@[simp] theorem updFin_dmx n f s : (updFin n f s).dmx = s.dmx := rfl
@[simp] theorem updFin_eng n f s : (updFin n f s).eng = s.eng := rfl
@[simp] theorem updFin_sync n f s : (updFin n f s).sync = s.sync := rfl
@[simp] theorem updFin_jtag n f s : (updFin n f s).jtag = s.jtag := rfl
@[simp] theorem updFin_sent n f s : (updFin n f s).sent = s.sent := rfl
@[simp] theorem updFin_free n f s : (updFin n f s).free = s.free := rfl
@[simp] theorem updFin_pending n f s : (updFin n f s).pending = s.pending := rfl
@[simp] theorem updTg_time n f s : (updTg n f s).time = s.time := rfl
@[simp] theorem updTg_clk n f s : (updTg n f s).clk = s.clk := rfl
@[simp] theorem updTg_boot n f s : (updTg n f s).boot = s.boot := rfl
@[simp] theorem updTg_pwr n f s : (updTg n f s).pwr = s.pwr := rfl
@[simp] theorem updTg_pcie n f s : (updTg n f s).pcie = s.pcie := rfl
@[simp] theorem updTg_sess n f s : (updTg n f s).sess = s.sess := rfl
@[simp] theorem updTg_evt n f s : (updTg n f s).evt = s.evt := rfl
@[simp] theorem updTg_prot n f s : (updTg n f s).prot = s.prot := rfl
@[simp] theorem updTg_inp n f s : (updTg n f s).inp = s.inp := rfl
@[simp] theorem updTg_cal n f s : (updTg n f s).cal = s.cal := rfl
@[simp] theorem updTg_flt n f s : (updTg n f s).flt = s.flt := rfl
@[simp] theorem updTg_seg n f s : (updTg n f s).seg = s.seg := rfl
@[simp] theorem updTg_edge n f s : (updTg n f s).edge = s.edge := rfl
@[simp] theorem updTg_aux n f s : (updTg n f s).aux = s.aux := rfl
@[simp] theorem updTg_mem n f s : (updTg n f s).mem = s.mem := rfl
@[simp] theorem updTg_xfer n f s : (updTg n f s).xfer = s.xfer := rfl
@[simp] theorem updTg_ham n f s : (updTg n f s).ham = s.ham := rfl
@[simp] theorem updTg_dmx n f s : (updTg n f s).dmx = s.dmx := rfl
@[simp] theorem updTg_eng n f s : (updTg n f s).eng = s.eng := rfl
@[simp] theorem updTg_sync n f s : (updTg n f s).sync = s.sync := rfl
@[simp] theorem updTg_jtag n f s : (updTg n f s).jtag = s.jtag := rfl
@[simp] theorem updTg_sent n f s : (updTg n f s).sent = s.sent := rfl
@[simp] theorem updTg_free n f s : (updTg n f s).free = s.free := rfl
@[simp] theorem updTg_pending n f s : (updTg n f s).pending = s.pending := rfl
@[simp] theorem updSg_time n f s : (updSg n f s).time = s.time := rfl
@[simp] theorem updSg_clk n f s : (updSg n f s).clk = s.clk := rfl
@[simp] theorem updSg_boot n f s : (updSg n f s).boot = s.boot := rfl
@[simp] theorem updSg_pwr n f s : (updSg n f s).pwr = s.pwr := rfl
@[simp] theorem updSg_pcie n f s : (updSg n f s).pcie = s.pcie := rfl
@[simp] theorem updSg_sess n f s : (updSg n f s).sess = s.sess := rfl
@[simp] theorem updSg_evt n f s : (updSg n f s).evt = s.evt := rfl
@[simp] theorem updSg_prot n f s : (updSg n f s).prot = s.prot := rfl
@[simp] theorem updSg_inp n f s : (updSg n f s).inp = s.inp := rfl
@[simp] theorem updSg_cal n f s : (updSg n f s).cal = s.cal := rfl
@[simp] theorem updSg_flt n f s : (updSg n f s).flt = s.flt := rfl
@[simp] theorem updSg_trg n f s : (updSg n f s).trg = s.trg := rfl
@[simp] theorem updSg_edge n f s : (updSg n f s).edge = s.edge := rfl
@[simp] theorem updSg_aux n f s : (updSg n f s).aux = s.aux := rfl
@[simp] theorem updSg_mem n f s : (updSg n f s).mem = s.mem := rfl
@[simp] theorem updSg_xfer n f s : (updSg n f s).xfer = s.xfer := rfl
@[simp] theorem updSg_ham n f s : (updSg n f s).ham = s.ham := rfl
@[simp] theorem updSg_dmx n f s : (updSg n f s).dmx = s.dmx := rfl
@[simp] theorem updSg_eng n f s : (updSg n f s).eng = s.eng := rfl
@[simp] theorem updSg_sync n f s : (updSg n f s).sync = s.sync := rfl
@[simp] theorem updSg_jtag n f s : (updSg n f s).jtag = s.jtag := rfl
@[simp] theorem updSg_sent n f s : (updSg n f s).sent = s.sent := rfl
@[simp] theorem updSg_free n f s : (updSg n f s).free = s.free := rfl
@[simp] theorem updSg_pending n f s : (updSg n f s).pending = s.pending := rfl
@[simp] theorem updSlot_time n f s : (updSlot n f s).time = s.time := rfl
@[simp] theorem updSlot_clk n f s : (updSlot n f s).clk = s.clk := rfl
@[simp] theorem updSlot_boot n f s : (updSlot n f s).boot = s.boot := rfl
@[simp] theorem updSlot_pwr n f s : (updSlot n f s).pwr = s.pwr := rfl
@[simp] theorem updSlot_pcie n f s : (updSlot n f s).pcie = s.pcie := rfl
@[simp] theorem updSlot_sess n f s : (updSlot n f s).sess = s.sess := rfl
@[simp] theorem updSlot_evt n f s : (updSlot n f s).evt = s.evt := rfl
@[simp] theorem updSlot_prot n f s : (updSlot n f s).prot = s.prot := rfl
@[simp] theorem updSlot_inp n f s : (updSlot n f s).inp = s.inp := rfl
@[simp] theorem updSlot_cal n f s : (updSlot n f s).cal = s.cal := rfl
@[simp] theorem updSlot_flt n f s : (updSlot n f s).flt = s.flt := rfl
@[simp] theorem updSlot_seg n f s : (updSlot n f s).seg = s.seg := rfl
@[simp] theorem updSlot_edge n f s : (updSlot n f s).edge = s.edge := rfl
@[simp] theorem updSlot_aux n f s : (updSlot n f s).aux = s.aux := rfl
@[simp] theorem updSlot_mem n f s : (updSlot n f s).mem = s.mem := rfl
@[simp] theorem updSlot_xfer n f s : (updSlot n f s).xfer = s.xfer := rfl
@[simp] theorem updSlot_ham n f s : (updSlot n f s).ham = s.ham := rfl
@[simp] theorem updSlot_dmx n f s : (updSlot n f s).dmx = s.dmx := rfl
@[simp] theorem updSlot_eng n f s : (updSlot n f s).eng = s.eng := rfl
@[simp] theorem updSlot_sync n f s : (updSlot n f s).sync = s.sync := rfl
@[simp] theorem updSlot_jtag n f s : (updSlot n f s).jtag = s.jtag := rfl
@[simp] theorem updSlot_sent n f s : (updSlot n f s).sent = s.sent := rfl
@[simp] theorem updSlot_free n f s : (updSlot n f s).free = s.free := rfl
@[simp] theorem updSlot_pending n f s : (updSlot n f s).pending = s.pending := rfl
@[simp] theorem updComparator_time n m f s : (updComparator n m f s).time = s.time := rfl
@[simp] theorem updComparator_clk n m f s : (updComparator n m f s).clk = s.clk := rfl
@[simp] theorem updComparator_boot n m f s : (updComparator n m f s).boot = s.boot := rfl
@[simp] theorem updComparator_pwr n m f s : (updComparator n m f s).pwr = s.pwr := rfl
@[simp] theorem updComparator_pcie n m f s : (updComparator n m f s).pcie = s.pcie := rfl
@[simp] theorem updComparator_sess n m f s : (updComparator n m f s).sess = s.sess := rfl
@[simp] theorem updComparator_evt n m f s : (updComparator n m f s).evt = s.evt := rfl
@[simp] theorem updComparator_prot n m f s : (updComparator n m f s).prot = s.prot := rfl
@[simp] theorem updComparator_inp n m f s : (updComparator n m f s).inp = s.inp := rfl
@[simp] theorem updComparator_cal n m f s : (updComparator n m f s).cal = s.cal := rfl
@[simp] theorem updComparator_flt n m f s : (updComparator n m f s).flt = s.flt := rfl
@[simp] theorem updComparator_seg n m f s : (updComparator n m f s).seg = s.seg := rfl
@[simp] theorem updComparator_edge n m f s : (updComparator n m f s).edge = s.edge := rfl
@[simp] theorem updComparator_aux n m f s : (updComparator n m f s).aux = s.aux := rfl
@[simp] theorem updComparator_mem n m f s : (updComparator n m f s).mem = s.mem := rfl
@[simp] theorem updComparator_xfer n m f s : (updComparator n m f s).xfer = s.xfer := rfl
@[simp] theorem updComparator_ham n m f s : (updComparator n m f s).ham = s.ham := rfl
@[simp] theorem updComparator_dmx n m f s : (updComparator n m f s).dmx = s.dmx := rfl
@[simp] theorem updComparator_eng n m f s : (updComparator n m f s).eng = s.eng := rfl
@[simp] theorem updComparator_sync n m f s : (updComparator n m f s).sync = s.sync := rfl
@[simp] theorem updComparator_jtag n m f s : (updComparator n m f s).jtag = s.jtag := rfl
@[simp] theorem updComparator_sent n m f s : (updComparator n m f s).sent = s.sent := rfl
@[simp] theorem updComparator_free n m f s : (updComparator n m f s).free = s.free := rfl
@[simp] theorem updComparator_pending n m f s : (updComparator n m f s).pending = s.pending := rfl
@[simp] theorem updLoop_time n f s : (updLoop n f s).time = s.time := rfl
@[simp] theorem updLoop_boot n f s : (updLoop n f s).boot = s.boot := rfl
@[simp] theorem updLoop_pwr n f s : (updLoop n f s).pwr = s.pwr := rfl
@[simp] theorem updLoop_pcie n f s : (updLoop n f s).pcie = s.pcie := rfl
@[simp] theorem updLoop_sess n f s : (updLoop n f s).sess = s.sess := rfl
@[simp] theorem updLoop_evt n f s : (updLoop n f s).evt = s.evt := rfl
@[simp] theorem updLoop_prot n f s : (updLoop n f s).prot = s.prot := rfl
@[simp] theorem updLoop_inp n f s : (updLoop n f s).inp = s.inp := rfl
@[simp] theorem updLoop_cal n f s : (updLoop n f s).cal = s.cal := rfl
@[simp] theorem updLoop_flt n f s : (updLoop n f s).flt = s.flt := rfl
@[simp] theorem updLoop_trg n f s : (updLoop n f s).trg = s.trg := rfl
@[simp] theorem updLoop_seg n f s : (updLoop n f s).seg = s.seg := rfl
@[simp] theorem updLoop_edge n f s : (updLoop n f s).edge = s.edge := rfl
@[simp] theorem updLoop_aux n f s : (updLoop n f s).aux = s.aux := rfl
@[simp] theorem updLoop_mem n f s : (updLoop n f s).mem = s.mem := rfl
@[simp] theorem updLoop_xfer n f s : (updLoop n f s).xfer = s.xfer := rfl
@[simp] theorem updLoop_ham n f s : (updLoop n f s).ham = s.ham := rfl
@[simp] theorem updLoop_dmx n f s : (updLoop n f s).dmx = s.dmx := rfl
@[simp] theorem updLoop_eng n f s : (updLoop n f s).eng = s.eng := rfl
@[simp] theorem updLoop_sync n f s : (updLoop n f s).sync = s.sync := rfl
@[simp] theorem updLoop_jtag n f s : (updLoop n f s).jtag = s.jtag := rfl
@[simp] theorem updLoop_sent n f s : (updLoop n f s).sent = s.sent := rfl
@[simp] theorem updLoop_free n f s : (updLoop n f s).free = s.free := rfl
@[simp] theorem updLoop_pending n f s : (updLoop n f s).pending = s.pending := rfl
@[simp] theorem updLane_time n f s : (updLane n f s).time = s.time := rfl
@[simp] theorem updLane_clk n f s : (updLane n f s).clk = s.clk := rfl
@[simp] theorem updLane_boot n f s : (updLane n f s).boot = s.boot := rfl
@[simp] theorem updLane_pcie n f s : (updLane n f s).pcie = s.pcie := rfl
@[simp] theorem updLane_sess n f s : (updLane n f s).sess = s.sess := rfl
@[simp] theorem updLane_evt n f s : (updLane n f s).evt = s.evt := rfl
@[simp] theorem updLane_prot n f s : (updLane n f s).prot = s.prot := rfl
@[simp] theorem updLane_inp n f s : (updLane n f s).inp = s.inp := rfl
@[simp] theorem updLane_cal n f s : (updLane n f s).cal = s.cal := rfl
@[simp] theorem updLane_flt n f s : (updLane n f s).flt = s.flt := rfl
@[simp] theorem updLane_trg n f s : (updLane n f s).trg = s.trg := rfl
@[simp] theorem updLane_seg n f s : (updLane n f s).seg = s.seg := rfl
@[simp] theorem updLane_edge n f s : (updLane n f s).edge = s.edge := rfl
@[simp] theorem updLane_aux n f s : (updLane n f s).aux = s.aux := rfl
@[simp] theorem updLane_mem n f s : (updLane n f s).mem = s.mem := rfl
@[simp] theorem updLane_xfer n f s : (updLane n f s).xfer = s.xfer := rfl
@[simp] theorem updLane_ham n f s : (updLane n f s).ham = s.ham := rfl
@[simp] theorem updLane_dmx n f s : (updLane n f s).dmx = s.dmx := rfl
@[simp] theorem updLane_eng n f s : (updLane n f s).eng = s.eng := rfl
@[simp] theorem updLane_sync n f s : (updLane n f s).sync = s.sync := rfl
@[simp] theorem updLane_jtag n f s : (updLane n f s).jtag = s.jtag := rfl
@[simp] theorem updLane_sent n f s : (updLane n f s).sent = s.sent := rfl
@[simp] theorem updLane_free n f s : (updLane n f s).free = s.free := rfl
@[simp] theorem updLane_pending n f s : (updLane n f s).pending = s.pending := rfl
@[simp] theorem advance_boot n s : (advance n s).boot = s.boot := rfl
@[simp] theorem advance_pwr n s : (advance n s).pwr = s.pwr := rfl
@[simp] theorem advance_pcie n s : (advance n s).pcie = s.pcie := rfl
@[simp] theorem advance_sess n s : (advance n s).sess = s.sess := rfl
@[simp] theorem advance_evt n s : (advance n s).evt = s.evt := rfl
@[simp] theorem advance_prot n s : (advance n s).prot = s.prot := rfl
@[simp] theorem advance_inp n s : (advance n s).inp = s.inp := rfl
@[simp] theorem advance_cal n s : (advance n s).cal = s.cal := rfl
@[simp] theorem advance_flt n s : (advance n s).flt = s.flt := rfl
@[simp] theorem advance_trg n s : (advance n s).trg = s.trg := rfl
@[simp] theorem advance_seg n s : (advance n s).seg = s.seg := rfl
@[simp] theorem advance_edge n s : (advance n s).edge = s.edge := rfl
@[simp] theorem advance_aux n s : (advance n s).aux = s.aux := rfl
@[simp] theorem advance_mem n s : (advance n s).mem = s.mem := rfl
@[simp] theorem advance_xfer n s : (advance n s).xfer = s.xfer := rfl
@[simp] theorem advance_ham n s : (advance n s).ham = s.ham := rfl
@[simp] theorem advance_dmx n s : (advance n s).dmx = s.dmx := rfl
@[simp] theorem advance_eng n s : (advance n s).eng = s.eng := rfl
@[simp] theorem advance_sync n s : (advance n s).sync = s.sync := rfl
@[simp] theorem advance_jtag n s : (advance n s).jtag = s.jtag := rfl
@[simp] theorem advance_sent n s : (advance n s).sent = s.sent := rfl
@[simp] theorem advance_free n s : (advance n s).free = s.free := rfl
@[simp] theorem advance_pending n s : (advance n s).pending = s.pending := rfl

end Sys2Proof.Machine
end

