-- ==== Sys2Proof/Laws/Requests.lean ====
section
/-! SUPPORT. How a request is served, once for all commands: what an accepted request leads to, what a rejected one leads to, and
what the reply is. Proofs about a command cite these and read the rest through the equations of `Laws.State`. -/

namespace Sys2Proof.Machine

/-! ### Time -/

@[simp] theorem advance_ps (n : Nat) (s : State) : (advance n s).time.ps = max s.time.ps n := rfl

/-! ### Entries of lists -/

theorem getD_updAt {α : Type} (f : α → α) (d : α) : ∀ (l : List α) (i j : Nat),
    (updAt l i f).getD j d = if i = j ∧ i < l.length then f (l.getD j d) else l.getD j d
  | [], i, j => by simp [updAt]
  | a :: l, 0, 0 => by simp [updAt]
  | a :: l, 0, j + 1 => by simp [updAt]
  | a :: l, i + 1, 0 => by simp [updAt]
  | a :: l, i + 1, j + 1 => by simpa [updAt] using getD_updAt f d l i j

theorem getElem?_updAt {α : Type} (f : α → α) : ∀ (l : List α) (i j : Nat),
    (updAt l i f)[j]? = if i = j then l[j]?.map f else l[j]?
  | [], i, j => by simp [updAt]
  | a :: l, 0, 0 => by simp [updAt]
  | a :: l, 0, j + 1 => by simp [updAt]
  | a :: l, i + 1, 0 => by simp [updAt]
  | a :: l, i + 1, j + 1 => by simpa [updAt] using getElem?_updAt f l i j

/-! ### The numbered parts after an update of one of them -/

theorem session_updSession (n m : Nat) (f) (s : State) : (updSession n f s).session m = if n = m ∧ n < s.sess.length then f (s.session m) else s.session m :=
  getD_updAt ..
@[simp] theorem session_updSession_self (n : Nat) (f) (s : State) (h : n < s.sess.length) : (updSession n f s).session n = f (s.session n) := by
  simp [session_updSession, h]
theorem input_updInput (n m : Nat) (f) (s : State) : (updInput n f s).input m = if n = m ∧ n < s.inp.inputs.length then f (s.input m) else s.input m :=
  getD_updAt ..
@[simp] theorem input_updInput_self (n : Nat) (f) (s : State) (h : n < s.inp.inputs.length) : (updInput n f s).input n = f (s.input n) := by
  simp [input_updInput, h]
theorem core_updCore (n m : Nat) (f) (s : State) : (updCore n f s).core m = if n = m ∧ n < s.inp.cores.length then f (s.core m) else s.core m :=
  getD_updAt ..
@[simp] theorem core_updCore_self (n : Nat) (f) (s : State) (h : n < s.inp.cores.length) : (updCore n f s).core n = f (s.core n) := by
  simp [core_updCore, h]
theorem inCal_updInCal (n m : Nat) (f) (s : State) : (updInCal n f s).inCal m = if n = m ∧ n < s.cal.inputs.length then f (s.inCal m) else s.inCal m :=
  getD_updAt ..
@[simp] theorem inCal_updInCal_self (n : Nat) (f) (s : State) (h : n < s.cal.inputs.length) : (updInCal n f s).inCal n = f (s.inCal n) := by
  simp [inCal_updInCal, h]
theorem fin_updFin (n m : Nat) (f) (s : State) : (updFin n f s).fin m = if n = m ∧ n < s.flt.inputs.length then f (s.fin m) else s.fin m :=
  getD_updAt ..
@[simp] theorem fin_updFin_self (n : Nat) (f) (s : State) (h : n < s.flt.inputs.length) : (updFin n f s).fin n = f (s.fin n) := by
  simp [fin_updFin, h]
theorem tg_updTg (n m : Nat) (f) (s : State) : (updTg n f s).tg m = if n = m ∧ n < s.trg.groups.length then f (s.tg m) else s.tg m :=
  getD_updAt ..
@[simp] theorem tg_updTg_self (n : Nat) (f) (s : State) (h : n < s.trg.groups.length) : (updTg n f s).tg n = f (s.tg n) := by
  simp [tg_updTg, h]
theorem sg_updSg (n m : Nat) (f) (s : State) : (updSg n f s).sg m = if n = m ∧ n < s.seg.length then f (s.sg m) else s.sg m :=
  getD_updAt ..
@[simp] theorem sg_updSg_self (n : Nat) (f) (s : State) (h : n < s.seg.length) : (updSg n f s).sg n = f (s.sg n) := by
  simp [sg_updSg, h]
theorem slot_updSlot (n m : Nat) (f) (s : State) : (updSlot n f s).slot m = if n = m ∧ n < s.trg.slots.length then f (s.slot m) else s.slot m :=
  getD_updAt ..
@[simp] theorem slot_updSlot_self (n : Nat) (f) (s : State) (h : n < s.trg.slots.length) : (updSlot n f s).slot n = f (s.slot n) := by
  simp [slot_updSlot, h]
theorem loop_updLoop (n m : Nat) (f) (s : State) : (updLoop n f s).loop m = if n = m ∧ n < s.clk.loops.length then f (s.loop m) else s.loop m :=
  getD_updAt ..
@[simp] theorem loop_updLoop_self (n : Nat) (f) (s : State) (h : n < s.clk.loops.length) : (updLoop n f s).loop n = f (s.loop n) := by
  simp [loop_updLoop, h]
theorem lane_updLane (n m : Nat) (f) (s : State) : (updLane n f s).lane m = if n = m ∧ n < s.pwr.lanes.length then f (s.lane m) else s.lane m :=
  getD_updAt ..
@[simp] theorem lane_updLane_self (n : Nat) (f) (s : State) (h : n < s.pwr.lanes.length) : (updLane n f s).lane n = f (s.lane n) := by
  simp [lane_updLane, h]

@[simp] theorem updSession_length (n : Nat) (f) (s : State) : (updSession n f s).sess.length = s.sess.length := updAt_length ..
@[simp] theorem updInput_length (n : Nat) (f) (s : State) : (updInput n f s).inp.inputs.length = s.inp.inputs.length := updAt_length ..
@[simp] theorem updCore_length (n : Nat) (f) (s : State) : (updCore n f s).inp.cores.length = s.inp.cores.length := updAt_length ..
@[simp] theorem updInCal_length (n : Nat) (f) (s : State) : (updInCal n f s).cal.inputs.length = s.cal.inputs.length := updAt_length ..
@[simp] theorem updFin_length (n : Nat) (f) (s : State) : (updFin n f s).flt.inputs.length = s.flt.inputs.length := updAt_length ..
@[simp] theorem updTg_length (n : Nat) (f) (s : State) : (updTg n f s).trg.groups.length = s.trg.groups.length := updAt_length ..
@[simp] theorem updSg_length (n : Nat) (f) (s : State) : (updSg n f s).seg.length = s.seg.length := updAt_length ..
@[simp] theorem updSlot_length (n : Nat) (f) (s : State) : (updSlot n f s).trg.slots.length = s.trg.slots.length := updAt_length ..
@[simp] theorem updLoop_length (n : Nat) (f) (s : State) : (updLoop n f s).clk.loops.length = s.clk.loops.length := updAt_length ..
@[simp] theorem updLane_length (n : Nat) (f) (s : State) : (updLane n f s).pwr.lanes.length = s.pwr.lanes.length := updAt_length ..

/-! ### Snapshots and the system scope -/

theorem foldl_same {α β : Type} (p : State → β) {f : State → α → State} (h : ∀ t a, p (f t a) = p t) :
    ∀ (l : List α) (s : State), p (l.foldl f s) = p s
  | [], _ => rfl
  | a :: l, s => (foldl_same p h l (f s a)).trans (h s a)

@[simp] theorem noteScope_time b s : (noteScope b s).time = s.time := by unfold noteScope; split <;> rfl
@[simp] theorem noteScope_clk b s : (noteScope b s).clk = s.clk := by unfold noteScope; split <;> rfl
@[simp] theorem noteScope_boot b s : (noteScope b s).boot = s.boot := by unfold noteScope; split <;> rfl
@[simp] theorem noteScope_pwr b s : (noteScope b s).pwr = s.pwr := by unfold noteScope; split <;> rfl
@[simp] theorem noteScope_pcie b s : (noteScope b s).pcie = s.pcie := by unfold noteScope; split <;> rfl
@[simp] theorem noteScope_sess b s : (noteScope b s).sess = s.sess := by unfold noteScope; split <;> rfl
@[simp] theorem noteScope_evt b s : (noteScope b s).evt = s.evt := by unfold noteScope; split <;> rfl
@[simp] theorem noteScope_prot b s : (noteScope b s).prot = s.prot := by unfold noteScope; split <;> rfl
@[simp] theorem noteScope_inp b s : (noteScope b s).inp = s.inp := by unfold noteScope; split <;> rfl
@[simp] theorem noteScope_cal b s : (noteScope b s).cal = s.cal := by unfold noteScope; split <;> rfl
@[simp] theorem noteScope_flt b s : (noteScope b s).flt = s.flt := by unfold noteScope; split <;> rfl
@[simp] theorem noteScope_trg b s : (noteScope b s).trg = s.trg := by unfold noteScope; split <;> rfl
@[simp] theorem noteScope_seg b s : (noteScope b s).seg = s.seg := by unfold noteScope; split <;> rfl
@[simp] theorem noteScope_edge b s : (noteScope b s).edge = s.edge := by unfold noteScope; split <;> rfl
@[simp] theorem noteScope_aux b s : (noteScope b s).aux = s.aux := by unfold noteScope; split <;> rfl
@[simp] theorem noteScope_mem b s : (noteScope b s).mem = s.mem := by unfold noteScope; split <;> rfl
@[simp] theorem noteScope_xfer b s : (noteScope b s).xfer = s.xfer := by unfold noteScope; split <;> rfl
@[simp] theorem noteScope_ham b s : (noteScope b s).ham = s.ham := by unfold noteScope; split <;> rfl
@[simp] theorem noteScope_dmx b s : (noteScope b s).dmx = s.dmx := by unfold noteScope; split <;> rfl
@[simp] theorem noteScope_eng b s : (noteScope b s).eng = s.eng := by unfold noteScope; split <;> rfl
@[simp] theorem noteScope_jtag b s : (noteScope b s).jtag = s.jtag := by unfold noteScope; split <;> rfl
@[simp] theorem noteScope_sent b s : (noteScope b s).sent = s.sent := by unfold noteScope; split <;> rfl
@[simp] theorem noteScope_free b s : (noteScope b s).free = s.free := by unfold noteScope; split <;> rfl
@[simp] theorem noteScope_pending b s : (noteScope b s).pending = s.pending := by unfold noteScope; split <;> rfl

@[simp] theorem stopJob_time j r s : (stopJob j r s).time = s.time := by
  unfold stopJob; repeat' first | rfl | split | simp [dropTasks, mapJobs]
@[simp] theorem stopJob_clk j r s : (stopJob j r s).clk = s.clk := by
  unfold stopJob; repeat' first | rfl | split | simp [dropTasks, mapJobs]
@[simp] theorem stopJob_sess j r s : (stopJob j r s).sess = s.sess := by
  unfold stopJob; repeat' first | rfl | split | simp [dropTasks, mapJobs]
@[simp] theorem stopJob_prot j r s : (stopJob j r s).prot = s.prot := by
  unfold stopJob; repeat' first | rfl | split | simp [dropTasks, mapJobs]
@[simp] theorem stopJob_inp j r s : (stopJob j r s).inp = s.inp := by
  unfold stopJob; repeat' first | rfl | split | simp [dropTasks, mapJobs]
@[simp] theorem stopJob_cal j r s : (stopJob j r s).cal = s.cal := by
  unfold stopJob; repeat' first | rfl | split | simp [dropTasks, mapJobs]
@[simp] theorem stopJob_flt j r s : (stopJob j r s).flt = s.flt := by
  unfold stopJob; repeat' first | rfl | split | simp [dropTasks, mapJobs]
@[simp] theorem stopJob_trg j r s : (stopJob j r s).trg = s.trg := by
  unfold stopJob; repeat' first | rfl | split | simp [dropTasks, mapJobs]
@[simp] theorem stopJob_seg j r s : (stopJob j r s).seg = s.seg := by
  unfold stopJob; repeat' first | rfl | split | simp [dropTasks, mapJobs]
@[simp] theorem stopJob_edge j r s : (stopJob j r s).edge = s.edge := by
  unfold stopJob; repeat' first | rfl | split | simp [dropTasks, mapJobs]
@[simp] theorem stopJob_aux j r s : (stopJob j r s).aux = s.aux := by
  unfold stopJob; repeat' first | rfl | split | simp [dropTasks, mapJobs]
@[simp] theorem stopJob_mem j r s : (stopJob j r s).mem = s.mem := by
  unfold stopJob; repeat' first | rfl | split | simp [dropTasks, mapJobs]
@[simp] theorem stopJob_xfer j r s : (stopJob j r s).xfer = s.xfer := by
  unfold stopJob; repeat' first | rfl | split | simp [dropTasks, mapJobs]
@[simp] theorem stopJob_ham j r s : (stopJob j r s).ham = s.ham := by
  unfold stopJob; repeat' first | rfl | split | simp [dropTasks, mapJobs]
@[simp] theorem stopJob_dmx j r s : (stopJob j r s).dmx = s.dmx := by
  unfold stopJob; repeat' first | rfl | split | simp [dropTasks, mapJobs]
@[simp] theorem stopJob_sync j r s : (stopJob j r s).sync = s.sync := by
  unfold stopJob; repeat' first | rfl | split | simp [dropTasks, mapJobs]
@[simp] theorem stopJob_jtag j r s : (stopJob j r s).jtag = s.jtag := by
  unfold stopJob; repeat' first | rfl | split | simp [dropTasks, mapJobs]
@[simp] theorem stopJob_free j r s : (stopJob j r s).free = s.free := by
  unfold stopJob; repeat' first | rfl | split | simp [dropTasks, mapJobs]
@[simp] theorem stopJob_pending j r s : (stopJob j r s).pending = s.pending := by
  unfold stopJob; repeat' first | rfl | split | simp [dropTasks, mapJobs]
@[simp] theorem stopJob_boot_st j r s : (stopJob j r s).boot.st = s.boot.st := by
  unfold stopJob; repeat' first | rfl | split | simp [dropTasks, mapJobs]
@[simp] theorem stopJob_boot_owedCal j r s : (stopJob j r s).boot.owedCal = s.boot.owedCal := by
  unfold stopJob; repeat' first | rfl | split | simp [dropTasks, mapJobs]
@[simp] theorem stopJob_boot_owedMem j r s : (stopJob j r s).boot.owedMem = s.boot.owedMem := by
  unfold stopJob; repeat' first | rfl | split | simp [dropTasks, mapJobs]
@[simp] theorem stopJob_boot_memReady j r s : (stopJob j r s).boot.memReady = s.boot.memReady := by
  unfold stopJob; repeat' first | rfl | split | simp [dropTasks, mapJobs]
@[simp] theorem stopJob_boot_armedBefore j r s : (stopJob j r s).boot.armedBefore = s.boot.armedBefore := by
  unfold stopJob; repeat' first | rfl | split | simp [dropTasks, mapJobs]
@[simp] theorem stopJob_boot_cause j r s : (stopJob j r s).boot.cause = s.boot.cause := by
  unfold stopJob; repeat' first | rfl | split | simp [dropTasks, mapJobs]
@[simp] theorem stopJob_boot_queued j r s : (stopJob j r s).boot.queued = s.boot.queued := by
  unfold stopJob; repeat' first | rfl | split | simp [dropTasks, mapJobs]
@[simp] theorem stopJob_boot_deepAfter j r s : (stopJob j r s).boot.deepAfter = s.boot.deepAfter := by
  unfold stopJob; repeat' first | rfl | split | simp [dropTasks, mapJobs]
@[simp] theorem stopJob_boot_memPreserved j r s : (stopJob j r s).boot.memPreserved = s.boot.memPreserved := by
  unfold stopJob; repeat' first | rfl | split | simp [dropTasks, mapJobs]
@[simp] theorem stopJob_boot_cfgDefaulted j r s : (stopJob j r s).boot.cfgDefaulted = s.boot.cfgDefaulted := by
  unfold stopJob; repeat' first | rfl | split | simp [dropTasks, mapJobs]
@[simp] theorem stopJob_boot_off j r s : (stopJob j r s).boot.off = s.boot.off := by
  unfold stopJob; repeat' first | rfl | split | simp [dropTasks, mapJobs]
@[simp] theorem stopJob_boot_downing j r s : (stopJob j r s).boot.downing = s.boot.downing := by
  unfold stopJob; repeat' first | rfl | split | simp [dropTasks, mapJobs]
@[simp] theorem stopJob_boot_nresetLow j r s : (stopJob j r s).boot.nresetLow = s.boot.nresetLow := by
  unfold stopJob; repeat' first | rfl | split | simp [dropTasks, mapJobs]
@[simp] theorem stopJob_boot_transition j r s : (stopJob j r s).boot.transition = s.boot.transition := by
  unfold stopJob; repeat' first | rfl | split | simp [dropTasks, mapJobs]
@[simp] theorem stopJob_boot_subsystem j r s : (stopJob j r s).boot.subsystem = s.boot.subsystem := by
  unfold stopJob; repeat' first | rfl | split | simp [dropTasks, mapJobs]
@[simp] theorem stopJob_boot_haltCause j r s : (stopJob j r s).boot.haltCause = s.boot.haltCause := by
  unfold stopJob; repeat' first | rfl | split | simp [dropTasks, mapJobs]
@[simp] theorem stopJob_boot_initMemory j r s : (stopJob j r s).boot.initMemory = s.boot.initMemory := by
  unfold stopJob; repeat' first | rfl | split | simp [dropTasks, mapJobs]
@[simp] theorem stopJob_boot_control j r s : (stopJob j r s).boot.control = s.boot.control := by
  unfold stopJob; repeat' first | rfl | split | simp [dropTasks, mapJobs]
@[simp] theorem stopJob_boot_since j r s : (stopJob j r s).boot.since = s.boot.since := by
  unfold stopJob; repeat' first | rfl | split | simp [dropTasks, mapJobs]
@[simp] theorem stopJob_pwr_floor j r s : (stopJob j r s).pwr.floor = s.pwr.floor := by
  unfold stopJob; repeat' first | rfl | split | simp [dropTasks, mapJobs]
@[simp] theorem stopJob_pwr_sensed j r s : (stopJob j r s).pwr.sensed = s.pwr.sensed := by
  unfold stopJob; repeat' first | rfl | split | simp [dropTasks, mapJobs]
@[simp] theorem stopJob_pwr_history j r s : (stopJob j r s).pwr.history = s.pwr.history := by
  unfold stopJob; repeat' first | rfl | split | simp [dropTasks, mapJobs]
@[simp] theorem stopJob_pwr_adaptive j r s : (stopJob j r s).pwr.adaptive = s.pwr.adaptive := by
  unfold stopJob; repeat' first | rfl | split | simp [dropTasks, mapJobs]
@[simp] theorem stopJob_pwr_lost j r s : (stopJob j r s).pwr.lost = s.pwr.lost := by
  unfold stopJob; repeat' first | rfl | split | simp [dropTasks, mapJobs]
@[simp] theorem stopJob_pwr_lanes j r s : (stopJob j r s).pwr.lanes = s.pwr.lanes := by
  unfold stopJob; repeat' first | rfl | split | simp [dropTasks, mapJobs]
@[simp] theorem stopJob_pwr_mode j r s : (stopJob j r s).pwr.mode = s.pwr.mode := by
  unfold stopJob; repeat' first | rfl | split | simp [dropTasks, mapJobs]
@[simp] theorem stopJob_pwr_regulator j r s : (stopJob j r s).pwr.regulator = s.pwr.regulator := by
  unfold stopJob; repeat' first | rfl | split | simp [dropTasks, mapJobs]
@[simp] theorem stopJob_pwr_fixed j r s : (stopJob j r s).pwr.fixed = s.pwr.fixed := by
  unfold stopJob; repeat' first | rfl | split | simp [dropTasks, mapJobs]
@[simp] theorem stopJob_pwr_commanded j r s : (stopJob j r s).pwr.commanded = s.pwr.commanded := by
  unfold stopJob; repeat' first | rfl | split | simp [dropTasks, mapJobs]
@[simp] theorem stopJob_pwr_tj j r s : (stopJob j r s).pwr.tj = s.pwr.tj := by
  unfold stopJob; repeat' first | rfl | split | simp [dropTasks, mapJobs]
@[simp] theorem stopJob_pwr_hot j r s : (stopJob j r s).pwr.hot = s.pwr.hot := by
  unfold stopJob; repeat' first | rfl | split | simp [dropTasks, mapJobs]
@[simp] theorem stopJob_pwr_fault j r s : (stopJob j r s).pwr.fault = s.pwr.fault := by
  unfold stopJob; repeat' first | rfl | split | simp [dropTasks, mapJobs]
@[simp] theorem stopJob_pwr_pmbus j r s : (stopJob j r s).pwr.pmbus = s.pwr.pmbus := by
  unfold stopJob; repeat' first | rfl | split | simp [dropTasks, mapJobs]
@[simp] theorem stopJob_pcie_linkUp j r s : (stopJob j r s).pcie.linkUp = s.pcie.linkUp := by
  unfold stopJob; repeat' first | rfl | split | simp [dropTasks, mapJobs]
@[simp] theorem stopJob_pcie_busMaster j r s : (stopJob j r s).pcie.busMaster = s.pcie.busMaster := by
  unfold stopJob; repeat' first | rfl | split | simp [dropTasks, mapJobs]
@[simp] theorem stopJob_pcie_perst j r s : (stopJob j r s).pcie.perst = s.pcie.perst := by
  unfold stopJob; repeat' first | rfl | split | simp [dropTasks, mapJobs]
@[simp] theorem stopJob_pcie_unmasked j r s : (stopJob j r s).pcie.unmasked = s.pcie.unmasked := by
  unfold stopJob; repeat' first | rfl | split | simp [dropTasks, mapJobs]
@[simp] theorem stopJob_pcie_clocking j r s : (stopJob j r s).pcie.clocking = s.pcie.clocking := by
  unfold stopJob; repeat' first | rfl | split | simp [dropTasks, mapJobs]
@[simp] theorem stopJob_pcie_clockingSet j r s : (stopJob j r s).pcie.clockingSet = s.pcie.clockingSet := by
  unfold stopJob; repeat' first | rfl | split | simp [dropTasks, mapJobs]
@[simp] theorem stopJob_evt_boots j r s : (stopJob j r s).evt.boots = s.evt.boots := by
  unfold stopJob; repeat' first | rfl | split | simp [dropTasks, mapJobs]
@[simp] theorem stopJob_evt_carrying j r s : (stopJob j r s).evt.carrying = s.evt.carrying := by
  unfold stopJob; repeat' first | rfl | split | simp [dropTasks, mapJobs]
@[simp] theorem stopJob_evt_first j r s : (stopJob j r s).evt.first = s.evt.first := by
  unfold stopJob; repeat' first | rfl | split | simp [dropTasks, mapJobs]
@[simp] theorem stopJob_evt_journal j r s : (stopJob j r s).evt.journal = s.evt.journal := by
  unfold stopJob; repeat' first | rfl | split | simp [dropTasks, mapJobs]
@[simp] theorem stopJob_evt_ring j r s : (stopJob j r s).evt.ring = s.evt.ring := by
  unfold stopJob; repeat' first | rfl | split | simp [dropTasks, mapJobs]
@[simp] theorem stopJob_evt_copyTo j r s : (stopJob j r s).evt.copyTo = s.evt.copyTo := by
  unfold stopJob; repeat' first | rfl | split | simp [dropTasks, mapJobs]
@[simp] theorem stopJob_evt_clears j r s : (stopJob j r s).evt.clears = s.evt.clears := by
  unfold stopJob; repeat' first | rfl | split | simp [dropTasks, mapJobs]

@[simp] theorem noteSnapshots_time s : (noteSnapshots s).time = s.time :=
  foldl_same (·.time) (fun t j => by split <;> simp) _ s
@[simp] theorem noteSnapshots_clk s : (noteSnapshots s).clk = s.clk :=
  foldl_same (·.clk) (fun t j => by split <;> simp) _ s
@[simp] theorem noteSnapshots_sess s : (noteSnapshots s).sess = s.sess :=
  foldl_same (·.sess) (fun t j => by split <;> simp) _ s
@[simp] theorem noteSnapshots_prot s : (noteSnapshots s).prot = s.prot :=
  foldl_same (·.prot) (fun t j => by split <;> simp) _ s
@[simp] theorem noteSnapshots_inp s : (noteSnapshots s).inp = s.inp :=
  foldl_same (·.inp) (fun t j => by split <;> simp) _ s
@[simp] theorem noteSnapshots_cal s : (noteSnapshots s).cal = s.cal :=
  foldl_same (·.cal) (fun t j => by split <;> simp) _ s
@[simp] theorem noteSnapshots_flt s : (noteSnapshots s).flt = s.flt :=
  foldl_same (·.flt) (fun t j => by split <;> simp) _ s
@[simp] theorem noteSnapshots_trg s : (noteSnapshots s).trg = s.trg :=
  foldl_same (·.trg) (fun t j => by split <;> simp) _ s
@[simp] theorem noteSnapshots_seg s : (noteSnapshots s).seg = s.seg :=
  foldl_same (·.seg) (fun t j => by split <;> simp) _ s
@[simp] theorem noteSnapshots_edge s : (noteSnapshots s).edge = s.edge :=
  foldl_same (·.edge) (fun t j => by split <;> simp) _ s
@[simp] theorem noteSnapshots_aux s : (noteSnapshots s).aux = s.aux :=
  foldl_same (·.aux) (fun t j => by split <;> simp) _ s
@[simp] theorem noteSnapshots_mem s : (noteSnapshots s).mem = s.mem :=
  foldl_same (·.mem) (fun t j => by split <;> simp) _ s
@[simp] theorem noteSnapshots_xfer s : (noteSnapshots s).xfer = s.xfer :=
  foldl_same (·.xfer) (fun t j => by split <;> simp) _ s
@[simp] theorem noteSnapshots_ham s : (noteSnapshots s).ham = s.ham :=
  foldl_same (·.ham) (fun t j => by split <;> simp) _ s
@[simp] theorem noteSnapshots_dmx s : (noteSnapshots s).dmx = s.dmx :=
  foldl_same (·.dmx) (fun t j => by split <;> simp) _ s
@[simp] theorem noteSnapshots_sync s : (noteSnapshots s).sync = s.sync :=
  foldl_same (·.sync) (fun t j => by split <;> simp) _ s
@[simp] theorem noteSnapshots_jtag s : (noteSnapshots s).jtag = s.jtag :=
  foldl_same (·.jtag) (fun t j => by split <;> simp) _ s
@[simp] theorem noteSnapshots_free s : (noteSnapshots s).free = s.free :=
  foldl_same (·.free) (fun t j => by split <;> simp) _ s
@[simp] theorem noteSnapshots_pending s : (noteSnapshots s).pending = s.pending :=
  foldl_same (·.pending) (fun t j => by split <;> simp) _ s
@[simp] theorem noteSnapshots_boot_st s : (noteSnapshots s).boot.st = s.boot.st :=
  foldl_same (·.boot.st) (fun t j => by split <;> simp) _ s
@[simp] theorem noteSnapshots_boot_owedCal s : (noteSnapshots s).boot.owedCal = s.boot.owedCal :=
  foldl_same (·.boot.owedCal) (fun t j => by split <;> simp) _ s
@[simp] theorem noteSnapshots_boot_owedMem s : (noteSnapshots s).boot.owedMem = s.boot.owedMem :=
  foldl_same (·.boot.owedMem) (fun t j => by split <;> simp) _ s
@[simp] theorem noteSnapshots_boot_memReady s : (noteSnapshots s).boot.memReady = s.boot.memReady :=
  foldl_same (·.boot.memReady) (fun t j => by split <;> simp) _ s
@[simp] theorem noteSnapshots_boot_armedBefore s : (noteSnapshots s).boot.armedBefore = s.boot.armedBefore :=
  foldl_same (·.boot.armedBefore) (fun t j => by split <;> simp) _ s
@[simp] theorem noteSnapshots_boot_cause s : (noteSnapshots s).boot.cause = s.boot.cause :=
  foldl_same (·.boot.cause) (fun t j => by split <;> simp) _ s
@[simp] theorem noteSnapshots_boot_queued s : (noteSnapshots s).boot.queued = s.boot.queued :=
  foldl_same (·.boot.queued) (fun t j => by split <;> simp) _ s
@[simp] theorem noteSnapshots_boot_deepAfter s : (noteSnapshots s).boot.deepAfter = s.boot.deepAfter :=
  foldl_same (·.boot.deepAfter) (fun t j => by split <;> simp) _ s
@[simp] theorem noteSnapshots_boot_memPreserved s : (noteSnapshots s).boot.memPreserved = s.boot.memPreserved :=
  foldl_same (·.boot.memPreserved) (fun t j => by split <;> simp) _ s
@[simp] theorem noteSnapshots_boot_cfgDefaulted s : (noteSnapshots s).boot.cfgDefaulted = s.boot.cfgDefaulted :=
  foldl_same (·.boot.cfgDefaulted) (fun t j => by split <;> simp) _ s
@[simp] theorem noteSnapshots_boot_off s : (noteSnapshots s).boot.off = s.boot.off :=
  foldl_same (·.boot.off) (fun t j => by split <;> simp) _ s
@[simp] theorem noteSnapshots_boot_downing s : (noteSnapshots s).boot.downing = s.boot.downing :=
  foldl_same (·.boot.downing) (fun t j => by split <;> simp) _ s
@[simp] theorem noteSnapshots_boot_nresetLow s : (noteSnapshots s).boot.nresetLow = s.boot.nresetLow :=
  foldl_same (·.boot.nresetLow) (fun t j => by split <;> simp) _ s
@[simp] theorem noteSnapshots_boot_transition s : (noteSnapshots s).boot.transition = s.boot.transition :=
  foldl_same (·.boot.transition) (fun t j => by split <;> simp) _ s
@[simp] theorem noteSnapshots_boot_subsystem s : (noteSnapshots s).boot.subsystem = s.boot.subsystem :=
  foldl_same (·.boot.subsystem) (fun t j => by split <;> simp) _ s
@[simp] theorem noteSnapshots_boot_haltCause s : (noteSnapshots s).boot.haltCause = s.boot.haltCause :=
  foldl_same (·.boot.haltCause) (fun t j => by split <;> simp) _ s
@[simp] theorem noteSnapshots_boot_initMemory s : (noteSnapshots s).boot.initMemory = s.boot.initMemory :=
  foldl_same (·.boot.initMemory) (fun t j => by split <;> simp) _ s
@[simp] theorem noteSnapshots_boot_control s : (noteSnapshots s).boot.control = s.boot.control :=
  foldl_same (·.boot.control) (fun t j => by split <;> simp) _ s
@[simp] theorem noteSnapshots_boot_since s : (noteSnapshots s).boot.since = s.boot.since :=
  foldl_same (·.boot.since) (fun t j => by split <;> simp) _ s
@[simp] theorem noteSnapshots_pwr_floor s : (noteSnapshots s).pwr.floor = s.pwr.floor :=
  foldl_same (·.pwr.floor) (fun t j => by split <;> simp) _ s
@[simp] theorem noteSnapshots_pwr_sensed s : (noteSnapshots s).pwr.sensed = s.pwr.sensed :=
  foldl_same (·.pwr.sensed) (fun t j => by split <;> simp) _ s
@[simp] theorem noteSnapshots_pwr_history s : (noteSnapshots s).pwr.history = s.pwr.history :=
  foldl_same (·.pwr.history) (fun t j => by split <;> simp) _ s
@[simp] theorem noteSnapshots_pwr_adaptive s : (noteSnapshots s).pwr.adaptive = s.pwr.adaptive :=
  foldl_same (·.pwr.adaptive) (fun t j => by split <;> simp) _ s
@[simp] theorem noteSnapshots_pwr_lost s : (noteSnapshots s).pwr.lost = s.pwr.lost :=
  foldl_same (·.pwr.lost) (fun t j => by split <;> simp) _ s
@[simp] theorem noteSnapshots_pwr_lanes s : (noteSnapshots s).pwr.lanes = s.pwr.lanes :=
  foldl_same (·.pwr.lanes) (fun t j => by split <;> simp) _ s
@[simp] theorem noteSnapshots_pwr_mode s : (noteSnapshots s).pwr.mode = s.pwr.mode :=
  foldl_same (·.pwr.mode) (fun t j => by split <;> simp) _ s
@[simp] theorem noteSnapshots_pwr_regulator s : (noteSnapshots s).pwr.regulator = s.pwr.regulator :=
  foldl_same (·.pwr.regulator) (fun t j => by split <;> simp) _ s
@[simp] theorem noteSnapshots_pwr_fixed s : (noteSnapshots s).pwr.fixed = s.pwr.fixed :=
  foldl_same (·.pwr.fixed) (fun t j => by split <;> simp) _ s
@[simp] theorem noteSnapshots_pwr_commanded s : (noteSnapshots s).pwr.commanded = s.pwr.commanded :=
  foldl_same (·.pwr.commanded) (fun t j => by split <;> simp) _ s
@[simp] theorem noteSnapshots_pwr_tj s : (noteSnapshots s).pwr.tj = s.pwr.tj :=
  foldl_same (·.pwr.tj) (fun t j => by split <;> simp) _ s
@[simp] theorem noteSnapshots_pwr_hot s : (noteSnapshots s).pwr.hot = s.pwr.hot :=
  foldl_same (·.pwr.hot) (fun t j => by split <;> simp) _ s
@[simp] theorem noteSnapshots_pwr_fault s : (noteSnapshots s).pwr.fault = s.pwr.fault :=
  foldl_same (·.pwr.fault) (fun t j => by split <;> simp) _ s
@[simp] theorem noteSnapshots_pwr_pmbus s : (noteSnapshots s).pwr.pmbus = s.pwr.pmbus :=
  foldl_same (·.pwr.pmbus) (fun t j => by split <;> simp) _ s
@[simp] theorem noteSnapshots_pcie_linkUp s : (noteSnapshots s).pcie.linkUp = s.pcie.linkUp :=
  foldl_same (·.pcie.linkUp) (fun t j => by split <;> simp) _ s
@[simp] theorem noteSnapshots_pcie_busMaster s : (noteSnapshots s).pcie.busMaster = s.pcie.busMaster :=
  foldl_same (·.pcie.busMaster) (fun t j => by split <;> simp) _ s
@[simp] theorem noteSnapshots_pcie_perst s : (noteSnapshots s).pcie.perst = s.pcie.perst :=
  foldl_same (·.pcie.perst) (fun t j => by split <;> simp) _ s
@[simp] theorem noteSnapshots_pcie_unmasked s : (noteSnapshots s).pcie.unmasked = s.pcie.unmasked :=
  foldl_same (·.pcie.unmasked) (fun t j => by split <;> simp) _ s
@[simp] theorem noteSnapshots_pcie_clocking s : (noteSnapshots s).pcie.clocking = s.pcie.clocking :=
  foldl_same (·.pcie.clocking) (fun t j => by split <;> simp) _ s
@[simp] theorem noteSnapshots_pcie_clockingSet s : (noteSnapshots s).pcie.clockingSet = s.pcie.clockingSet :=
  foldl_same (·.pcie.clockingSet) (fun t j => by split <;> simp) _ s
@[simp] theorem noteSnapshots_evt_boots s : (noteSnapshots s).evt.boots = s.evt.boots :=
  foldl_same (·.evt.boots) (fun t j => by split <;> simp) _ s
@[simp] theorem noteSnapshots_evt_carrying s : (noteSnapshots s).evt.carrying = s.evt.carrying :=
  foldl_same (·.evt.carrying) (fun t j => by split <;> simp) _ s
@[simp] theorem noteSnapshots_evt_first s : (noteSnapshots s).evt.first = s.evt.first :=
  foldl_same (·.evt.first) (fun t j => by split <;> simp) _ s
@[simp] theorem noteSnapshots_evt_journal s : (noteSnapshots s).evt.journal = s.evt.journal :=
  foldl_same (·.evt.journal) (fun t j => by split <;> simp) _ s
@[simp] theorem noteSnapshots_evt_ring s : (noteSnapshots s).evt.ring = s.evt.ring :=
  foldl_same (·.evt.ring) (fun t j => by split <;> simp) _ s
@[simp] theorem noteSnapshots_evt_copyTo s : (noteSnapshots s).evt.copyTo = s.evt.copyTo :=
  foldl_same (·.evt.copyTo) (fun t j => by split <;> simp) _ s
@[simp] theorem noteSnapshots_evt_clears s : (noteSnapshots s).evt.clears = s.evt.clears :=
  foldl_same (·.evt.clears) (fun t j => by split <;> simp) _ s

/-! ### An accepted request -/

@[simp] theorem session_turn (t : Option Nat) (n : Nat) (s : State) : ({ s with turn := t } : State).session n = s.session n := rfl

/-- Handing a request over leaves what names the session. -/
@[simp] theorem takeRequest_session (op : Nat) (q : Request) (s : State) (n : Nat) :
    ((takeRequest op q s).session n).gen = (s.session n).gen := by
  change ((updSession q.sess _ s).session n).gen = _
  rw [session_updSession]; split <;> rfl

@[simp] theorem advance_session (a : Nat) (s : State) (n : Nat) : (advance a s).session n = s.session n := rfl

/-- A request that a session hands over is served on the state that it leaves. -/
theorem runRequest_handsOver {c : Cmd} {q : Request} {s : State} (h : handsOver c q s = true) :
    runRequest c q s = serve c q (takeRequest c.opcode q (advance q.time s)) := by
  simp only [handsOver, Bool.and_eq_true, Bool.or_eq_true, decide_eq_true_eq, Bool.not_eq_true'] at h
  obtain ⟨⟨⟨⟨⟨⟨h1, h2⟩, h3⟩, h4⟩, h5⟩, h6⟩, h7⟩ := h
  have h2' : ¬ 32 ≤ q.sess := by omega
  have h3' : ¬ (ifaceOf q.sess = 1 ∧ ¬ (advance q.time s).ofPeer q = true) := by
    rintro ⟨a, b⟩; exact h3.elim (· a) b
  unfold runRequest
  simp only [h1, h2', h3', h4, h5, h6, h7, not_true_eq_false, or_self, if_false, if_true, Bool.false_eq_true, Bool.and_self]

/-- What acceptance leads to. -/
theorem runRequest_accepts {c : Cmd} {q : Request} {s : State} (h : accepts c q s = true) :
    runRequest c q s = acceptRequest c (waiterOf c q s) q (served c q s) := by
  simp only [accepts, Bool.and_eq_true, Option.isNone_iff_eq_none, Bool.not_eq_true'] at h
  obtain ⟨⟨⟨⟨h1, h2⟩, h3⟩, h4⟩, h5⟩ := h
  rw [runRequest_handsOver h1]
  unfold headerOutcome at h2
  unfold serve
  simp only [h2, serveFields]
  change (match firstFailure (c.checks (served c q s) q) with | some st => _ | none => _) = _
  simp only [h3]
  change (if needsCountersign c.opcode (served c q s) then _ else _) = _
  simp only [h4, Bool.false_eq_true, if_false]
  change (match stateChecks c q (served c q s) with | some (st, payload) => _ | none => _) = _
  simp only [h5, waiterOf, takeRequest_session, advance_session]
  rfl

/-- A class R request is accepted without a record. -/
theorem acceptRequest_classR {c : Cmd} {w : Waiter} {q : Request} {s : State} (h : c.classC = false) :
    acceptRequest c w q s = carrying (c.act w q) s := by simp [acceptRequest, h]

/-- A class C request is accepted with its record first. -/
theorem acceptRequest_classC {c : Cmd} {w : Waiter} {q : Request} {s : State} (h : c.classC = true) :
    acceptRequest c w q s = noteSnapshots (noteScope s (carrying (c.act { w with eventSeq := s.evt.nextSeq } q)
      (carrying (stageBody 0x0003 (requestBody c.opcode OK q)) s))) := by simp [acceptRequest, h]

@[simp] theorem served_session {c : Cmd} {q : Request} {s : State} (hs : q.sess < s.sess.length) :
    (served c q s).session q.sess = { s.session q.sess with
      st := .running, submitted := none, requests := ((s.session q.sess).requests + 1) % 2 ^ 32, lastTag := some q.tag
      lastOp := c.opcode, takenAt := max s.time.ps q.time, lastValid := max s.time.ps q.time } := by
  simp only [served, takeRequest, session_turn, session_updSession, advance_session]
  simp [hs]

@[simp] theorem served_boot (c q s) : (served c q s).boot = s.boot := rfl
@[simp] theorem served_pwr (c q s) : (served c q s).pwr = s.pwr := rfl
@[simp] theorem served_pcie (c q s) : (served c q s).pcie = s.pcie := rfl
@[simp] theorem served_evt (c q s) : (served c q s).evt = s.evt := rfl
@[simp] theorem served_prot (c q s) : (served c q s).prot = s.prot := rfl
@[simp] theorem served_inp (c q s) : (served c q s).inp = s.inp := rfl
@[simp] theorem served_cal (c q s) : (served c q s).cal = s.cal := rfl
@[simp] theorem served_flt (c q s) : (served c q s).flt = s.flt := rfl
@[simp] theorem served_trg (c q s) : (served c q s).trg = s.trg := rfl
@[simp] theorem served_seg (c q s) : (served c q s).seg = s.seg := rfl
@[simp] theorem served_edge (c q s) : (served c q s).edge = s.edge := rfl
@[simp] theorem served_aux (c q s) : (served c q s).aux = s.aux := rfl
@[simp] theorem served_mem (c q s) : (served c q s).mem = s.mem := rfl
@[simp] theorem served_xfer (c q s) : (served c q s).xfer = s.xfer := rfl
@[simp] theorem served_ham (c q s) : (served c q s).ham = s.ham := rfl
@[simp] theorem served_dmx (c q s) : (served c q s).dmx = s.dmx := rfl
@[simp] theorem served_eng (c q s) : (served c q s).eng = s.eng := rfl
@[simp] theorem served_sync (c q s) : (served c q s).sync = s.sync := rfl
@[simp] theorem served_jtag (c q s) : (served c q s).jtag = s.jtag := rfl
@[simp] theorem served_sent (c q s) : (served c q s).sent = s.sent := rfl
@[simp] theorem served_free (c q s) : (served c q s).free = s.free := rfl
@[simp] theorem served_pending (c q s) : (served c q s).pending = s.pending := rfl
@[simp] theorem served_core (c q s) : (served c q s).clk.core = s.clk.core := rfl
@[simp] theorem served_ps (c q s) : (served c q s).time.ps = max s.time.ps q.time := rfl
@[simp] theorem served_session_ne {c : Cmd} {q : Request} {s : State} {n : Nat} (h : q.sess ≠ n) :
    (served c q s).session n = s.session n := by
  simp only [served, takeRequest, session_turn, session_updSession, advance_session]
  simp [h]

/-- What acceptance of a class C command leads to: its record, its action, and what follows from a change of the system scope or
of a snapshot. -/
theorem runRequest_classC {c : Cmd} {q : Request} {s : State} (h : accepts c q s = true) (hc : c.classC = true) :
    ∃ (w : Waiter) (b : List Byte), w.sess = q.sess ∧ w.gen = (s.session q.sess).gen ∧ w.inner = none ∧
      runRequest c q s = noteSnapshots (noteScope (served c q s) (carrying (c.act w q) (carrying (stageBody 3 b) (served c q s)))) :=
  ⟨_, _, rfl, rfl, rfl, (runRequest_accepts h).trans (acceptRequest_classC hc)⟩

/-! ### Replies -/

theorem le_length : ∀ n v, (le n v).length = n
  | 0, _ => rfl
  | n + 1, v => congrArg Nat.succ (le_length n (v / 256))

@[simp] theorem u8_length (v : Nat) : (u8 v).length = 1 := rfl
@[simp] theorem u16_length (v : Nat) : (u16 v).length = 2 := rfl
@[simp] theorem u32_length (v : Nat) : (u32 v).length = 4 := rfl
@[simp] theorem u64_length (v : Nat) : (u64 v).length = 8 := rfl
@[simp] theorem zeros_length (n : Nat) : (zeros n).length = n := List.length_replicate ..

/-- The 32 bytes of a reply before its payload. -/
def replyHead (w : Waiter) (gen sess requests flags status n : Nat) : List Byte :=
  u16 w.opcode ++ u16 (32 + n) ++ u16 w.tag ++ u16 status ++ u16 gen ++ u8 sess ++ u8 flags
    ++ u32 requests ++ u64 w.eventSeq ++ zeros 8

theorem replyBytes_eq (w : Waiter) (g n r f st : Nat) (p : List Byte) :
    replyBytes w g n r f st p = replyHead w g n r f st p.length ++ p := by
  simp [replyBytes, replyHead]

theorem replyHead_length (w : Waiter) (g n r f st k : Nat) : (replyHead w g n r f st k).length = 32 := rfl

theorem replyHead_take (w : Waiter) (g n r f st k : Nat) :
    (replyHead w g n r f st k).take 8 = u16 w.opcode ++ u16 (32 + k) ++ u16 w.tag ++ u16 st := rfl

/-- A reply that goes out stands in its session. -/
theorem deliver_answers {c : Cmd} {q : Request} {w : Waiter} {st : Nat} {p : List Byte} {s : State} (h1 : w.sess = q.sess)
    (h2 : w.opcode = c.opcode) (h3 : w.tag = q.tag) (hs : q.sess < s.sess.length) : answers c q st p (deliver w st p s) := by
  have e : (deliver w st p s).sess = (updSession w.sess (fun x => { x with
      reply := replyBytes w (s.session w.sess).gen w.sess (s.session w.sess).requests s.moduleFlags st p
        ++ x.reply.drop (replyBytes w (s.session w.sess).gen w.sess (s.session w.sess).requests s.moduleFlags st p).length
      st := .replyReady }) s).sess := by
    unfold deliver
    repeat' first | rfl | split | simp
  have e' := congrArg (fun l => List.getD l q.sess ({} : Session)) e
  change (deliver w st p s).session q.sess = State.session (updSession w.sess _ s) q.sess at e'
  rw [session_updSession] at e'
  simp only [h1, hs, and_self, if_true] at e'
  unfold answers
  rw [e']
  refine ⟨rfl, _, _, (congrArg (· ++ _) (replyBytes_eq ..)), rfl, ?_⟩
  rw [replyHead_take, h2, h3]

/-- A reply to a request that still runs stands in its session. -/
theorem reply_answers {c : Cmd} {q : Request} {w : Waiter} {st : Nat} {p : List Byte} {s : State} (h1 : w.sess = q.sess)
    (h2 : w.opcode = c.opcode) (h3 : w.tag = q.tag) (hi : w.inner = none) (hs : q.sess < s.sess.length)
    (hr : (s.session q.sess).st = .running) (hg : (s.session q.sess).gen = w.gen) : answers c q st p (reply w st p s) := by
  have : reply w st p s = deliver w st p s := by simp [reply, protectedDone, hi, h1, hr, hg]
  rw [this]
  exact deliver_answers h1 h2 h3 hs

/-- What a session holds depends on the sessions alone. -/
theorem answers_congr {c : Cmd} {q : Request} {st : Nat} {p : List Byte} {s t : State} (h : t.sess = s.sess)
    (a : answers c q st p s) : answers c q st p t := by
  have e : t.session q.sess = s.session q.sess := by simp [State.session, h]
  unfold answers at a ⊢
  rwa [e]

/-! ### The reply of an accepted request -/

theorem accepts_sess {c : Cmd} {q : Request} {s : State} (h : accepts c q s = true) : q.sess < 32 := by
  simp only [accepts, handsOver, Bool.and_eq_true, decide_eq_true_eq] at h
  exact h.1.1.1.1.1.1.1.1.1.2

theorem served_sess_length (c : Cmd) (q : Request) (s : State) : (served c q s).sess.length = s.sess.length := by
  simp [served, takeRequest]

/-- A command that answers at once leaves its reply in the session. -/
theorem runRequest_answers {c : Cmd} {q : Request} {s : State} {st : Nat} {p : List Byte} (h : accepts c q s = true)
    (hz : s.sess.length = 32) (ha : ∀ w u, ∃ v, c.act w q u = reply w st p v ∧ v.sess = u.sess) :
    answers c q st p (runRequest c q s) := by
  have hq := accepts_sess h
  have key : ∀ w u, w.sess = q.sess → w.opcode = c.opcode → w.tag = q.tag → w.inner = none → w.gen = (s.session q.sess).gen →
      u.sess = (served c q s).sess → answers c q st p (c.act w q u) := by
    intro w u h1 h2 h3 h4 h5 h6
    obtain ⟨v, hv, hu⟩ := ha w u
    have e : v.sess = (served c q s).sess := hu.trans h6
    have e' : v.session q.sess = (served c q s).session q.sess := by simp only [State.session, e]
    rw [hv]
    refine reply_answers h1 h2 h3 h4 ?_ ?_ ?_
    · rw [e, served_sess_length, hz]; exact hq
    · rw [e', served_session (by omega)]
    · rw [e', served_session (by omega), h5]
  rw [runRequest_accepts h, acceptRequest]
  split
  · refine answers_congr (s := c.act { waiterOf c q s with eventSeq := (served c q s).evt.nextSeq } q
      { carrying (stageBody 0x0003 (requestBody c.opcode OK q)) (served c q s) with evt := { (carrying (stageBody 0x0003
        (requestBody c.opcode OK q)) (served c q s)).evt with carrying := true } }) (by simp) ?_
    exact key _ _ rfl rfl rfl rfl rfl (by simp)
  · exact answers_congr (s := c.act (waiterOf c q s) q { served c q s with evt := { (served c q s).evt with carrying := true } })
      (by simp) (key _ _ rfl rfl rfl rfl rfl rfl)

/-- A read answers with what it reads from the module as the request finds it. -/
theorem runRequest_reads {c : Cmd} {q : Request} {s : State} {st : Nat} (read : State → List Byte) (h : accepts c q s = true)
    (hz : s.sess.length = 32) (hc : c.classC = false) (ha : ∀ w u, ∃ v, c.act w q u = reply w st (read u) v ∧
      (v.session q.sess).st = (u.session q.sess).st ∧ (v.session q.sess).gen = (u.session q.sess).gen ∧ v.sess.length = u.sess.length) :
    answers c q st (read { served c q s with evt := { (served c q s).evt with carrying := true } }) (runRequest c q s) := by
  have hq := accepts_sess h
  rw [runRequest_accepts h, acceptRequest_classR hc]
  obtain ⟨v, hv, h1, h2, h3⟩ := ha (waiterOf c q s) { served c q s with evt := { (served c q s).evt with carrying := true } }
  refine answers_congr (s := c.act (waiterOf c q s) q { served c q s with evt := { (served c q s).evt with carrying := true } })
    (by simp) ?_
  rw [hv]
  have e : ({ served c q s with evt := { (served c q s).evt with carrying := true } } : State).session q.sess
      = (served c q s).session q.sess := rfl
  refine reply_answers rfl rfl rfl rfl ?_ ?_ ?_
  · rw [h3]
    change q.sess < (served c q s).sess.length
    rw [served_sess_length, hz]; exact hq
  · rw [h1, e, served_session (by omega)]
  · rw [h2, e, served_session (by omega)]; rfl

end Sys2Proof.Machine
end

