-- ==== Sys2Proof/Laws/Parts.lean ====
section
/-! SUPPORT. What the operations of the families leave as it is. -/

namespace Sys2Proof.Machine

@[simp] theorem sendPmbus_time a b s : (sendPmbus a b s).time = s.time := by
  unfold sendPmbus; repeat' first | rfl | split | simp
@[simp] theorem sendPmbus_clk a b s : (sendPmbus a b s).clk = s.clk := by
  unfold sendPmbus; repeat' first | rfl | split | simp
@[simp] theorem sendPmbus_boot a b s : (sendPmbus a b s).boot = s.boot := by
  unfold sendPmbus; repeat' first | rfl | split | simp
@[simp] theorem sendPmbus_pcie a b s : (sendPmbus a b s).pcie = s.pcie := by
  unfold sendPmbus; repeat' first | rfl | split | simp
@[simp] theorem sendPmbus_sess a b s : (sendPmbus a b s).sess = s.sess := by
  unfold sendPmbus; repeat' first | rfl | split | simp
@[simp] theorem sendPmbus_evt a b s : (sendPmbus a b s).evt = s.evt := by
  unfold sendPmbus; repeat' first | rfl | split | simp
@[simp] theorem sendPmbus_prot a b s : (sendPmbus a b s).prot = s.prot := by
  unfold sendPmbus; repeat' first | rfl | split | simp
@[simp] theorem sendPmbus_inp a b s : (sendPmbus a b s).inp = s.inp := by
  unfold sendPmbus; repeat' first | rfl | split | simp
@[simp] theorem sendPmbus_cal a b s : (sendPmbus a b s).cal = s.cal := by
  unfold sendPmbus; repeat' first | rfl | split | simp
@[simp] theorem sendPmbus_flt a b s : (sendPmbus a b s).flt = s.flt := by
  unfold sendPmbus; repeat' first | rfl | split | simp
@[simp] theorem sendPmbus_trg a b s : (sendPmbus a b s).trg = s.trg := by
  unfold sendPmbus; repeat' first | rfl | split | simp
@[simp] theorem sendPmbus_seg a b s : (sendPmbus a b s).seg = s.seg := by
  unfold sendPmbus; repeat' first | rfl | split | simp
@[simp] theorem sendPmbus_edge a b s : (sendPmbus a b s).edge = s.edge := by
  unfold sendPmbus; repeat' first | rfl | split | simp
@[simp] theorem sendPmbus_aux a b s : (sendPmbus a b s).aux = s.aux := by
  unfold sendPmbus; repeat' first | rfl | split | simp
@[simp] theorem sendPmbus_mem a b s : (sendPmbus a b s).mem = s.mem := by
  unfold sendPmbus; repeat' first | rfl | split | simp
@[simp] theorem sendPmbus_xfer a b s : (sendPmbus a b s).xfer = s.xfer := by
  unfold sendPmbus; repeat' first | rfl | split | simp
@[simp] theorem sendPmbus_ham a b s : (sendPmbus a b s).ham = s.ham := by
  unfold sendPmbus; repeat' first | rfl | split | simp
@[simp] theorem sendPmbus_dmx a b s : (sendPmbus a b s).dmx = s.dmx := by
  unfold sendPmbus; repeat' first | rfl | split | simp
@[simp] theorem sendPmbus_eng a b s : (sendPmbus a b s).eng = s.eng := by
  unfold sendPmbus; repeat' first | rfl | split | simp
@[simp] theorem sendPmbus_sync a b s : (sendPmbus a b s).sync = s.sync := by
  unfold sendPmbus; repeat' first | rfl | split | simp
@[simp] theorem sendPmbus_jtag a b s : (sendPmbus a b s).jtag = s.jtag := by
  unfold sendPmbus; repeat' first | rfl | split | simp
@[simp] theorem sendPmbus_free a b s : (sendPmbus a b s).free = s.free := by
  unfold sendPmbus; repeat' first | rfl | split | simp
@[simp] theorem sendPmbus_pending a b s : (sendPmbus a b s).pending = s.pending := by
  unfold sendPmbus; repeat' first | rfl | split | simp
@[simp] theorem sendPmbus_pwr_mode a b s : (sendPmbus a b s).pwr.mode = s.pwr.mode := by
  unfold sendPmbus; repeat' first | rfl | split | simp
@[simp] theorem sendPmbus_pwr_commanded a b s : (sendPmbus a b s).pwr.commanded = s.pwr.commanded := by
  unfold sendPmbus; repeat' first | rfl | split | simp
@[simp] theorem sendPmbus_pwr_floor a b s : (sendPmbus a b s).pwr.floor = s.pwr.floor := by
  unfold sendPmbus; repeat' first | rfl | split | simp

@[simp] theorem commandVcore_time a s : (commandVcore a s).time = s.time := by
  unfold commandVcore; repeat' first | rfl | split | simp
@[simp] theorem commandVcore_clk a s : (commandVcore a s).clk = s.clk := by
  unfold commandVcore; repeat' first | rfl | split | simp
@[simp] theorem commandVcore_boot a s : (commandVcore a s).boot = s.boot := by
  unfold commandVcore; repeat' first | rfl | split | simp
@[simp] theorem commandVcore_pcie a s : (commandVcore a s).pcie = s.pcie := by
  unfold commandVcore; repeat' first | rfl | split | simp
@[simp] theorem commandVcore_sess a s : (commandVcore a s).sess = s.sess := by
  unfold commandVcore; repeat' first | rfl | split | simp
@[simp] theorem commandVcore_evt a s : (commandVcore a s).evt = s.evt := by
  unfold commandVcore; repeat' first | rfl | split | simp
@[simp] theorem commandVcore_prot a s : (commandVcore a s).prot = s.prot := by
  unfold commandVcore; repeat' first | rfl | split | simp
@[simp] theorem commandVcore_inp a s : (commandVcore a s).inp = s.inp := by
  unfold commandVcore; repeat' first | rfl | split | simp
@[simp] theorem commandVcore_cal a s : (commandVcore a s).cal = s.cal := by
  unfold commandVcore; repeat' first | rfl | split | simp
@[simp] theorem commandVcore_flt a s : (commandVcore a s).flt = s.flt := by
  unfold commandVcore; repeat' first | rfl | split | simp
@[simp] theorem commandVcore_trg a s : (commandVcore a s).trg = s.trg := by
  unfold commandVcore; repeat' first | rfl | split | simp
@[simp] theorem commandVcore_seg a s : (commandVcore a s).seg = s.seg := by
  unfold commandVcore; repeat' first | rfl | split | simp
@[simp] theorem commandVcore_edge a s : (commandVcore a s).edge = s.edge := by
  unfold commandVcore; repeat' first | rfl | split | simp
@[simp] theorem commandVcore_aux a s : (commandVcore a s).aux = s.aux := by
  unfold commandVcore; repeat' first | rfl | split | simp
@[simp] theorem commandVcore_mem a s : (commandVcore a s).mem = s.mem := by
  unfold commandVcore; repeat' first | rfl | split | simp
@[simp] theorem commandVcore_xfer a s : (commandVcore a s).xfer = s.xfer := by
  unfold commandVcore; repeat' first | rfl | split | simp
@[simp] theorem commandVcore_ham a s : (commandVcore a s).ham = s.ham := by
  unfold commandVcore; repeat' first | rfl | split | simp
@[simp] theorem commandVcore_dmx a s : (commandVcore a s).dmx = s.dmx := by
  unfold commandVcore; repeat' first | rfl | split | simp
@[simp] theorem commandVcore_eng a s : (commandVcore a s).eng = s.eng := by
  unfold commandVcore; repeat' first | rfl | split | simp
@[simp] theorem commandVcore_sync a s : (commandVcore a s).sync = s.sync := by
  unfold commandVcore; repeat' first | rfl | split | simp
@[simp] theorem commandVcore_jtag a s : (commandVcore a s).jtag = s.jtag := by
  unfold commandVcore; repeat' first | rfl | split | simp
@[simp] theorem commandVcore_free a s : (commandVcore a s).free = s.free := by
  unfold commandVcore; repeat' first | rfl | split | simp
@[simp] theorem commandVcore_pending a s : (commandVcore a s).pending = s.pending := by
  unfold commandVcore; repeat' first | rfl | split | simp
@[simp] theorem commandVcore_pwr_mode a s : (commandVcore a s).pwr.mode = s.pwr.mode := by
  unfold commandVcore; repeat' first | rfl | split | simp
@[simp] theorem commandVcore_pwr_floor a s : (commandVcore a s).pwr.floor = s.pwr.floor := by
  unfold commandVcore; repeat' first | rfl | split | simp

@[simp] theorem dropOpen_time q s : (dropOpen q s).time = s.time := by
  unfold dropOpen; repeat' first | rfl | split | simp
@[simp] theorem dropOpen_clk q s : (dropOpen q s).clk = s.clk := by
  unfold dropOpen; repeat' first | rfl | split | simp
@[simp] theorem dropOpen_boot q s : (dropOpen q s).boot = s.boot := by
  unfold dropOpen; repeat' first | rfl | split | simp
@[simp] theorem dropOpen_pwr q s : (dropOpen q s).pwr = s.pwr := by
  unfold dropOpen; repeat' first | rfl | split | simp
@[simp] theorem dropOpen_pcie q s : (dropOpen q s).pcie = s.pcie := by
  unfold dropOpen; repeat' first | rfl | split | simp
@[simp] theorem dropOpen_sess q s : (dropOpen q s).sess = s.sess := by
  unfold dropOpen; repeat' first | rfl | split | simp
@[simp] theorem dropOpen_evt q s : (dropOpen q s).evt = s.evt := by
  unfold dropOpen; repeat' first | rfl | split | simp
@[simp] theorem dropOpen_inp q s : (dropOpen q s).inp = s.inp := by
  unfold dropOpen; repeat' first | rfl | split | simp
@[simp] theorem dropOpen_cal q s : (dropOpen q s).cal = s.cal := by
  unfold dropOpen; repeat' first | rfl | split | simp
@[simp] theorem dropOpen_flt q s : (dropOpen q s).flt = s.flt := by
  unfold dropOpen; repeat' first | rfl | split | simp
@[simp] theorem dropOpen_trg q s : (dropOpen q s).trg = s.trg := by
  unfold dropOpen; repeat' first | rfl | split | simp
@[simp] theorem dropOpen_seg q s : (dropOpen q s).seg = s.seg := by
  unfold dropOpen; repeat' first | rfl | split | simp
@[simp] theorem dropOpen_edge q s : (dropOpen q s).edge = s.edge := by
  unfold dropOpen; repeat' first | rfl | split | simp
@[simp] theorem dropOpen_aux q s : (dropOpen q s).aux = s.aux := by
  unfold dropOpen; repeat' first | rfl | split | simp
@[simp] theorem dropOpen_mem q s : (dropOpen q s).mem = s.mem := by
  unfold dropOpen; repeat' first | rfl | split | simp
@[simp] theorem dropOpen_xfer q s : (dropOpen q s).xfer = s.xfer := by
  unfold dropOpen; repeat' first | rfl | split | simp
@[simp] theorem dropOpen_ham q s : (dropOpen q s).ham = s.ham := by
  unfold dropOpen; repeat' first | rfl | split | simp
@[simp] theorem dropOpen_dmx q s : (dropOpen q s).dmx = s.dmx := by
  unfold dropOpen; repeat' first | rfl | split | simp
@[simp] theorem dropOpen_eng q s : (dropOpen q s).eng = s.eng := by
  unfold dropOpen; repeat' first | rfl | split | simp
@[simp] theorem dropOpen_sync q s : (dropOpen q s).sync = s.sync := by
  unfold dropOpen; repeat' first | rfl | split | simp
@[simp] theorem dropOpen_jtag q s : (dropOpen q s).jtag = s.jtag := by
  unfold dropOpen; repeat' first | rfl | split | simp
@[simp] theorem dropOpen_sent q s : (dropOpen q s).sent = s.sent := by
  unfold dropOpen; repeat' first | rfl | split | simp
@[simp] theorem dropOpen_free q s : (dropOpen q s).free = s.free := by
  unfold dropOpen; repeat' first | rfl | split | simp
@[simp] theorem dropOpen_pending q s : (dropOpen q s).pending = s.pending := by
  unfold dropOpen; repeat' first | rfl | split | simp

@[simp] theorem dropSession_time n s : (dropSession n s).time = s.time := by
  unfold dropSession; repeat' first | rfl | split | simp
@[simp] theorem dropSession_clk n s : (dropSession n s).clk = s.clk := by
  unfold dropSession; repeat' first | rfl | split | simp
@[simp] theorem dropSession_boot n s : (dropSession n s).boot = s.boot := by
  unfold dropSession; repeat' first | rfl | split | simp
@[simp] theorem dropSession_pwr n s : (dropSession n s).pwr = s.pwr := by
  unfold dropSession; repeat' first | rfl | split | simp
@[simp] theorem dropSession_pcie n s : (dropSession n s).pcie = s.pcie := by
  unfold dropSession; repeat' first | rfl | split | simp
@[simp] theorem dropSession_evt n s : (dropSession n s).evt = s.evt := by
  unfold dropSession; repeat' first | rfl | split | simp
@[simp] theorem dropSession_prot n s : (dropSession n s).prot = s.prot := by
  unfold dropSession; repeat' first | rfl | split | simp
@[simp] theorem dropSession_inp n s : (dropSession n s).inp = s.inp := by
  unfold dropSession; repeat' first | rfl | split | simp
@[simp] theorem dropSession_cal n s : (dropSession n s).cal = s.cal := by
  unfold dropSession; repeat' first | rfl | split | simp
@[simp] theorem dropSession_flt n s : (dropSession n s).flt = s.flt := by
  unfold dropSession; repeat' first | rfl | split | simp
@[simp] theorem dropSession_trg n s : (dropSession n s).trg = s.trg := by
  unfold dropSession; repeat' first | rfl | split | simp
@[simp] theorem dropSession_seg n s : (dropSession n s).seg = s.seg := by
  unfold dropSession; repeat' first | rfl | split | simp
@[simp] theorem dropSession_edge n s : (dropSession n s).edge = s.edge := by
  unfold dropSession; repeat' first | rfl | split | simp
@[simp] theorem dropSession_aux n s : (dropSession n s).aux = s.aux := by
  unfold dropSession; repeat' first | rfl | split | simp
@[simp] theorem dropSession_mem n s : (dropSession n s).mem = s.mem := by
  unfold dropSession; repeat' first | rfl | split | simp
@[simp] theorem dropSession_xfer n s : (dropSession n s).xfer = s.xfer := by
  unfold dropSession; repeat' first | rfl | split | simp
@[simp] theorem dropSession_ham n s : (dropSession n s).ham = s.ham := by
  unfold dropSession; repeat' first | rfl | split | simp
@[simp] theorem dropSession_dmx n s : (dropSession n s).dmx = s.dmx := by
  unfold dropSession; repeat' first | rfl | split | simp
@[simp] theorem dropSession_eng n s : (dropSession n s).eng = s.eng := by
  unfold dropSession; repeat' first | rfl | split | simp
@[simp] theorem dropSession_sync n s : (dropSession n s).sync = s.sync := by
  unfold dropSession; repeat' first | rfl | split | simp
@[simp] theorem dropSession_jtag n s : (dropSession n s).jtag = s.jtag := by
  unfold dropSession; repeat' first | rfl | split | simp
@[simp] theorem dropSession_sent n s : (dropSession n s).sent = s.sent := by
  unfold dropSession; repeat' first | rfl | split | simp
@[simp] theorem dropSession_free n s : (dropSession n s).free = s.free := by
  unfold dropSession; repeat' first | rfl | split | simp
@[simp] theorem dropSession_pending n s : (dropSession n s).pending = s.pending := by
  unfold dropSession; repeat' first | rfl | split | simp

@[simp] theorem openSession_time n b v s : (openSession n b v s).time = s.time := by
  unfold openSession; repeat' first | rfl | split | simp
@[simp] theorem openSession_clk n b v s : (openSession n b v s).clk = s.clk := by
  unfold openSession; repeat' first | rfl | split | simp
@[simp] theorem openSession_prot n b v s : (openSession n b v s).prot = s.prot := by
  unfold openSession; repeat' first | rfl | split | simp
@[simp] theorem openSession_inp n b v s : (openSession n b v s).inp = s.inp := by
  unfold openSession; repeat' first | rfl | split | simp
@[simp] theorem openSession_cal n b v s : (openSession n b v s).cal = s.cal := by
  unfold openSession; repeat' first | rfl | split | simp
@[simp] theorem openSession_flt n b v s : (openSession n b v s).flt = s.flt := by
  unfold openSession; repeat' first | rfl | split | simp
@[simp] theorem openSession_trg n b v s : (openSession n b v s).trg = s.trg := by
  unfold openSession; repeat' first | rfl | split | simp
@[simp] theorem openSession_seg n b v s : (openSession n b v s).seg = s.seg := by
  unfold openSession; repeat' first | rfl | split | simp
@[simp] theorem openSession_edge n b v s : (openSession n b v s).edge = s.edge := by
  unfold openSession; repeat' first | rfl | split | simp
@[simp] theorem openSession_aux n b v s : (openSession n b v s).aux = s.aux := by
  unfold openSession; repeat' first | rfl | split | simp
@[simp] theorem openSession_mem n b v s : (openSession n b v s).mem = s.mem := by
  unfold openSession; repeat' first | rfl | split | simp
@[simp] theorem openSession_xfer n b v s : (openSession n b v s).xfer = s.xfer := by
  unfold openSession; repeat' first | rfl | split | simp
@[simp] theorem openSession_ham n b v s : (openSession n b v s).ham = s.ham := by
  unfold openSession; repeat' first | rfl | split | simp
@[simp] theorem openSession_dmx n b v s : (openSession n b v s).dmx = s.dmx := by
  unfold openSession; repeat' first | rfl | split | simp
@[simp] theorem openSession_eng n b v s : (openSession n b v s).eng = s.eng := by
  unfold openSession; repeat' first | rfl | split | simp
@[simp] theorem openSession_sync n b v s : (openSession n b v s).sync = s.sync := by
  unfold openSession; repeat' first | rfl | split | simp
@[simp] theorem openSession_jtag n b v s : (openSession n b v s).jtag = s.jtag := by
  unfold openSession; repeat' first | rfl | split | simp
@[simp] theorem openSession_free n b v s : (openSession n b v s).free = s.free := by
  unfold openSession; repeat' first | rfl | split | simp
@[simp] theorem openSession_pending n b v s : (openSession n b v s).pending = s.pending := by
  unfold openSession; repeat' first | rfl | split | simp
@[simp] theorem openSession_boot_st n b v s : (openSession n b v s).boot.st = s.boot.st := by
  unfold openSession; repeat' first | rfl | split | simp
@[simp] theorem openSession_boot_off n b v s : (openSession n b v s).boot.off = s.boot.off := by
  unfold openSession; repeat' first | rfl | split | simp
@[simp] theorem openSession_boot_downing n b v s : (openSession n b v s).boot.downing = s.boot.downing := by
  unfold openSession; repeat' first | rfl | split | simp
@[simp] theorem openSession_boot_nresetLow n b v s : (openSession n b v s).boot.nresetLow = s.boot.nresetLow := by
  unfold openSession; repeat' first | rfl | split | simp
@[simp] theorem openSession_pwr_mode n b v s : (openSession n b v s).pwr.mode = s.pwr.mode := by
  unfold openSession; repeat' first | rfl | split | simp
@[simp] theorem openSession_pwr_commanded n b v s : (openSession n b v s).pwr.commanded = s.pwr.commanded := by
  unfold openSession; repeat' first | rfl | split | simp
@[simp] theorem openSession_pwr_floor n b v s : (openSession n b v s).pwr.floor = s.pwr.floor := by
  unfold openSession; repeat' first | rfl | split | simp
@[simp] theorem openSession_pcie_linkUp n b v s : (openSession n b v s).pcie.linkUp = s.pcie.linkUp := by
  unfold openSession; repeat' first | rfl | split | simp
@[simp] theorem openSession_pcie_busMaster n b v s : (openSession n b v s).pcie.busMaster = s.pcie.busMaster := by
  unfold openSession; repeat' first | rfl | split | simp
@[simp] theorem openSession_pcie_unmasked n b v s : (openSession n b v s).pcie.unmasked = s.pcie.unmasked := by
  unfold openSession; repeat' first | rfl | split | simp
@[simp] theorem openSession_evt_carrying n b v s : (openSession n b v s).evt.carrying = s.evt.carrying := by
  unfold openSession; repeat' first | rfl | split | simp

@[simp] theorem closeSession_time n c s : (closeSession n c s).time = s.time := by
  unfold closeSession; repeat' first | rfl | split | simp
@[simp] theorem closeSession_clk n c s : (closeSession n c s).clk = s.clk := by
  unfold closeSession; repeat' first | rfl | split | simp
@[simp] theorem closeSession_prot n c s : (closeSession n c s).prot = s.prot := by
  unfold closeSession; repeat' first | rfl | split | simp
@[simp] theorem closeSession_inp n c s : (closeSession n c s).inp = s.inp := by
  unfold closeSession; repeat' first | rfl | split | simp
@[simp] theorem closeSession_cal n c s : (closeSession n c s).cal = s.cal := by
  unfold closeSession; repeat' first | rfl | split | simp
@[simp] theorem closeSession_flt n c s : (closeSession n c s).flt = s.flt := by
  unfold closeSession; repeat' first | rfl | split | simp
@[simp] theorem closeSession_trg n c s : (closeSession n c s).trg = s.trg := by
  unfold closeSession; repeat' first | rfl | split | simp
@[simp] theorem closeSession_seg n c s : (closeSession n c s).seg = s.seg := by
  unfold closeSession; repeat' first | rfl | split | simp
@[simp] theorem closeSession_edge n c s : (closeSession n c s).edge = s.edge := by
  unfold closeSession; repeat' first | rfl | split | simp
@[simp] theorem closeSession_aux n c s : (closeSession n c s).aux = s.aux := by
  unfold closeSession; repeat' first | rfl | split | simp
@[simp] theorem closeSession_mem n c s : (closeSession n c s).mem = s.mem := by
  unfold closeSession; repeat' first | rfl | split | simp
@[simp] theorem closeSession_xfer n c s : (closeSession n c s).xfer = s.xfer := by
  unfold closeSession; repeat' first | rfl | split | simp
@[simp] theorem closeSession_ham n c s : (closeSession n c s).ham = s.ham := by
  unfold closeSession; repeat' first | rfl | split | simp
@[simp] theorem closeSession_dmx n c s : (closeSession n c s).dmx = s.dmx := by
  unfold closeSession; repeat' first | rfl | split | simp
@[simp] theorem closeSession_eng n c s : (closeSession n c s).eng = s.eng := by
  unfold closeSession; repeat' first | rfl | split | simp
@[simp] theorem closeSession_sync n c s : (closeSession n c s).sync = s.sync := by
  unfold closeSession; repeat' first | rfl | split | simp
@[simp] theorem closeSession_jtag n c s : (closeSession n c s).jtag = s.jtag := by
  unfold closeSession; repeat' first | rfl | split | simp
@[simp] theorem closeSession_free n c s : (closeSession n c s).free = s.free := by
  unfold closeSession; repeat' first | rfl | split | simp
@[simp] theorem closeSession_pending n c s : (closeSession n c s).pending = s.pending := by
  unfold closeSession; repeat' first | rfl | split | simp
@[simp] theorem closeSession_boot_st n c s : (closeSession n c s).boot.st = s.boot.st := by
  unfold closeSession; repeat' first | rfl | split | simp
@[simp] theorem closeSession_boot_off n c s : (closeSession n c s).boot.off = s.boot.off := by
  unfold closeSession; repeat' first | rfl | split | simp
@[simp] theorem closeSession_boot_downing n c s : (closeSession n c s).boot.downing = s.boot.downing := by
  unfold closeSession; repeat' first | rfl | split | simp
@[simp] theorem closeSession_boot_nresetLow n c s : (closeSession n c s).boot.nresetLow = s.boot.nresetLow := by
  unfold closeSession; repeat' first | rfl | split | simp
@[simp] theorem closeSession_pwr_mode n c s : (closeSession n c s).pwr.mode = s.pwr.mode := by
  unfold closeSession; repeat' first | rfl | split | simp
@[simp] theorem closeSession_pwr_commanded n c s : (closeSession n c s).pwr.commanded = s.pwr.commanded := by
  unfold closeSession; repeat' first | rfl | split | simp
@[simp] theorem closeSession_pwr_floor n c s : (closeSession n c s).pwr.floor = s.pwr.floor := by
  unfold closeSession; repeat' first | rfl | split | simp
@[simp] theorem closeSession_pcie_linkUp n c s : (closeSession n c s).pcie.linkUp = s.pcie.linkUp := by
  unfold closeSession; repeat' first | rfl | split | simp
@[simp] theorem closeSession_pcie_busMaster n c s : (closeSession n c s).pcie.busMaster = s.pcie.busMaster := by
  unfold closeSession; repeat' first | rfl | split | simp
@[simp] theorem closeSession_pcie_unmasked n c s : (closeSession n c s).pcie.unmasked = s.pcie.unmasked := by
  unfold closeSession; repeat' first | rfl | split | simp
@[simp] theorem closeSession_evt_carrying n c s : (closeSession n c s).evt.carrying = s.evt.carrying := by
  unfold closeSession; repeat' first | rfl | split | simp

@[simp] theorem closeAfterReply_time n s : (closeAfterReply n s).time = s.time := by
  unfold closeAfterReply; repeat' first | rfl | split | simp
@[simp] theorem closeAfterReply_clk n s : (closeAfterReply n s).clk = s.clk := by
  unfold closeAfterReply; repeat' first | rfl | split | simp
@[simp] theorem closeAfterReply_prot n s : (closeAfterReply n s).prot = s.prot := by
  unfold closeAfterReply; repeat' first | rfl | split | simp
@[simp] theorem closeAfterReply_inp n s : (closeAfterReply n s).inp = s.inp := by
  unfold closeAfterReply; repeat' first | rfl | split | simp
@[simp] theorem closeAfterReply_cal n s : (closeAfterReply n s).cal = s.cal := by
  unfold closeAfterReply; repeat' first | rfl | split | simp
@[simp] theorem closeAfterReply_flt n s : (closeAfterReply n s).flt = s.flt := by
  unfold closeAfterReply; repeat' first | rfl | split | simp
@[simp] theorem closeAfterReply_trg n s : (closeAfterReply n s).trg = s.trg := by
  unfold closeAfterReply; repeat' first | rfl | split | simp
@[simp] theorem closeAfterReply_seg n s : (closeAfterReply n s).seg = s.seg := by
  unfold closeAfterReply; repeat' first | rfl | split | simp
@[simp] theorem closeAfterReply_edge n s : (closeAfterReply n s).edge = s.edge := by
  unfold closeAfterReply; repeat' first | rfl | split | simp
@[simp] theorem closeAfterReply_aux n s : (closeAfterReply n s).aux = s.aux := by
  unfold closeAfterReply; repeat' first | rfl | split | simp
@[simp] theorem closeAfterReply_mem n s : (closeAfterReply n s).mem = s.mem := by
  unfold closeAfterReply; repeat' first | rfl | split | simp
@[simp] theorem closeAfterReply_xfer n s : (closeAfterReply n s).xfer = s.xfer := by
  unfold closeAfterReply; repeat' first | rfl | split | simp
@[simp] theorem closeAfterReply_ham n s : (closeAfterReply n s).ham = s.ham := by
  unfold closeAfterReply; repeat' first | rfl | split | simp
@[simp] theorem closeAfterReply_dmx n s : (closeAfterReply n s).dmx = s.dmx := by
  unfold closeAfterReply; repeat' first | rfl | split | simp
@[simp] theorem closeAfterReply_eng n s : (closeAfterReply n s).eng = s.eng := by
  unfold closeAfterReply; repeat' first | rfl | split | simp
@[simp] theorem closeAfterReply_sync n s : (closeAfterReply n s).sync = s.sync := by
  unfold closeAfterReply; repeat' first | rfl | split | simp
@[simp] theorem closeAfterReply_jtag n s : (closeAfterReply n s).jtag = s.jtag := by
  unfold closeAfterReply; repeat' first | rfl | split | simp
@[simp] theorem closeAfterReply_free n s : (closeAfterReply n s).free = s.free := by
  unfold closeAfterReply; repeat' first | rfl | split | simp
@[simp] theorem closeAfterReply_pending n s : (closeAfterReply n s).pending = s.pending := by
  unfold closeAfterReply; repeat' first | rfl | split | simp
@[simp] theorem closeAfterReply_boot_st n s : (closeAfterReply n s).boot.st = s.boot.st := by
  unfold closeAfterReply; repeat' first | rfl | split | simp
@[simp] theorem closeAfterReply_boot_off n s : (closeAfterReply n s).boot.off = s.boot.off := by
  unfold closeAfterReply; repeat' first | rfl | split | simp
@[simp] theorem closeAfterReply_boot_downing n s : (closeAfterReply n s).boot.downing = s.boot.downing := by
  unfold closeAfterReply; repeat' first | rfl | split | simp
@[simp] theorem closeAfterReply_boot_nresetLow n s : (closeAfterReply n s).boot.nresetLow = s.boot.nresetLow := by
  unfold closeAfterReply; repeat' first | rfl | split | simp
@[simp] theorem closeAfterReply_pwr_mode n s : (closeAfterReply n s).pwr.mode = s.pwr.mode := by
  unfold closeAfterReply; repeat' first | rfl | split | simp
@[simp] theorem closeAfterReply_pwr_commanded n s : (closeAfterReply n s).pwr.commanded = s.pwr.commanded := by
  unfold closeAfterReply; repeat' first | rfl | split | simp
@[simp] theorem closeAfterReply_pwr_floor n s : (closeAfterReply n s).pwr.floor = s.pwr.floor := by
  unfold closeAfterReply; repeat' first | rfl | split | simp
@[simp] theorem closeAfterReply_pcie_linkUp n s : (closeAfterReply n s).pcie.linkUp = s.pcie.linkUp := by
  unfold closeAfterReply; repeat' first | rfl | split | simp
@[simp] theorem closeAfterReply_pcie_busMaster n s : (closeAfterReply n s).pcie.busMaster = s.pcie.busMaster := by
  unfold closeAfterReply; repeat' first | rfl | split | simp
@[simp] theorem closeAfterReply_pcie_unmasked n s : (closeAfterReply n s).pcie.unmasked = s.pcie.unmasked := by
  unfold closeAfterReply; repeat' first | rfl | split | simp
@[simp] theorem closeAfterReply_evt_carrying n s : (closeAfterReply n s).evt.carrying = s.evt.carrying := by
  unfold closeAfterReply; repeat' first | rfl | split | simp

end Sys2Proof.Machine
end

