-- ==== Sys2Proof/Tests/Slice0.lean ====
section
/-! SUPPORT. Tests: the well-formedness smoke, and for every statement a state and operands that meet its hypotheses. -/

namespace Sys2Proof.Machine
set_option Elab.async false

/-- A module in Idle with everything running, whose session 0 is open under generation 1. -/
def live : State :=
  { State.reset with
    boot := { st := 4, pinLow := false, memReady := true, initMemory := false }
    clk := { State.reset.clk with loops := List.replicate 4 { st := .locked } }
    time := { gridOn := true }
    cal := { done := true }
    inp := { running := true }
    mem := { selfRefresh := false }
    pcie := { linkUp := true, busMaster := true }
    evt := { boots := 1 }
    sess := { st := .idle, gen := 1 } :: List.replicate 31 {} }

/-- A request of session 0 with this payload. -/
def ask (payload : List Byte) : Request :=
  { time := 1000, length := 32 + payload.length, tag := 7, gen := 1, payload := payload }

/-- Each of these requests is accepted where it is asked. -/
def allAccepted (l : List (Cmd × Request × State)) : Bool := l.all fun x => accepts x.1 x.2.1 x.2.2

/-! The well-formedness smoke: for each check a command that fails this check alone. -/

def allIllFormed (l : List Instr) : Bool := l.all fun i => !i.wf

theorem test_wf_header_fields : allIllFormed ([
    { sess := 32 }, { length := 65536 }, { tag := 65536 }, { hsess := 256 }, { resv := 2 ^ 184 }, { gen := 65536 },
    { peerIp := 2 ^ 32 }, { peerPort := 65536 }, { payload := List.replicate 4065 0 }].map .sysGetIdentity) = true := by decide +kernel

theorem test_wf_open : allIllFormed ([
    { length := 65536 }, { tag := 65536 }, { hsess := 256 }, { resv := 2 ^ 184 }, { gen := 65536 }, { peerIp := 2 ^ 32 },
    { peerPort := 65536 }, { payload := List.replicate 4065 0 }].map .sysOpenSession) = true := by decide +kernel

theorem test_wf_requests_a : allIllFormed (([
    .sysCloseSession, .sysGetIdentity, .sysGetFabric, .sysSetMarginFloor, .sysSetVcoreMode, .sysGetPower, .sysSetNetwork,
    .sysClearFlags, .sysRestart, .sysResetSubsystem, .sysSetPowerState, .clkGetStatus, .clkGetOutput, .clkSetOutput,
    .clkSetReference, .clkSetTimeSource, .clkSetTime, .clkGetPps, .clkStepPhase, .clkSetRamp, .clkSetCoreRate,
    .clkSetCeiling, .inpSetEnable, .inpSetPair, .inpGetStatus, .calRunForeground, .calSetSchedule, .calGetQuality,
    .calSaveImage, .calReadImage, .calWriteImage, .calRestoreImage, .fltConfigureChain, .fltLoadFir, .fltSetInput, .fltStart,
    .fltStop, .fltSync, .fltGetStatus, .trigSetComparator, .trigSetCondition, .trigSetPattern, .trigSetGroup, .trigSetBus,
    .trigSetMarker, .trigForce, .trigGetStatus, .edgeSetInput, .edgeSetGate, .edgeSetAngle, .edgeReadStamps, .edgeGetResults,
    .segConfigure, .segArm, .segStop, .segGetStatus, .hamConfigure, .hamRelease, .hamStart, .hamStop, .hamSpill,
    .hamGetStatus, .dmxSetPort, .dmxEnumerate, .dmxEnrol] : List (Request → Instr)).map fun f => f { sess := 32 }) = true := by decide +kernel

theorem test_wf_requests_b : allIllFormed (([
    .dmxRemoveHead, .dmxSetHead, .dmxHeadParam, .dmxSetRoute, .dmxSetAlarmGroup, .dmxRejoin, .dmxGetStatus, .dmxGetHeads,
    .engGetCatalogue, .engCreateJob, .engStartJob, .engStopJob, .engDeleteJob, .engGetStatus, .engGetJob, .phConfigure,
    .phSetPolicy, .phSetDrain, .phFlush, .phRelease, .phRead, .phBindEdge, .phGetStatus, .phRingConfigure, .phRingStart,
    .phRingStop, .phRingStatus, .phStreamConfigure, .phStreamStatus, .ptpConfigure, .ptpGetStatus, .pcieSetClocking,
    .memSetRate, .memRetireRank, .memRemap, .memGetStatus, .syncConfigure, .syncCalibrateDelay, .syncCheck, .syncLock,
    .syncResetDomain, .syncGetStatus, .evtGetStatus, .evtRead, .evtSetCopy, .evtClearRing, .keyEnrol, .keyRemove, .keyList,
    .protPropose, .protCountersign, .protSetProtected, .protGetProtected, .fwWrite, .fwCommit, .auxSetSequence, .auxInject,
    .auxSetCapture, .auxGetCapture, .auxGetMonitors] : List (Request → Instr)).map fun f => f { sess := 32 }) = true := by decide +kernel

def badWrites : List RegWrite := [
  .bar0 0x3FFFF [0, 0] [true, true], .bar0 0 [0] [], .smbus 256 0 [] true, .smbus 0 65536 [] true,
  .smbus 0 0 (List.replicate 241 0) true]

theorem test_wf_register_writes : allIllFormed (badWrites.map (.registerWrite 0)) = true := by decide +kernel

theorem test_wf_events_a : allIllFormed [
    .mbxDoorbellSubmit 0 24 0, .mbxDoorbellSubmit 0 0 (2 ^ 32),
    .mbxDoorbellOpen 0 24 false 0 0, .mbxDoorbellOpen 0 0 false 4096 0, .mbxDoorbellOpen 0 0 false 0 (2 ^ 32),
    .mbxDoorbellClose 0 24 0, .mbxDoorbellClose 0 0 (2 ^ 32), .msixUnmask 0 2048, .bar2Read 0 0 0 [],
    .sessionDatagram 0 2 0 {}, .sessionDatagram 0 0 65536 {}, .sessionDatagram 0 0 0 { sess := 32 },
    .reassemblyTimeout 0 65536, .sessionTimeout 0 23, .sessionTimeout 0 30, .arpRequest 0 2 0 0 0,
    .arpRequest 0 0 (2 ^ 32) 0 0, .arpRequest 0 0 0 (2 ^ 32) 0, .arpRequest 0 0 0 0 (2 ^ 48), .icmpEchoRequest 0 2 0 0 [],
    .icmpEchoRequest 0 0 (2 ^ 32) 0 [], .icmpEchoRequest 0 0 0 (2 ^ 32) [], .nresetRise 0 8 false,
    .imageCheckDone 0 .pass (List.replicate 31 0), .calStartupStep 0 1 [], .calStartupStep 0 6 [],
    .calStartupStep 0 2 [{ core := 24 }], .sourceAbsent 0 0, .sourceAbsent 0 3, .sourcePresent 0 0 0, .sourcePresent 0 3 0,
    .refSwitched 0 4, .clockLockLost 0 4 0, .clockRelocked 0 4 0, .clkRampSegmentEnd 0 4,
    .frameDeposit 0 (List.replicate 9 default), .laneLiftsFrame 0 8, .overdriveDetected 0 8 false 0 0 false,
    .rotationShadowStart 0 24, .rotationTrim 0 { core := 24 }, .coreReady 0 24, .seamStart 0 8, .seamTest 0 8 [],
    .seamDone 0 8, .seamRetry 0 8, .temperatureReading 0 8 0, .calMaxInterval 0 8, .calForegroundDone 0 [{ core := 24 }],
    .inputCalibrationDone 0 [{ core := 24 }], .triggerClassified 0 4, .fillEnd 0 4, .reArmEnd 0 4, .preFillEnd 0 4,
    .holdoffEnd 0 4, .sequenceWindowClose 0 4, .triginEdge 0 4 false 0, .markerEdge 0 4, .tachEdge 0 8 false ⟨0, 0, 0⟩] = true := by decide +kernel

theorem test_wf_events_b : allIllFormed [
    .tachSettingTakesEffect 0 8, .interpolatorRefresh 0 9 0 0 0, .interpolatorRefresh 0 0 2 0 0,
    .linearityTableBuilt 0 9 0 [], .linearityTableBuilt 0 0 2 [], .linearityTableBuilt 0 0 0 (List.replicate 255 default),
    .tdcTableStale 0 9 0, .tdcTableStale 0 0 2, .gateStart 0 8, .gateEnd 0 8, .armFrame 0 4, .armHoldTimeout 0 4,
    .groupDisarm 0 4, .postmarkFill 0 4, .strandWritten 0 4 0, .strandWritten 0 0 8, .postmarkWritten 0 4,
    .hamperClearingEnd 0 64, .segmentCombined 0 64, .roundStart 0 16, .slotWindowEnd 0 16 0, .slotWindowEnd 0 0 256,
    .damuxSlotReceived 0 16 0 0 ⟨0, 0, 0, 0, 0, [], 0, 0, 0, true, true⟩, .discoveryReply 0 16 false 0 {} false, .beaconReturned 0 16, .rediscovery 0 16,
    .portTrainingEnd 0 16 false false, .portTrainingRetry 0 16, .damuxLaneSignalLost 0 16 false, .damuxBreakRepaired 0 16,
    .blockRelease 0 16384, .chunkArrival 0 16384, .taskComplete 0 128, .engineAbort 0 128 0, .engineFault 0 128,
    .blockedWriterResumes 0 1048576, .entryCommitted 0 1048576, .hostRingDelivery 0 4096,
    .consumerReadCompletion 0 4096 false 0, .consumerReadTimeout 0 4096, .coalescingTime 0 4096, .stampBatchClose 0 8,
    .streamDatagramSent 0 256, .pauseFrame 0 2 0, .pauseFrame 0 0 65536, .ethernetLinkDown 0 2, .ethernetLinkUp 0 2,
    .ptpMessageReceived 0 2 (.announce 0 0), .refresh 0 24 0, .refresh 0 0 32, .memPrivilegedError 0 0 0 1048576,
    .extraTrainingStep 0 24, .conversionDone 0 65536, .probeReceived 0 256 0 0 false, .msixMask 0 2048,
    .unallocatedOpcodeRequest 65536 {}, .unallocatedOpcodeRequest 0 { sess := 32 }, .ipv4FragmentReceived 0 2 0 0 0 false [],
    .ipv4FragmentReceived 0 0 65536 0 0 false [], .ipv4FragmentReceived 0 0 0 (2 ^ 32) 0 false []] = true := by decide +kernel

theorem test_wf_events_c : allIllFormed [
    .ipv4FragmentReceived 0 0 0 0 8192 false [], .pauseTimeExpiry 0 2, .consumerWordReread 0 4096] = true := by decide +kernel

/-- Commands at the top of what is well formed. -/
theorem test_wf_accepts : [
    Instr.sysGetIdentity { sess := 31, length := 65535, tag := 65535, gen := 65535, payload := List.replicate 4064 0 },
    .sysOpenSession { sess := 255 }, .mbxDoorbellSubmit 0 23 0, .mbxDoorbellSubmit 0 31 0,
    .registerWrite 0 (.bar0 0x3FFFC [1, 2, 3, 4] [true, true, true, true]), .coreReady 0 23, .sessionTimeout 0 29,
    .interpolatorRefresh 0 8 1 0 0].all Instr.wf = true := by decide +kernel

/-- Ed25519 on the first test vector of RFC 8032, section 7.1 (an empty message), and with one bit of the message changed. -/
def rfcKey : List Byte := be 32 0xd75a980182b10ab7d54bfed3c964073a0ee172f3daa62325af021a68f707511a
def rfcSig : List Byte :=
  be 64 0xe5564300c360ac729086e2cc806e828a84877f1eb8e5d974d873e065224901555fb8821590a33bacc61e39701cf9b46bd25bf5f0595bbe24655141438e7a100b

theorem test_ed25519_accepts : ed25519 rfcKey [] rfcSig = true := by decide +kernel
theorem test_ed25519_refuses : ed25519 rfcKey [0] rfcSig = false := by decide +kernel

theorem test_reset_inv : Inv State.reset := by
  refine ⟨?_, rfl⟩
  simp [Sized, State.reset]

theorem test_live_sized : Sized live := by simp [Sized, live, State.reset]

/-- The command answers a next state, and it has this property. -/
def after (i : Instr) (s : State) (p : State → Bool) : Bool :=
  match exec i s with
  | .next t => p t
  | _ => false

/-- The reply in session 0: its status and its payload. -/
def State.answer (t : State) : Nat × List Byte :=
  let r := (t.session 0).reply
  (field r 6 2, slice r 32 (field r 2 2 - 32))

/-- An open from a host at an address. -/
def askOpen : Request := { time := 1000, sess := 255, length := 32, tag := 9, hsess := 255, peerIp := 0x0A000001, peerPort := 4000 }

/-- Port 1 has a link and an address. -/
def reachable : State :=
  { live with
    prot := { live.prot with net := updAt live.prot.net 1 fun x => { x with ip := 0x0A000002 } }
    xfer := { live.xfer with links := updAt live.xfer.links 1 fun x => { x with up := true } } }

theorem wit_SessionsOpenAndClose : (advance 1000 reachable).serves = true ∧ (advance 1000 reachable).canTake = true ∧
    (advance 1000 reachable).openPort askOpen = some 1 ∧
    headerChecks 0x0001 (lenIs 32) (askOpen.hsess = 0xFF ∧ askOpen.gen = 0) askOpen (dropOpen askOpen (advance 1000 reachable)) = none ∧
    reachable.freeSession = some 24 ∧ after (.sysOpenSession askOpen) reachable (fun t => (t.session 24).peerEth = 1) = true ∧ allAccepted [(sysCloseSessionCmd, ask [], live)] = true := by decide +kernel

theorem wit_SystemSettings : allAccepted [
    (sysSetMarginFloorCmd, ask (u16 1020 ++ zeros 6), live),
    (sysSetVcoreModeCmd, ask (u8 1 ++ u8 0x40 ++ u16 790 ++ zeros 4), live),
    (sysSetNetworkCmd, ask (u8 1 ++ u8 32 ++ zeros 2 ++ be 4 0x0A000002 ++ be 4 0x0A000001 ++ u16 5180 ++ u16 3600
      ++ be 6 0x020000000001 ++ zeros 10), live),
    (sysClearFlagsCmd, ask (u8 3 ++ zeros 7), live)] = true := by decide +kernel

theorem wit_PowerRequests : allAccepted [(sysRestartCmd, ask (zeros 8), live)] = true ∧
    after (.sysRestart (ask (zeros 8))) live (fun t => t.boot.st = 0 ∧ t.boot.cause = 2 ∧ (t.session 0).st = .closed) = true := by
  decide +kernel

theorem wit_PowerRequests_subsystem : allAccepted [
    (sysResetSubsystemCmd, ask (zeros 8), live),
    (sysResetSubsystemCmd, ask (u8 1 ++ u8 15 ++ zeros 6), live),
    (sysResetSubsystemCmd, ask (u8 2 ++ zeros 7), { live with mem := { live.mem with rate := 2 } }),
    (sysResetSubsystemCmd, ask (u8 3 ++ zeros 7), { live with eng := { jobs := [(3, {})] } })] = true ∧
    live.owedInputs = [] ∧
    after (.sysResetSubsystem (ask (zeros 8))) live (fun t => (t.sg 3).config = {} ∧ (t.trg.comparators.map (·.waits.length)) = List.replicate 16 1 ∧ t.answer = (OK, [])) = true ∧
    after (.sysResetSubsystem (ask (u8 1 ++ u8 15 ++ zeros 6))) live (fun t => (t.port 15).st = .down) = true ∧
    after (.sysResetSubsystem (ask (u8 2 ++ zeros 7))) { live with mem := { live.mem with rate := 2 } }
      (fun t => t.mem.rate = 0) = true ∧
    after (.sysResetSubsystem (ask (u8 3 ++ zeros 7))) { live with eng := { jobs := [(3, {})] } }
      (fun t => t.eng.jobs = []) = true := by decide +kernel

/-- The module in Standby. -/
def asleep : State := { live with boot := { live.boot with st := 5 } }
/-- The module on its way into Standby. -/
def entering : State := { live with boot := { live.boot with transition := some (false, 0, none) } }

theorem wit_PowerRequests_state : allAccepted [
    (sysSetPowerStateCmd, ask (zeros 8), live), (sysSetPowerStateCmd, ask (zeros 8), asleep),
    (sysSetPowerStateCmd, ask (u8 1 ++ zeros 7), live), (sysSetPowerStateCmd, ask (u8 1 ++ zeros 7), asleep),
    (sysSetPowerStateCmd, ask (u8 2 ++ u8 1 ++ zeros 6), live), (sysSetPowerStateCmd, ask (zeros 8), entering)] = true ∧
    after (.sysSetPowerState (ask (zeros 8))) asleep (fun t => (t.boot.transition.map (·.1)) = some true) = true ∧
    after (.sysSetPowerState (ask (u8 1 ++ zeros 7))) live (fun t => (t.boot.transition.map (·.1)) = some false) = true ∧
    after (.sysSetPowerState (ask (u8 2 ++ u8 1 ++ zeros 6))) live (fun t => t.boot.deepAfter = some true) = true ∧
    after (.sysSetPowerState (ask (zeros 8))) entering (fun t => t.boot.queued.length = 1) = true := by decide +kernel

theorem wit_SystemReads : allAccepted [(sysGetIdentityCmd, ask [], live), (sysGetFabricCmd, ask [], live),
    (sysGetPowerCmd, ask [], live), (clkGetStatusCmd, ask [], live), (clkGetOutputCmd, ask [], live),
    (clkGetPpsCmd, ask [], live)] = true ∧
    after (.sysGetFabric (ask [])) live (fun t => t.answer.1 = OK ∧ t.answer.2.length = 152
      ∧ slice t.answer.2 144 8 = u32 0 ++ u16 1100 ++ zeros 2) = true ∧
    after (.sysGetPower (ask [])) live (fun t => t.answer = (OK, zeros 2 ++ u16 750 ++ u16 750 ++ zeros 18)) = true ∧
    after (.clkGetOutput (ask [])) live (fun t => slice t.answer.2 0 12 = u32 0x08000001 ++ u32 0x08000020 ++ u32 0x80) = true ∧
    after (.clkGetPps (ask [])) live (fun t => t.answer = (OK, zeros 264)) = true := by decide +kernel

theorem wit_ClockSettings : allAccepted [
    (clkSetOutputCmd, ask (u8 0 ++ zeros 3 ++ u32 0x08020001), live),
    (clkSetReferenceCmd, ask (u8 3 ++ u8 0 ++ u8 1 ++ u8 1 ++ zeros 4), live),
    (clkSetTimeSourceCmd, ask (u8 2 ++ u8 1 ++ zeros 6), live),
    (clkSetTimeCmd, ask (zeros 8 ++ u64 1000), live), (clkSetTimeCmd, ask (zeros 8 ++ u64 (10 ^ 18)), live),
    (clkSetTimeCmd, ask (u8 1 ++ zeros 7 ++ u64 (10 ^ 18)), { live with time := { live.time with source := 1 } }),
    (clkStepPhaseCmd, ask (zeros 2 ++ i16 (-5) ++ zeros 4), live),
    (clkSetRampCmd, ask (zeros 8), live),
    (clkSetRampCmd, ask (u8 0 ++ u8 1 ++ u8 1 ++ zeros 5 ++ i32 (-1000) ++ u32 100 ++ u8 1 ++ zeros 7), live),
    (clkSetRampCmd, ask (u8 3 ++ zeros 7), live),
    (clkSetCoreRateCmd, ask (u16 12800 ++ u8 1 ++ zeros 5), live), (clkSetCoreRateCmd, ask (u16 8000 ++ u8 100 ++ zeros 5), live),
    (clkSetCeilingCmd, ask (u16 12990 ++ zeros 6), live)] = true := by decide +kernel

theorem test_ClockSettings :
    after (.clkSetOutput (ask (u8 0 ++ zeros 3 ++ u32 0x08020001))) live (fun t => t.clk.outputs.head? = some 0x08020001#32) = true ∧
    after (.clkSetReference (ask (u8 3 ++ u8 0 ++ u8 1 ++ u8 1 ++ zeros 4))) live (fun t => t.answer = (OK, zeros 8)
      ∧ (t.loop 3).fallBack ∧ t.clk.refin100) = true ∧
    after (.clkSetTimeSource (ask (u8 2 ++ u8 1 ++ zeros 6))) live (fun t => t.time.source = 2 ∧ t.time.port = 1) = true ∧
    after (.clkSetTime (ask (zeros 8 ++ u64 (10 ^ 18)))) live (fun t => t.now = 10 ^ 18 ∧ t.time.epoch = 1) = true ∧
    after (.clkStepPhase (ask (zeros 2 ++ i16 (-5) ++ zeros 4))) live (fun t => (t.clk.step.map (·.2.1)) = some (-5)) = true ∧
    after (.clkSetRamp (ask (u8 0 ++ u8 1 ++ u8 1 ++ zeros 5 ++ i32 (-1000) ++ u32 100 ++ u8 1 ++ zeros 7))) live (fun t =>
      t.clk.smpRamp.segments = [{ slope := -1000, duration := 100, last := true, repeats := false }] ∧ t.clk.smpRamp.running) = true ∧
    after (.clkSetCoreRate (ask (u16 8000 ++ u8 100 ++ zeros 5))) live (fun t => t.clk.core = 8000 ∧ (t.loop 0).st = .ramping) = true ∧
    after (.clkSetCeiling (ask (u16 12990 ++ zeros 6))) live (fun t => t.clk.ceiling = 12990) = true := by decide +kernel

/-- Loop 3 coasts on REFIN, which is absent, and falls back. -/
def coasts : State := updLoop 3 (fun x => { x with source := 1, fallBack := true, st := .coasting, cause := 1 }) live
/-- The sample loop ramps towards another rate. -/
def ramps : State :=
  updLoop 0 (fun x => { x with st := .ramping }) { live with clk := { live.clk with change := some { old := 12800, slew := 10, accepted := 0 } } }
/-- The ramp is over, and the loop has not locked yet. -/
def settles : State :=
  { ramps with clk := { ramps.clk with change := some { old := 12800, slew := 10, accepted := 0, ramping := false } } }
/-- A ramp of two segments runs on the sample and on the link loop. -/
def sweeps : State :=
  let r : Ramp := { segments := [{ slope := 1, duration := 1, last := false, repeats := false }, { slope := 1, duration := 1, last := true, repeats := false }]
                    running := true }
  { live with clk := { live.clk with smpRamp := r, lnkRamp := { r with current := 1 } } }

theorem wit_LoopEvents :
    ((live.loop 3).st ≠ .gated ∧ (coasts.loop 3).st = .coasting ∧ (coasts.loop 3).fallBack = true ∧ (coasts.loop 3).source = 1 ∧
      coasts.sourceOffset 1 = none ∧ (coasts.loop 3).cause = 1) ∧
    ((setSource 1 (some 5) true live).sourceOffset 1).isSome = true ∧ coasts.sourcePresent 1 = false ∧ sweeps.clk.smpRamp.running = true ∧
    sweeps.clk.lnkRamp.running = true ∧ (ramps.clk.change.isSome ∧ (ramps.loop 0).st = .ramping ∧ (settles.loop 0).st = .ramping) ∧
    (advance 0 { live with time := { live.time with source := 1 } }).ppsPresent = false := by decide +kernel

theorem test_LoopEvents :
    after (.clockLockLost 5 3 (-7)) live (fun t => (t.loop 3).st = .coasting ∧ (t.loop 3).frozen = -7 ∧ t.pwr.alert = [.loop 3]) = true ∧
    after (.clockRelocked 5 3 0) coasts (fun t => (t.loop 3).st = .locked) = true ∧
    after (.refSwitched 5 3) coasts (fun t => (t.loop 3).source = 0 ∧ (t.loop 3).fellFrom = 1) = true ∧
    after (.sourceAbsent 5 1) (setSource 1 (some 5) true (updLoop 3 (fun x => { x with source := 1 }) live)) (fun t =>
      t.clk.refin = none ∧ (t.loop 3).st = .coasting) = true ∧
    after (.sourcePresent 5 1 9) coasts (fun t => t.clk.refin = some 9 ∧ t.clk.refinPresent ∧ (t.loop 3).st = .relocking) = true ∧
    after (.sourcePresent 5 1 (-50001)) coasts (fun t => t.clk.refin = some (-50001) ∧ ! t.clk.refinPresent ∧ (t.loop 3).st = .coasting) = true ∧
    after (.clkRampSegmentEnd 5 0) sweeps (fun t => t.clk.smpRamp.current = 1) = true ∧
    after (.clkRampSegmentEnd 5 3) sweeps (fun t => t.clk.lnkRamp.running = false) = true ∧
    after (.coreRateRampEnd 5) ramps (fun t => (t.clk.change.map (·.ramping)) = some false) = true ∧
    after (.clockRateChanged 5) settles (fun t => t.clk.change = none ∧ (t.loop 0).st = .locked ∧ t.cal.generation = 1) = true ∧
    after (.coreRateLockTimeout 5) settles (fun t => t.clk.change = none ∧ (t.loop 0).st = .coasting) = true ∧
    after (.phaseStepDone 5) { live with clk := { live.clk with step := some (1, 9, default) } } (fun t => t.clk.phase = [0, 9]) = true ∧
    after (.ppsLost 5) { live with time := { live.time with source := 1 } } (fun t => t.time.ppsLost) = true := by decide +kernel

/-- Input 5 is off. -/
def dark : State := updInput 5 (fun x => { x with enabled := false }) live

theorem wit_InputRequests : allAccepted [(inpSetEnableCmd, ask (u8 7 ++ u8 1 ++ zeros 6), live),
    (inpSetEnableCmd, ask (u8 7 ++ u8 0 ++ zeros 6), live), (inpSetEnableCmd, ask (u8 5 ++ u8 1 ++ zeros 6), dark),
    (inpSetPairCmd, ask (u8 3 ++ u8 0 ++ zeros 6), live), (inpSetPairCmd, ask (u8 3 ++ u8 1 ++ zeros 6), live),
    (inpGetStatusCmd, ask [], live)] = true ∧
    after (.inpSetEnable (ask (u8 7 ++ u8 0 ++ zeros 6))) live (fun t => (t.input 7).enabled = false ∧ t.answer = (OK, [])) = true ∧
    after (.inpSetEnable (ask (u8 5 ++ u8 1 ++ zeros 6))) dark (fun t => (t.input 5).enabled
      ∧ t.cal.foregrounds.map (·.inputs) = [[5]]) = true ∧
    after (.inpSetPair (ask (u8 3 ++ u8 1 ++ zeros 6))) live (fun t => t.ganged 7 ∧ t.cal.foregrounds.map (·.inputs) = [[6, 7]]) = true ∧
    after (.inpGetStatus (ask [])) live (fun t => t.answer.1 = OK ∧ t.answer.2.length = 256) = true := by decide +kernel

theorem wit_CalibrationRequests : allAccepted [(calRunForegroundCmd, ask (u8 7 ++ zeros 7), live),
    (calSetScheduleCmd, ask (u8 1 ++ u8 0 ++ u16 100 ++ u32 60), live), (calGetQualityCmd, ask (u8 3 ++ zeros 7), live),
    (calSaveImageCmd, ask [], live), (calReadImageCmd, ask (u16 11743 ++ u16 1 ++ zeros 4), live),
    (calWriteImageCmd, ask (u16 11742 ++ u16 2 ++ zeros 4 ++ [1, 2]), live)] = true ∧
    after (.calRunForeground (ask (u8 7 ++ zeros 7))) live (fun t => t.cal.foregrounds.map (·.inputs) = [[7]]) = true ∧
    after (.calSetSchedule (ask (u8 1 ++ u8 0 ++ u16 100 ++ u32 60))) live (fun t => t.cal.maxInterval = 60 ∧ t.calPath 7 = 1) = true ∧
    after (.calGetQuality (ask (u8 3 ++ zeros 7))) live (fun t => slice t.answer.2 0 16 = zeros 2 ++ u8 3 ++ zeros 1 ++ u16 20
      ++ zeros 2 ++ u32 3600 ++ zeros 4) = true ∧
    after (.calSaveImage (ask [])) live (fun t => field (t.session 0).reply 0x20 4 = 11744) = true ∧
    after (.calReadImage (ask (u16 1 ++ u16 2 ++ zeros 4))) (updSession 0 (fun x => { x with image := [9, 8, 7] }) live)
      (fun t => t.answer = (OK, [8, 7])) = true ∧
    after (.calWriteImage (ask (u16 1 ++ u16 2 ++ zeros 4 ++ [1, 2]))) live
      (fun t => (t.session 0).image = [0, 1, 2]) = true := by decide +kernel

/-- An image of this module without its digest. -/
def imageBody : List Byte :=
  u32 0x49435250 ++ u16 1 ++ u8 0 ++ u8 1 ++ u64 Config.serial.toNat ++ u32 11744 ++ zeros 2 ++ u16 4 ++ u32 12800 ++ zeros 36
    ++ u16 1 ++ zeros 2 ++ u32 2312
    ++ (List.range 24).flatMap (fun _ => zeros 8 ++ u32 0xFFFFFFFF ++ zeros 84)
    ++ u16 2 ++ zeros 2 ++ u32 72 ++ zeros 64 ++ u16 3 ++ zeros 2 ++ u32 9224 ++ zeros 9216 ++ u16 4 ++ zeros 2 ++ u32 40 ++ zeros 32

theorem ofLe_le : ∀ n v, v < 256 ^ n → ofLe (le n v) = v
  | 0, v, h => by simp at h; simp [le, ofLe, h]
  | n + 1, v, h => by
    have : v / 256 < 256 ^ n := by rw [Nat.pow_succ] at h; omega
    simp [le, ofLe, ofLe_le n _ this, BitVec.toNat_ofNat]; omega

/-- The image of this module stands in session 0's buffer. -/
def imaged : State := updSession 0 (fun x => { x with image := imageBody ++ sha256 imageBody }) live

theorem sha256_length (bs : List Byte) : (sha256 bs).length = 32 := by
  simp [sha256, Hash.digest, Quad.bytes, be, le]

theorem imageBody_length : imageBody.length = 11712 := by decide +kernel
theorem image_serial : field (imageBody ++ sha256 imageBody) 8 8 = Config.serial.toNat := by
  have : slice (imageBody ++ sha256 imageBody) 8 8 = le 8 Config.serial.toNat := rfl
  rw [field, this, ofLe_le _ _ Config.serial.isLt]

theorem image_checks : restoreChecks (served calRestoreImageCmd (ask []) imaged) (toLen 11744 (imageBody ++ sha256 imageBody)) = none := by
  have e : toLen 11744 (imageBody ++ sha256 imageBody) = imageBody ++ sha256 imageBody := by
    simp [toLen, slice, imageBody_length, sha256_length, zeros, List.take_of_length_le]
  have e1 : (imageBody ++ sha256 imageBody).take 11712 = imageBody := by rw [← imageBody_length, List.take_left]
  have e2 : (imageBody ++ sha256 imageBody).drop 11712 = sha256 imageBody := by rw [← imageBody_length, List.drop_left]
  have f1 : imageFormat (imageBody ++ sha256 imageBody) = true := by decide +kernel
  have f5 : imageFaults (imageBody ++ sha256 imageBody) (served calRestoreImageCmd (ask []) imaged) = true := by decide +kernel
  have image_serial' := image_serial
  have f4 : field (imageBody ++ sha256 imageBody) 7 1 = 1 := by decide +kernel
  have f7 : field (imageBody ++ sha256 imageBody) 24 4 = 12800 ∧ field (imageBody ++ sha256 imageBody) 28 1 = 0 := by decide +kernel
  have f6 : (served calRestoreImageCmd (ask []) imaged).anyArmed = false := by decide +kernel
  have f8 : (served calRestoreImageCmd (ask []) imaged).calibrating = false := by decide +kernel
  have f9 : (served calRestoreImageCmd (ask []) imaged).clk.core = 12800 := rfl
  have f10 : ofBits (served calRestoreImageCmd (ask []) imaged).inp.pairs = 0 := rfl
  have f11 : ∀ x ∈ (served calRestoreImageCmd (ask []) imaged).cal.inputs, x.pass = none := by decide +kernel
  generalize served calRestoreImageCmd (ask []) imaged = v at *
  rw [e]
  generalize imageBody ++ sha256 imageBody = m at *
  simp [restoreChecks, firstRejection, e1, e2, f1, f5, f4, f7, f6, f8, f9, f10, image_serial']
  rw [if_neg]
  · rfl
  · rintro ⟨x, hx, h⟩
    simp [f11 x hx] at h

theorem restore_reject (v : State) (m : List Byte) (h5 : v.boot.st ≠ 5) (hi : (v.session 0).image = m)
    (hr : restoreChecks v (toLen 11744 m) = none) : stateChecks calRestoreImageCmd (ask []) v = none := by
  rw [stateChecks, if_neg (by simp [h5])]
  change restoreChecks v (toLen imageSize (v.session 0).image) = none
  rw [hi]
  exact hr

theorem imaged_image : ((served calRestoreImageCmd (ask []) imaged).session 0).image = imageBody ++ sha256 imageBody := by
  have h := served_session (c := calRestoreImageCmd) (q := ask []) (s := imaged) (by decide +kernel)
  have e : (ask []).sess = 0 := rfl
  rw [e] at h
  rw [h]
  unfold imaged
  rw [session_updSession_self 0 _ _ (by decide +kernel)]

theorem wit_CalibrationRequests_restore : accepts calRestoreImageCmd (ask []) imaged = true := by
  have a : (handsOver calRestoreImageCmd (ask []) imaged && (headerOutcome calRestoreImageCmd (ask []) imaged).isNone
    && (firstFailure (calRestoreImageCmd.checks (served calRestoreImageCmd (ask []) imaged) (ask []))).isNone &&
    ! needsCountersign calRestoreImageCmd.opcode (served calRestoreImageCmd (ask []) imaged)) = true := by decide +kernel
  have b := restore_reject (served calRestoreImageCmd (ask []) imaged) _ (by decide +kernel) imaged_image image_checks
  simp only [accepts, a, b]
  rfl

/-- The start-up calibration is in its last step. -/
def starting : State := { live with boot := { live.boot with st := 3 }, cal := { startup := 5 }, inp := {} }
/-- A calibration of each kind is under way on input 7. -/
def calibrates : State :=
  { live with cal := { live.cal with foregrounds := [{ kind := .commanded, inputs := [7], waiter := none },
    { kind := .enable, inputs := [7], waiter := none, subsystem := true }, { kind := .restore, inputs := [7], waiter := none }] } }

theorem wit_CalibrationEvents :
    (starting.boot.st = 3 ∧ starting.sampleLocked = true ∧ starting.awake = true) ∧
    (live.calPath 7 = 0 ∧ live.enabled 7 = true ∧ (live.inCal 7).pass = none) ∧
    (calibrates.cal.foregrounds.find? (fun f => f.kind = .restore ∧ ¬ f.deferred)).isSome = true ∧
    after (.calStartupStep 5 5 []) { starting with cal := { starting.cal with startup := 4 } } (fun t => t.cal.startup = 5) = true ∧
    after (.calStartupStep 5 2 []) { starting with cal := { starting.cal with startup := 1 } } (fun t => t.cal.startup = 2) = true ∧
    after (.calStartupDone { at_ := 5 }) starting (fun t => t.boot.st = 4 ∧ t.cal.generation = 1 ∧ (t.core 0).st = .live ∧ (t.core 2).st = .rotating) = true ∧
    after (.calForegroundDone 5 []) calibrates (fun t => t.cal.generation = 1 ∧ t.cal.foregrounds.length = 2) = true ∧
    after (.inputCalibrationDone 5 []) calibrates (fun t => t.cal.foregrounds.map (·.kind) = [.commanded, .restore]) = true ∧
    after (.calRestored 5) calibrates (fun t => t.cal.generation = 1 ∧ t.cal.alignment = List.replicate 8 0) = true ∧
    after (.temperatureReading 5 7 640) live (fun t => (t.inCal 7).readings = [640]) = true ∧
    after (.calMaxInterval (3600 * psPerS) 7) live (fun t => (t.inCal 7).pass.isSome) = true := by decide +kernel

/-- Cores 0 and 1 are live on input 0's phases and core 2 does the rest. -/
def woven (st : CoreState) (step : Nat) : State :=
  updCore 2 (fun x => { x with st := st, step := step }) (updCore 1 (fun x => { x with st := .live, phase := 1, liveOrder := 2 })
    (updCore 0 (fun x => { x with st := .live, liveOrder := 1 }) live))
/-- A settling pass runs on input 0, whose third core is ready. -/
def passing : State := updInCal 0 (fun x => { x with pass := some { start := 0, settling := true } }) (woven .ready 0)
/-- A seam is in progress on input 0. -/
def seaming (passed : Bool) : State :=
  updInput 0 (fun x => { x with seam := some { incoming := 2, outgoing := 0, f0 := 1, passed := passed } }) (woven .ready 0)

theorem wit_RotationAndSeams :
    ((woven .rotating 1).core 2).st = .rotating ∧ ((woven .rotating 3).inCal ((woven .rotating 3).inputOf 2)).pass = none ∧
    (passing.enabled 0 = true ∧ (passing.input 0).seam = none ∧ passing.readyCore 0 = some 2 ∧ longestLive passing 0 = some 0 ∧
      passing.sampleLocked = true ∧ (advance 5 passing).inWindow 0 (advance 5 passing).time.tick = false) ∧
    after (.overdriveDetected 5 7 true 200 300 true) live (fun t => (t.input 7).overdrives = [{ first := 200, last := 300, excess := true }]) = true ∧
    after (.rotationShadowStart 5 2) (woven .rotating 1) (fun t => (t.core 2).step = 2) = true ∧
    after (.rotationTrim 5 { core := 2, failing := [3, 31], gain := -1966, tap := 4096 }) (woven .rotating 2)
      (fun t => (t.core 2).step = 3 ∧ (t.core 2).sparesLeft = 0 ∧ (t.core 2).loaded = some (-1966, 0, 4096)) = true ∧
    after (.rotationTrim 5 { core := 2, gain := 1967 }) (woven .rotating 2) (fun t => (t.core 2).st = .faulty) = true ∧
    after (.rotationTrim 5 { core := 2, failing := [1, 2, 3] }) (woven .rotating 2) (fun t => (t.core 2).st = .faulty) = true ∧
    after (.coreReady 5 2) (woven .rotating 3) (fun t => (t.core 2).st = .ready) = true ∧
    after (.seamStart 5 0) passing (fun t => (t.input 0).seam = some { incoming := 2, outgoing := 0, f0 := 1 }) = true ∧
    after (.seamRetry 5 0) (updInput 0 (fun x => { x with retry := true }) passing) (fun t => (t.input 0).seam.isSome) = true ∧
    after (.seamTest 5 0 [(160, 160), (176, 176)]) (seaming false) (fun t => (t.input 0).seam.map (·.passed) = some true) = true ∧
    after (.seamTest 5 0 [(16000, 0), (16000, 0)]) (seaming false) (fun t => (t.input 0).seam = none ∧ (t.input 0).failed = 1) = true ∧
    after (.seamDone 5 0) (seaming true) (fun t => (t.core 2).st = .live ∧ (t.core 0).st = .rotating ∧ (t.input 0).seams = 1) = true := by
  decide +kernel

/-- The grid has run for 48 frames. -/
def filled : State := { live with time := { live.time with tick := 128 * 48 }, flt := { live.flt with startup := false } }
/-- A frame of zeros waits in input 7's letterbox. -/
def boxed : State := updInput 7 (fun x => { x with letterbox := [{ index := 0, codes := List.replicate 64 0, values := List.replicate 64 0 }] }) filled

theorem wit_FramesMove : (advance 0 filled).frameDue = true ∧ (filled.input 7).letterbox.length < 4096 ∧
    after (.frameDeposit 0 (List.replicate 8 { samples := List.replicate 64 { value := 160 } })) filled
      (fun t => t.inp.nextFrame = 1 ∧ (t.input 7).letterbox.map (·.codes) = [List.replicate 64 10]) = true ∧
    (boxed.input 7).letterbox.length = 1 ∧ (endFills 7 (advance 5 boxed)).laneWaits 7 = false := by decide +kernel

/-- Session 0 waits. -/
def w0 : Waiter := { sess := 0, gen := 1, opcode := 0x0406, tag := 7 }
/-- The chain runs, and a reset is scheduled. -/
def decimating (scheduled : Option (Nat × Waiter)) : State :=
  { live with flt := { live.flt with running := true, scheduled := scheduled } }

theorem wit_FilterRequests : allAccepted [
    (fltConfigureChainCmd, ask (u8 4 ++ u8 2 ++ zeros 2 ++ u32 65536 ++ u8 80 ++ u8 23 ++ u8 23 ++ u8 31 ++ zeros 4), live),
    (fltConfigureChainCmd, ask (u8 3 ++ zeros 3 ++ u32 64 ++ zeros 8), live),
    (fltSetInputCmd, ask (u8 7 ++ u8 1 ++ zeros 2 ++ u32 65536), live),
    (fltStartCmd, ask [], live), (fltStopCmd, ask [], decimating none),
    (fltSyncCmd, ask (u8 0 ++ zeros 7 ++ u64 (64 * 128 + 600)), live), (fltSyncCmd, ask (u8 1 ++ zeros 15), live),
    (fltGetStatusCmd, ask [], live)] = true ∧
    after (.fltConfigureChain (ask (u8 3 ++ zeros 3 ++ u32 64 ++ zeros 8))) live (fun t => t.flt.stages = 2 ∧ t.flt.period = 64) = true ∧
    after (.fltSetInput (ask (u8 7 ++ u8 1 ++ zeros 2 ++ u32 65536))) live
      (fun t => (t.fin 7).factor = 65536 ∧ (t.fin 7).resets.map (fun r => (r.tick, r.t0, r.mode, r.factor)) = [(128, 0, 1, 65536)] ∧ t.answer = (OK, [])) = true ∧
    after (.fltStart (ask [])) live (fun t => t.flt.anchor = 128 ∧ t.flt.running ∧ (t.fin 7).resets.map (fun r => (r.tick, r.t0, r.starts)) = [(128, 128, true)]) = true ∧
    after (.fltStop (ask [])) (decimating none) (fun t => t.flt.running = false) = true ∧
    after (.fltSync (ask (u8 0 ++ zeros 7 ++ u64 (64 * 128 + 600)))) live (fun t => (t.flt.scheduled.map (·.1)) = some 8832) = true ∧
    after (.filterSync 3) (decimating (some (0, w0))) (fun t => t.flt.scheduled = none ∧ (t.fin 7).resets.map (fun r => (r.tick, r.t0, r.starts)) = [(0, 0, false)]) = true ∧
    after (.fltGetStatus (ask [])) live (fun t => t.answer.1 = OK ∧ slice t.answer.2 0 8 = [0, 1, 1, 0, 0, 4, 0, 0]) = true := by
  decide +kernel

theorem wit_FilterRequests_fir : allAccepted [(fltLoadFirCmd, ask ((List.range 95).flatMap (fun _ => i32 (-131072)) ++ i32 131071), live)] = true ∧
    after (.fltLoadFir (ask ((List.range 95).flatMap (fun _ => i32 (-131072)) ++ i32 131071))) live
      (fun t => t.flt.coefs = List.replicate 95 (-131072) ++ [131071]) = true := by decide +kernel

/-- Group 3 captures input 7. -/
def capturing : State :=
  updSg 3 (fun x => { x with state := .capturing, everArmed := true, active := 0x80,
                             config := { mask := 0x80, span := 32, post := 16, strands := 8, tableBase := 0x10000000, tableSize := 128,
                                         dataBase := 0x20000000, dataSize := 4096 } })
    (updTg 3 (fun t => { t with rearmEnd := some 0, readyTick := some 0 }) live)

theorem wit_TriggerSettings : allAccepted [
    (trigSetComparatorCmd, ask (u8 7 ++ u8 1 ++ u8 0 ++ u8 0 ++ i16 (-2048) ++ u16 1023), live),
    (trigSetConditionCmd, ask (u8 31 ++ u8 2 ++ u8 7 ++ u8 2 ++ zeros 8 ++ u16 65535 ++ u16 0), live),
    (trigSetPatternCmd, ask (u8 3 ++ u8 1 ++ u8 1 ++ u8 0 ++ u32 3 ++ u32 2 ++ zeros 4), live),
    (trigSetGroupCmd, ask (u8 3 ++ u8 8 ++ u8 15 ++ zeros 5 ++ u32 4 ++ zeros 4), live),
    (trigSetBusCmd, ask (u16 100 ++ zeros 6), live),
    (trigSetMarkerCmd, ask (u8 3 ++ u8 2 ++ u8 3 ++ u8 0 ++ u32 65535 ++ u32 11000), live),
    (trigForceCmd, ask (u8 3 ++ zeros 7), capturing), (trigGetStatusCmd, ask [], live)] = true ∧
    after (.trigSetComparator (ask (u8 7 ++ u8 1 ++ u8 0 ++ u8 0 ++ i16 (-2048) ++ u16 1023))) live
      (fun t => (t.comparator 7 1).waits = [(0, -2048, 1023, 1)]) = true ∧
    after (.trigSetCondition (ask (u8 31 ++ u8 2 ++ u8 7 ++ u8 2 ++ zeros 8 ++ u16 65535 ++ u16 0))) live
      (fun t => (t.slot 31).latest.stretch = 65535) = true ∧
    after (.trigSetPattern (ask (u8 3 ++ u8 1 ++ u8 1 ++ u8 0 ++ u32 3 ++ u32 2 ++ zeros 4))) live
      (fun t => (t.tg 3).b = { any_ := true, care := 3, value := 2 } ∧ (t.tg 3).a = {}) = true ∧
    after (.trigSetGroup (ask (u8 3 ++ u8 8 ++ u8 15 ++ zeros 5 ++ u32 4 ++ zeros 4))) live (fun t => (t.tg 3).holdoff = 4) = true ∧
    after (.trigSetMarker (ask (u8 3 ++ u8 2 ++ u8 3 ++ u8 0 ++ u32 65535 ++ u32 11000))) live
      (fun t => (t.marker 3).width = 65535 ∧ (t.marker 3).delay = 11000) = true ∧
    after (.trigForce (ask (u8 3 ++ zeros 7))) capturing (fun t => (t.tg 3).queue.map (·.code) = [0x0340]) = true ∧
    after (.trigGetStatus (ask [])) live (fun t => t.answer.1 = OK ∧ slice t.answer.2 0 16 = zeros 14 ++ [20, 8]) = true := by
  decide +kernel

/-- A module whose lanes have lifted `n` frames, with what a test adds to group 3. -/
def evaluated (n : Nat) (f : TrigGroup → TrigGroup) (h : SegGroup → SegGroup) : State :=
  let s := updSg 3 h (updTg 3 f capturing)
  { s with time := { s.time with tick := 128 * n + 48 * 128 }, trg := { s.trg with lifted := List.replicate 8 n, horizon := 128 * n } }
/-- A trigger at frame 5. -/
def trig5 : Trigger := { instant := 5 * 128 * 65536, order := 0, code := 3 }
/-- A segment of group 3. -/
def segmentAt (sequence fillEnd : Nat) : Segment :=
  { sequence := sequence, slot := 0, trigger := trig5, mask := 0x80, epoch := 0, time := 0, unaligned := false, store := 0
    first := 0, last := 31, trigPos := 16, short := false, captured := 16, dead := 0, missedFill := 0, missedRearm := 0
    missedPrefill := 0, wrapped := false, fillEnd := fillEnd, armTick := 0, capture := 1 }
def ready5 : State := evaluated 6 (fun t => { t with queue := [trig5] }) id
def filling5 : State := evaluated 6 (fun t => { t with
    queue := [trig5], accepted := some 0, fillEnd := 1279, rearmEnd := none, readyTick := none }) (fun x => { x with filling := some (segmentAt 0 1279) })
def rearming : State := evaluated 6 (fun t => { t with accepted := some 0, fillEnd := 127, rearmEnd := none, readyTick := none }) id
/-- Nothing happens for twelve frames. -/
def quiet12 : State := evaluated 12 id id
def held5 : State := evaluated 6 (fun t => { t with holdEnd := some (2 * 65536), seqEnd := some (3 * 65536), flags := 3 }) id
/-- The trigger of frame 5 falls into a holdoff of one more trigger. -/
def off5 : State := evaluated 6 (fun t => { t with queue := [trig5], holdLeft := 1 }) id
def marking : State := updMarker 3 (fun x => { x with mode := 4, select := 3 }) held5
/-- The state in which the trigger of frame 5 is classified. -/
def classified5 (s : State) : State :=
  settleGroup 3 (5 * 128) (updTg 3 (fun t => { t with queue := [] }) (settleTokens (evaluate (advance 5 s))))

theorem wit_TriggerCycle_ready :
    (let v := settleTokens (evaluate (advance 5 ready5))
     (v.tg 3).queue = [trig5] ∧ v.mayClassify 3 trig5 = true) ∧
    (let u := classified5 ready5
     (u.sg 3).stopTick = none ∧ (u.sg 3).abortTick = none ∧ u.groupState 3 (5 * 128) = .ready ∧ heldOff (u.tg 3) trig5 = false) ∧
    after (.triggerClassified 5 3) ready5 (fun t => (t.tg 3).accepted = some trig5.instant ∧ (t.sg 3).nextSeq = 1 ∧
      ((t.sg 3).filling.map (·.first)) = some 304) = true := by decide +kernel

theorem wit_TriggerCycle_fill :
    (let u := classified5 filling5
     u.groupState 3 (5 * 128) = .fill ∧ heldOff (u.tg 3) trig5 = false ∧ (u.sg 3).stopTick = none ∧ (u.sg 3).abortTick = none) ∧
    after (.triggerClassified 5 3) filling5 (fun t => (t.tg 3).counts.fill = 1 ∧ (t.tg 3).queue = []) = true ∧
    (let u := classified5 off5
     u.groupState 3 (5 * 128) = .ready ∧ heldOff (u.tg 3) trig5 = true) ∧
    after (.triggerClassified 5 3) off5 (fun t => (t.tg 3).counts.heldOff = 1 ∧ (t.tg 3).holdLeft = 0) = true ∧
    after (.fillEnd 5 3) filling5 (fun t => (t.sg 3).writing.length = 1 ∧ (t.sg 3).filling = none) = true := by decide +kernel

theorem wit_TriggerCycle :
    (rearming.watches 3 (128 * 5) = true ∧ 5 ≤ (advance 5 rearming).tokensKnown ∧ (rearming.sg 3).filling = none) ∧
    after (.reArmEnd 5 3) rearming (fun t => t.trg.tokens = 7 ∧ (t.tg 3).rearmEnd = some 640 ∧ (t.tg 3).readyTick = some 640) = true ∧
    after (.tokenGain 5) { quiet12 with trg := { quiet12.trg with tokens := 0 } } (fun t => t.trg.tokens = 1 ∧ t.trg.tokenFrame = 8) = true ∧
    after (.preFillEnd 5 3) marking (fun t => (t.tg 3).readyTick = some 0 ∧ (t.marker 3).due.length = 1) = true ∧
    (marking.tg 3).readyTick = some 0 ∧ (marking.tg 3).flags.testBit 1 = true ∧ (marking.marker 3).mode = 4 ∧
    after (.holdoffEnd 5 3) held5 (fun t => (t.tg 3).holdEnd = none) = true ∧
    after (.sequenceWindowClose 5 3) held5 (fun t => (t.tg 3).seqEnd = none ∧ (t.tg 3).counts.timeouts = 1) = true := by decide +kernel

/-- A good message of module 9's group 1 at tick 800. -/
def message : TrigMessage :=
  { module := 9, group := 1, index := 800, fraction := 5, code := 3
    crc := crc32c ((triggerFrame 9 1 800 5 3).take 14) }
def busy : State := evaluated 6 (fun t => { t with flags := 8, busGroups := 2 }) id

theorem wit_TriggerSources : (busy.armed 3 = true ∧ busy.watches 3 800 = true ∧ busy.sync.delta = 0 ∧ busy.sync.id ≠ 9) ∧
    after (.triginEdge 5 3 true 900) live (fun t => t.trg.trigin = [false, false, false, true] ∧ t.trg.events.map (·.tick) = [900]) = true ∧
    after (.trigbusMessageReceived 5 message) busy (fun t => t.trg.messages = 1 ∧ (t.tg 3).queue.map (·.code) = [0x41]) = true ∧
    after (.trigbusMessageReceived 5 { message with code := 2 }) busy (fun t => t.trg.crcErrors = 1 ∧ (t.tg 3).queue = []) = true ∧
    after (.trigbusFrameSent 5) { live with trg := { live.trg with out := [{ group := 3, index := 7, fraction := 1, code := 3 }] } }
      (fun t => t.trg.out = [] ∧ t.sent.map (·.args) = [[1]]) = true ∧
    after (.markerEdge 5 3) (updMarker 3 (fun x => { x with due := [(0, true), (9, false)] }) live)
      (fun t => (t.marker 3).level ∧ (t.marker 3).due = [(9, false)]) = true := by decide +kernel

/-- Payload of SEG_CONFIGURE for group 3 on input 7. -/
def layout3 : List Byte :=
  u8 3 ++ u8 0 ++ u8 0x80 ++ u8 0 ++ u32 32 ++ u32 16 ++ u32 8 ++ u64 0 ++ u64 0x10000000 ++ u64 128 ++ u64 0x20000000 ++ u64 4096
    ++ zeros 8
/-- Group 3 is configured as this payload asks. -/
def configured : State := updSg 3 (fun x => { x with config := segRequest (ask layout3) }) live
/-- A segment of group 3 fills. -/
def fillingNow : State := updSg 3 (fun x => { x with filling := some (segmentAt 0 1279) }) capturing
/-- The same group stops without abort. -/
def stoppingNow : State := updSg 3 (fun x => { x with state := .stopping, reason := 1, stopTick := some 0 }) fillingNow

theorem wit_SegmentRequests : allAccepted [
    (segConfigureCmd, ask layout3, live), (segArmCmd, ask (u8 3 ++ u8 1 ++ zeros 6 ++ u64 (64 * 128 + 700)), configured),
    (segArmCmd, ask (u8 3 ++ zeros 15), { configured with sync := { configured.sync with st := 2 } }),
    (segStopCmd, ask (u8 3 ++ zeros 7), fillingNow), (segStopCmd, ask (u8 3 ++ u8 1 ++ zeros 6), fillingNow),
    (segStopCmd, ask (u8 3 ++ zeros 7), stoppingNow), (segStopCmd, ask (u8 3 ++ u8 1 ++ zeros 6), stoppingNow),
    (segGetStatusCmd, ask [], live)] = true ∧
    after (.segConfigure (ask layout3)) live (fun t => (t.sg 3).config.slots = 2 ∧ t.answer = (OK, [])) = true ∧
    after (.segArm (ask (u8 3 ++ u8 1 ++ zeros 6 ++ u64 (64 * 128 + 700)))) configured
      (fun t => (t.sg 3).state = .scheduled ∧ (t.sg 3).armNext = 70) = true ∧
    after (.segArm (ask (u8 3 ++ zeros 15))) { configured with sync := { configured.sync with st := 2 } }
      (fun t => (t.sg 3).state = .pending) = true ∧
    after (.segStop (ask (u8 3 ++ zeros 7))) fillingNow (fun t => (t.sg 3).reason = 1 ∧ (t.sg 3).filling.isSome) = true ∧
    after (.segStop (ask (u8 3 ++ u8 1 ++ zeros 6))) fillingNow (fun t => (t.sg 3).reason = 2 ∧ (t.sg 3).filling = none) = true ∧
    after (.segStop (ask (u8 3 ++ zeros 7))) stoppingNow (fun t => (t.sg 3).reason = 1 ∧ (t.sg 3).filling.isSome ∧ (t.sg 3).stopWaiters.length = 1) = true ∧
    after (.segStop (ask (u8 3 ++ u8 1 ++ zeros 6))) stoppingNow (fun t => (t.sg 3).reason = 2 ∧ (t.sg 3).filling = none) = true ∧
    after (.segGetStatus (ask [])) live (fun t => t.answer.1 = OK ∧ t.answer.2.length = 256) = true := by decide +kernel

/-- Group 3 has one segment in hand, of 32 outputs, all of which have come. -/
def written3 (filled : Bool) (written : List Nat) : State :=
  updSg 3 (fun x => { x with
    writing := [{ segmentAt 0 127 with filled := filled, written := written }]
    positions := List.replicate 7 [] ++ [(List.range 32).map fun i => { k := i, tick := 4 * i, values := [(i : Int)] }] })
    { capturing with
      time := { capturing.time with tick := 700000 }, boot := { capturing.boot with memReady := true }
      trg := { capturing.trg with horizon := 690000 } }

theorem wit_SegmentEvents : ((written3 true []).sg 3).lacking 7 = some { segmentAt 0 127 with filled := true, written := [] } ∧
    (written3 true []).strandsReady 3 7 { segmentAt 0 127 with filled := true, written := [] } = true ∧
    (written3 true []).memServes = true ∧ ((written3 true []).sg 3).armed = true ∧ (written3 true []).holdTicks 3 + 127 ≤ 700000 ∧
    after (.armFrame 5 3) (updSg 3 (fun x => { x with state := .scheduled }) configured)
      (fun t => (t.sg 3).state = .capturing ∧ (t.sg 3).captures = 1 ∧ (t.sg 3).active = 0x80) = true ∧
    after (.armHoldTimeout 5 3) (updSg 3 (fun x => { x with state := .pending }) configured) (fun t => (t.sg 3).state = .disarmed) = true ∧
    after (.groupDisarm 5 3) (updSg 3 (fun x => { x with state := .stopping, reason := 1, stopTick := some 700 }) (written3 true []))
      (fun t => (t.sg 3).state = .stopping) = true ∧
    after (.groupDisarm 5 3) (updSg 3 (fun x => { x with state := .stopping, reason := 1, stopTick := some 700, writing := [] }) (written3 true []))
      (fun t => (t.sg 3).state = .disarmed ∧ (t.sg 3).lastReason = 1) = true := by decide +kernel

theorem wit_SegmentEvents_writes :
    after (.strandWritten 5 3 7) (written3 true []) (fun t => (t.sg 3).writing.map (·.written) = [[7]] ∧
      t.memBytes 0x20000018 4 = [0x10, 0x10, 0x01, 0x12]) = true ∧
    after (.postmarkFill 5 3) (written3 false []) (fun t => (t.sg 3).writing.map (·.filled) = [true]) = true ∧
    after (.postmarkWritten 5 3) (written3 true [7]) (fun t => (t.sg 3).written = 1 ∧ (t.sg 3).writing = []) = true := by decide +kernel

/-- TACH7 is on and its gate runs. -/
def gated : State :=
  updTach 7 (fun x => { x with set := { x.set with enable := true }, gate := { x.gate with mode := 1, running := true, start := 5, end_ := 900 } }) live

theorem wit_EdgeRequests : allAccepted [
    (edgeSetInputCmd, ask (u8 7 ++ u8 3 ++ i16 (-2000) ++ u8 255 ++ zeros 3), live),
    (edgeSetGateCmd, ask (u8 7 ++ u8 0 ++ zeros 22), gated),
    (edgeSetGateCmd, ask (u8 7 ++ u8 2 ++ u8 2 ++ u8 1 ++ u32 100 ++ u16 65535 ++ zeros 6 ++ zeros 8),
      updTach 7 (fun x => { x with set := { x.set with enable := true } }) live),
    (edgeSetAngleCmd, ask (u8 7 ++ u8 1 ++ u8 2 ++ u8 0xFF ++ zeros 2 ++ u16 60), live),
    (edgeReadStampsCmd, ask (u8 7 ++ zeros 7), live), (edgeGetResultsCmd, ask (u8 7 ++ zeros 7), live)] = true ∧
    after (.edgeSetInput (ask (u8 7 ++ u8 3 ++ i16 (-2000) ++ u8 255 ++ zeros 3))) live
      (fun t => ((t.tach 7).waits.map (·.threshold)) = some (-2000)) = true ∧
    after (.edgeSetGate (ask (u8 7 ++ u8 2 ++ u8 2 ++ u8 1 ++ u32 100 ++ u16 65535 ++ zeros 6 ++ zeros 8)))
      (updTach 7 (fun x => { x with set := { x.set with enable := true } }) live)
      (fun t => (t.tach 7).gate.waits ∧ (t.tach 7).gate.start = 128 ∧ t.answer = (OK, [])) = true ∧
    after (.edgeSetAngle (ask (u8 7 ++ u8 1 ++ u8 2 ++ u8 0xFF ++ zeros 2 ++ u16 60))) live
      (fun t => (t.tach 7).angle.teeth = 60 ∧ (t.tach 7).angle.on) = true ∧
    after (.edgeReadStamps (ask (u8 7 ++ zeros 7))) live (fun t => t.answer = (OK, zeros 264)) = true ∧
    after (.edgeGetResults (ask (u8 7 ++ zeros 7))) live (fun t => t.answer = (OK, zeros 1032)) = true := by decide +kernel

/-- TACH7 is on; the interpolators are ready at these times. -/
def tached (r0 r1 : Nat) : State :=
  updSource 7 (fun x => { x with interps := [{ readyAt := r0 }, { readyAt := r1 }] })
    (updTach 7 (fun x => { x with set := { x.set with enable := true } }) live)
def reading : EdgeReading := { r1 := 100, r2 := 1124, re := 612 }

theorem wit_EdgeEvents : ((tached 5 9).edgeSource 7).ready 5 = some 0 ∧ ((tached 6 9).edgeSource 7).ready 5 = none ∧
    after (.tachEdge 5 7 true reading) (tached 9 5) (fun t => (t.edgeSource 7).stamps.length = 1 ∧ (t.edgeSource 7).turn = 0) = true ∧
    after (.tachEdge 5 7 true reading) (tached 6 9) (fun t => (t.edgeSource 7).lost = 1 ∧ (t.edgeSource 7).stamps = []) = true ∧
    after (.ppsinEdge (psPerS + 100000000) reading) { live with time := { live.time with ppsEdge := some 0 } }
      (fun t => t.time.ppsEdge = some (psPerS + 100000000) ∧ (t.edgeSource 8).stamps.length = 1) = true ∧
    after (.ppsinEdge (psPerS + 100000001) reading) { live with time := { live.time with ppsEdge := some 0 } }
      (fun t => t.time.ppsEdge = some 0 ∧ (t.edgeSource 8).stamps.length = 1) = true ∧
    after (.tachSettingTakesEffect 5 7) (updTach 7 (fun x => { x with waits := some { enable := true } }) live)
      (fun t => (t.tach 7).set.enable) = true ∧
    after (.interpolatorRefresh 9 7 1 3 4) (tached 5 9) (fun t => ((t.edgeSource 7).interp 1).pair = some (3, 4)) = true ∧
    after (.linearityTableBuilt 9 8 1 [4]) live (fun t => ((t.edgeSource 8).interp 1).table = [4]) = true ∧
    after (.tdcTableStale (600 * psPerS + 1) 8 1) live (fun t => ((t.edgeSource 8).interp 1).stale) = true ∧
    after (.gateStart 5 7) (updTach 7 (fun x => { x with gate := { x.gate with waits := true, lengthUs := 100 } }) live)
      (fun t => (t.tach 7).gate.running ∧ (t.tach 7).gate.end_ = 5120000) = true := by decide +kernel

theorem wit_EdgeEvents_gate : (gated.tach 7).gate.end_ ≤ (advance 5 { gated with time := { gated.time with tick := 900 } }).time.tick := by
  decide +kernel

/-- Payload of HAM_CONFIGURE for accumulator 63: sums of group 3. -/
def acc63 : List Byte := u8 63 ++ u8 0 ++ u8 3 ++ u8 1 ++ u8 0 ++ u8 0xFF ++ zeros 26
/-- Accumulator 63 in a state. -/
def hamper (st : AccState) : State :=
  updAcc 63 (fun x => { x with st := st, config := accRequest (ask acc63), mask := 0x80, span := 32, pages := 1 }) configured

theorem wit_HamperRequests : allAccepted [
    (hamConfigureCmd, ask acc63, configured), (hamReleaseCmd, ask (u8 63 ++ zeros 7), hamper .idle),
    (hamStartCmd, ask (u8 63 ++ u8 1 ++ zeros 6), hamper .idle), (hamStopCmd, ask (u8 63 ++ zeros 7), hamper .running),
    (hamStopCmd, ask (u8 63 ++ u8 1 ++ u8 0 ++ zeros 5), updAcc 0 (fun x => { x with st := .ready, config := accRequest (ask acc63) })
      (hamper .running)),
    (hamSpillCmd, ask (u8 63 ++ u8 1 ++ zeros 6 ++ u64 0 ++ u64 320), hamper .idle), (hamGetStatusCmd, ask [], live)] = true ∧
    after (.hamConfigure (ask acc63)) configured (fun t => (t.acc 63).pages = 1 ∧ t.answer = (OK, u16 1 ++ u16 1535 ++ zeros 4)) = true ∧
    after (.hamRelease (ask (u8 63 ++ zeros 7))) (hamper .idle) (fun t => (t.acc 63).st = .free) = true ∧
    after (.hamStart (ask (u8 63 ++ u8 1 ++ zeros 6))) (hamper .idle) (fun t => (t.acc 63).clearing.isSome) = true ∧
    after (.hamStop (ask (u8 63 ++ zeros 7))) (hamper .running)
      (fun t => (t.acc 63).st = .idle ∧ (t.acc 63).lastReason = 1 ∧ t.answer = (OK, [])) = true ∧
    after (.hamStop (ask (u8 63 ++ zeros 7))) (updAcc 63 (fun x => { x with waiting := [default] }) (hamper .running))
      (fun t => (t.acc 63).st = .running ∧ (t.acc 63).stopping.map (·.1) = some 128 ∧ (t.session 0).st = .running) = true ∧
    after (.hamSpill (ask (u8 63 ++ u8 1 ++ zeros 6 ++ u64 0 ++ u64 320))) (hamper .idle)
      (fun t => t.ham.spill.isSome ∧ spillSize (t.acc 63) 1 = 320) = true ∧
    after (.hamGetStatus (ask [])) live (fun t => t.answer.1 = OK ∧ t.answer.2.length = 3088) = true := by decide +kernel

/-- A segment of one input. -/
def summed (short : Bool) : HamSegment :=
  { sequence := 4, instant := 9, short := short, values := [(List.range 32).map fun (i : Nat) => [(i : Int) - 5]] }
/-- Accumulator 63 runs and holds a segment. -/
def combining (short : Bool) : State := updAcc 63 (fun x => { x with waiting := [summed short] }) (hamper .running)
/-- It needs one segment more, and accumulator 5 stands ready to follow it. -/
def counting : State :=
  updAcc 5 (fun x => { x with st := .ready, config := { accRequest (ask acc63) with count := 1 } })
    (updAcc 63 (fun x => { x with config := { accRequest (ask acc63) with count := 1, chain := 5 } }) (combining false))
def spilling : State := { hamper .idle with ham := { (hamper .idle).ham with
  spill := some { acc := 63, sections := 1, dest := 64, size := 320, waiter := w0 } } }

theorem wit_HamperEvents : spilling.memServes = true ∧ 64 + spillSize (spilling.acc 63) 1 ≤ spilling.userSize ∧
    spilling.userSize ≤ addressSpace ∧
    after (.hamperClearingEnd 5 63) (updAcc 63 (fun x => { x with clearing := some (false, w0) }) (hamper .idle))
      (fun t => (t.acc 63).st = .running ∧ (t.acc 63).from_ = 128 * 65536) = true ∧
    after (.segmentCombined 5 63) (combining true) (fun t => (t.acc 63).skipped = [1, 0, 0, 0, 0] ∧ (t.acc 63).segments = 0) = true ∧
    after (.segmentCombined 5 63) (combining false) (fun t => (t.acc 63).segments = 1 ∧ (t.acc 63).lastSeq = 4 ∧
      (t.acc 63).sums.take 7 = [-5, -4, -3, -2, -1, 0, 1]) = true ∧
    after (.segmentCombined 5 63) counting (fun t => (t.acc 63).st = .idle ∧ (t.acc 63).lastReason = 4 ∧ (t.acc 63).segments = 1 ∧
      (t.acc 5).st = .running ∧ (t.acc 5).from_ = 10) = true ∧
    after (.spillDone 5) spilling (fun t => t.ham.spill = none) = true := by decide +kernel

/-- A head of two channels with every rate at position 9. -/
def head9 (st : HeadState) : Head :=
  { position := 9, st := st, desc := { serial := 77, channels := 2, rates := 0x1FFF }, hop := 0, inRoster := decide (st ≠ .discovered) }
/-- Port 15 in a state, with a head. -/
def porting (st : PortState) (h : HeadState) : State :=
  updPort 15 (fun x => { x with st := st, heads := [head9 h], forwardSignal := true }) live

theorem wit_DamuxRequests : allAccepted [
    (dmxSetPortCmd, ask (u8 15 ++ zeros 7), porting .running .enrolled), (dmxSetPortCmd, ask (u8 15 ++ u8 1 ++ u8 3 ++ u8 0 ++ u16 1000 ++ zeros 2), live),
    (dmxEnumerateCmd, ask (u8 15 ++ zeros 7), porting .running .enrolled),
    (dmxEnrolCmd, ask (u8 15 ++ zeros 7 ++ u64 77), porting .running .discovered),
    (dmxRemoveHeadCmd, ask (u8 15 ++ u8 9 ++ zeros 6), porting .running .enrolled),
    (dmxSetHeadCmd, ask (u8 15 ++ u8 9 ++ u8 12 ++ u8 2 ++ u8 1 ++ zeros 3), porting .running .enrolled),
    (dmxHeadParamCmd, ask (u8 15 ++ u8 9 ++ zeros 2 ++ u32 3 ++ zeros 8), porting .running .enrolled),
    (dmxSetRouteCmd, ask (u8 15 ++ u8 9 ++ u8 2 ++ zeros 5 ++ u64 64 ++ u64 256 ++ zeros 8), porting .running .enrolled),
    (dmxSetAlarmGroupCmd, ask (u8 15 ++ u8 9 ++ u8 3 ++ u8 255 ++ zeros 4), porting .running .enrolled),
    (dmxRejoinCmd, ask (u8 15 ++ zeros 7), porting .running .enrolled), (dmxGetStatusCmd, ask [], live),
    (dmxGetHeadsCmd, ask (u8 15 ++ u8 192 ++ u8 64 ++ zeros 5), live)] = true ∧
    ((porting .running .discovered).discovered 15 77).isSome = true := by decide +kernel

theorem wit_DamuxRequests_outcomes :
    after (.dmxSetPort (ask (u8 15 ++ zeros 7))) (porting .running .enrolled) (fun t => (t.port 15).st = .down) = true ∧
    after (.dmxSetPort (ask (u8 15 ++ u8 1 ++ u8 3 ++ u8 0 ++ u16 1000 ++ zeros 2))) live
      (fun t => (t.port 15).st = .training ∧ (t.port 15).wanted = 1000 ∧ t.answer = (OK, u32 640 ++ u32 10000000)) = true ∧
    after (.dmxEnumerate (ask (u8 15 ++ zeros 7))) (porting .running .enrolled) (fun t => (t.port 15).st = .enumerating) = true ∧
    after (.dmxEnrol (ask (u8 15 ++ zeros 7 ++ u64 77))) (porting .running .discovered)
      (fun t => (t.head 15 9).st = .enrolled ∧ t.answer = (OK, u8 9 ++ zeros 7)) = true ∧
    after (.dmxRemoveHead (ask (u8 15 ++ u8 9 ++ zeros 6))) (porting .running .enrolled) (fun t => (t.port 15).heads = []) = true ∧
    after (.dmxSetHead (ask (u8 15 ++ u8 9 ++ u8 12 ++ u8 2 ++ u8 1 ++ zeros 3))) (porting .running .enrolled)
      (fun t => (t.port 15).commands.map (·.opcode) = [3]) = true ∧
    after (.dmxSetRoute (ask (u8 15 ++ u8 9 ++ u8 2 ++ zeros 5 ++ u64 64 ++ u64 256 ++ zeros 8))) (porting .running .enrolled)
      (fun t => (t.head 15 9).routeRing = some (64, 256, 0)) = true ∧
    after (.dmxSetAlarmGroup (ask (u8 15 ++ u8 9 ++ u8 3 ++ u8 255 ++ zeros 4))) (porting .running .enrolled)
      (fun t => (t.head 15 9).newMasks = some [0, 0, 0, 255]) = true ∧
    after (.dmxGetHeads (ask (u8 15 ++ u8 192 ++ u8 64 ++ zeros 5))) live (fun t => t.answer.1 = OK ∧ t.answer.2.length = 2048) = true := by
  decide +kernel

/-- A slot without samples of the head at position 9 in round 4. -/
def slot9 : SlotFrame :=
  { position := 9, stream := 0, round := 4, firstTime := 0, count := 0, samples := [], status := 0x85, ackSeq := 0, ackCode := 0
    crcGood := true }
def rounding : State := updPort 15 (fun x => { x with round := 4, newPeriod := some 20 }) (porting .running .enrolled)
/-- A command to the head has gone out four times. -/
def expiring : State :=
  updPort 15 (fun x => { x with commands := [{ target := 9, opcode := 4, arg := [], sequence := 0, sent := 4 }] }) rounding

theorem wit_DamuxRounds : ((rounding.port 15).rounds = true ∧ (rounding.port 15).expired = [] ∧ (rounding.port 15).enum = none ∧
      (rounding.head 15 9).scheduled = true ∧ (rounding.head 15 9).silent < 15) ∧
    after (.roundStart 5 15) rounding (fun t => (t.port 15).round = 5 ∧ (t.port 15).period = 20) = true ∧
    after (.slotWindowEnd 5 15 9) rounding (fun t => (t.head 15 9).missed = 1) = true ∧
    after (.slotWindowEnd 5 15 9) (updHead 15 9 (fun h => { h with silent := 15 }) rounding) (fun t => (t.head 15 9).st = .unresponsive) = true ∧
    (expiring.port 15).expired = [9] ∧ after (.roundStart 5 15) expiring (fun t => (t.head 15 9).st = .unresponsive) = true ∧
    after (.damuxSlotReceived 5 15 9 0 { slot9 with crcGood := false }) rounding (fun t => (t.port 15).crcErrors = 1) = true ∧
    after (.damuxSlotReceived 5 15 9 (-2500) slot9) rounding (fun t => (t.port 15).letterbox.length = 1 ∧ (t.head 15 9).alarm = 0x85) = true ∧
    after (.damuxSlotReceived 5 15 9 2501 slot9) rounding (fun t => (t.port 15).letterbox.length = 0 ∧ (t.port 15).otherDiscards = 1) = true := by
  decide +kernel

/-- The slot waits in port 15's letterbox, and its turn has come. -/
def lifting : State :=
  let s := updPort 15 (fun x => { x with letterbox := [{ frame := slot9, tick := 3, gap := false, missing := 0, returnEnd := false, masks := [0, 0, 0, 0] }] }) rounding
  { s with dmx := { s.dmx with nextPort := 15 } }

theorem wit_DamuxRounds_lift : (lifting.port 15).letterbox.length = 1 ∧ lifting.headWaits 15 9 = false ∧
    after (.headLaneLift 5) lifting (fun t => (t.port 15).letterbox = [] ∧ t.dmx.nextPort = 0) = true := by decide +kernel

/-- Port 15 with discovery open in a round of a walk. -/
def walking : State :=
  updPort 15 (fun x => { x with st := .enumerating, discovery := true, enum := some { fromReturn := false, waiter := none } }) live
/-- A new head. -/
def found : HeadDescriptor := { serial := 5, channels := 1, rates := 1, turnaround := 300 }

theorem wit_DamuxChains : ((walking.port 15).rounds = true ∧ (walking.port 15).place 5 = some 0) ∧
    after (.discoveryReply 5 15 true 400300 found true) walking (fun t => (t.head 15 0).pathDelay = 200000 ∧ (t.head 15 0).st = .discovered) = true ∧
    after (.beaconReturned 5 15) walking (fun t => (t.port 15).closed ∧ (t.port 15).st = .running) = true ∧
    after (.rediscovery 5 15) (porting .running .unresponsive) (fun t => (t.port 15).rediscover) = true ∧
    after (.portTrainingEnd 5 15 true false) (porting .training .absent) (fun t => (t.port 15).st = .enumerating) = true ∧
    after (.portTrainingEnd 5 15 false true) (porting .training .absent) (fun t => (t.port 15).st = .faulted) = true ∧
    after (.portTrainingRetry 5 15) (porting .faulted .absent) (fun t => (t.port 15).forwardSignal = false) = true ∧
    after (.damuxLaneSignalLost 5 15 false) (porting .running .enrolled) (fun t => (t.port 15).st = .faulted) = true ∧
    after (.damuxLaneSignalLost 5 15 false) (updPort 15 (fun x => { x with returnSignal := true }) (porting .running .enrolled))
      (fun t => (t.port 15).breakLink = some 0) = true ∧
    after (.damuxLaneSignalLost 5 15 true) (porting .running .enrolled) (fun t => (t.port 15).st = .running) = true ∧
    after (.damuxBreakRepaired 5 15) (updPort 15 (fun x => { x with breakLink := some 3, closed := true }) (porting .running .enrolled)) (fun t => (t.port 15).breakLink = none ∧ (t.port 15).returnSignal) = true := by
  decide +kernel

/-- Pigeonhole 5 holds entries of 128 bytes; input 7 is decimated. -/
def holed : State := updFin 7 (fun x => { x with mode := 2, factor := 65536 }) { live with xfer := { live.xfer with phs := [(5, { entrySize := 128, depth := 2, base := 0x1000, size := 0x1000 })] } }
/-- Payload of ENG_CREATE_JOB for job 3: STATISTICS over input 7. -/
def statistics : List Byte :=
  u32 3 ++ u8 1 ++ u8 0xFF ++ u8 0 ++ u8 2 ++ u32 7 ++ u8 0 ++ u8 0xFF ++ zeros 2 ++ u32 0 ++ u32 5 ++ zeros 36 ++ u16 8 ++ zeros 2
    ++ u32 1048576 ++ u32 16777216
/-- Job 3 stands on engine 127. -/
def jobbed (running : Bool) : State :=
  let c : JobConfig := { kernel := 1, kind := 0, source := 7, ph := 5, params := [64, 16777216] }
  { holed with eng := { holed.eng with jobs := [(3, { config := c, engine := 127, running := running, snapshot := holed.jobSnapshot c, cost := holed.jobCost c })] } }

theorem wit_EngineRequests : allAccepted [
    (engGetCatalogueCmd, ask [], live), (engCreateJobCmd, ask statistics, holed),
    (engStartJobCmd, ask (u32 3 ++ zeros 4), jobbed false), (engStopJobCmd, ask (u32 3 ++ zeros 4), jobbed true),
    (engDeleteJobCmd, ask (u32 3 ++ zeros 4), jobbed false), (engGetStatusCmd, ask (u8 1 ++ zeros 7), live),
    (engGetJobCmd, ask (u32 16383 ++ zeros 4), live)] = true := by decide +kernel

theorem wit_EngineRequests_outcomes :
    (∀ x ∈ (jobbed false).eng.jobs, x.1 = 3 → (jobbed false).jobSnapshot x.2.config = x.2.snapshot) ∧
    (∀ x ∈ (jobbed true).eng.jobs, x.2.stopping = none ∧ (jobbed true).computes 3 x.2 = false) ∧
    after (.engCreateJob (ask statistics)) holed (fun t => (t.job 3).map (·.running) = some true ∧ (t.job 3).map (·.engine) = some 0 ∧
      slice t.answer.2 0 2 = [0, 0]) = true ∧
    after (.engStartJob (ask (u32 3 ++ zeros 4))) (jobbed false) (fun t => (t.job 3).map (·.running) = some true ∧ t.answer = (OK, [])) = true ∧
    after (.engStopJob (ask (u32 3 ++ zeros 4))) (jobbed true) (fun t => (t.job 3).map (·.stopReason) = some 1 ∧ t.answer = (OK, [])) = true ∧
    after (.engDeleteJob (ask (u32 3 ++ zeros 4))) (jobbed false) (fun t => t.eng.jobs = [] ∧ t.answer = (OK, [])) = true ∧
    after (.engGetJob (ask (u32 16383 ++ zeros 4))) live (fun t => t.answer = (OK, zeros 64)) = true := by decide +kernel

/-- Engine 127 computes a task of job 3. -/
def computing (chunk : Bool) : State :=
  updEngine 127 (fun x => { x with current := some { job := 3, chunk := chunk, arrival := 0, deadline := 9 } }) (jobbed true)

theorem wit_EngineEvents :
    after (.blockRelease 5 3) (updJob 3 (fun j => { j with ready := [{ values := [[1, 2]] }] }) (jobbed true))
      (fun t => (t.job 3).map (·.ready) = some [] ∧ (t.engine 127).current.isSome) = true ∧
    after (.chunkArrival 5 3) (updJob 3 (fun j => { j with chunks := 1 }) (jobbed true)) (fun t => (t.engine 127).current.isSome) = true ∧
    after (.taskComplete 5 127) (computing true) (fun t => (t.engine 127).current = none) = true ∧
    after (.taskComplete 5 127) (updJob 3 (fun j => { j with config := { j.config with kernel := 2, params := [6, 0, 2, 64] } }) (computing false))
      (fun t => (t.job 3).map (·.count) = some 1) = true ∧
    after (.engineAbort 5 127 9) (computing false) (fun t => (t.engine 127).aborts = 1 ∧ (t.job 3).map (·.sequence) = some 1) = true := by
  decide +kernel

theorem wit_EngineEvents_fault :
    after (.engineFault 5 127) (computing false) (fun t => (t.engine 127).faulty ∧ (t.job 3).map (·.engine) = some 0) = true := by
  decide +kernel

/-- Pigeonhole 5 drains by commands and holds one committed entry. -/
def holding : State := updPh 5 (fun p => { p with
  policy := 1, nextSeq := 1, entries := [{ seq := 0, cell := 0, length := 64, committed := some 0 }] }) holed

theorem wit_PigeonholeRequests : allAccepted [
    (phConfigureCmd, ask (u32 0xFFFFF ++ u8 0 ++ u8 1 ++ zeros 2 ++ u32 65536 ++ u32 2 ++ u64 0x2000 ++ u64 0x20000 ++ u32 100 ++ u32 4095
      ++ zeros 24), holed),
    (phSetPolicyCmd, ask (u32 5 ++ u8 2 ++ zeros 7), holding), (phSetDrainCmd, ask (u32 5 ++ u8 2 ++ zeros 3 ++ u32 255), holding),
    (phFlushCmd, ask (u32 5 ++ zeros 4), holding), (phReleaseCmd, ask (u32 5 ++ zeros 4), holding),
    (phReadCmd, ask (u32 5 ++ u8 1 ++ zeros 3 ++ u32 0 ++ u32 4032), holding),
    (phBindEdgeCmd, ask (u32 5 ++ u8 8 ++ u8 0 ++ zeros 2), holding), (phBindEdgeCmd, ask (u32 5 ++ u8 8 ++ u8 2 ++ zeros 2), holding),
    (phGetStatusCmd, ask (u32 0xFFFFF ++ zeros 4), live)] = true := by decide +kernel

theorem wit_PigeonholeRequests_outcomes :
    after (.phConfigure (ask (u32 0xFFFFF ++ u8 0 ++ u8 1 ++ zeros 2 ++ u32 65536 ++ u32 2 ++ u64 0x2000 ++ u64 0x20000 ++ u32 100 ++ u32 4095
      ++ zeros 24))) holed (fun t => (t.ph 0xFFFFF).map (·.target) = some 4095 ∧ (t.ph 5).isSome) = true ∧
    after (.phSetPolicy (ask (u32 5 ++ u8 2 ++ zeros 7))) holding (fun t => (t.ph 5).map (·.policy) = some 2) = true ∧
    after (.phSetDrain (ask (u32 5 ++ u8 2 ++ zeros 3 ++ u32 255))) holding (fun t => (t.ph 5).map (·.target) = some 255) = true ∧
    after (.phFlush (ask (u32 5 ++ zeros 4))) holding (fun t => (t.ph 5).map (·.flushed) = some 1 ∧ t.answer = (OK, [])) = true ∧
    after (.phRelease (ask (u32 5 ++ zeros 4))) holding (fun t => t.ph 5 = none) = true ∧
    after (.phRead (ask (u32 5 ++ u8 1 ++ zeros 3 ++ u32 0 ++ u32 4032))) holding
      (fun t => (t.ph 5).map (·.entries) = some [] ∧ t.answer = (OK, u64 0 ++ u32 64 ++ u32 1 ++ zeros 80)) = true ∧
    after (.phBindEdge (ask (u32 5 ++ u8 8 ++ u8 0 ++ zeros 2))) holding (fun t => t.edgeBind 8 0 = some { ph := 5 }) = true ∧
    after (.phGetStatus (ask (u32 0xFFFFF ++ zeros 4))) live (fun t => t.answer = (OK, zeros 64)) = true := by decide +kernel

/-- A pigeonhole that blocks, full with committed entries, with a writer that waits. -/
def blocked (depth : Nat) : State := updPh 5 (fun p => { p with
  depth := depth, deadline := 100, entries := [{ seq := 0, cell := 0, length := 64, committed := some 0 }]
  nextSeq := 1, waiting := [{ writer := .engine 127, entries := [zeros 64] }] }) holed

theorem wit_PigeonholeEvents : (((blocked 1).ph 5).map fun p => p.missed 100000001) = some true ∧
    (((blocked 1).ph 5).map fun p => p.missed 100000000) = some false ∧
    after (.entryCommitted 5 5) (updPh 5 (fun p => { p with entries := [{ seq := 0, cell := 0, length := 64 }] }) holed)
      (fun t => (t.ph 5).map (fun p => p.committed.length) = some 1) = true ∧
    after (.blockedWriterResumes 5 5) (blocked 2) (fun t => (t.ph 5).map (fun p => (p.waiting.length, p.nextSeq)) = some (0, 2)) = true ∧
    after (.drainDeadlineEvaluation 100000001) (blocked 1) (fun t => (t.ph 5).map (·.switched) = some true) = true ∧
    after (.stampBatchClose 100000000 8) { holding with xfer := { holding.xfer with edges := [(8, 0, { ph := 5, batch := [zeros 16] })] } }
      (fun t => (t.edgeBind 8 0).map (·.batch) = some [] ∧ (t.ph 5).map (fun p => p.entries.length) = some 2) = true := by decide +kernel

/-- Payload of PH_RING_CONFIGURE for ring 4095. -/
def ring4095 : List Byte :=
  u16 4095 ++ u8 1 ++ u8 0 ++ u32 64 ++ u32 16 ++ u16 2047 ++ zeros 2 ++ u64 0x1000 ++ u64 0x40 ++ u64 8 ++ u32 65536 ++ u32 1000000
    ++ zeros 16
/-- Ring 4095 in a state. -/
def ringed (st : RingState) : State :=
  { live with xfer := { live.xfer with rings := [(4095, { st := st, notify := true, vector := 2047, data := 0x1000, status := 0x40, consumer := 8 })] } }
/-- Payload of PH_STREAM_CONFIGURE for stream 255. -/
def stream255 : List Byte :=
  u8 255 ++ u8 1 ++ u8 1 ++ u8 63 ++ be 6 0x020000000001 ++ zeros 2 ++ be 4 0x0A000002 ++ u16 9 ++ u16 1024 ++ u16 1500 ++ zeros 2 ++ u32 25000
    ++ zeros 4

theorem wit_DeliveryRequests : allAccepted [
    (phRingConfigureCmd, ask ring4095, live), (phRingStartCmd, ask (u16 4095 ++ zeros 6), ringed .stopped),
    (phRingStopCmd, ask (u16 4095 ++ zeros 6), ringed .running), (phRingStatusCmd, ask (u16 4095 ++ u16 127 ++ zeros 4), live),
    (phStreamConfigureCmd, ask stream255, live), (phStreamStatusCmd, ask (u8 128 ++ u8 128 ++ zeros 6), live),
    (ptpConfigureCmd, ask (u8 1 ++ u8 127 ++ u8 1 ++ u8 1 ++ leInt 1 (-4) ++ zeros 3), live),
    (ptpGetStatusCmd, ask (u8 1 ++ zeros 7), live), (pcieSetClockingCmd, ask (u8 1 ++ zeros 7), live)] = true ∧
    after (.phRingConfigure (ask ring4095)) live (fun t => (t.ring 4095).map (·.coalesceUs) = some 1000000 ∧ t.answer = (OK, [])) = true ∧
    after (.phRingStart (ask (u16 4095 ++ zeros 6))) (ringed .faulted) (fun t => (t.ring 4095).map (·.st) = some .running) = true ∧
    after (.phRingStop (ask (u16 4095 ++ zeros 6))) (ringed .running) (fun t => (t.ring 4095).map (·.st) = some .stopped) = true ∧
    after (.phRingStatus (ask (u16 4095 ++ u16 127 ++ zeros 4))) live (fun t => t.answer = (OK, zeros 32)) = true ∧
    after (.phStreamConfigure (ask stream255)) live (fun t => (t.stream 255).map (·.rate) = some 25000 ∧ t.answer = (OK, [])) = true ∧
    after (.ptpConfigure (ask (u8 1 ++ u8 127 ++ u8 1 ++ u8 1 ++ leInt 1 (-4) ++ zeros 3))) live (fun t => (t.ptpPort 1).logInterval = -4) = true ∧
    after (.ptpGetStatus (ask (u8 1 ++ zeros 7))) live (fun t => t.answer = (OK, u8 3 ++ zeros 39)) = true ∧
    after (.pcieSetClocking (ask (u8 1 ++ zeros 7))) live (fun t => t.pcie.clockingSet = 1) = true := by decide +kernel

/-- Ring 4095 with counts; pigeonhole 5 drains into it. -/
def feeding (produced : Nat) (reading : Option Nat) : State :=
  { live with xfer := { live.xfer with
      rings := [(4095, { st := .running, notify := true, vector := 2047, coalesceCount := 2, data := 0x1000, status := 0x40, consumer := 8
                         slots := 16, produced := produced, reading := reading, uncovered := 1 })]
      phs := [(5, { kind := 1, target := 4095, policy := 1, nextSeq := 1, entries := [{ seq := 0, cell := 0, length := 64, committed := some 0 }] })] } }

theorem wit_RingEvents : ((feeding 3 none).memServes = true ∧ (feeding 3 none).ringTurn 4095 = true
      ∧ nextAfter none ((feeding 3 none).offering 1 4095) = some 5) ∧
    after (.hostRingDelivery 5 4095) (feeding 3 none) (fun t => (t.ring 4095).map (·.produced) = some 4 ∧ (t.ph 5).map (·.entries) = some []
      ∧ t.sent.map (·.args) = [[0x70], [0x10C0]]) = true ∧
    after (.hostRingDelivery 5 4095) (feeding 16 none) (fun t => (t.ring 4095).map (·.reading) = some (some 0)) = true ∧
    after (.consumerWordReread 5 4095) (feeding 16 none) (fun t => (t.ring 4095).map (·.reading) = some (some 0)) = true ∧
    after (.consumerReadCompletion 5 4095 true 16) (feeding 16 (some 0)) (fun t => (t.ring 4095).map (·.cached) = some 16) = true ∧
    after (.consumerReadCompletion 5 4095 true 17) (feeding 16 (some 0)) (fun t => (t.ring 4095).map (·.cause) = some 3) = true ∧
    after (.consumerReadCompletion 5 4095 false 16) (feeding 16 (some 0)) (fun t => (t.ring 4095).map (·.cause) = some 2) = true ∧
    after (.consumerReadTimeout 5 4095) (feeding 16 (some 1)) (fun t => (t.ring 4095).map (·.reading) = some (some 2)) = true ∧
    after (.consumerReadTimeout 5 4095) (feeding 16 (some 2)) (fun t => (t.ring 4095).map (·.cause) = some 1) = true ∧
    after (.coalescingTime 1000000 4095) (feeding 3 none) (fun t => (t.ring 4095).map (·.messages) = some 1) = true ∧
    after (.coalescingTime 999999 4095) (feeding 3 none) (fun t => (t.ring 4095).map (·.messages) = some 0) = true := by decide +kernel

/-- Stream 255 on port 1, into which pigeonhole 5 drains; the port has a PTP master. -/
def streaming : State :=
  { live with
    prot := { live.prot with net := [{}, { ip := 0x0A000001 }] }
    xfer := { live.xfer with
      streams := [(255, { enabled := true, port := 1, mtu := 1500 })], links := [{}, { up := true }]
      ptp := [{}, { enabled := true, masters := [(4, 9)], master := some 4, sync := some (5, 6) }]
      phs := [(5, { kind := 2, target := 255, policy := 1, nextSeq := 1, entries := [{ seq := 0, cell := 0, length := 64, committed := some 0 }] })] } }

theorem wit_EthernetEvents : (streaming.portSends 1 = true ∧ (advance 5 streaming).streamTurn 1 255 = true ∧ nextAfter none (streaming.offering 2 255) = some 5) ∧
    after (.streamDatagramSent 5 255) streaming (fun t => (t.stream 255).map (·.bytes) = some 112 ∧ (t.ph 5).map (·.entries) = some []) = true ∧
    after (.pauseFrame 5 1 65535) streaming (fun t => (t.ethLink 1).pausedSince = some 5) = true ∧
    after (.pauseFrame 5 1 0) streaming (fun t => (t.ethLink 1).pausedSince = none) = true ∧
    after (.pauseTimeExpiry 5 1) (updLink 1 (fun l => { l with pausedSince := some 3 }) streaming) (fun t => (t.ethLink 1).pausedSince = none) = true ∧
    after (.pauseTimeExpiry 5 1) (updLink 1 (fun l => { l with pausedSince := some 3, pauseEnd := 6 }) streaming)
      (fun t => (t.ethLink 1).pausedSince = some 3) = true ∧
    after (.ethernetLinkDown 5 1) streaming (fun t => (t.ethLink 1).up = false) = true ∧
    after (.ethernetLinkUp 5 0) streaming (fun t => (t.ethLink 0).up) = true ∧
    after (.ptpMessageReceived 5 1 (.announce 3 8)) streaming (fun t => (t.ptpPort 1).master = some 3) = true ∧
    after (.ptpMessageReceived 5 1 (.sync 4 1 false 100 150)) streaming (fun t => (t.ptpPort 1).offset = 50 ∧ (t.ptpPort 1).syncs = 1) = true ∧
    after (.delayReqInterval 5) streaming (fun t => (t.ptpPort 1).sequence = 1) = true ∧
    after (.ptpLost (3 * psPerS)) streaming (fun t => (t.ptpPort 1).lost) = true := by decide +kernel

/-- Vector 7's bit is pending, and ring 4095 runs. -/
def lined : State := { ringed .running with pcie := { live.pcie with pending := [7] } }

theorem wit_PcieEvents :
    after (.pcieLinkDown 5) lined (fun t => t.pcie.pending = [] ∧ (t.session 0).st = .closed ∧ (t.ring 4095).map (·.st) = some .linkStopped) = true ∧
    after (.hotReset 5) lined (fun t => t.pcie.busMaster = false) = true ∧
    after (.pePerstnAsserted 5) lined (fun t => t.pcie.perst) = true ∧ after (.pePerstnReleased 5) lined (fun t => ! t.pcie.perst) = true ∧
    after (.busMasterEnableCleared 5) lined (fun t => (t.session 0).st = .idle ∧ (t.ring 4095).map (·.st) = some .linkStopped) = true ∧
    after (.busMasterEnableSet 5) lined (fun t => t.pcie.busMaster) = true ∧
    after (.msixUnmask 5 7) lined (fun t => t.pcie.pending = [] ∧ t.sent.map (·.args) = [[7]]) = true ∧
    after (.msixMask 5 7) { lined with pcie := { lined.pcie with unmasked := [7] } } (fun t => t.pcie.unmasked = []) = true ∧
    after (.pcieLinkTraining 5) { live with pcie := { clockingSet := 1 } } (fun t => t.pcie.linkUp ∧ t.pcie.clocking = 1) = true := by
  decide +kernel

/-- Rank 5 in a state of its own; `spare` says whether ranks 46 and 47 are spare. -/
def ranked (st : RankState) (spare : Bool) : State :=
  { live with mem := { live.mem with ranks := (List.range 48).map fun k =>
      { st := if k = 5 then st else if 46 ≤ k ∧ spare then .spare else if 46 ≤ k then .retired else .active } } }
/-- A training step of channel 23 is under way. -/
def stepping (wanted failures : Nat) : State :=
  { live with mem := { live.mem with step := some { channel := 23, wanted := wanted, failures := failures } } }

theorem wit_MemoryRequests : allAccepted [
    (memSetRateCmd, ask (u8 0 ++ zeros 7), live), (memSetRateCmd, ask (u8 2 ++ zeros 7), stepping 2 0),
    (memSetRateCmd, ask (u8 2 ++ zeros 7), live), (memRetireRankCmd, ask (u8 5 ++ zeros 7), ranked .active true),
    (memRemapCmd, ask (zeros 8), ranked .failed false), (memGetStatusCmd, ask [], live)] = true ∧
    (ranked .active true).spares = [46, 47] ∧ (ranked .active true).mem.slotHeld 5 = some 5 := by decide +kernel
theorem wit_MemoryRequests_outcomes :
    after (.memSetRate (ask (u8 0 ++ zeros 7))) live (fun t => t.answer = (OK, u32 0 ++ u32 391000)) = true ∧
    after (.memSetRate (ask (u8 2 ++ zeros 7))) (stepping 2 0) (fun t => t.mem.waits.map (·.1) = some 2) = true ∧
    after (.memSetRate (ask (u8 2 ++ zeros 7))) live (fun t => t.mem.change.map (·.1) = some 2 ∧ (t.session 0).st = .running) = true ∧
    after (.memRetireRank (ask (u8 5 ++ zeros 7))) (ranked .active true) (fun t => t.mem.migration = some { from_ := 5, to_ := 46, slot := 5 }) = true ∧
    after (.memRemap (ask (zeros 8))) (ranked .failed false) (fun t => t.mem.map.length = 45 ∧ (t.rank 5).st = .removed ∧ t.userSize = 45 * 4026531840) = true := by decide +kernel

/-- Bytes of the user region around the end of line 1, which is poisoned where `bad` says so. -/
def stored (bad : Bool) : State :=
  { live with mem := { live.mem with cells := [(63, 1), (64, 2), (128, 3)], poisoned := if bad then [1] else [] } }

theorem wit_MemoryErrors : (live.memServes = true ∧ 127 < live.userSize ∧ live.servingRank 64 = 0 ∧
    (stored true).bar2Outcome 60 16 = (4, 2) ∧ (stored false).bar2Outcome 60 16 = (16, 0) ∧
    live.bar2Outcome (live.userSize - 1) 2 = (1, 1)) ∧
    after (.memUncorrectable 5 127 .partialWrite) live (fun t => t.mem.poisoned = [1] ∧ (t.rank 0).uncorrectable = 1) = true ∧
    after (.memPrivilegedError 5 3 9 0) live (fun t => t.mem.privileged = [(3, 9)]) = true ∧
    after (.patrolScrub 5 .clean) live (fun t => t.mem.scrubLine = 1) = true ∧
    after (.patrolScrub 5 .clean) { live with mem := { live.mem with scrubLine := 2 ^ 26 - 1, scrubRank := 47 } }
      (fun t => (t.mem.scrubLine, t.mem.scrubRank) = (0, 0)) = true ∧
    after (.bar2Read 5 60 16 []) (stored true) (fun t => t.sent.map (·.land) = [.aer, .bar2]) = true ∧
    after (.bar2Write 5 60 [1]) live (fun t => t.sent.map (·.args) = [[3]]) = true ∧
    after (.refresh 5 23 31) live (fun t => (t.channel 23).bank = 31 ∧ (t.channel 23).refreshRate = 1) = true := by decide +kernel
/-- Rank 5 migrates to rank 46, with this many units copied. -/
def migrating (units : Nat) : State :=
  { ranked .migratingOut true with mem := { (ranked .migratingOut true).mem with
      migration := some { from_ := 5, to_ := 46, slot := 5, units := units } } }

theorem wit_MemoryTraining : live.trains = true ∧
    after (.trainingStep 5) live (fun t => t.mem.step.map (·.channel) = some 0 ∧ t.mem.nextChannel = 1) = true ∧
    after (.extraTrainingStep 5 23) live (fun t => t.mem.step.map (·.channel) = some 23 ∧ t.mem.extra) = true ∧
    after (.trainingPause 5 true 40 30 25) (stepping 1 0) (fun t => t.mem.step = none ∧ (t.channel 23).width = 40) = true ∧
    after (.trainingPause 5 true 40 30 25) (stepping 2 0) (fun t => t.mem.step.map (·.wanted) = some 1) = true ∧
    after (.trainingPause 5 false 40 30 25) (stepping 2 2) (fun t => t.mem.step = none ∧ (t.channel 23).failed = 1) = true ∧
    after (.trainingPause 5 false 40 30 25) (stepping 2 1) (fun t => t.mem.step.map (·.failures) = some 2) = true ∧
    after (.memRateChanged 5) (updLoop 2 (fun l => { l with st := .gated })
      { live with mem := { live.mem with change := some (2, none, false) } }) (fun t => t.mem.rate = 2 ∧ t.mem.setB) = true ∧
    after (.migrationUnitCopied 5 0 3) (migrating 1048575) (fun t => t.mem.migration.map (·.poisoned) = some 3) = true ∧
    after (.rankRetired 5) (migrating 1048576) (fun t => t.mem.map.getD 5 0 = 46 ∧ (t.rank 46).st = .active) = true := by decide +kernel
theorem wit_MemoryTraining_timeout :
    after (.memoryLoopLockTimeout 5) { live with mem := { live.mem with change := some (2, none, false) } } (fun t => t.boot.st = 6) = true := by decide +kernel

/-- A record. -/
def aRecord (seq type : Nat) : Record := { type := type, seq := seq, epoch := 0, boot := 1, tick := 9, time := 0, body := zeros 16 }
/-- The recorder holds two records and stages a third. -/
def recorded : State :=
  { live with evt := { live.evt with
      nextSeq := 8, fifo := [aRecord 7 3]
      first := { page := 256, off := 104, records := [(256, aRecord 4 1), (256, aRecord 6 3)] } } }

theorem wit_EventRequests : allAccepted [
    (evtGetStatusCmd, ask [], recorded), (evtReadCmd, ask (u64 5 ++ u16 0 ++ u16 4040 ++ zeros 4), recorded),
    (evtSetCopyCmd, ask (u32 5 ++ u8 0 ++ zeros 3), recorded)] = true ∧
    asksCountersign evtClearRingCmd (ask []) recorded = true ∧
    after (.evtRead (ask (u64 5 ++ u16 0 ++ u16 4040 ++ zeros 4))) recorded
      (fun t => t.answer.2 = u64 6 ++ u64 7 ++ zeros 8 ++ (aRecord 6 3).bytes) = true ∧
    after (.evtSetCopy (ask (u32 5 ++ u8 0 ++ zeros 3))) { recorded with evt := { recorded.evt with copyTo := some 5 } } (fun t => t.evt.copyTo = none) = true ∧
    after (.evtClearRing (ask [])) recorded (fun t => t.answer = (NEEDS_COUNTERSIGN, [])) = true := by decide +kernel

/-- A clear of the ring waits; the ring holds a record. -/
def clearing : State :=
  { recorded with evt := { recorded.evt with clears := [({ sess := 0, gen := 1, opcode := 0x0E09, tag := 7 }, zeros 32, 6)]
                                             ring := { page := 4100, off := 52, records := [(4100, aRecord 5 3)] } } }

theorem wit_EventStore : (recorded.awake = true ∧ recorded.storeHolds (aRecord 7 3) = false ∧ recorded.records = true ∧
    recorded.evt.used + 8192 ≤ fifoSize) ∧
    after (.recordWrite 5 true) recorded (fun t => t.evt.fifo = [] ∧ t.evt.first.records.length = 3) = true ∧
    after (.recordWrite 5 false) recorded (fun t => t.evt.retired = [256] ∧ t.evt.attempts = 1) = true ∧
    after (.recordWrite 5 false) { recorded with evt := { recorded.evt with attempts := 2 } } (fun t => t.evt.attempts = 0) = true ∧
    after (.recordsLost 10000000000) { recorded with evt := { recorded.evt with
      loss := some { count := 2, first := 3, last := 4, firstTick := 0, firstTime := 0, lastTick := 1, lastTime := 1 }, lowSince := some 0 } }
      (fun t => t.evt.loss = none ∧ t.evt.fifo.map (·.type) = [3, 0x0E01]) = true ∧
    after (.ringCleared 5) clearing (fun t => t.evt.clears = [] ∧ t.evt.ring.records.map (·.2.type) = [0x0E03]) = true := by decide +kernel
theorem wit_EventStore_copy :
    (let s : State := { holed with evt := { recorded.evt with copyTo := some 5, copyNext := 5 } }
     after (.recordCopied 5) (updPh 5 (fun p => { p with entrySize := 4096, entries := [], waiting := [] }) s) (fun t => t.evt.copyNext = 7 ∧
       (t.ph 5).map (fun p => p.entries.length) = some 1)) = true := by decide +kernel

/-- Payload of KEY_ENROL for slot 7. -/
def enrol7 : List Byte := u8 7 ++ zeros 7 ++ zeroKey ++ [80, 76, 65, 78, 84, 45, 48, 48]
/-- Slots 0, 1 and 7 hold keys; what the keys sign is the module's affair. -/
def keyed : State :=
  { live with
    prot := { live.prot with keys := (List.range 8).map fun n =>
      if n = 0 ∨ n = 1 ∨ n = 7 then some { key := zeroKey, label := zeros 8 } else none } }
/-- An inner request: EVT_CLEAR_RING. -/
def innerClear : List Byte := u16 0x0E04 ++ u16 32 ++ u16 9 ++ zeros 26
/-- Payload of PROT_PROPOSE in slot 1 for that request. -/
def proposeClear : List Byte := u8 1 ++ zeros 7 ++ zeroKey ++ zeros 32 ++ innerClear
/-- Payload of FW_COMMIT for an image as long as the buffer. -/
def commit : List Byte := u32 33554432 ++ zeros 36
/-- Payload of FW_WRITE that ends at the end of the buffer. -/
def lastBytes : List Byte := u32 33554430 ++ u16 2 ++ zeros 10 ++ [1, 2]

theorem wit_KeyRequests : allAccepted [
    (keyEnrolCmd, ask enrol7, live), (keyListCmd, ask [], keyed), (protGetProtectedCmd, ask [], live),
    (fwWriteCmd, ask lastBytes, live)] = true ∧
    asksCountersign keyEnrolCmd (ask enrol7) keyed = true ∧ asksCountersign keyRemoveCmd (ask (u8 7 ++ zeros 7)) keyed = true ∧
    asksCountersign protSetProtectedCmd (ask (u16 0x0D01 ++ u8 1 ++ zeros 5)) keyed = true ∧
    asksCountersign syncLockCmd (ask (u8 1 ++ zeros 7)) keyed = true ∧
    handsOver fwCommitCmd (ask commit) keyed = true ∧ headerOutcome fwCommitCmd (ask commit) keyed = none ∧
    reserved (ask commit) 4 4 = none ∧ (ask commit).u32 0 = stagingSize ∧
    after (.keyEnrol (ask enrol7)) live (fun t => (t.key 7).map (·.key) = some zeroKey) = true ∧
    after (.fwWrite (ask lastBytes)) live (fun t => t.prot.staging = [(33554430, 1), (33554431, 2)]) = true ∧
    after (.keyRemove (ask (u8 7 ++ zeros 7))) keyed (fun t => t.answer = (NEEDS_COUNTERSIGN, [])) = true := by decide +kernel
theorem propose_signed (m : List Byte) : (served protProposeCmd (ask proposeClear) keyed).signed ((ask proposeClear).u8 0) m
    ((ask proposeClear).bytes 8 64) = true := by
  have h1 : (served protProposeCmd (ask proposeClear) keyed).key ((ask proposeClear).u8 0) = some { key := zeroKey, label := zeros 8 } := by
    decide +kernel
  have h2 : (ask proposeClear).bytes 8 64 = zeroKey ++ zeros 32 := by decide +kernel
  rw [State.signed, h1, h2]
  exact ed25519_zeroKey m
theorem propose_inner : innerChecks (served protProposeCmd (ask proposeClear) keyed) (Request.inner (ask proposeClear)) = none := by
  decide +kernel
theorem propose_room : ¬ 8 ≤ (served protProposeCmd (ask proposeClear) keyed).openProposals.length := by decide +kernel
theorem propose_checks : proposeChecks (served protProposeCmd (ask proposeClear) keyed) (ask proposeClear) = none := by
  simp [proposeChecks, propose_signed, propose_inner, propose_room, failWhen, firstFailure]
theorem propose_stateChecks (q : Request) (s : State) :
    stateChecks protProposeCmd q s = (proposeChecks s q).map fun st => (st, []) := by
  simp [stateChecks, protProposeCmd]
theorem propose_state : stateChecks protProposeCmd (ask proposeClear) (served protProposeCmd (ask proposeClear) keyed) = none := by
  rw [propose_stateChecks, propose_checks]; rfl
theorem propose_header : handsOver protProposeCmd (ask proposeClear) keyed = true ∧
    headerOutcome protProposeCmd (ask proposeClear) keyed = none ∧
    firstFailure (protProposeCmd.checks (served protProposeCmd (ask proposeClear) keyed) (ask proposeClear)) = none ∧
    needsCountersign protProposeCmd.opcode (served protProposeCmd (ask proposeClear) keyed) = false := by decide +kernel
theorem wit_KeyRequests_propose : accepts protProposeCmd (ask proposeClear) keyed = true := by
  obtain ⟨h1, h2, h3, h4⟩ := propose_header
  simp [accepts, h1, h2, h3, h4, propose_state]
/-- A proposal of an EVT_CLEAR_RING by slot 1 over PCIe is open. -/
def proposed : State :=
  { keyed with prot := { keyed.prot with
      nextProposal := 5
      proposals := [{ number := 4, record := 9, slot := 1, iface := 0, sess := 0, opcode := 0x0E04, inner := {}, digest := zeros 32,
                      repliedAt := 0 }] } }
theorem wit_KeyRequests_expired :
    after (.protectedExpired (120 * psPerS) 4) proposed (fun t => t.prot.proposals.length = 0 ∧ t.prot.expired = [4]) = true ∧
    after (.protectedExpired (120 * psPerS - 1) 4) proposed (fun t => t.prot.proposals.length = 1 ∧ t.prot.expired = []) = true := by decide +kernel

/-- A request of SMBus session 30 in generation 1. -/
def askSmbus (payload : List Byte) : Request := { ask payload with sess := 30, hsess := 30 }
/-- Payload of PROT_COUNTERSIGN of proposal 4 in slot 0. -/
def countersign0 : List Byte := u32 4 ++ u8 0 ++ zeros 3 ++ zeroKey ++ zeros 32
/-- Proposal 4 is of this opcode with this payload, in this boot state; session 30 is open, and the module leads and agrees. -/
def proposing (opcode : Nat) (payload : List Byte) (st : Nat) : State :=
  { proposed with
    boot := { live.boot with st := st }
    sess := updAt live.sess 30 fun x => { x with st := .idle, gen := 1 }
    sync := { role := 2, members := 2, st := 2, agreed := true }
    prot := { proposed.prot with proposals := proposed.prot.proposals.map fun p => { p with
      opcode := opcode, inner := { length := 32 + payload.length, payload := payload } } } }

theorem wit_CountersignedChanges : accepts protCountersignCmd (askSmbus countersign0) (proposing 0x0E04 [] 4) = true := by decide +kernel
theorem wit_CountersignedChanges_enrol :
    after (.protCountersign (askSmbus countersign0)) (proposing 0x0E05 (u8 6 ++ zeros 47) 4)
      (fun t => (t.key 6).isSome ∧ t.prot.proposals.length = 0) = true := by decide +kernel
theorem wit_CountersignedChanges_remove :
    after (.protCountersign (askSmbus countersign0)) (proposing 0x0E06 (u8 7 ++ zeros 7) 4)
      (fun t => (t.key 7) = none ∧ t.prot.proposals.length = 0) = true := by decide +kernel
theorem wit_CountersignedChanges_others :
    after (.protCountersign (askSmbus countersign0)) (proposing 0x0E0A (u16 0x0D01 ++ u8 1 ++ zeros 5) 4)
      (fun t => t.prot.added = [0x0D01]) = true ∧
    after (.protCountersign (askSmbus countersign0)) (proposing 0x0D04 (u8 1 ++ zeros 7) 4) (fun t => t.sync.lock) = true ∧
    after (.protCountersign (askSmbus countersign0)) (proposing 0x0E04 [] 4) (fun t => t.evt.clears.length = 1) = true ∧
    after (.protCountersign (askSmbus countersign0)) (proposing 0x0E04 [] 7) (fun t => t.evt.clears = [] ∧ (t.session 30).st = .replyReady) = true := by decide +kernel

/-- Payload of AUX_SET_SEQUENCE of sources 23 and 0. -/
def sequence2 : List Byte := u8 2 ++ u8 1 ++ u16 65535 ++ zeros 4 ++ [23, 0] ++ zeros 22
/-- Payload of AUX_SET_CAPTURE 15 of quantity 0x47. -/
def capture15 : List Byte := u8 15 ++ u8 0x47 ++ u8 3 ++ zeros 1 ++ i32 (-5) ++ i32 5 ++ zeros 4
/-- The converter runs for a user. -/
def converting (u : AuxUser) (source : Nat) : State := { live with aux := { live.aux with running := some (u, source) } }

theorem wit_AuxiliaryRequests : allAccepted [
    (auxSetSequenceCmd, ask sequence2, live), (auxInjectCmd, ask (u8 23 ++ zeros 7), converting .sequence 4),
    (auxSetCaptureCmd, ask capture15, live), (auxGetCaptureCmd, ask (u8 15 ++ zeros 7), live), (auxGetMonitorsCmd, ask [], live)] = true ∧
    after (.auxSetSequence (ask sequence2)) live (fun t => t.aux.seq = { run := true, sources := [23, 0], interval := 65535, start := 1000000 }) = true ∧
    after (.auxSetSequence (ask sequence2)) (converting .sequence 4) (fun t => t.aux.seqNew.isSome) = true ∧
    after (.auxInject (ask (u8 23 ++ zeros 7))) (converting .sequence 4)
      (fun t => t.aux.running = some (.inject, 23) ∧ t.aux.restart = some (.sequence, 4)) = true ∧
    after (.auxInject (ask (u8 23 ++ zeros 7))) (converting .hold 0) (fun t => t.aux.running = some (.hold, 0)) = true ∧
    after (.auxSetCapture (ask capture15)) live (fun t => (t.capture 15).low = -5 ∧ (t.capture 15).run) = true ∧
    after (.auxGetMonitors (ask [])) live (fun t => t.answer = (OK, zeros 64)) = true := by decide +kernel

/-- A sequence runs, and the converter runs for a user on source 23. -/
def sequencing (u : Option AuxUser) : State :=
  { live with aux := { live.aux with running := u.map (·, 23), seq := { run := true, sources := [7, 23], interval := 1, next := 1 }, valid := true } }
/-- Session 0 waits for the injected conversion that runs. -/
def injecting : State :=
  { sequencing (some .inject) with
    sess := updAt live.sess 0 fun x => { x with st := .running }
    aux := { (sequencing (some .inject)).aux with inject := some (23, { sess := 0, gen := 1, opcode := 0x0F02, tag := 7 }) } }

theorem wit_ConversionEvents : ((sequencing none).awake = true ∧ (sequencing none).bar0Serves = true) ∧
    after (.sequenceConversionDue 5) (sequencing none) (fun t => t.aux.running = some (.sequence, 23) ∧ t.aux.seq.next = 0) = true ∧
    after (.sequenceConversionDue 5) (sequencing (some .hold)) (fun t => t.aux.seqDue = some (23, 0)) = true ∧
    after (.sequenceConversionDue 1000000) (sequencing none) (fun t => t.aux.running = none ∧ t.aux.seq.start = 1000000) = true ∧
    after (.housekeepingConversionDue 5) (sequencing none) (fun t => t.aux.running = some (.housekeeping, 0)) = true ∧
    after (.housekeepingConversionDue 5) (sequencing (some .hold)) (fun t => t.aux.due = [0]) = true ∧
    after (.conversionDone 5 70000) injecting (fun t => t.aux.code = 65535 ∧ t.aux.overrun ∧ t.answer = (OK, u16 65535 ++ u8 23 ++ zeros 5)) = true ∧
    after (.conversionDone 5 3) (sequencing (some .sequence)) (fun t => t.aux.code = 3 ∧ t.aux.injected = false) = true ∧
    after (.conversionDone 5 65535) (sequencing (some .housekeeping)) (fun t => t.aux.code = 0) = true ∧
    after (.conversionDone 5 65535) { live with aux := { live.aux with running := some (.housekeeping, 15) } }
      (fun t => t.aux.monitors.getD 15 0 = 2499964) = true ∧
    after (.calibrationHoldEnd 5) (sequencing (some .hold)) (fun t => t.aux.running = none) = true ∧
    after (.auxDataRead 5) (sequencing none) (fun t => t.aux.valid = false ∧ t.sent.map (·.land) = [.bar0]) = true ∧
    after (.auxStatusWrite 5 2#32) { live with aux := { live.aux with overrun := true } } (fun t => t.aux.overrun = false) = true := by decide +kernel

/-- The module has this role in a system of three. -/
def inRole (role : Nat) : State :=
  { live with sync := { role := role, id := 9, members := if role = 2 then 3 else 1, st := 1, checkSeq := 65535 } }
/-- Payload of SYNC_CONFIGURE: leader 4095 of 4096 modules. -/
def lead4096 : List Byte := u16 4095 ++ u8 2 ++ u8 0 ++ u16 4096 ++ zeros 2 ++ u32 1000000 ++ zeros 4

theorem wit_SyncRequests : allAccepted [
    (syncConfigureCmd, ask lead4096, live), (syncCalibrateDelayCmd, ask (zeros 8), inRole 2), (syncCalibrateDelayCmd, ask (zeros 8), inRole 1),
    (syncCheckCmd, ask [], inRole 2), (syncResetDomainCmd, ask (u8 1 ++ zeros 15), inRole 2), (syncGetStatusCmd, ask [], live)] = true ∧
    after (.syncConfigure (ask lead4096)) live (fun t => t.sync.role = 2 ∧ t.sync.members = 4096 ∧ t.sync.st = 1) = true ∧
    after (.syncCalibrateDelay (ask (zeros 8))) (inRole 1) (fun t => t.sync.delayRun.isSome) = true ∧
    after (.syncCheck (ask [])) (inRole 2) (fun t => t.sync.checkSeq = 1 ∧ t.sync.commands.map (·.code) = [1]) = true ∧
    after (.syncResetDomain (ask (u8 1 ++ zeros 15))) (inRole 2) (fun t => t.sync.commands.map (·.code) = [5]) = true := by decide +kernel

/-- A good frame of leader 7. -/
def aFrame : SyncFrame :=
  { crcGood := true, markerInPlace := true, flags := 1, leader := 7, count := 12, markerTick := 1000, markerFrac := 0, epoch := 0, markerTime := 0
    coreRate := 12800, members := 3, command := 5, groups := 0, checkSeq := 0, commandTick := 5000, echoes := [] }

theorem wit_SyncStream : ((inRole 2).awake = true ∧ (inRole 1).reportBits ≠ 1) ∧
    after (.syncFrameReceived 5 16000 { aFrame with crcGood := false }) (inRole 1) (fun t => t.sync.discarded = 1) = true ∧
    after (.syncFrameReceived 5 16000 aFrame) (inRole 1) (fun t => t.sync.leader = 7 ∧ t.sync.reset = some (5000, none)) = true ∧
    after (.syncLost 100000000) (inRole 1) (fun t => t.sync.lost ∧ t.sync.unaligned) = true := by decide +kernel
theorem wit_SyncStream_frame :
    after (.syncFrameSend 5) { inRole 2 with sync := { (inRole 2).sync with commands := [{ code := 5, tick := 9, second := true }] } }
      (fun t => t.sync.frame = 1 ∧ t.sync.reset.isSome ∧ t.sent.map (·.land) = [.syncout]) = true := by decide +kernel
theorem wit_SyncStream_report :
    after (.syncReportSlot 5) (inRole 1) (fun t => t.sent.map (·.args) = [[2]]) = true ∧
    after (.reportBitsChanged 5) { inRole 1 with sync := { (inRole 1).sync with bits := 1 } } (fun t => t.sent.map (·.args) = [[2]]) = true ∧
    after (.syncReportSlot 5) { inRole 1 with sync := { (inRole 1).sync with delayRun := some { waiter := { sess := 0, gen := 1, opcode := 0x0D02, tag := 7 } } } }
      (fun t => t.sent.map (·.args) = [[2], [3]]) = true := by decide +kernel
/-- The report of module 1 under check 3. -/
def aReport (good : Bool) : SyncReport :=
  { module := 1, checkSeq := 3, fwMajor := 1, fwMinor := 0, fwPatch := 0, boot := 4, bits := 0x30, epoch := 0, offset := 0, delay := 0
    digest := [], crcGood := good }
/-- The leader's check 3 runs; session 0 waits for it. -/
def checking (frames : Nat) : State :=
  { inRole 2 with
    sess := updAt live.sess 0 fun x => { x with st := .running }
    sync := { (inRole 2).sync with check := some { sequence := 3, frames := frames, waiter := { sess := 0, gen := 1, opcode := 0x0D03, tag := 7 } } } }

theorem wit_SyncEvents : after (.trigbusReportReceived 5 (aReport true)) (inRole 2) (fun t => t.sync.reports = [aReport true]) = true ∧
    after (.trigbusReportReceived 5 (aReport false)) (inRole 2) (fun t => t.trg.crcErrors = 1) = true ∧
    after (.probeReceived 5 4097 17 9 true) (inRole 2) (fun t => t.sync.echoes = [(1, 1, 9)]) = true ∧
    after (.checkWaitEnd 5) (checking 520) (fun t => t.sync.check = none ∧ t.sync.agreed = false ∧ (t.session 0).st = .replyReady) = true ∧
    after (.syncDomainReset 5) { capturing with sync := { capturing.sync with reset := some (0, none) } }
      (fun t => (t.sg 3).state = .stopping ∧ (t.sg 3).reason = 5 ∧ (t.sg 3).stopTick = some 0) = true := by decide +kernel

/-- Session 23 in a state. -/
def session23 (st : SessionState) : State := { live with sess := updAt live.sess 23 fun x => { x with st := st, gen := 65535 } }

theorem wit_Doorbells : (live.rings 23 = true ∧ live.rings 31 = true ∧ live.serves = true ∧ live.bar0Serves = true ∧ live.awake = true) ∧
    after (.mbxDoorbellSubmit 5 23 1) live (fun t => (t.session 23).dbResult = RESERVED_NONZERO) = true ∧
    after (.mbxDoorbellSubmit 5 23 0) live (fun t => (t.session 23).dbResult = WRONG_STATE) = true ∧
    after (.mbxDoorbellSubmit 5 23 0) (session23 .running) (fun t => (t.session 23).dbResult = BUSY) = true ∧
    after (.mbxDoorbellOpen 5 23 true 2047 0) (session23 .closed) (fun t => (t.session 23).gen = 1 ∧ (t.session 23).vector = 2047) = true ∧
    after (.mbxDoorbellOpen 5 23 true 2047 0) (session23 .idle) (fun t => (t.session 23).dbResult = WRONG_STATE) = true ∧
    after (.mbxDoorbellClose 5 23 0) (session23 .replyReady) (fun t => (t.session 23).st = .closed ∧ (t.session 23).dbResult = OK) = true ∧
    after (.irqStatusWrite 5 1#32) { live with boot := { live.boot with irq := 3 } } (fun t => t.boot.irq = 2) = true ∧
    after (.bootStateWrite 5 0x100#32) { live with boot := { live.boot with memPreserved := true } } (fun t => ! t.boot.cfgDefaulted ∧ t.boot.memPreserved) = true ∧
    after (.registerWrite 5 (.bar0 (0x10000 + 0x2000 * 23 + 4092) [1, 2, 3, 4] [true, false, false, true])) live
      (fun t => (t.session 23).mailbox = [(4092, 1), (4095, 4)]) = true ∧
    after (.registerWrite 5 (.bar0 0 [1, 2, 3, 4] [true, true, true, true])) live (fun t => t.sess = live.sess) = true ∧
    after (.registerWrite 5 (.smbus 0x21 4095 [7] true)) live (fun t => (t.session 31).mailbox = [(4095, 7)]) = true ∧
    after (.registerWrite 5 (.smbus 0x21 4095 [7] false)) live (fun t => (t.session 31).mailbox = []) = true := by decide +kernel
theorem wit_Doorbells_submit :
    (match exec (.mbxDoorbellSubmit 5 23 0) (session23 .idle) with
      | .next t => decide ((t.session 23).st = .running) && decide ((t.session 23).dbResult = OK)
      | _ => false) = true := by decide +kernel

/-- Ethernet session 29 of a peer, in a state, its latest tag 7; port 1 is up under address 10.0.0.2. -/
def eth29 (st : SessionState) : State :=
  { live with
    sess := updAt live.sess 29 fun x => { x with st := st, gen := 1, peerIp := 0x0A000001, peerPort := 4000, peerEth := 1, lastTag := some 7,
                                                  reply := u16 3 ++ u16 32 ++ u16 7 ++ zeros 26 }
    prot := { live.prot with net := [{}, { ip := 0x0A000002, timeout := 10 }] }
    xfer := { live.xfer with links := [{}, { up := true }] } }
/-- A request of that session with a tag. -/
def ask29 (tag : Nat) : Request := { ask [] with sess := 29, hsess := 29, tag := tag, peerIp := 0x0A000001, peerPort := 4000 }
/-- A fragment of a datagram from that peer is held. -/
def reassembling : State :=
  { eth29 .idle with prot := { (eth29 .idle).prot with
      reassembly := [{ id := 5, port := 1, sender := 0x0A000001, since := 0, fragments := [(0, zeros 8)] }] } }

theorem wit_EthernetSessions : ((eth29 .idle).ethernet 1 = true ∧ (eth29 .idle).ofPeer (ask29 8) = true ∧ allocated 0x000D = false ∧
    handsOver (unallocatedCmd 0x000D) (ask []) live = true ∧ ((advance 5 reassembling).reassembly 1 5 0x0A000001).isSome = true) ∧
    after (.sessionDatagram 5 1 0x0003 (ask29 8)) (eth29 .idle) (fun t => (t.session 29).submitted = some (0x0003, ask29 8)) = true ∧
    after (.sessionDatagram 5 1 0x0003 (ask29 7)) (eth29 .replyReady) (fun t => t.sent.map (·.args) = [[1, 0x0A000001, 4000]]) = true ∧
    after (.sessionDatagram 5 1 0x0003 (ask29 8)) (eth29 .running) (fun t => t.sent.map (fun o => field o.data 6 2) = [BUSY]) = true ∧
    after (.sessionDatagram 5 1 0x0001 { ask29 8 with hsess := 255 }) (eth29 .idle) (fun t => t.prot.opens.map (·.1) = [1]) = true ∧
    after (.ipv4FragmentReceived 5 1 5 0x0A000001 1 true [9]) reassembling (fun t => t.prot.reassembly = []) = true ∧
    after (.reassemblyTimeout (100 * psPerMs) 5) reassembling (fun t => t.prot.reassembly = []) = true ∧
    after (.reassemblyTimeout (100 * psPerMs - 1) 5) reassembling (fun t => t.prot.reassembly.length = 1) = true ∧
    after (.sessionTimeout 10000000000000 29) (eth29 .idle) (fun t => (t.session 29).st = .closed) = true ∧
    after (.arpRequest 5 1 0x0A000002 0x0A000001 3) (eth29 .idle) (fun t => t.sent.map (·.land) = [.arp]) = true ∧
    after (.icmpEchoRequest 5 1 0x0A000002 0x0A000001 [1]) (eth29 .idle) (fun t => t.sent.map (·.data) = [[1]]) = true ∧
    after (.smbusTimeout 5) live (fun t => t.sent.map (·.args) = [[2]]) = true ∧
    after (.unallocatedOpcodeRequest 0x000D (ask [])) live (fun t => t.answer = (BAD_OPCODE, [])) = true := by decide +kernel

/-- The module in reset after a pin reset, with a byte in memory. -/
def inReset : State :=
  { State.reset with
    boot := { State.reset.boot with cause := 1, memHeld := true, initMemory := false }
    mem := { State.reset.mem with cells := [(9, 1)] } }
/-- Deep standby entered by power-down. -/
def powered : State :=
  { inReset with boot := { st := 8, powerDown := true, memHeld := true, initMemory := false, pinLow := false, powerGood := false } }

theorem wit_ResetEvents : (live.awake = true ∧ inReset.boot.nresetLow = true) ∧
    after (.powerOnReset 5) live (fun t => t.boot.st = 0 ∧ t.boot.cause = 0) = true ∧
    after (.vauxLeavesTolerance 5) live (fun t => t.boot.off ∧ (t.session 0).st = .closed) = true ∧
    after (.pinReset 5) live (fun t => t.boot.cause = 1 ∧ (t.session 0).st = .closed ∧ (t.session 0).gen = 1) = true ∧
    after (.railsFall 5 { memHeld := false, torn := true }) live (fun t => t.boot.nresetLow) = true ∧
    after (.railsRemoved 5 true) inReset (fun t => t.mem.cells = []) = true ∧
    after (.powerDownDone 5) { live with boot := { live.boot with downing := some 0, powerGood := false } } (fun t => t.boot.st = 8) = true := by decide +kernel
theorem wit_ResetEvents_start :
    after (.nresetRise 5 15 true) inReset (fun t => t.boot.straps = 7 ∧ t.boot.memPreserved ∧ t.mem.cells = [(9, 1)]) = true ∧
    after (.nresetRise 5 15 false) inReset (fun t => t.boot.memPreserved = false ∧ t.mem.cells = []) = true ∧
    after (.powergoodRestored 5 true) powered (fun t => t.boot.st = 0 ∧ t.mem.cells = [(9, 1)]) = true := by decide +kernel
theorem wit_ResetEvents_down :
    after (.powerDown 5) live (fun t => t.boot.downing = some 0 ∧ t.mem.selfRefresh ∧ t.evt.fifo = []) = true := by decide +kernel

/-- The module starts, in this boot state. -/
def booting (st : Nat) : State :=
  { State.reset with boot := { st := st, pinLow := false, cause := 1 }, clk := { State.reset.clk with loops := List.replicate 4 { st := .locked } } }

theorem wit_StartUp : ((booting 2).awake = true ∧ (booting 2).failedRanks = [] ∧ (booting 1).boot.watchdogLimit = false ∧
    ({ (booting 1).boot with cause := 3, watchdog := [900, 800, 700] } : BootState).watchdogLimit = true) ∧
    after (.imageCheckDone 5 .pass []) (booting 0) (fun t => t.boot.st = 1) = true ∧
    after (.imageCheckDone 5 .digestFails (zeros 32)) (booting 0) (fun t => t.boot.st = 7 ∧ t.time.gridOn) = true ∧
    after (.firmwareStarted 5) (booting 1) (fun t => t.boot.st = 2) = true ∧
    after (.memoryInitialised 5 true) (booting 2) (fun t => t.boot.st = 3 ∧ t.boot.memReady) = true := by decide +kernel
theorem wit_StartUp_halt :
    after (.firmwareStarted 5) { booting 1 with boot := { (booting 1).boot with cause := 3, watchdog := [900, 800, 700] } }
      (fun t => t.boot.st = 6 ∧ t.boot.haltCause = 4) = true := by decide +kernel
theorem wit_StartUp_watchdog :
    after (.watchdogExpiry 5) live (fun t => t.boot.st = 0 ∧ t.boot.cause = 3 ∧ t.boot.watchdog = [5]) = true := by decide +kernel

/-- A transition is under way; session 0 waits for its end. -/
def moving (exit : Bool) (st : Nat) : State :=
  { live with
    boot := { live.boot with st := st, transition := some (exit, 0, some { sess := 0, gen := 1, opcode := 0x000C, tag := 7 }) }
    sess := updAt live.sess 0 fun x => { x with st := .running } }

theorem wit_PowerStates : (moving false 4).drained = true ∧
    after (.wakeEdge 5) { live with boot := { live.boot with st := 5 } } (fun t => t.boot.transition = some (true, 1, none)) = true ∧
    after (.wakeEdge 5) (moving false 4) (fun t => t.boot.wakeQueued) = true ∧
    after (.standbyEntryComplete 5) (moving false 4) (fun t => t.boot.st = 5 ∧ (t.session 0).st = .replyReady) = true ∧
    after (.standbyExitComplete 5) (moving true 5) (fun t => t.boot.st = 4 ∧ t.inp.running) = true := by decide +kernel
theorem wit_PowerStates_deep :
    after (.deepStandbyEntry 5) { live with boot := { live.boot with deepAfter := some false } }
      (fun t => t.boot.st = 8 ∧ t.clk.heater = false ∧ t.evt.fifo = []) = true := by decide +kernel

/-- The oven's supplies are present and it is not ready. -/
def heating : State := { live with clk := { live.clk with voven := true } }
/-- The oven is ready. -/
def warm : State := { heating with clk := { heating.clk with ovenReady := true } }

theorem wit_OvenEvents :
    (heating.clk.ovenReady = false ∧ heating.clk.voven = true ∧ heating.clk.vaux = true ∧ heating.clk.heater = true ∧
      heating.awake = true ∧ heating.clk.ovenTimeout = false ∧ heating.clk.ovenFault = false ∧ warm.clk.ovenReady = true) ∧
    after (.ovenReady 5 0x5500) heating (fun t => t.clk.ovenReady ∧ t.clk.island = 0x5500) = true ∧
    after (.ovenTimeout 5 0x100 7) heating (fun t => t.pwr.alert = [.ovenTimeout] ∧ t.clk.heaterPower = 7) = true ∧
    after (.ovenUnsettled 5 3) warm (fun t => t.clk.ovenReady = false) = true ∧
    after (.ovenFault 5 3) warm (fun t => t.clk.heater = false ∧ t.pwr.alert = [.ovenFault]) = true ∧
    after (.vovenApplied 5) live (fun t => t.clk.voven) = true ∧
    after (.vovenRemoved 5) warm (fun t => t.clk.voven = false) = true := by decide +kernel
/-- VCORE control adapts, with two transactions to be answered. -/
def adapting : State := { live with pwr := { live.pwr with adaptive := true, commanded := 785, pmbus := [(READ_IOUT, 0), (VOUT_COMMAND, 790)] } }

theorem wit_SupplyEvents : (adapting.lanesRun = true ∧ adapting.pwr.drives = true ∧ adapting.demandOf 0 ≠ 0 ∧
    marginOf 0 (adapting.demandOf 0) < adapting.pwr.floor) ∧
    after (.marginWindow 5 (List.replicate 9 0) 745) adapting (fun t => t.pwr.commanded = 790 ∧ t.pwr.sensed = 745 ∧ (t.lane 0).below) = true ∧
    after (.pmbusTransaction 5 true true 30) adapting (fun t => t.pwr.iout = 30 ∧ t.sent.map (·.args) = [[0x40, VOUT_COMMAND, 790]]) = true ∧
    after (.pmbusTransaction 5 false false 30) adapting (fun t => t.pwr.lost ∧ t.pwr.iout = 0) = true ∧
    after (.tjReading 5 25600) live (fun t => t.pwr.hot) = true ∧
    after (.tjReading 5 24831) { live with pwr := { live.pwr with hot := true } } (fun t => t.pwr.hot = false) = true ∧
    after (.tjReading 5 29440) { live with pwr := { live.pwr with halting := 8 } } (fun t => t.boot.st = 4 ∧ t.pwr.halting = 9) = true := by decide +kernel
theorem wit_SupplyEvents_halt :
    after (.tjReading 5 29440) { live with pwr := { live.pwr with halting := 9 } } (fun t => t.boot.st = 6 ∧ t.pwr.fault) = true := by decide +kernel

/-- The TAP in a state, with four bits in each register. -/
def tapped (st : TapState) (i : TapInstruction) : State :=
  { live with jtag := { st := st, instruction := i, ir := [true, true, false, true], dr := [true, false, false, true] } }

theorem wit_BoundaryScan : after (.jtagTckEdge 5 true true false []) (tapped .shiftDr .sample)
      (fun t => t.jtag.st = .exit1Dr ∧ t.jtag.dr = [false, false, true, false]) = true ∧
    after (.jtagTckEdge 5 true false true []) (tapped .shiftIr .bypass) (fun t => t.jtag.ir = [true, false, true, true]) = true ∧
    after (.jtagTckEdge 5 true false true [true]) (tapped .captureDr .extest) (fun t => t.jtag.dr = [true]) = true ∧
    after (.jtagTckEdge 5 true false true [true]) (tapped .captureDr .idcode) (fun t => t.jtag.dr.length = 32) = true ∧
    after (.jtagTckEdge 5 false false true []) (tapped .shiftDr .sample) (fun t => t.sent.map (·.args) = [[1]]) = true ∧
    after (.jtagTckEdge 5 false false true []) (tapped .updateDr .extest) (fun t => t.jtag.latches = [true, false, false, true]) = true ∧
    after (.trstnAsserted 5) (tapped .updateDr .extest) (fun t => t.jtag.instruction = .idcode) = true := by decide +kernel

theorem wit_StepRunsFront : (live.withPending [.smbusTimeout 5, .wakeEdge 6]).pending = .smbusTimeout 5 :: [.wakeEdge 6] ∧
    live.pending = [] := ⟨rfl, rfl⟩

/-- The reset state meets the invariant, from which the statement about every step starts. -/
theorem wit_AfterPowerOn : Inv State.reset ∧ 31 < 32 := ⟨test_reset_inv, by decide⟩

theorem test_live_inv : Inv live := ⟨test_live_sized, rfl⟩
theorem wit_StepKeepsInvariant : Inv live ∧ ∃ t, step live = .next t := ⟨test_live_inv, live, rfl⟩

theorem wit_EveryCommandCompletes : requestOf (.sysGetIdentity (ask [])) = some (sysGetIdentityCmd, ask []) ∧
    accepts sysGetIdentityCmd (ask []) live = true := ⟨rfl, by decide +kernel⟩

theorem wit_CommandsLeaveAlone : Kind.memory.changedBy (.strandWritten 5 0 0) = true ∧
    Kind.memory.changedBy (.segConfigure (ask [])) = false ∧ Kind.keys.changedBy (.keyList (ask [])) = false ∧
    Kind.scan.changedBy (.msixMask 5 0) = false := ⟨rfl, rfl, rfl, rfl⟩

theorem wit_RequestsTurnedAway :
    (handsOver sysGetPowerCmd { ask [] with length := 40 } live = true ∧
      turnedAway sysGetPowerCmd { ask [] with length := 40 } live = some (BAD_LENGTH, [])) ∧
    (handsOver sysSetMarginFloorCmd (ask (u16 1019 ++ zeros 6)) live = true ∧
      turnedAway sysSetMarginFloorCmd (ask (u16 1019 ++ zeros 6)) live = some (OUT_OF_RANGE, [])) ∧
    (handsOver keyRemoveCmd (ask (u8 7 ++ zeros 7)) live = true ∧
      turnedAway keyRemoveCmd (ask (u8 7 ++ zeros 7)) live = some (NEEDS_COUNTERSIGN, [])) ∧
    (handsOver segStopCmd (ask (zeros 8)) live = true ∧ turnedAway segStopCmd (ask (zeros 8)) live = some (WRONG_STATE, [])) ∧
    live.evt.opening = [] ∧ sysGetPowerCmd.notes (served sysGetPowerCmd { ask [] with length := 40 } live) { ask [] with length := 40 } = none := by
  decide +kernel

/-- The floor is not at its default. -/
def floored : State := { live with pwr := { live.pwr with floor := 1500 } }
theorem wit_MarginFloorSetting : (floored.boot.off = false ∧ floored.boot.nresetLow = false ∧ floored.awake = true) ∧
    allAccepted [(sysSetMarginFloorCmd, ask (u16 1020 ++ zeros 6), floored), (sysSetMarginFloorCmd, ask (u16 2000 ++ zeros 6), floored),
      (sysRestartCmd, ask (zeros 8), floored)] = true ∧
    (handsOver sysSetMarginFloorCmd (ask (u16 2001 ++ zeros 6)) floored = true ∧
      headerOutcome sysSetMarginFloorCmd (ask (u16 2001 ++ zeros 6)) floored = none ∧ (ask (u16 2001 ++ zeros 6)).u16 0 = 2001) ∧
    after (.pinReset 5) floored (fun t => t.pwr.floor = 1100) = true ∧
    after (.watchdogExpiry 5) floored (fun t => t.pwr.floor = 1100) = true ∧
    after (.nresetRise 5 0 true) { floored with boot := { floored.boot with st := 8 } } (fun t => t.pwr.floor = 1100) = true ∧
    restartRow (.sysGetFabric (ask [])) = false := by decide +kernel

/-- One key is enrolled, in slot 0. -/
def oneKey : State := { live with prot := { live.prot with keys := some { key := zeroKey, label := zeros 8 } :: List.replicate 7 none } }
theorem wit_KeysEnrolledAlone : (oneKey.keyCount = 1 ∧ handsOver keyEnrolCmd (ask enrol7) oneKey = true ∧
      headerOutcome keyEnrolCmd (ask enrol7) oneKey = none ∧ reserved (ask enrol7) 1 7 = none ∧ oneKey.key 7 = none) ∧
    (keyed.keyCount = 3 ∧ (keyed.key 7).isSome = true) ∧
    after (.keyEnrol (ask enrol7)) oneKey (fun t => t.keyCount = 2) = true := by decide +kernel
/-- Two keys are enrolled, in slots 0 and 1, and proposal 4 removes the second. -/
def twoKeys : State :=
  let s := proposing 0x0E06 (u8 1 ++ zeros 7) 4
  let k : Option KeySlot := some { key := zeroKey, label := zeros 8 }
  { s with prot := { s.prot with keys := k :: k :: List.replicate 6 none } }
theorem wit_KeysEnrolledAlone_remove : accepts protCountersignCmd (askSmbus countersign0) twoKeys = true ∧
    (twoKeys.keyCount = 2 ∧ (twoKeys.proposal 4).map (·.opcode) = some 0x0E06 ∧
      (twoKeys.proposal 4).map (fun p => (twoKeys.key (p.inner.u8 0)).isSome) = some true) ∧
    after (.protCountersign (askSmbus countersign0)) twoKeys (fun t => t.keyCount = 2) = true := by decide +kernel

/-- A record of the end of epoch 65,535 is the newest in the store of a module in reset. -/
def newestRecord : State :=
  let r : Record := { type := 3, seq := 9, epoch := 65535, boot := 0, tick := 0, time := 41, body := zeros 16 }
  { inReset with evt := { inReset.evt with ring := { inReset.evt.ring with records := [(0, r)] } } }
theorem wit_TimeKeeperStarts : (newestRecord.boot.powerGood = true ∧ newestRecord.evt.newest.map (·.time) = some 41 ∧ inReset.evt.newest = none) ∧
    after (.nresetRise 5 0 true) newestRecord (fun t => t.time.tai = 42 * 10 ^ 12 ∧ t.time.epoch = 0 ∧ t.time.source = 0) = true ∧
    after (.nresetRise 5 0 true) inReset (fun t => t.time.tai = 0 ∧ t.time.epoch = 0) = true ∧
    after (.watchdogExpiry 5) { live with time := { live.time with source := 2, epoch := 3, slew := 5 } }
      (fun t => t.time.source = 0 ∧ t.time.epoch = 3 ∧ t.time.slew = 0) = true ∧
    accepts sysRestartCmd (ask (zeros 8)) live = true := by decide +kernel

/-- Session 24 is open over Ethernet port 1, last valid at system time 7. -/
def peered : State :=
  { live with sess := updAt live.sess 24 fun x => { x with st := .idle, gen := 1, peerEth := 1, lastValid := 7 } }
/-- Payload of SYS_SET_NETWORK of port 1 with this timeout. -/
def network1 (timeout : Nat) : List Byte :=
  u8 1 ++ u8 24 ++ zeros 2 ++ zeros 8 ++ u16 4660 ++ u16 timeout ++ [2, 0, 0, 0, 0, 1] ++ zeros 10
theorem wit_SessionTimeouts : allAccepted [(sysSetNetworkCmd, ask (network1 10), live), (sysSetNetworkCmd, ask (network1 3600), live)] = true ∧
    (handsOver sysSetNetworkCmd (ask (network1 0)) live = true ∧ headerOutcome sysSetNetworkCmd (ask (network1 0)) live = none ∧
      firstFailure ((sysSetNetworkCmd.checks live (ask (network1 0))).take 4) = none ∧ (ask (network1 9)).u16 14 = 9) ∧
    (peered.serves = true ∧ (peered.session 24).st ≠ .closed ∧ peered.evt.used = 0) ∧
    after (.sessionTimeout 60000000000007 24) peered (fun t => (t.session 24).st = .closed ∧ t.evt.fifo.map (fun r => (r.type, r.body.take 3)) = [(2, [24, 1, 2])]) = true ∧
    after (.sessionTimeout 60000000000006 24) peered (fun t => (t.session 24).st = .idle) = true := by decide +kernel

theorem wit_StoresStayInPlace : (min live.userSize addressSpace - 100 ≥ 2) ∧
    readCell (memWrite 100 [7, 8] live).mem.cells 101 = 8 ∧ readCell (memWrite 100 [7, 8] live).mem.cells 102 = 0 ∧
    readCell (memZero 100 1 (memWrite 100 [7, 8] live)).mem.cells 101 = 8 := by decide +kernel

end Sys2Proof.Machine
end

/-! Every command: that it completes, what it keeps, and what the row of a request does. -/

namespace Sys2Proof.Machine

/-! ### The rows of the table -/

/-- The row of a request runs that request. -/
theorem exec_request {i : Instr} {c : Cmd} {q : Request} (h : requestOf i = some (c, q)) (s : State) :
    exec i s = .next (runRequest c q s) := by
  cases i <;> cases h <;> rfl

/-- Every command answers a next state. -/
theorem exec_next (i : Instr) (s : State) : ∃ t, exec i s = .next t := by
  cases i
  case sysOpenSession | recordWrite | recordsLost | ringCleared =>
    simp only [exec, execSysOpenSession, execRecordWrite, execRecordsLost, execRingCleared]
    split <;> exact ⟨_, rfl⟩
  all_goals exact ⟨_, rfl⟩

/-- The mask of all kinds of state: what a row that may change any of them keeps. -/
def allKinds : Nat := 2 ^ 47 - 1

/-- Every command leaves the queue alone, lets system time not fall, and keeps the invariant: row by row, what the laws of its
meaning say. -/
theorem exec_keeps : ∀ (i : Instr) (s : State), KeepsR allKinds s (exec i s)
  | .sysOpenSession q, s => execSysOpenSession_keeps q s
  | .sysCloseSession q, s => execSysCloseSession_keeps q s
  | .sysGetIdentity q, s => execSysGetIdentity_keeps q s
  | .sysGetFabric q, s => execSysGetFabric_keeps q s
  | .sysSetMarginFloor q, s => execSysSetMarginFloor_keeps q s
  | .sysSetVcoreMode q, s => execSysSetVcoreMode_keeps q s
  | .sysGetPower q, s => execSysGetPower_keeps q s
  | .sysSetNetwork q, s => execSysSetNetwork_keeps q s
  | .sysClearFlags q, s => execSysClearFlags_keeps q s
  | .sysRestart q, s => execSysRestart_keeps q s
  | .sysResetSubsystem q, s => execSysResetSubsystem_keeps q s
  | .sysSetPowerState q, s => execSysSetPowerState_keeps q s
  | .clkGetStatus q, s => execClkGetStatus_keeps q s
  | .clkGetOutput q, s => execClkGetOutput_keeps q s
  | .clkSetOutput q, s => execClkSetOutput_keeps q s
  | .clkSetReference q, s => execClkSetReference_keeps q s
  | .clkSetTimeSource q, s => execClkSetTimeSource_keeps q s
  | .clkSetTime q, s => execClkSetTime_keeps q s
  | .clkGetPps q, s => execClkGetPps_keeps q s
  | .clkStepPhase q, s => execClkStepPhase_keeps q s
  | .clkSetRamp q, s => execClkSetRamp_keeps q s
  | .clkSetCoreRate q, s => execClkSetCoreRate_keeps q s
  | .clkSetCeiling q, s => execClkSetCeiling_keeps q s
  | .inpSetEnable q, s => execInpSetEnable_keeps q s
  | .inpSetPair q, s => execInpSetPair_keeps q s
  | .inpGetStatus q, s => execInpGetStatus_keeps q s
  | .calRunForeground q, s => execCalRunForeground_keeps q s
  | .calSetSchedule q, s => execCalSetSchedule_keeps q s
  | .calGetQuality q, s => execCalGetQuality_keeps q s
  | .calSaveImage q, s => execCalSaveImage_keeps q s
  | .calReadImage q, s => execCalReadImage_keeps q s
  | .calWriteImage q, s => execCalWriteImage_keeps q s
  | .calRestoreImage q, s => execCalRestoreImage_keeps q s
  | .fltConfigureChain q, s => execFltConfigureChain_keeps q s
  | .fltLoadFir q, s => execFltLoadFir_keeps q s
  | .fltSetInput q, s => execFltSetInput_keeps q s
  | .fltStart q, s => execFltStart_keeps q s
  | .fltStop q, s => execFltStop_keeps q s
  | .fltSync q, s => execFltSync_keeps q s
  | .fltGetStatus q, s => execFltGetStatus_keeps q s
  | .trigSetComparator q, s => execTrigSetComparator_keeps q s
  | .trigSetCondition q, s => execTrigSetCondition_keeps q s
  | .trigSetPattern q, s => execTrigSetPattern_keeps q s
  | .trigSetGroup q, s => execTrigSetGroup_keeps q s
  | .trigSetBus q, s => execTrigSetBus_keeps q s
  | .trigSetMarker q, s => execTrigSetMarker_keeps q s
  | .trigForce q, s => execTrigForce_keeps q s
  | .trigGetStatus q, s => execTrigGetStatus_keeps q s
  | .edgeSetInput q, s => execEdgeSetInput_keeps q s
  | .edgeSetGate q, s => execEdgeSetGate_keeps q s
  | .edgeSetAngle q, s => execEdgeSetAngle_keeps q s
  | .edgeReadStamps q, s => execEdgeReadStamps_keeps q s
  | .edgeGetResults q, s => execEdgeGetResults_keeps q s
  | .segConfigure q, s => execSegConfigure_keeps q s
  | .segArm q, s => execSegArm_keeps q s
  | .segStop q, s => execSegStop_keeps q s
  | .segGetStatus q, s => execSegGetStatus_keeps q s
  | .hamConfigure q, s => execHamConfigure_keeps q s
  | .hamRelease q, s => execHamRelease_keeps q s
  | .hamStart q, s => execHamStart_keeps q s
  | .hamStop q, s => execHamStop_keeps q s
  | .hamSpill q, s => execHamSpill_keeps q s
  | .hamGetStatus q, s => execHamGetStatus_keeps q s
  | .dmxSetPort q, s => execDmxSetPort_keeps q s
  | .dmxEnumerate q, s => execDmxEnumerate_keeps q s
  | .dmxEnrol q, s => execDmxEnrol_keeps q s
  | .dmxRemoveHead q, s => execDmxRemoveHead_keeps q s
  | .dmxSetHead q, s => execDmxSetHead_keeps q s
  | .dmxHeadParam q, s => execDmxHeadParam_keeps q s
  | .dmxSetRoute q, s => execDmxSetRoute_keeps q s
  | .dmxSetAlarmGroup q, s => execDmxSetAlarmGroup_keeps q s
  | .dmxRejoin q, s => execDmxRejoin_keeps q s
  | .dmxGetStatus q, s => execDmxGetStatus_keeps q s
  | .dmxGetHeads q, s => execDmxGetHeads_keeps q s
  | .engGetCatalogue q, s => execEngGetCatalogue_keeps q s
  | .engCreateJob q, s => execEngCreateJob_keeps q s
  | .engStartJob q, s => execEngStartJob_keeps q s
  | .engStopJob q, s => execEngStopJob_keeps q s
  | .engDeleteJob q, s => execEngDeleteJob_keeps q s
  | .engGetStatus q, s => execEngGetStatus_keeps q s
  | .engGetJob q, s => execEngGetJob_keeps q s
  | .phConfigure q, s => execPhConfigure_keeps q s
  | .phSetPolicy q, s => execPhSetPolicy_keeps q s
  | .phSetDrain q, s => execPhSetDrain_keeps q s
  | .phFlush q, s => execPhFlush_keeps q s
  | .phRelease q, s => execPhRelease_keeps q s
  | .phRead q, s => execPhRead_keeps q s
  | .phBindEdge q, s => execPhBindEdge_keeps q s
  | .phGetStatus q, s => execPhGetStatus_keeps q s
  | .phRingConfigure q, s => execPhRingConfigure_keeps q s
  | .phRingStart q, s => execPhRingStart_keeps q s
  | .phRingStop q, s => execPhRingStop_keeps q s
  | .phRingStatus q, s => execPhRingStatus_keeps q s
  | .phStreamConfigure q, s => execPhStreamConfigure_keeps q s
  | .phStreamStatus q, s => execPhStreamStatus_keeps q s
  | .ptpConfigure q, s => execPtpConfigure_keeps q s
  | .ptpGetStatus q, s => execPtpGetStatus_keeps q s
  | .pcieSetClocking q, s => execPcieSetClocking_keeps q s
  | .memSetRate q, s => execMemSetRate_keeps q s
  | .memRetireRank q, s => execMemRetireRank_keeps q s
  | .memRemap q, s => execMemRemap_keeps q s
  | .memGetStatus q, s => execMemGetStatus_keeps q s
  | .syncConfigure q, s => execSyncConfigure_keeps q s
  | .syncCalibrateDelay q, s => execSyncCalibrateDelay_keeps q s
  | .syncCheck q, s => execSyncCheck_keeps q s
  | .syncLock q, s => execSyncLock_keeps q s
  | .syncResetDomain q, s => execSyncResetDomain_keeps q s
  | .syncGetStatus q, s => execSyncGetStatus_keeps q s
  | .evtGetStatus q, s => execEvtGetStatus_keeps q s
  | .evtRead q, s => execEvtRead_keeps q s
  | .evtSetCopy q, s => execEvtSetCopy_keeps q s
  | .evtClearRing q, s => execEvtClearRing_keeps q s
  | .keyEnrol q, s => execKeyEnrol_keeps q s
  | .keyRemove q, s => execKeyRemove_keeps q s
  | .keyList q, s => execKeyList_keeps q s
  | .protPropose q, s => execProtPropose_keeps q s
  | .protCountersign q, s => execProtCountersign_keeps q s
  | .protSetProtected q, s => execProtSetProtected_keeps q s
  | .protGetProtected q, s => execProtGetProtected_keeps q s
  | .fwWrite q, s => execFwWrite_keeps q s
  | .fwCommit q, s => execFwCommit_keeps q s
  | .auxSetSequence q, s => execAuxSetSequence_keeps q s
  | .auxInject q, s => execAuxInject_keeps q s
  | .auxSetCapture q, s => execAuxSetCapture_keeps q s
  | .auxGetCapture q, s => execAuxGetCapture_keeps q s
  | .auxGetMonitors q, s => execAuxGetMonitors_keeps q s
  | .mbxDoorbellSubmit at_ n resv, s => execMbxDoorbellSubmit_keeps at_ n resv s
  | .mbxDoorbellOpen at_ n notify vector resv, s => execMbxDoorbellOpen_keeps at_ n notify vector resv s
  | .mbxDoorbellClose at_ n resv, s => execMbxDoorbellClose_keeps at_ n resv s
  | .irqStatusWrite at_ v, s => execIrqStatusWrite_keeps at_ v s
  | .bootStateWrite at_ v, s => execBootStateWrite_keeps at_ v s
  | .auxDataRead at_, s => execAuxDataRead_keeps at_ s
  | .auxStatusWrite at_ v, s => execAuxStatusWrite_keeps at_ v s
  | .registerWrite at_ w, s => execRegisterWrite_keeps at_ w s
  | .msixUnmask at_ vec, s => execMsixUnmask_keeps at_ vec s
  | .bar2Read at_ addr len corrected, s => execBar2Read_keeps at_ addr len corrected s
  | .bar2Write at_ addr data, s => execBar2Write_keeps at_ addr data s
  | .sessionDatagram at_ port opcode q, s => execSessionDatagram_keeps at_ port opcode q s
  | .reassemblyTimeout at_ id, s => execReassemblyTimeout_keeps at_ id s
  | .sessionTimeout at_ n, s => execSessionTimeout_keeps at_ n s
  | .arpRequest at_ port target senderIp senderMac, s => execArpRequest_keeps at_ port target senderIp senderMac s
  | .icmpEchoRequest at_ port target sender data, s => execIcmpEchoRequest_keeps at_ port target sender data s
  | .powerOnReset at_, s => execPowerOnReset_keeps at_ s
  | .vauxLeavesTolerance at_, s => execVauxLeavesTolerance_keeps at_ s
  | .railsFall at_ loss, s => execRailsFall_keeps at_ loss s
  | .powerDown at_, s => execPowerDown_keeps at_ s
  | .powerDownDone at_, s => execPowerDownDone_keeps at_ s
  | .powergoodRestored at_ memHeld, s => execPowergoodRestored_keeps at_ memHeld s
  | .pinReset at_, s => execPinReset_keeps at_ s
  | .nresetRise at_ straps memHeld, s => execNresetRise_keeps at_ straps memHeld s
  | .wakeEdge at_, s => execWakeEdge_keeps at_ s
  | .deepStandbyEntry at_, s => execDeepStandbyEntry_keeps at_ s
  | .standbyEntryComplete at_, s => execStandbyEntryComplete_keeps at_ s
  | .standbyExitComplete at_, s => execStandbyExitComplete_keeps at_ s
  | .imageCheckDone at_ check digest, s => execImageCheckDone_keeps at_ check digest s
  | .firmwareStarted at_, s => execFirmwareStarted_keeps at_ s
  | .memoryInitialised at_ locked, s => execMemoryInitialised_keeps at_ locked s
  | .calStartupStep at_ step trims, s => execCalStartupStep_keeps at_ step trims s
  | .calStartupDone ended, s => execCalStartupDone_keeps ended s
  | .watchdogExpiry at_, s => execWatchdogExpiry_keeps at_ s
  | .pePerstnAsserted at_, s => execPePerstnAsserted_keeps at_ s
  | .hotReset at_, s => execHotReset_keeps at_ s
  | .busMasterEnableCleared at_, s => execBusMasterEnableCleared_keeps at_ s
  | .pcieLinkDown at_, s => execPcieLinkDown_keeps at_ s
  | .tjReading at_ tj, s => execTjReading_keeps at_ tj s
  | .marginWindow at_ caps sensed, s => execMarginWindow_keeps at_ caps sensed s
  | .pmbusTransaction at_ acked fault value, s => execPmbusTransaction_keeps at_ acked fault value s
  | .ovenReady at_ temp, s => execOvenReady_keeps at_ temp s
  | .ovenTimeout at_ temp power, s => execOvenTimeout_keeps at_ temp power s
  | .ovenUnsettled at_ temp, s => execOvenUnsettled_keeps at_ temp s
  | .ovenFault at_ temp, s => execOvenFault_keeps at_ temp s
  | .sourceAbsent at_ source, s => execSourceAbsent_keeps at_ source s
  | .sourcePresent at_ source offset, s => execSourcePresent_keeps at_ source offset s
  | .refSwitched at_ loop, s => execRefSwitched_keeps at_ loop s
  | .clockLockLost at_ loop frozen, s => execClockLockLost_keeps at_ loop frozen s
  | .clockRelocked at_ loop slip, s => execClockRelocked_keeps at_ loop slip s
  | .clkRampSegmentEnd at_ loop, s => execClkRampSegmentEnd_keeps at_ loop s
  | .coreRateRampEnd at_, s => execCoreRateRampEnd_keeps at_ s
  | .clockRateChanged at_, s => execClockRateChanged_keeps at_ s
  | .coreRateLockTimeout at_, s => execCoreRateLockTimeout_keeps at_ s
  | .phaseStepDone at_, s => execPhaseStepDone_keeps at_ s
  | .ppsinEdge at_ reading, s => execPpsinEdge_keeps at_ reading s
  | .ppsLost at_, s => execPpsLost_keeps at_ s
  | .frameDeposit at_ lanes, s => execFrameDeposit_keeps at_ lanes s
  | .laneLiftsFrame at_ lane, s => execLaneLiftsFrame_keeps at_ lane s
  | .headLaneLift at_, s => execHeadLaneLift_keeps at_ s
  | .overdriveDetected at_ input negative first last excess, s => execOverdriveDetected_keeps at_ input negative first last excess s
  | .rotationShadowStart at_ core, s => execRotationShadowStart_keeps at_ core s
  | .rotationTrim at_ trim, s => execRotationTrim_keeps at_ trim s
  | .coreReady at_ core, s => execCoreReady_keeps at_ core s
  | .seamStart at_ input, s => execSeamStart_keeps at_ input s
  | .seamTest at_ input overlap, s => execSeamTest_keeps at_ input overlap s
  | .seamDone at_ input, s => execSeamDone_keeps at_ input s
  | .seamRetry at_ input, s => execSeamRetry_keeps at_ input s
  | .temperatureReading at_ input temp, s => execTemperatureReading_keeps at_ input temp s
  | .calMaxInterval at_ input, s => execCalMaxInterval_keeps at_ input s
  | .calForegroundDone at_ trims, s => execCalForegroundDone_keeps at_ trims s
  | .inputCalibrationDone at_ trims, s => execInputCalibrationDone_keeps at_ trims s
  | .calRestored at_, s => execCalRestored_keeps at_ s
  | .filterSync at_, s => execFilterSync_keeps at_ s
  | .triggerClassified at_ group, s => execTriggerClassified_keeps at_ group s
  | .fillEnd at_ group, s => execFillEnd_keeps at_ group s
  | .reArmEnd at_ group, s => execReArmEnd_keeps at_ group s
  | .tokenGain at_, s => execTokenGain_keeps at_ s
  | .preFillEnd at_ group, s => execPreFillEnd_keeps at_ group s
  | .holdoffEnd at_ group, s => execHoldoffEnd_keeps at_ group s
  | .sequenceWindowClose at_ group, s => execSequenceWindowClose_keeps at_ group s
  | .triginEdge at_ n rising tick, s => execTriginEdge_keeps at_ n rising tick s
  | .trigbusMessageReceived at_ m, s => execTrigbusMessageReceived_keeps at_ m s
  | .markerEdge at_ marker, s => execMarkerEdge_keeps at_ marker s
  | .tachEdge at_ n rising reading, s => execTachEdge_keeps at_ n rising reading s
  | .tachSettingTakesEffect at_ n, s => execTachSettingTakesEffect_keeps at_ n s
  | .interpolatorRefresh at_ source interp c1 c2, s => execInterpolatorRefresh_keeps at_ source interp c1 c2 s
  | .linearityTableBuilt at_ source interp table, s => execLinearityTableBuilt_keeps at_ source interp table s
  | .tdcTableStale at_ source interp, s => execTdcTableStale_keeps at_ source interp s
  | .gateStart at_ n, s => execGateStart_keeps at_ n s
  | .gateEnd at_ n, s => execGateEnd_keeps at_ n s
  | .armFrame at_ group, s => execArmFrame_keeps at_ group s
  | .armHoldTimeout at_ group, s => execArmHoldTimeout_keeps at_ group s
  | .groupDisarm at_ group, s => execGroupDisarm_keeps at_ group s
  | .postmarkFill at_ group, s => execPostmarkFill_keeps at_ group s
  | .strandWritten at_ group input, s => execStrandWritten_keeps at_ group input s
  | .postmarkWritten at_ group, s => execPostmarkWritten_keeps at_ group s
  | .hamperClearingEnd at_ acc, s => execHamperClearingEnd_keeps at_ acc s
  | .segmentCombined at_ acc, s => execSegmentCombined_keeps at_ acc s
  | .spillDone at_, s => execSpillDone_keeps at_ s
  | .roundStart at_ port, s => execRoundStart_keeps at_ port s
  | .slotWindowEnd at_ port position, s => execSlotWindowEnd_keeps at_ port position s
  | .damuxSlotReceived at_ port window arrival frame, s => execDamuxSlotReceived_keeps at_ port window arrival frame s
  | .discoveryReply at_ port inWindow roundTrip head crcGood, s => execDiscoveryReply_keeps at_ port inWindow roundTrip head crcGood s
  | .beaconReturned at_ port, s => execBeaconReturned_keeps at_ port s
  | .rediscovery at_ port, s => execRediscovery_keeps at_ port s
  | .portTrainingEnd at_ port forward back, s => execPortTrainingEnd_keeps at_ port forward back s
  | .portTrainingRetry at_ port, s => execPortTrainingRetry_keeps at_ port s
  | .damuxLaneSignalLost at_ port returnEnd, s => execDamuxLaneSignalLost_keeps at_ port returnEnd s
  | .damuxBreakRepaired at_ port, s => execDamuxBreakRepaired_keeps at_ port s
  | .blockRelease at_ job, s => execBlockRelease_keeps at_ job s
  | .chunkArrival at_ job, s => execChunkArrival_keeps at_ job s
  | .taskComplete at_ engine, s => execTaskComplete_keeps at_ engine s
  | .engineAbort at_ engine elapsed, s => execEngineAbort_keeps at_ engine elapsed s
  | .engineFault at_ engine, s => execEngineFault_keeps at_ engine s
  | .blockedWriterResumes at_ ph, s => execBlockedWriterResumes_keeps at_ ph s
  | .entryCommitted at_ ph, s => execEntryCommitted_keeps at_ ph s
  | .drainDeadlineEvaluation at_, s => execDrainDeadlineEvaluation_keeps at_ s
  | .hostRingDelivery at_ ring, s => execHostRingDelivery_keeps at_ ring s
  | .consumerReadCompletion at_ ring success value, s => execConsumerReadCompletion_keeps at_ ring success value s
  | .consumerReadTimeout at_ ring, s => execConsumerReadTimeout_keeps at_ ring s
  | .coalescingTime at_ ring, s => execCoalescingTime_keeps at_ ring s
  | .stampBatchClose at_ source, s => execStampBatchClose_keeps at_ source s
  | .streamDatagramSent at_ stream, s => execStreamDatagramSent_keeps at_ stream s
  | .pauseFrame at_ port quanta, s => execPauseFrame_keeps at_ port quanta s
  | .ethernetLinkDown at_ port, s => execEthernetLinkDown_keeps at_ port s
  | .ethernetLinkUp at_ port, s => execEthernetLinkUp_keeps at_ port s
  | .ptpMessageReceived at_ port m, s => execPtpMessageReceived_keeps at_ port m s
  | .delayReqInterval at_, s => execDelayReqInterval_keeps at_ s
  | .ptpLost at_, s => execPtpLost_keeps at_ s
  | .refresh at_ channel bank, s => execRefresh_keeps at_ channel bank s
  | .patrolScrub at_ outcome, s => execPatrolScrub_keeps at_ outcome s
  | .memUncorrectable at_ addr requester, s => execMemUncorrectable_keeps at_ addr requester s
  | .memPrivilegedError at_ region page ph, s => execMemPrivilegedError_keeps at_ region page ph s
  | .trainingStep at_, s => execTrainingStep_keeps at_ s
  | .extraTrainingStep at_ channel, s => execExtraTrainingStep_keeps at_ channel s
  | .trainingPause at_ good width height temp, s => execTrainingPause_keeps at_ good width height temp s
  | .memRateChanged at_, s => execMemRateChanged_keeps at_ s
  | .memoryLoopLockTimeout at_, s => execMemoryLoopLockTimeout_keeps at_ s
  | .migrationUnitCopied at_ corrected poisoned, s => execMigrationUnitCopied_keeps at_ corrected poisoned s
  | .rankRetired at_, s => execRankRetired_keeps at_ s
  | .recordWrite at_ good, s => execRecordWrite_keeps at_ good s
  | .recordsLost at_, s => execRecordsLost_keeps at_ s
  | .recordCopied at_, s => execRecordCopied_keeps at_ s
  | .ringCleared at_, s => execRingCleared_keeps at_ s
  | .protectedExpired at_ proposal, s => execProtectedExpired_keeps at_ proposal s
  | .sequenceConversionDue at_, s => execSequenceConversionDue_keeps at_ s
  | .housekeepingConversionDue at_, s => execHousekeepingConversionDue_keeps at_ s
  | .conversionDone at_ code, s => execConversionDone_keeps at_ code s
  | .calibrationHoldEnd at_, s => execCalibrationHoldEnd_keeps at_ s
  | .syncFrameSend at_, s => execSyncFrameSend_keeps at_ s
  | .syncFrameReceived at_ marker f, s => execSyncFrameReceived_keeps at_ marker f s
  | .syncLost at_, s => execSyncLost_keeps at_ s
  | .syncReportSlot at_, s => execSyncReportSlot_keeps at_ s
  | .reportBitsChanged at_, s => execReportBitsChanged_keeps at_ s
  | .trigbusReportReceived at_ r, s => execTrigbusReportReceived_keeps at_ r s
  | .probeReceived at_ id number stamp crcGood, s => execProbeReceived_keeps at_ id number stamp crcGood s
  | .checkWaitEnd at_, s => execCheckWaitEnd_keeps at_ s
  | .syncDomainReset at_, s => execSyncDomainReset_keeps at_ s
  | .pcieLinkTraining at_, s => execPcieLinkTraining_keeps at_ s
  | .pePerstnReleased at_, s => execPePerstnReleased_keeps at_ s
  | .busMasterEnableSet at_, s => execBusMasterEnableSet_keeps at_ s
  | .msixMask at_ vec, s => execMsixMask_keeps at_ vec s
  | .unallocatedOpcodeRequest opcode q, s => execUnallocatedOpcodeRequest_keeps opcode q s
  | .ipv4FragmentReceived at_ port id sender offset last data, s => execIpv4FragmentReceived_keeps at_ port id sender offset last data s
  | .smbusTimeout at_, s => execSmbusTimeout_keeps at_ s
  | .pauseTimeExpiry at_ port, s => execPauseTimeExpiry_keeps at_ port s
  | .vovenApplied at_, s => execVovenApplied_keeps at_ s
  | .vovenRemoved at_, s => execVovenRemoved_keeps at_ s
  | .railsRemoved at_ memory, s => execRailsRemoved_keeps at_ memory s
  | .trigbusFrameSent at_, s => execTrigbusFrameSent_keeps at_ s
  | .consumerWordReread at_ ring, s => execConsumerWordReread_keeps at_ ring s
  | .jtagTckEdge at_ rising tms tdi lands, s => execJtagTckEdge_keeps at_ rising tms tdi lands s
  | .trstnAsserted at_, s => execTrstnAsserted_keeps at_ s

/-! ### Time that has passed already -/

theorem cappedUnits_zero (cap freq slope : Int) : cappedUnits cap freq slope 0 = 0 := by
  unfold cappedUnits
  split
  · split <;> simp [tickUnits]
  · split <;> simp [tickUnits]

/-- The grid stands still while no time passes, once what is left over is less than a tick. -/
theorem runGrid_zero {cap slope : Int} {t : TimeState} (h : t.gridOn = true → t.rem < 5 * 10 ^ 20) : runGrid cap t slope 0 = t := by
  have hfreq : t.freq + slope * ((0 : Nat) : Int) / 1000000 = t.freq := by omega
  unfold runGrid
  split
  · next hg =>
    simp only [cappedUnits_zero, Int.toNat_zero, Nat.add_zero, Nat.div_eq_of_lt (h hg), Nat.mod_eq_of_lt (h hg), hfreq]
  · simp only [hfreq]

@[simp] theorem runGrid_gridOn (cap slope : Int) (t : TimeState) (dt : Nat) : (runGrid cap t slope dt).gridOn = t.gridOn := by
  unfold runGrid; split <;> rfl

theorem runGrid_rem_lt {cap slope : Int} {t : TimeState} {dt : Nat} (h : t.gridOn = true) :
    (runGrid cap t slope dt).rem < 5 * 10 ^ 20 := by
  simp only [runGrid, h, if_true]
  exact Nat.mod_lt _ (by decide)

theorem runWall_zero (t : TimeState) : runWall t 0 = t := by
  have hmul (x : Int) : ((0 : Nat) : Int) * x = 0 := Int.zero_mul x
  have hclamp : clampInt (-0) 0 t.slew = 0 := by unfold clampInt; omega
  simp only [runWall, hmul, hclamp, Int.add_zero, Int.sub_zero]

/-- Time does not pass a second time up to the same instant. -/
theorem advanceTime_of_le {cap : Int} {t : TimeState} {n : Nat} (hn : n ≤ t.ps) (h : t.gridOn = true → t.rem < 5 * 10 ^ 20) :
    advanceTime cap t n = t := by
  have h0 : min n t.slopeEnd - t.ps = 0 := by omega
  simp only [advanceTime, h0, Nat.sub_eq_zero_of_le hn, runGrid_zero h, runWall_zero, Nat.max_eq_left hn]

theorem advance_gridOn (n : Nat) (s : State) : (advance n s).time.gridOn = s.time.gridOn :=
  (runGrid_gridOn ..).trans (runGrid_gridOn ..)

theorem Loop.pass_zero (l : Loop) : l.pass 0 = l := by
  unfold Loop.pass; split <;> rfl

theorem advance_advance (n : Nat) (s : State) : advance n (advance n s) = advance n s := by
  have hle : n ≤ (advance n s).time.ps := Nat.le_max_right ..
  have hrem : (advance n s).time.gridOn = true → (advance n s).time.rem < 5 * 10 ^ 20 := fun hg =>
    runGrid_rem_lt (t := runGrid s.clk.cap s.time s.time.slope (min n s.time.slopeEnd - s.time.ps))
      (by rw [runGrid_gridOn, ← advance_gridOn n s, hg])
  have hloops : (advance n s).clk.loops.map (Loop.pass 0) = (advance n s).clk.loops :=
    List.map_congr_left (fun l _ => l.pass_zero) |>.trans (List.map_id _)
  rw [advance, Nat.sub_eq_zero_of_le hle, hloops, advanceTime_of_le hle hrem]

/-- A request finds the module at its own time. -/
theorem runRequest_advance (c : Cmd) (q : Request) (s : State) : runRequest c q (advance q.time s) = runRequest c q s := by
  rw [runRequest, advance_advance]; rfl

/-- Settles O52: a step runs the command at the front on the rest of the queue, and every command keeps the invariant. -/
theorem stepKeepsInvariant : Obligations.StepKeepsInvariant := by
  intro s t hi ht
  unfold step at ht
  split at ht
  · cases ht
    exact hi
  · next c rest _ =>
    obtain ⟨-, -, hinv, -⟩ := exec_keeps c _ t ht
    exact hinv hi

/-- Every command completes, keeps the queue, and system time does not fall. -/
theorem exec_completes (i : Instr) (s : State) : ∃ t, exec i s = .next t ∧ t.pending = s.pending ∧ s.time.ps ≤ t.time.ps := by
  obtain ⟨t, ht⟩ := exec_next i s
  obtain ⟨hp, hps, -⟩ := exec_keeps i s t ht
  exact ⟨t, ht, hp, hps⟩

/-- Steps run a queue down, however they are chained. -/
theorem steps_empty_queue {f : Result → Instr → Result} (hf : ∀ u i, f (.next u) i = step u) : ∀ (l : List Instr) (s : State),
    s.pending = l → ∃ t, l.foldl f (.next s) = .next t ∧ t.pending = [] ∧ s.time.ps ≤ t.time.ps
  | [], s, h => ⟨s, rfl, h, Nat.le_refl _⟩
  | c :: rest, s, h => by
    obtain ⟨u, hu, hp, hps⟩ := exec_completes c (s.withPending rest)
    obtain ⟨t, ht, hempty, hle⟩ := steps_empty_queue hf rest u hp
    refine ⟨t, ?_, hempty, Nat.le_trans hps hle⟩
    have hstep : step s = .next u := by rw [step, h]; exact hu
    rw [List.foldl_cons, hf, hstep, ht]

/-- Settles O53: every command completes and keeps the queue; a request is served at its own time, up to which time does not
pass twice; the chain of steps is an induction over the queue. -/
theorem everyCommandCompletes : Obligations.EveryCommandCompletes := by
  refine ⟨exec_completes, fun i c q s hi => ?_, fun i c q s hi ha => ?_, fun s => ?_⟩
  · obtain ⟨t, ht, -, hps⟩ := exec_completes i (advance q.time s)
    refine ⟨t, ?_, hps⟩
    rwa [exec_request hi, runRequest_advance, ← exec_request hi] at ht
  · rw [exec_request hi, runRequest_accepts ha]
  · exact steps_empty_queue (fun _ _ => rfl) s.pending s rfl

end Sys2Proof.Machine

/-! What a request that fails a check leads to: its rejection in the session and in the event records. -/

namespace Sys2Proof.Machine

/-! ### Staging a record -/

/-- The bytes that the FIFO may hold with a new record (R500). -/
def EventState.limit (e : EventState) : Nat := if e.carrying then fifoSize else fifoSize - fifoReserve

/-- A record that finds room stands last in the FIFO under the next number. -/
theorem stageRecord_of_room {r : Record} {s : State} (h : s.evt.used + r.size ≤ s.evt.limit) :
    (stageRecord r s).evt.fifo = s.evt.fifo ++ [{ r with seq := s.evt.nextSeq }] ∧
      (stageRecord r s).evt.nextSeq = s.evt.nextSeq + 1 ∧ (stageRecord r s).evt.opening = s.evt.opening := by
  rw [show stageRecord r s = _ from if_pos h]
  exact ⟨rfl, rfl, rfl⟩

/-- A record that finds none uses up its number (R502). -/
theorem stageRecord_of_full {r : Record} {s : State} (h : ¬ s.evt.used + r.size ≤ s.evt.limit) :
    (stageRecord r s).evt.fifo = s.evt.fifo ∧
      (stageRecord r s).evt.nextSeq = s.evt.nextSeq + 1 ∧ (stageRecord r s).evt.opening = s.evt.opening := by
  rw [show stageRecord r s = _ from if_neg h]
  simp [dropRecord]

@[simp] theorem stageRecord_opening (r : Record) (s : State) : (stageRecord r s).evt.opening = s.evt.opening := by
  by_cases h : s.evt.used + r.size ≤ s.evt.limit
  · exact (stageRecord_of_room h).2.2
  · exact (stageRecord_of_full h).2.2

/-- At most one record joins the FIFO, of the size of the record staged. -/
theorem stageRecord_appends (r : Record) (s : State) :
    ∃ l : List Record, (stageRecord r s).evt.fifo = s.evt.fifo ++ l ∧ l.length ≤ 1 ∧ (l.map Record.size).sum ≤ r.size := by
  by_cases h : s.evt.used + r.size ≤ s.evt.limit
  · exact ⟨_, (stageRecord_of_room h).1, Nat.le_refl _, Nat.le_refl _⟩
  · exact ⟨[], by simp [stageRecord_of_full h]⟩

/-- Once the firmware has started, a record is staged at once. -/
theorem stageBody_started {type : Nat} {body : List Byte} {s : State} (hr : s.records = true) (ho : s.evt.opening = []) :
    stageBody type body s = stageRecord (s.newRecord type body) s := by
  simp [stageBody, hr, ho]

/-- A record that finds room is the last of the FIFO. -/
theorem stageBody_of_room {type : Nat} {body : List Byte} {s : State} (hr : s.records = true) (ho : s.evt.opening = [])
    (room : s.evt.used + (36 + body.length) ≤ s.evt.limit) :
    ∃ r, (stageBody type body s).evt.fifo = s.evt.fifo ++ [r] ∧ r.type = type ∧ r.body = body ∧ r.seq = s.evt.nextSeq ∧
      (stageBody type body s).evt.nextSeq = r.seq + 1 := by
  obtain ⟨hf, hn, -⟩ := stageRecord_of_room (r := s.newRecord type body) room
  rw [stageBody_started hr ho]
  exact ⟨_, hf, rfl, rfl, rfl, hn⟩

theorem stageBody_appends {type : Nat} {body : List Byte} {s : State} (hr : s.records = true) (ho : s.evt.opening = []) :
    ∃ l : List Record, (stageBody type body s).evt.fifo = s.evt.fifo ++ l ∧ l.length ≤ 1 ∧
      (l.map Record.size).sum ≤ 36 + body.length := by
  rw [stageBody_started hr ho]
  exact stageRecord_appends ..

theorem stageBody_opening {type : Nat} {body : List Byte} {s : State} (hr : s.records = true) (ho : s.evt.opening = []) :
    (stageBody type body s).evt.opening = [] := by
  rw [stageBody_started hr ho, stageRecord_opening, ho]

theorem padBody_length_le (b : List Byte) : (padBody b).length ≤ max 16 (b.length + 3) := by
  simp only [padBody, List.length_append, zeros_length]; omega

/-- The body of COMMAND_ACCEPTED and REQUEST_REJECTED holds at most 4,048 bytes of the request (R498). -/
theorem requestBody_length_le (opcode status : Nat) (q : Request) : (requestBody opcode status q).length ≤ 4063 := by
  have hd : (sha256 q.body).length = 32 := by simp [sha256, Hash.digest, Quad.bytes, be, le]
  refine Nat.le_trans (padBody_length_le _) ?_
  split
  · simp [hd]; omega
  · next h =>
    simp only [decide_eq_true_eq] at h
    simp; omega

/-! ### A rejection -/

theorem reply_evt {w : Waiter} (h : w.inner = none) (st : Nat) (p : List Byte) (s : State) : (reply w st p s).evt = s.evt := by
  simp only [reply, protectedDone, h]
  split <;> simp

/-- Of the sessions, a reply that goes out changes its own alone. -/
theorem deliver_sess (w : Waiter) (st : Nat) (p : List Byte) (s : State) :
    ∃ f, (deliver w st p s).sess = updAt s.sess w.sess f := by
  unfold deliver
  dsimp only
  split
  · split
    · exact ⟨_, (sendMsix_sess ..).trans ((setIrq_sess ..).trans rfl)⟩
    · exact ⟨_, (setIrq_sess ..).trans rfl⟩
  · split <;> exact ⟨_, rfl⟩

/-- A reply changes no other session. -/
theorem reply_session_ne {w : Waiter} {n : Nat} (hw : w.inner = none) (h : n ≠ w.sess) (st : Nat) (p : List Byte) (s : State) :
    (reply w st p s).session n = s.session n := by
  simp only [reply, protectedDone, hw]
  split
  · obtain ⟨f, hf⟩ := deliver_sess w st p s
    simp only [State.session, hf, getD_updAt]
    exact if_neg fun e => h e.1.symm
  · rfl

/-- REQUEST_REJECTED is staged last, under the next number (R441). -/
theorem rejectRequest_stages {w : Waiter} {s : State} (st : Nat) (p : List Byte) (q : Request) (hi : w.inner = none)
    (hr : s.records = true) (ho : s.evt.opening = []) (room : s.evt.used + 4100 ≤ fifoSize) :
    ∃ r, (rejectRequest w st p q s).evt.fifo = s.evt.fifo ++ [r] ∧ r.type = 0x0004 ∧ r.body = requestBody w.opcode st q ∧
      r.seq = s.evt.nextSeq ∧ (rejectRequest w st p q s).evt.nextSeq = r.seq + 1 := by
  have hb := requestBody_length_le w.opcode st q
  have e : (rejectRequest w st p q s).evt = (carrying (stageBody 0x0004 (requestBody w.opcode st q)) s).evt :=
    reply_evt (w := { w with eventSeq := s.evt.nextSeq }) hi ..
  have room' : s.evt.used + (36 + (requestBody w.opcode st q).length) ≤ fifoSize := by omega
  have h := stageBody_of_room (type := 4) (body := requestBody w.opcode st q)
    (s := { s with evt := { s.evt with carrying := true } }) hr ho room'
  rw [e]
  exact h

/-- A rejection stands in its session as the reply. -/
theorem rejectRequest_answers {c : Cmd} {q : Request} {w : Waiter} {s : State} (st : Nat) (p : List Byte) (h1 : w.sess = q.sess)
    (h2 : w.opcode = c.opcode) (h3 : w.tag = q.tag) (hi : w.inner = none) (hs : q.sess < s.sess.length)
    (hr : (s.session q.sess).st = .running) (hg : (s.session q.sess).gen = w.gen) :
    answers c q st p (rejectRequest w st p q s) :=
  reply_answers (w := { w with eventSeq := s.evt.nextSeq }) h1 h2 h3 hi (by simpa using hs)
    (by simpa [State.session] using hr) (by simpa [State.session] using hg)

theorem rejectRequest_session_ne {w : Waiter} {n : Nat} (hi : w.inner = none) (h : n ≠ w.sess) (st : Nat) (p : List Byte)
    (q : Request) (s : State) : (rejectRequest w st p q s).session n = s.session n :=
  (reply_session_ne (w := { w with eventSeq := s.evt.nextSeq }) hi h st p _).trans (by simp [State.session])

/-! ### The record that goes before a rejection -/

@[simp] theorem noteRejection_sess (c : Cmd) (q : Request) (s : State) : (noteRejection c q s).sess = s.sess := by
  unfold noteRejection; split <;> simp

@[simp] theorem noteRejection_records (c : Cmd) (q : Request) (s : State) : (noteRejection c q s).records = s.records := by
  unfold noteRejection recordLimited
  split
  · split
    · rfl
    · simp [State.records, State.awake]
  · rfl

theorem noteRejection_of_none {c : Cmd} {q : Request} {s : State} (h : c.notes s q = none) : noteRejection c q s = s := by
  simp [noteRejection, h]

/-- The records that commands write for their rejections are short. -/
def Cmd.notesShort (c : Cmd) : Prop :=
  ∀ s q type idx gap fs, c.notes s q = some (type, idx, gap, fs) → (bodyOf fs).length ≤ 64

/-- At most one record goes before a rejection, and it is short. -/
theorem noteRejection_appends {c : Cmd} {q : Request} {s : State} (hc : c.notesShort) (hr : s.records = true)
    (ho : s.evt.opening = []) :
    (noteRejection c q s).evt.opening = [] ∧ ∃ l : List Record, (noteRejection c q s).evt.fifo = s.evt.fifo ++ l ∧
      l.length ≤ 1 ∧ (l.map Record.size).sum ≤ 100 := by
  have stays : s.evt.opening = [] ∧ ∃ l : List Record, s.evt.fifo = s.evt.fifo ++ l ∧ l.length ≤ 1 ∧
      (l.map Record.size).sum ≤ 100 := ⟨ho, [], by simp⟩
  unfold noteRejection
  split
  case h_1 type idx gap fs hn =>
    unfold recordLimited record
    split
    · exact stays
    · have hb := hc s q type idx gap fs hn
      obtain ⟨l, hf, h1, hl⟩ := stageBody_appends (type := type) (body := bodyOf fs) (s := { s with evt := { s.evt with
        limits := (type, idx, s.time.ps) :: s.evt.limits.filter fun l => ¬ (l.1 = type ∧ l.2.1 = idx) } }) hr ho
      exact ⟨stageBody_opening hr ho, l, hf, h1, by omega⟩
  case h_2 => exact stays

/-- Only DMX_ENROL writes a record for a rejection (R317). -/
theorem requestOf_notes {i : Instr} {c : Cmd} {q : Request} (h : requestOf i = some (c, q)) :
    c = dmxEnrolCmd ∨ c.notes = fun _ _ => none := by
  cases i <;> cases h
  case dmxEnrol => exact .inl rfl
  all_goals exact .inr rfl

theorem requestOf_notesShort {i : Instr} {c : Cmd} {q : Request} (h : requestOf i = some (c, q)) : c.notesShort := by
  intro s q' type idx gap fs hn
  obtain rfl | hc := requestOf_notes h
  · simp only [dmxEnrolCmd] at hn
    split at hn
    · cases hn
    · cases hn
      simp [bodyOf, layFields, padBody, r1, r8, r4]
  · rw [hc] at hn
    cases hn

/-! ### A request that fails a check -/

/-- The states on which a request that its session has handed over is rejected: before its header has passed, before its state
checks, and behind the record of a failed state check. -/
inductive FailsOn (c : Cmd) (q : Request) (s : State) : State → Prop
  | header : FailsOn c q s (takeRequest c.opcode q (advance q.time s))
  | fields : FailsOn c q s (served c q s)
  | state : FailsOn c q s (noteRejection c q (served c q s))

/-- What a failed check leads to. -/
theorem runRequest_turnedAway {c : Cmd} {q : Request} {s : State} {status : Nat} {payload : List Byte}
    (h : handsOver c q s = true) (ht : turnedAway c q s = some (status, payload)) :
    ∃ v, FailsOn c q s v ∧ runRequest c q s = rejectRequest (waiterOf c q s) status payload q v := by
  rw [runRequest_handsOver h]
  cases hh : headerOutcome c q s with
  | some st =>
    simp only [turnedAway, hh] at ht
    cases ht
    refine ⟨_, .header, ?_⟩
    unfold headerOutcome at hh
    simp only [serve, hh, waiterOf, takeRequest_session, advance_session]
  | none =>
    simp only [turnedAway, hh] at ht
    unfold headerOutcome at hh
    have e : serve c q (takeRequest c.opcode q (advance q.time s)) = serveFields c (waiterOf c q s) q (served c q s) := by
      simp only [serve, hh, waiterOf, takeRequest_session, advance_session]
      rfl
    rw [e]
    unfold serveFields
    cases hf : firstFailure (c.checks (served c q s) q) with
    | some st =>
      simp only [hf] at ht
      cases ht
      exact ⟨_, .fields, rfl⟩
    | none =>
      simp only [hf] at ht
      split at ht
      next hn =>
        cases ht
        exact ⟨_, .fields, if_pos hn⟩
      next hn =>
        refine ⟨_, .state, ?_⟩
        simp only [hn, ht, Bool.false_eq_true, if_false]

namespace FailsOn

variable {c : Cmd} {q : Request} {s v : State}

theorem keeps (h : FailsOn c q s v) : Keeps 0 s v := by
  have ht := (advance_keeps (m := 0) q.time s).trans (takeRequest_keeps c.opcode q _)
  have hs : Keeps 0 s (served c q s) := ht.trans (updSession_keeps ..)
  cases h with
  | header => exact ht
  | fields => exact hs
  | state => exact hs.trans (noteRejection_keeps ..)

theorem session_ne (h : FailsOn c q s v) {n : Nat} (hn : n ≠ q.sess) : v.session n = s.session n := by
  have hs := served_session_ne (c := c) (s := s) hn.symm
  cases h with
  | header =>
    simp only [takeRequest, session_turn, session_updSession, advance_session]
    simp [hn.symm]
  | fields => exact hs
  | state => simpa [State.session] using hs

/-- The request still runs in its session. -/
theorem running (h : FailsOn c q s v) (hz : s.sess.length = 32) (hq : q.sess < 32) :
    q.sess < v.sess.length ∧ (v.session q.sess).st = .running ∧ (v.session q.sess).gen = (s.session q.sess).gen := by
  have hl : q.sess < s.sess.length := hz ▸ hq
  have hs : q.sess < (served c q s).sess.length ∧ ((served c q s).session q.sess).st = .running ∧
      ((served c q s).session q.sess).gen = (s.session q.sess).gen := by
    rw [served_sess_length, served_session hl]
    exact ⟨hl, rfl, rfl⟩
  cases h with
  | header =>
    simp only [takeRequest, session_turn, session_updSession, advance_session]
    simp [hl]
  | fields => exact hs
  | state => simpa [State.session] using hs

theorem records (h : FailsOn c q s v) : v.records = s.records := by
  cases h with
  | header => rfl
  | fields => rfl
  | state => rw [noteRejection_records]; rfl

/-- At most one record has been staged. -/
theorem appends (h : FailsOn c q s v) (hc : c.notesShort) (hr : s.records = true) (ho : s.evt.opening = []) :
    v.evt.opening = [] ∧ ∃ l : List Record, v.evt.fifo = s.evt.fifo ++ l ∧ l.length ≤ 1 ∧ (l.map Record.size).sum ≤ 100 ∧
      (c.notes (served c q s) q = none → l = [] ∧ v.evt.nextSeq = s.evt.nextSeq) := by
  cases h with
  | header => exact ⟨ho, [], by simp [takeRequest, advance]⟩
  | fields => exact ⟨ho, [], by simp⟩
  | state =>
    obtain ⟨ho', l, hf, h1, hl⟩ := noteRejection_appends (s := served c q s) (q := q) hc hr ho
    refine ⟨ho', l, hf, h1, hl, fun hn => ?_⟩
    rw [noteRejection_of_none hn] at hf ⊢
    exact ⟨by simpa using hf, rfl⟩

end FailsOn

/-- What a module that takes a request is like: the control processor runs, and the FIFO has room for its records (R500). -/
theorem handsOver_found {c : Cmd} {q : Request} {s : State} (h : handsOver c q s = true) :
    s.serves = true ∧ q.sess < 32 ∧ s.evt.used + 8192 ≤ fifoSize := by
  simp only [handsOver, Bool.and_eq_true, decide_eq_true_eq] at h
  obtain ⟨⟨⟨⟨⟨⟨hserves, hq⟩, -⟩, -⟩, -⟩, htake⟩, -⟩ := h
  exact ⟨hserves, hq, of_decide_eq_true htake⟩

theorem records_of_serves {s : State} (h : s.serves = true) : s.records = true := by
  simp only [State.serves, Bool.and_eq_true, decide_eq_true_eq] at h
  obtain ⟨⟨⟨⟨-, h7⟩, hn⟩, ho⟩, hd⟩ := h
  have h8 : s.boot.st ≠ 8 := by omega
  simp [State.records, State.awake, hn, ho, hd, h8]

/-- Settles O55: what a failed check leads to is one rejection, on a state that differs from the one before in the session of the
request and in at most one staged record. -/
theorem requestsTurnedAway : Obligations.RequestsTurnedAway := by
  intro i c q s status payload hi hz hh ht
  obtain ⟨v, hv, hrun⟩ := runRequest_turnedAway hh ht
  obtain ⟨hserves, hq, htake⟩ := handsOver_found hh
  obtain ⟨hsess, -⟩ := hz
  obtain ⟨hl, hst, hgen⟩ := hv.running hsess hq
  refine ⟨_, exec_request hi s, ?_⟩
  rw [hrun]
  refine ⟨rejectRequest_answers _ _ rfl rfl rfl rfl hl hst hgen, fun k => ?_, fun n hn => ?_, fun ho => ?_⟩
  · exact (hv.keeps.trans (rejectRequest_keeps ..)).kind k (Nat.zero_testBit _)
  · exact (rejectRequest_session_ne rfl hn ..).trans (hv.session_ne hn)
  · have hr : s.records = true := records_of_serves hserves
    obtain ⟨ho', l, hf, h1, hsize, hnone⟩ := hv.appends (requestOf_notesShort hi) hr ho
    have room : v.evt.used + 4100 ≤ fifoSize := by
      simp only [EventState.used, hf, List.map_append, List.sum_append] at htake ⊢
      omega
    obtain ⟨r, hrf, htype, hbody, hseq, hnext⟩ :=
      rejectRequest_stages (w := waiterOf c q s) status payload q rfl (hv.records.trans hr) ho' room
    refine ⟨r, l, by rw [hrf, hf], h1, htype, hbody, hnext, fun hn => ?_⟩
    obtain ⟨hl0, hsame⟩ := hnone hn
    exact ⟨hl0, hseq.trans hsame⟩

end Sys2Proof.Machine

/-! What stops for a power-down leaves the supplies' lands as they are: nPOWERGOOD through every operation of it. -/

namespace Sys2Proof.Machine

/-! ### Operations done for every part in turn -/

/-- What holds before and is kept by every turn holds after all of them. -/
theorem forEach_induct {P : State → Prop} {f : Nat → State → State} (h : ∀ i t, P t → P (f i t)) (n : Nat) {s : State}
    (hs : P s) : P (forEach n f s) := by
  unfold forEach
  generalize List.range n = l
  induction l generalizing s with
  | nil => exact hs
  | cons i l ih => exact ih (h i s hs)

theorem forEach_succ (n : Nat) (f : Nat → State → State) (s : State) : forEach (n + 1) f s = f n (forEach n f s) := by
  simp [forEach, List.range_succ]

/-- Where turn `i` changes entry `i` of a list, the turns up to `n` change the entries below `n`. -/
theorem forEach_getElem? {α : Type} {l : State → List α} {f : Nat → State → State} {F : α → α}
    (h : ∀ i t, l (f i t) = updAt (l t) i F) (n : Nat) (s : State) (m : Nat) :
    (l (forEach n f s))[m]? = if m < n then (l s)[m]?.map F else (l s)[m]? := by
  induction n with
  | zero => rfl
  | succ n ih =>
    rw [forEach_succ, h, getElem?_updAt, ih]
    split
    case isTrue e => subst e; simp
    case isFalse e => simp only [show m < n + 1 ↔ m < n by omega]

theorem forEach_boot {f : Nat → State → State} (h : ∀ i t, (f i t).boot = t.boot) (n : Nat) (s : State) :
    (forEach n f s).boot = s.boot :=
  foldl_same State.boot (fun t i => h i t) _ s

theorem forAll_boot {α : Type} {f : α → State → State} (h : ∀ a t, (f a t).boot = t.boot) (l : List α) (s : State) :
    (forAll l f s).boot = s.boot :=
  foldl_same State.boot (fun t a => h a t) l s

theorem forEach_powerGood {f : Nat → State → State} (h : ∀ i t, (f i t).boot.powerGood = t.boot.powerGood) (n : Nat) (s : State) :
    (forEach n f s).boot.powerGood = s.boot.powerGood :=
  foldl_same (fun t => t.boot.powerGood) (fun t i => h i t) _ s

theorem forAll_powerGood {α : Type} {f : α → State → State} (h : ∀ a t, (f a t).boot.powerGood = t.boot.powerGood) (l : List α)
    (s : State) : (forAll l f s).boot.powerGood = s.boot.powerGood :=
  foldl_same (fun t => t.boot.powerGood) (fun t a => h a t) l s

/-! ### Alerts, records and replies -/

@[simp] theorem setIrq_boot_powerGood b s : (setIrq b s).boot.powerGood = s.boot.powerGood := by
  unfold setIrq; dsimp only; split <;> simp
@[simp] theorem setBootState_boot_powerGood n s : (setBootState n s).boot.powerGood = s.boot.powerGood := by
  unfold setBootState; split <;> simp
@[simp] theorem assertAlert_boot_powerGood a s : (assertAlert a s).boot.powerGood = s.boot.powerGood := by
  unfold assertAlert; dsimp only; split
  · rfl
  · split <;> simp
@[simp] theorem dropRecord_boot_powerGood r s : (dropRecord r s).boot.powerGood = s.boot.powerGood :=
  assertAlert_boot_powerGood ..
@[simp] theorem stageRecord_boot_powerGood r s : (stageRecord r s).boot.powerGood = s.boot.powerGood := by
  unfold stageRecord; extract_lets; split
  · rfl
  · exact dropRecord_boot_powerGood ..
@[simp] theorem stageBody_boot_powerGood n b s : (stageBody n b s).boot.powerGood = s.boot.powerGood := by
  unfold stageBody; split
  · rfl
  · split <;> simp
@[simp] theorem record_boot_powerGood n b s : (record n b s).boot.powerGood = s.boot.powerGood := stageBody_boot_powerGood ..
@[simp] theorem recordLimited_boot_powerGood n i g b s : (recordLimited n i g b s).boot.powerGood = s.boot.powerGood := by
  unfold recordLimited; split
  · rfl
  · exact record_boot_powerGood ..
@[simp] theorem protectedDone_boot_powerGood w n s : (protectedDone w n s).boot.powerGood = s.boot.powerGood := by
  unfold protectedDone; split <;> simp
@[simp] theorem deliver_boot_powerGood w n b s : (deliver w n b s).boot.powerGood = s.boot.powerGood := by
  unfold deliver; dsimp only; split
  · split <;> simp
  · split <;> simp
@[simp] theorem reply_boot_powerGood w n b s : (reply w n b s).boot.powerGood = s.boot.powerGood := by
  unfold reply; dsimp only; split <;> simp
@[simp] theorem replyOpt_boot_powerGood w n b s : (replyOpt w n b s).boot.powerGood = s.boot.powerGood := by
  cases w <;> simp [replyOpt]

/-! ### Pigeonholes and engines -/

@[simp] theorem placeOffer_boot_powerGood n o s : (placeOffer n o s).boot.powerGood = s.boot.powerGood :=
  forAll_powerGood (fun b t => by unfold placeEntry; split <;> rfl) _ s
@[simp] theorem droppingRecord_boot_powerGood n p c s : (droppingRecord n p c s).boot.powerGood = s.boot.powerGood := by
  unfold droppingRecord; extract_lets; split
  · rfl
  · exact record_boot_powerGood ..
@[simp] theorem noteDrops_boot_powerGood n a b s : (noteDrops n a b s).boot.powerGood = s.boot.powerGood := by
  unfold noteDrops; split
  · rfl
  · extract_lets quiet v
    split
    · exact droppingRecord_boot_powerGood ..
    · rfl
@[simp] theorem applyPolicy_boot_powerGood n o p s : (applyPolicy n o p s).boot.powerGood = s.boot.powerGood := by
  unfold applyPolicy dropOffer; split <;> simp [updPh]
@[simp] theorem offer_boot_powerGood n o s : (offer n o s).boot.powerGood = s.boot.powerGood := by
  unfold offer; split
  · rfl
  · split
    · simp [updPh]
    · split <;> simp
@[simp] theorem writeResult_boot_powerGood n j b k p s : (writeResult n j b k p s).boot.powerGood = s.boot.powerGood := by
  unfold writeResult; split
  · rfl
  · dsimp only; split <;> simp [updEngine]
@[simp] theorem abortTask_boot_powerGood e c s : (abortTask e c s).boot.powerGood = s.boot.powerGood := by
  unfold abortTask; split
  · rfl
  · dsimp only; split
    · rfl
    · split <;> simp [updJob, updEngine]
@[simp] theorem stopJob_boot_powerGood j r s : (stopJob j r s).boot.powerGood = s.boot.powerGood := by
  unfold stopJob; split
  · split
    · extract_lets v
      split
      · exact record_boot_powerGood ..
      · rfl
    · rfl
  · rfl
@[simp] theorem answerStops_boot_powerGood s : (answerStops s).boot.powerGood = s.boot.powerGood :=
  forAll_powerGood (fun j t => by
    split
    · rfl
    · split
      · rfl
      · exact reply_boot_powerGood ..) _ s
@[simp] theorem stopEngines_boot_powerGood s : (stopEngines s).boot.powerGood = s.boot.powerGood := by
  unfold stopEngines
  rw [answerStops_boot_powerGood, forEach_powerGood fun _ _ => abortTask_boot_powerGood .., forAll_powerGood fun _ _ =>
    stopJob_boot_powerGood ..]

/-! ### Accumulators, capture groups and converters -/

@[simp] theorem stopAcc_boot_powerGood a r s : (stopAcc a r s).boot.powerGood = s.boot.powerGood := by
  unfold stopAcc; extract_lets; exact (replyOpt_boot_powerGood ..).trans (stageBody_boot_powerGood ..)
@[simp] theorem idleAccumulators_boot_powerGood s : (idleAccumulators s).boot.powerGood = s.boot.powerGood := by
  unfold idleAccumulators stopAccs
  refine forEach_powerGood (fun a t => ?_) _ s
  split
  · exact stopAcc_boot_powerGood ..
  · rfl
@[simp] theorem pushEvent_boot e s : (pushEvent e s).boot = s.boot := rfl
@[simp] theorem stepComparator_boot n c k v t i s : (stepComparator n c k v t i s).boot = s.boot := by
  unfold stepComparator; dsimp only; split
  · rfl
  · split
    · rfl
    · split <;> rfl
@[simp] theorem flushTail_boot n s : (flushTail n s).boot = s.boot := by
  show (stepTail n (s.spacing n) none s).boot = s.boot
  unfold stepTail inputStep; split <;> simp
@[simp] theorem loseComparators_boot n t w s : (loseComparators n t w s).boot = s.boot :=
  foldl_same State.boot (fun u c => by dsimp only; split <;> rfl) _ s
@[simp] theorem passGaps_boot n s : (passGaps n s).boot = s.boot := by
  unfold passGaps
  extract_lets reached l v
  split
  · rfl
  · rw [forAll_boot fun _ _ => loseComparators_boot .., flushTail_boot]
@[simp] theorem convertersDown_boot s : (convertersDown s).boot = s.boot := by
  unfold convertersDown
  extract_lets a b c d
  have ha : a.boot = s.boot := forEach_boot (fun n t => by
    split
    · exact passGaps_boot ..
    · rfl) 8 s
  have hb : b.boot = a.boot := forEach_boot (fun n t => by exact passGaps_boot n _) 8 a
  have hc : c.boot = b.boot := forEach_boot (fun n t => by exact updInCal_boot ..) 8 b
  have hd : d.boot = c.boot := forEach_boot (fun n t => by exact updCore_boot ..) 24 c
  simp only [hd, hc, hb, ha]
theorem convertersDown_running (s : State) : (convertersDown s).inp.running = false := by
  unfold convertersDown; extract_lets; rfl

/-! ### Ports -/

@[simp] theorem setPortState_boot_powerGood p st s : (setPortState p st s).boot.powerGood = s.boot.powerGood := by
  unfold setPortState; split
  · rfl
  · dsimp only; split <;> simp [updPort]
@[simp] theorem clearAlarms_boot p w s : (clearAlarms p w s).boot = s.boot :=
  forAll_boot (fun _ _ => pushEvent_boot ..) ..
@[simp] theorem failCommands_boot_powerGood p i s : (failCommands p i s).boot.powerGood = s.boot.powerGood :=
  forAll_powerGood (fun _ _ => replyOpt_boot_powerGood ..) ..
@[simp] theorem endRounds_boot_powerGood p s : (endRounds p s).boot.powerGood = s.boot.powerGood := by
  unfold endRounds
  extract_lets heads a b w c d
  rw [replyOpt_boot_powerGood]
  have e : b.boot.powerGood = a.boot.powerGood := by
    refine forAll_powerGood (fun h t => ?_) heads a
    exact failCommands_boot_powerGood p h.position t
  exact e.trans (congrArg _ (clearAlarms_boot ..))
@[simp] theorem portDown_boot_powerGood p s : (portDown p s).boot.powerGood = s.boot.powerGood := by
  unfold portDown; split
  · rfl
  · rw [setPortState_boot_powerGood, endRounds_boot_powerGood]
@[simp] theorem stopPorts_boot_powerGood m s : (stopPorts m s).boot.powerGood = s.boot.powerGood := by
  unfold stopPorts
  refine forEach_powerGood (fun p t => ?_) _ s
  split
  · rfl
  · exact portDown_boot_powerGood ..

/-- What stops for a power-down leaves nPOWERGOOD as it is. -/
@[simp] theorem stopForSleep_boot_powerGood s : (stopForSleep s).boot.powerGood = s.boot.powerGood := by
  simp only [stopForSleep, convertersDown_boot, stopPorts_boot_powerGood, idleAccumulators_boot_powerGood, stopEngines_boot_powerGood]
  exact forEach_powerGood (fun g t => rfl) 4 _

end Sys2Proof.Machine

/-! What resets, the supplies and nPOWERGOOD change: entering reset, starting from it, and a power-down. -/

namespace Sys2Proof.Machine

/-! ### Entering reset -/

/-- A session as it stands once it has been closed without a record. -/
def Session.dropped (x : Session) : Session := { x with st := .closed, submitted := none }

/-- In turn, every session is closed without a record. -/
theorem session_forEach_dropSession {s : State} (hz : s.sess.length = 32) {n : Nat} (hn : n < 32) :
    (forEach 32 dropSession s).session n = (s.session n).dropped := by
  have h := forEach_getElem? (l := State.sess) (f := dropSession) (F := Session.dropped) (fun _ _ => rfl) 32 s n
  rw [if_pos hn] at h
  have hl : n < s.sess.length := by omega
  simp [State.session, List.getD_eq_getElem?_getD, h, hl]

theorem forEach_dropSession_eq (s : State) : ∃ l, forEach 32 dropSession s = { s with sess := l } :=
  forEach_induct (P := fun t => ∃ l, t = { s with sess := l }) (by rintro i t ⟨l, rfl⟩; exact ⟨_, rfl⟩) 32 ⟨s.sess, rfl⟩

theorem driveMarker_eq (m : Nat) (b : Bool) (s : State) : ∃ g l, driveMarker m b s = { s with trg := g, sent := l } := by
  unfold driveMarker; split <;> exact ⟨_, _, rfl⟩

theorem followClock_eq (m : Nat) (s : State) : ∃ g l, followClock m s = { s with trg := g, sent := l } := by
  unfold followClock; extract_lets; split <;> exact ⟨_, _, rfl⟩

/-- Lowering the markers changes them and what is put out, and nothing else. -/
theorem lowerMarkers_eq (s : State) : ∃ g l, lowerMarkers s = { s with trg := g, sent := l } := by
  refine forEach_induct (P := fun t => ∃ g l, t = { s with trg := g, sent := l }) ?_ 4 ⟨s.trg, s.sent, rfl⟩
  rintro m t ⟨g, l, rfl⟩
  let u := updMarker m (fun x => { x with mode := 0 }) { s with trg := g, sent := l }
  obtain ⟨_, _, hd⟩ := driveMarker_eq m false u
  obtain ⟨g', l', hc⟩ := followClock_eq m (driveMarker m false u)
  exact ⟨g', l', hc.trans (by rw [hd]; rfl)⟩

/-- Before the parts return to their defaults, the markers are low and the sessions Closed. -/
theorem dropSessions_lowerMarkers (s : State) :
    ∃ g l ss, dropSessions (lowerMarkers s) = { s with trg := g, sent := l, turn := none, sess := ss } := by
  obtain ⟨g, l, h⟩ := lowerMarkers_eq s
  obtain ⟨ss, h'⟩ := forEach_dropSession_eq { s with trg := g, sent := l, turn := none }
  exact ⟨g, l, ss, by rw [h]; exact h'⟩

@[simp] theorem coldState_boot (s : State) : (coldState s).boot = s.boot := by
  obtain ⟨_, _, _, h⟩ := dropSessions_lowerMarkers s; simp only [coldState, h]
@[simp] theorem coldState_mem (s : State) : (coldState s).mem = s.mem.restart := by
  obtain ⟨_, _, _, h⟩ := dropSessions_lowerMarkers s; simp only [coldState, h]
@[simp] theorem coldState_prot (s : State) : (coldState s).prot = s.prot.restart := by
  obtain ⟨_, _, _, h⟩ := dropSessions_lowerMarkers s; simp only [coldState, h]
@[simp] theorem coldState_pwr (s : State) : (coldState s).pwr = s.pwr.restart := by
  obtain ⟨_, _, _, h⟩ := dropSessions_lowerMarkers s; simp only [coldState, h]
@[simp] theorem coldState_pcie (s : State) : (coldState s).pcie = s.pcie.restart := by
  obtain ⟨_, _, _, h⟩ := dropSessions_lowerMarkers s; simp only [coldState, h]
@[simp] theorem coldState_evt (s : State) : (coldState s).evt = s.evt.drop := by
  obtain ⟨_, _, _, h⟩ := dropSessions_lowerMarkers s; simp only [coldState, h]
theorem coldState_disarmed (s : State) (g : Nat) : ((coldState s).sg g).state = .disarmed := by
  simp only [coldState, State.sg, resumedGroups, List.getD_eq_getElem?_getD, List.getElem?_map]
  cases (List.range 4)[g]? <;> rfl
theorem coldState_session {s : State} (hz : s.sess.length = 32) {n : Nat} (hn : n < 32) :
    (coldState s).session n = (s.session n).dropped := by
  obtain ⟨g, l, h⟩ := lowerMarkers_eq s
  have hs : (coldState s).sess = (dropSessions (lowerMarkers s)).sess := by simp only [coldState]
  rw [State.session, hs, h]
  exact session_forEach_dropSession hz hn

/-- What a module that enters reset keeps of its boot states' part, and what it notes (R537, R541). -/
@[simp] theorem enterReset_boot (s : State) : (enterReset s).boot =
    { st := 0, cause := if s.boot.st = 8 ∧ s.boot.powerDown = false then 4 else 1
      memHeld := if s.boot.st = 8 then s.boot.memHeld else true, powerGood := s.boot.powerGood, straps := s.boot.straps
      nresetLow := true, pinLow := s.boot.pinLow, control := s.boot.control, initMemory := s.boot.initMemory
      armedBefore := s.armedMap, epochBefore := s.time.epoch, since := s.boot.since } := by
  simp [enterReset, BootState.inReset]
@[simp] theorem enterReset_mem (s : State) : (enterReset s).mem = s.mem.restart := by simp [enterReset]
@[simp] theorem enterReset_prot (s : State) : (enterReset s).prot = s.prot.restart := by simp [enterReset]
@[simp] theorem enterReset_pwr (s : State) : (enterReset s).pwr = s.pwr.restart := by simp [enterReset]
@[simp] theorem enterReset_pcie (s : State) : (enterReset s).pcie = s.pcie.restart := by simp [enterReset]
@[simp] theorem enterReset_evt (s : State) : (enterReset s).evt = s.evt.drop := by simp [enterReset]
theorem enterReset_disarmed (s : State) (g : Nat) : ((enterReset s).sg g).state = .disarmed := by
  unfold enterReset; exact coldState_disarmed ..
theorem enterReset_session {s : State} (hz : s.sess.length = 32) {n : Nat} (hn : n < 32) :
    (enterReset s).session n = (s.session n).dropped := by
  rw [enterReset, coldState_session (by exact hz) hn]
  simp only [State.session]

@[simp] theorem MemState.restart_cells (x : MemState) : x.restart.cells = x.cells := rfl
@[simp] theorem PowerState.restart_alert (x : PowerState) : x.restart.alert = [] := rfl
@[simp] theorem PowerState.restart_fault (x : PowerState) : x.restart.fault = false := rfl
@[simp] theorem PcieState.restart_linkUp (x : PcieState) : x.restart.linkUp = false := rfl
@[simp] theorem EventState.drop_fifo (x : EventState) : x.drop.fifo = [] := rfl
@[simp] theorem ProtectState.restart_keys (x : ProtectState) : x.restart.keys = x.keys := rfl

/-! ### Memory that loses its contents -/

@[simp] theorem loseMemory_boot (s : State) : (loseMemory s).boot = { s.boot with initMemory := true } := rfl
@[simp] theorem loseMemory_cells (s : State) : (loseMemory s).mem.cells = [] := rfl
@[simp] theorem loseMemory_prot (s : State) : (loseMemory s).prot = s.prot := rfl

/-! ### The boundary scan -/

/-- EXTEST settles on its own registers and lands. -/
theorem settleExtest_eq (l : List Bool) (s : State) : ∃ j o, settleExtest l s = { s with jtag := j, sent := o } := by
  unfold settleExtest; extract_lets; split <;> exact ⟨_, _, rfl⟩

@[simp] theorem settleExtest_clk (l : List Bool) (s : State) : (settleExtest l s).clk = s.clk := by
  obtain ⟨_, _, h⟩ := settleExtest_eq l s; rw [h]
@[simp] theorem settleExtest_boot (l : List Bool) (s : State) : (settleExtest l s).boot = s.boot := by
  obtain ⟨_, _, h⟩ := settleExtest_eq l s; rw [h]
@[simp] theorem settleExtest_pwr (l : List Bool) (s : State) : (settleExtest l s).pwr = s.pwr := by
  obtain ⟨_, _, h⟩ := settleExtest_eq l s; rw [h]
@[simp] theorem settleExtest_pcie (l : List Bool) (s : State) : (settleExtest l s).pcie = s.pcie := by
  obtain ⟨_, _, h⟩ := settleExtest_eq l s; rw [h]
@[simp] theorem settleExtest_sess (l : List Bool) (s : State) : (settleExtest l s).sess = s.sess := by
  obtain ⟨_, _, h⟩ := settleExtest_eq l s; rw [h]
@[simp] theorem settleExtest_prot (l : List Bool) (s : State) : (settleExtest l s).prot = s.prot := by
  obtain ⟨_, _, h⟩ := settleExtest_eq l s; rw [h]
@[simp] theorem settleExtest_seg (l : List Bool) (s : State) : (settleExtest l s).seg = s.seg := by
  obtain ⟨_, _, h⟩ := settleExtest_eq l s; rw [h]
@[simp] theorem settleExtest_mem (l : List Bool) (s : State) : (settleExtest l s).mem = s.mem := by
  obtain ⟨_, _, h⟩ := settleExtest_eq l s; rw [h]
@[simp] theorem settleExtest_session (l : List Bool) (s : State) (n : Nat) : (settleExtest l s).session n = s.session n := by
  simp only [State.session, settleExtest_sess]
@[simp] theorem settleExtest_sg (l : List Bool) (s : State) (g : Nat) : (settleExtest l s).sg g = s.sg g := by
  simp only [State.sg, settleExtest_seg]

/-! ### A start -/

@[simp] theorem startTime_boot (s : State) : (startTime s).boot = s.boot := rfl
@[simp] theorem startTime_mem (s : State) : (startTime s).mem = s.mem := rfl
@[simp] theorem startTime_clk (s : State) : (startTime s).clk = s.clk := rfl

/-- The gap that opens a start is a record of the store, and nothing else. -/
theorem openGap_eq (s : State) : ∃ e, openGap s = { s with evt := e } := by
  unfold openGap; split
  · exact ⟨_, rfl⟩
  · extract_lets; split <;> exact ⟨_, rfl⟩

@[simp] theorem openGap_boot (s : State) : (openGap s).boot = s.boot := by obtain ⟨_, h⟩ := openGap_eq s; rw [h]
@[simp] theorem openGap_mem (s : State) : (openGap s).mem = s.mem := by obtain ⟨_, h⟩ := openGap_eq s; rw [h]
@[simp] theorem openGap_clk (s : State) : (openGap s).clk = s.clk := by obtain ⟨_, h⟩ := openGap_eq s; rw [h]

/-- A start sets the flags of R543, and an image that a commit has left takes control. -/
theorem openStart_boot (w : Bool) (s : State) : ∃ image since, (openStart w s).boot = { s.boot with
    cfgDefaulted := true, memPreserved := ! s.boot.initMemory, control := image, since := since, durations := [0, 0, 0, 0] } := by
  simp only [openStart, openRecord_boot, openGap_boot]
  exact ⟨_, _, rfl⟩
@[simp] theorem openStart_cells (w : Bool) (s : State) : (openStart w s).mem.cells = s.mem.cells := by
  simp [openStart]
@[simp] theorem openStart_clk (w : Bool) (s : State) : (openStart w s).clk = s.clk := by
  simp [openStart]

/-- Only a pin reset with the memory rails held keeps what memory holds (R541). -/
def BootState.keepsMemory (x : BootState) : Bool := decide (x.cause = 1 ∧ x.memHeld = true)

/-- The module leaves reset: head time starts, and the system loop and the link loop take their lock. -/
def leaveReset (s : State) : State :=
  let lock (x : Loop) : Loop := { x with st := .locked }
  updLoop 3 lock (updLoop 1 lock
    { s with boot := { s.boot with nresetLow := false }, time := { s.time with headZero := s.time.ps } })

@[simp] theorem leaveReset_boot (s : State) : (leaveReset s).boot = { s.boot with nresetLow := false } := rfl
@[simp] theorem leaveReset_mem (s : State) : (leaveReset s).mem = s.mem := rfl
theorem leaveReset_locked {s : State} (hz : s.clk.loops.length = 4) :
    ((leaveReset s).loop 1).st = .locked ∧ ((leaveReset s).loop 3).st = .locked := by
  simp [leaveReset, loop_updLoop, hz]

theorem coldStart_eq (s : State) :
    coldStart s = openStart false (startTime (leaveReset (if s.boot.keepsMemory then s else loseMemory s))) := by
  simp only [coldStart, BootState.keepsMemory, decide_eq_true_eq]
  rfl

/-- A start takes the module out of reset and reports what memory holds (R541, R543); of the rest of the boot states' own part
it changes nothing but what it notes of itself. -/
theorem coldStart_boot (s : State) : ∃ image since, (coldStart s).boot = { s.boot with
    nresetLow := false, initMemory := s.boot.initMemory || ! s.boot.keepsMemory, cfgDefaulted := true
    memPreserved := s.boot.keepsMemory && ! s.boot.initMemory, control := image, since := since, durations := [0, 0, 0, 0] } := by
  rw [coldStart_eq]
  obtain ⟨image, since, h⟩ := openStart_boot false (startTime (leaveReset (if s.boot.keepsMemory then s else loseMemory s)))
  refine ⟨image, since, ?_⟩
  rw [h]
  cases s.boot.keepsMemory <;> simp

theorem coldStart_cells (s : State) : (coldStart s).mem.cells = if s.boot.keepsMemory then s.mem.cells else [] := by
  rw [coldStart_eq]
  cases s.boot.keepsMemory <;> simp

/-- At a start, the system loop and the link loop take their lock. -/
theorem coldStart_locked {s : State} (hz : s.clk.loops.length = 4) :
    ((coldStart s).loop 1).st = .locked ∧ ((coldStart s).loop 3).st = .locked := by
  rw [coldStart_eq]
  simp only [State.loop, openStart_clk, startTime_clk]
  exact leaveReset_locked (by cases s.boot.keepsMemory <;> exact hz)

/-! ### A power-down -/

@[simp] theorem flushFifo_boot (s : State) : (flushFifo s).boot = s.boot := rfl
@[simp] theorem flushFifo_inp (s : State) : (flushFifo s).inp = s.inp := rfl
@[simp] theorem flushFifo_seg (s : State) : (flushFifo s).seg = s.seg := rfl

@[simp] theorem lastRecord_boot_powerGood (c a : Nat) (s : State) : (lastRecord c a s).boot.powerGood = s.boot.powerGood := by
  simp [lastRecord]
@[simp] theorem lastRecord_inp (c a : Nat) (s : State) : (lastRecord c a s).inp = s.inp := by simp [lastRecord]
@[simp] theorem lastRecord_seg (c a : Nat) (s : State) : (lastRecord c a s).seg = s.seg := by simp [lastRecord]
@[simp] theorem lastRecord_fifo (c a : Nat) (s : State) : (lastRecord c a s).evt.fifo = [] := rfl

theorem stopForSleep_running (s : State) : (stopForSleep s).inp.running = false := by
  unfold stopForSleep; exact convertersDown_running ..

/-! The laws of these operations name the kinds of state that they may change; the capture groups are not among them. -/

@[simp] theorem stopEngines_seg (s : State) : (stopEngines s).seg = s.seg :=
  (stopEngines_keeps (m := 292057776128) s).kind .segments rfl
@[simp] theorem idleAccumulators_seg (s : State) : (idleAccumulators s).seg = s.seg :=
  (idleAccumulators_keeps (m := 4294967296) s).kind .segments rfl
@[simp] theorem stopPorts_seg (b : Bool) (s : State) : (stopPorts b s).seg = s.seg :=
  (stopPorts_keeps (m := 12884901888) b s).kind .segments rfl
@[simp] theorem convertersDown_seg (s : State) : (convertersDown s).seg = s.seg :=
  (convertersDown_keeps (m := 35127296) s).kind .segments rfl

/-- In turn, every group is disarmed. -/
theorem forEach_dropCapture_disarmed (s : State) {g : Nat} (hg : g < 4) : ((forEach 4 dropCapture s).sg g).state = .disarmed := by
  have h := forEach_getElem? (l := State.seg) (f := dropCapture) (fun _ _ => rfl) 4 s g
  rw [if_pos hg] at h
  simp only [State.sg, List.getD_eq_getElem?_getD, h]
  cases s.seg[g]? <;> rfl

/-- Every capture group is disarmed, and what stops behind the groups leaves them so. -/
theorem stopForSleep_disarmed (s : State) {g : Nat} (hg : g < 4) : ((stopForSleep s).sg g).state = .disarmed := by
  simp only [stopForSleep, State.sg, convertersDown_seg, stopPorts_seg, idleAccumulators_seg, stopEngines_seg]
  exact forEach_dropCapture_disarmed _ hg

/-! ### Deep standby -/

theorem sleepModule_boot_powerGood (s : State) : (sleepModule s).boot.powerGood = s.boot.powerGood := by
  obtain ⟨l, h⟩ := forEach_dropSession_eq s
  simp [sleepModule, h, stopRings]

theorem setBootState_boot_st (n : Nat) (s : State) : (setBootState n s).boot.st = n := by
  unfold setBootState
  split
  case isTrue h => exact h
  case isFalse => exact setIrq_boot_st ..

theorem sleepModule_boot_st (s : State) : (sleepModule s).boot.st = 8 := setBootState_boot_st ..

theorem sleepModule_pcie_linkUp (s : State) : (sleepModule s).pcie.linkUp = false := by
  simp [sleepModule, stopRings]
theorem sleepModule_pwr_alert (s : State) : (sleepModule s).pwr.alert = [] := by
  simp [sleepModule, stopRings]
theorem sleepModule_pwr_fault (s : State) : (sleepModule s).pwr.fault = false := by
  simp [sleepModule, stopRings]
theorem sleepModule_session {s : State} (hz : s.sess.length = 32) {n : Nat} (hn : n < 32) :
    (sleepModule s).session n = (s.session n).dropped := by
  simpa [sleepModule, stopRings, State.session] using session_forEach_dropSession hz hn

/-! ### The rows -/

theorem powerOnReset_clears (a : Nat) (s : State) :
    ∃ t, exec (.powerOnReset a) s = .next t ∧ t.boot.off = false ∧ t.boot.cause = 0 ∧ t.boot.initMemory = true ∧
      t.sess = List.replicate 32 {} ∧ t.mem.cells = [] ∧ t.prot.keys = s.prot.keys ∧ (s.boot.off = false → t.boot.st = 0) := by
  refine ⟨_, rfl, rfl, rfl, rfl, rfl, rfl, ?_, fun h => ?_⟩
  · simp only [powerOnState, loseMemory_prot]
    split <;> simp
  · simp [powerOnState, h]

theorem vauxLeavesTolerance_turnsOff (a : Nat) {s : State} (hz : s.sess.length = 32) (ho : s.boot.off = false) :
    ∃ t, exec (.vauxLeavesTolerance a) s = .next t ∧ t.boot.off = true ∧ t.boot.st = 0 ∧
      t.mem.cells = [] ∧ t.clk.vaux = false ∧ ∀ n, n < 32 → (t.session n).st = .closed := by
  simp only [exec, execVauxLeavesTolerance, advance_boot, ho, Bool.false_eq_true, if_false]
  refine ⟨_, rfl, rfl, ?_, rfl, rfl, fun n hn => ?_⟩
  · simp
  · have h := enterReset_session (s := advance a s) hz hn
    simp only [State.session] at h ⊢
    simp only [loseMemory, h, Session.dropped]

/-- The land nRESET is low. -/
def State.pinFalls (s : State) : State := { s with boot := { s.boot with pinLow := true } }

theorem pinReset_of_on (a : Nat) {s : State} (ho : s.boot.off = false) (hn : s.boot.nresetLow = false) :
    exec (.pinReset a) s = .next (settleExtest s.jtag.latches (enterReset (advance a s).pinFalls)) := by
  simp only [exec, execPinReset]
  rw [if_neg (by simp [ho, hn])]
  rfl

theorem pinReset_entersReset (a : Nat) {s : State} (hz : s.sess.length = 32) (ho : s.boot.off = false)
    (hn : s.boot.nresetLow = false) :
    ∃ t, exec (.pinReset a) s = .next t ∧ t.boot.st = 0 ∧ t.boot.nresetLow = true ∧ t.boot.pinLow = true ∧
      t.boot.cause = (if s.boot.st = 8 ∧ s.boot.powerDown = false then 4 else 1) ∧ t.pwr.alert = [] ∧ t.pwr.fault = false ∧
      t.mem.cells = s.mem.cells ∧ t.prot.keys = s.prot.keys ∧ t.pcie.linkUp = false ∧
      (∀ n, n < 32 → (t.session n).st = .closed ∧ (t.session n).gen = (s.session n).gen) ∧ ∀ g, g < 4 → (t.sg g).state = .disarmed := by
  refine ⟨_, pinReset_of_on a ho hn, ?_⟩
  simp only [settleExtest_boot, settleExtest_pwr, settleExtest_mem, settleExtest_prot, settleExtest_pcie, settleExtest_session,
    settleExtest_sg, enterReset_boot, enterReset_disarmed]
  refine ⟨trivial, trivial, rfl, rfl, by simp, by simp, by simp [State.pinFalls], by simp [State.pinFalls], by simp, fun n hn => ?_,
    fun _ _ => trivial⟩
  rw [enterReset_session (s := (advance a s).pinFalls) hz hn]
  exact ⟨rfl, rfl⟩

/-- The land nRESET is high: the straps are taken, and what has become of the memory rails is known. -/
def State.pinRises (straps : Nat) (held : Bool) (s : State) : State :=
  { s with boot := { s.boot with pinLow := false, straps := straps % 8, memHeld := s.boot.memHeld && held } }

theorem nresetRise_of_low (a straps : Nat) (held : Bool) {s : State} (ho : s.boot.off = false) (hl : s.boot.nresetLow = true)
    (h8 : s.boot.st ≠ 8) : exec (.nresetRise a straps held) s = .next (
      let u := settleExtest s.jtag.latches ((advance a s).pinRises straps held)
      if s.boot.powerGood then coldStart u else u) := by
  simp only [exec, execNresetRise]
  rw [if_neg (by simp [ho, hl])]
  simp only [advance_boot, h8, if_false, settleExtest_boot, State.pinRises]
  rfl

theorem nresetRise_starts (a straps : Nat) (held : Bool) {s : State} (hz : s.clk.loops.length = 4) (ho : s.boot.off = false)
    (hl : s.boot.nresetLow = true) (h8 : s.boot.st ≠ 8) :
    ∃ t, exec (.nresetRise a straps held) s = .next t ∧ t.boot.pinLow = false ∧ t.boot.straps = straps % 8 ∧
      t.boot.nresetLow = (! s.boot.powerGood) ∧
      (s.boot.powerGood = true → (t.loop 1).st = .locked ∧ (t.loop 3).st = .locked ∧ t.boot.cfgDefaulted = true ∧
        t.mem.cells = (if s.boot.cause = 1 ∧ s.boot.memHeld = true ∧ held = true then s.mem.cells else []) ∧
        t.boot.memPreserved = (decide (s.boot.cause = 1 ∧ s.boot.memHeld = true ∧ held = true) && ! s.boot.initMemory)) := by
  refine ⟨_, nresetRise_of_low a straps held ho hl h8, ?_⟩
  extract_lets u
  have hb : u.boot = ((advance a s).pinRises straps held).boot := settleExtest_boot ..
  have hm : u.mem = s.mem := settleExtest_mem ..
  have hc : u.clk.loops.length = 4 := by simp [u, State.pinRises, advance, hz]
  have hk : u.boot.keepsMemory = decide (s.boot.cause = 1 ∧ s.boot.memHeld = true ∧ held = true) := by
    simp [hb, BootState.keepsMemory, State.pinRises]
  clear_value u
  cases hp : s.boot.powerGood with
  | false => simp [hb, State.pinRises, hl]
  | true =>
    obtain ⟨image, since, hs⟩ := coldStart_boot u
    obtain ⟨h1, h3⟩ := coldStart_locked hc
    simp only [if_true, hs, coldStart_cells, hk, h1, h3]
    simp [hb, hm, State.pinRises]

/-- A fall of the rails tears the record that is being written. -/
def State.torn (loss : RailsLoss) (s : State) : State :=
  if loss.torn ∧ s.awake then { s with evt := s.evt.tear } else s

@[simp] theorem torn_boot (loss : RailsLoss) (s : State) : (s.torn loss).boot = s.boot := by unfold State.torn; split <;> rfl
@[simp] theorem torn_sess (loss : RailsLoss) (s : State) : (s.torn loss).sess = s.sess := by unfold State.torn; split <;> rfl
@[simp] theorem torn_prot (loss : RailsLoss) (s : State) : (s.torn loss).prot = s.prot := by unfold State.torn; split <;> rfl
@[simp] theorem torn_mem (loss : RailsLoss) (s : State) : (s.torn loss).mem = s.mem := by unfold State.torn; split <;> rfl

@[simp] theorem pinFalls_session (s : State) (n : Nat) : s.pinFalls.session n = s.session n := by
  simp only [State.session, State.pinFalls]
@[simp] theorem restartRegulator_session (s : State) (n : Nat) : (restartRegulator s).session n = s.session n := by
  simp only [State.session, restartRegulator]
@[simp] theorem dropMemoryRails_session (s : State) (n : Nat) : (dropMemoryRails s).session n = s.session n := by
  simp only [State.session, dropMemoryRails, loseMemory]

theorem railsFall_of_on (a : Nat) (loss : RailsLoss) {s : State} (ho : s.boot.off = false) (hl : s.boot.nresetLow = false)
    (h8 : s.boot.st ≠ 8) : exec (.railsFall a loss) s = .next (
      let u := restartRegulator (enterReset ((advance a s).torn loss)).pinFalls
      if loss.memHeld then u else dropMemoryRails u) := by
  simp only [exec, execRailsFall, ← State.torn.eq_1]
  simp only [torn_boot, advance_boot, ho, hl, h8, Bool.false_eq_true, or_self, if_false]
  rfl

/-- What a fall of the rails leads to (R70, R537), the closed sessions, the released lands and the keys with it. -/
theorem railsFall_entersReset (a : Nat) (loss : RailsLoss) {s : State} (hz : s.sess.length = 32) (ho : s.boot.off = false) (hl : s.boot.nresetLow = false)
    (h8 : s.boot.st ≠ 8) :
    ∃ t, exec (.railsFall a loss) s = .next t ∧ t.boot.nresetLow = true ∧ t.boot.pinLow = true ∧
      t.pwr.commanded = 750 ∧ t.evt.fifo = [] ∧ t.mem.cells = (if loss.memHeld = true then s.mem.cells else []) ∧
      t.pwr.alert = [] ∧ t.pwr.fault = false ∧ t.prot.keys = s.prot.keys ∧ ∀ n, n < 32 → (t.session n).st = .closed := by
  have hs (n : Nat) (hn : n < 32) : ((enterReset ((advance a s).torn loss)).session n).st = .closed := by
    rw [enterReset_session (by simpa using hz) hn, Session.dropped]
  refine ⟨_, railsFall_of_on a loss ho hl h8, ?_⟩
  cases loss.memHeld
  case false =>
    simp +contextual only [Bool.false_eq_true, if_false, dropMemoryRails_session, restartRegulator_session, pinFalls_session, hs]
    simp [dropMemoryRails, restartRegulator, loseMemory, State.pinFalls]
  case true =>
    simp +contextual only [if_true, restartRegulator_session, pinFalls_session, hs]
    simp [restartRegulator, State.pinFalls]

theorem railsRemoved_losesMemory (a : Nat) {s : State} (ho : s.boot.off = false) (hr : s.boot.st = 8 ∨ s.boot.nresetLow = true) :
    ∃ t, exec (.railsRemoved a true) s = .next t ∧ t.mem.cells = [] ∧ t.boot.memHeld = false := by
  have e : exec (.railsRemoved a true) s = .next (if s.boot.off = true ∨ ¬ (s.boot.st = 8 ∨ s.boot.nresetLow = true) then advance a s
    else dropMemoryRails (restartRegulator (advance a s))) := rfl
  rw [e, if_neg (by simp [ho, hr])]
  exact ⟨_, rfl, rfl, rfl⟩

/-- nPOWERGOOD has gone high. -/
def State.powerFails (s : State) : State := { s with boot := { s.boot with powerGood := false } }

theorem powerDown_of_awake (a : Nat) {s : State} (hw : s.awake = true) (hd : s.boot.downing = none) (h2 : 2 ≤ s.boot.st) :
    exec (.powerDown a) s = .next (
      let u := memorySleep (lastRecord 0 (advance a s).armedMap (stopForSleep (advance a s).powerFails))
      { u with boot := { u.boot with downing := some 0 } }) := by
  obtain ⟨⟨ho, hl⟩, h8⟩ : (s.boot.off = false ∧ s.boot.nresetLow = false) ∧ s.boot.st ≠ 8 := by
    simpa [State.awake] using hw
  simp only [exec, execPowerDown, ← State.powerFails.eq_1]
  rw [if_neg (by simp [ho, hl, h8, hd]), if_neg (by simp; omega)]

theorem powerDown_stops (a : Nat) {s : State} (hw : s.awake = true) (hd : s.boot.downing = none) (h2 : 2 ≤ s.boot.st) :
    ∃ t, exec (.powerDown a) s = .next t ∧ t.boot.powerGood = false ∧ t.boot.downing = some 0 ∧ t.evt.fifo = [] ∧
      t.mem.selfRefresh = true ∧ t.inp.running = false ∧ ∀ g, g < 4 → (t.sg g).state = .disarmed := by
  refine ⟨_, powerDown_of_awake a hw hd h2, ?_⟩
  simp only [memorySleep, lastRecord_boot_powerGood, stopForSleep_boot_powerGood, lastRecord_inp, lastRecord_fifo,
    stopForSleep_running, State.sg, lastRecord_seg]
  exact ⟨rfl, trivial, trivial, trivial, trivial, fun g hg => stopForSleep_disarmed _ hg⟩

theorem powerDownDone_sleeps (a : Nat) {s : State} (hz : s.sess.length = 32) (hd : s.boot.downing.isSome = true)
    (hg : s.boot.powerGood = false) :
    ∃ t, exec (.powerDownDone a) s = .next t ∧ t.boot.st = 8 ∧ t.boot.powerDown = true ∧ t.boot.downing = none ∧
      t.pcie.linkUp = false ∧ t.pwr.alert = [] ∧ t.pwr.fault = false ∧ ∀ n, n < 32 → (t.session n).st = .closed := by
  obtain ⟨d, hd⟩ := Option.isSome_iff_exists.mp hd
  have hg' : (sleepModule (advance a s)).boot.powerGood = false := (sleepModule_boot_powerGood _).trans hg
  have hs {n : Nat} (hn : n < 32) := sleepModule_session (s := advance a s) hz hn
  simp only [exec, execPowerDownDone, advance_boot, hd, hg', Bool.false_eq_true, if_false]
  simp only [State.session] at hs ⊢
  exact ⟨_, rfl, sleepModule_boot_st _, rfl, rfl, sleepModule_pcie_linkUp _, sleepModule_pwr_alert _, sleepModule_pwr_fault _,
    fun n hn => by simp only [hs hn]; rfl⟩

/-- nPOWERGOOD is low again, and what has become of the memory rails is known. -/
def State.powerReturns (held : Bool) (s : State) : State :=
  { s with boot := { s.boot with powerGood := true, memHeld := s.boot.memHeld && held } }

theorem powergoodRestored_of_down (a : Nat) (held : Bool) {s : State} (ho : s.boot.off = false) (hd : s.boot.downing = none)
    (h8 : s.boot.st = 8) (hp : s.boot.powerDown = true) (hl : s.boot.pinLow = false) :
    exec (.powergoodRestored a held) s = .next (coldStart (enterReset ((advance a s).powerReturns held))) := by
  simp only [exec, execPowergoodRestored]
  rw [if_neg (by simp [ho, hd]), if_pos (by simp [h8, hp])]
  simp only [restartAfterDown]
  rw [if_neg (by simp [hl])]
  rfl

theorem powergoodRestored_starts (a : Nat) (held : Bool) {s : State} (ho : s.boot.off = false) (hd : s.boot.downing = none)
    (h8 : s.boot.st = 8) (hp : s.boot.powerDown = true) (hl : s.boot.pinLow = false) :
    ∃ t, exec (.powergoodRestored a held) s = .next t ∧ t.boot.st = 0 ∧ t.boot.cause = 1 ∧ t.boot.nresetLow = false ∧
      t.boot.powerGood = true ∧ t.mem.cells = if s.boot.memHeld = true ∧ held = true then s.mem.cells else [] := by
  refine ⟨_, powergoodRestored_of_down a held ho hd h8 hp hl, ?_⟩
  obtain ⟨image, since, hs⟩ := coldStart_boot (enterReset ((advance a s).powerReturns held))
  rw [hs, coldStart_cells]
  simp [BootState.keepsMemory, State.powerReturns, h8, hp]

/-- Settles O45, row by row: a row that enters reset leaves what `enterReset` leaves, a row that starts the module what `coldStart`
leaves of the state before it, and a power-down what its stops leave. -/
theorem resetEvents : Obligations.ResetEvents := by
  refine ⟨fun a s _ => powerOnReset_clears a s, fun a s hz => vauxLeavesTolerance_turnsOff a hz.1,
    fun a s hz => pinReset_entersReset a hz.1, fun a straps held s hz => nresetRise_starts a straps held hz.2.1,
    fun a loss s hz ho hl h8 => ?_, fun a s _ => railsRemoved_losesMemory a, fun a s _ => powerDown_stops a,
    fun a s hz => powerDownDone_sleeps a hz.1, fun a held s _ => powergoodRestored_starts a held⟩
  obtain ⟨t, ht, hn, hp, hc, hf, hm, -⟩ := railsFall_entersReset a loss hz.1 ho hl h8
  exact ⟨t, ht, hn, hp, hc, hf, hm⟩

end Sys2Proof.Machine

/-! What an accepted class C command leads to, and what the shared operations on inputs and cores leave as they are. -/

namespace Sys2Proof.Machine

/-! ### An accepted class C command -/

/-- Who waits for the reply of an accepted class C command: it holds the number of the command's record (R441). -/
def acceptedWaiter (c : Cmd) (q : Request) (s : State) : Waiter :=
  { waiterOf c q s with eventSeq := (served c q s).evt.nextSeq }

/-- The module as the action of a class C command finds it: behind COMMAND_ACCEPTED (R420, R441). -/
def behindRecord (c : Cmd) (q : Request) (s : State) : State :=
  let t := carrying (stageBody 0x0003 (requestBody c.opcode OK q)) (served c q s)
  { t with evt := { t.evt with carrying := true } }

@[simp] theorem behindRecord_sess (c q s) : (behindRecord c q s).sess = (served c q s).sess := by simp [behindRecord]
@[simp] theorem behindRecord_inp (c q s) : (behindRecord c q s).inp = s.inp := by simp [behindRecord]

/-- An accepted class C command acts behind its record; what follows touches neither sessions nor converters. -/
theorem runRequest_acts {c : Cmd} {q : Request} {s : State} (h : accepts c q s = true) (hc : c.classC = true) :
    (runRequest c q s).sess = (c.act (acceptedWaiter c q s) q (behindRecord c q s)).sess ∧
    (runRequest c q s).inp = (c.act (acceptedWaiter c q s) q (behindRecord c q s)).inp ∧
    (runRequest c q s).cal = (c.act (acceptedWaiter c q s) q (behindRecord c q s)).cal := by
  rw [runRequest_accepts h, acceptRequest_classC hc]
  simp only [noteSnapshots_sess, noteSnapshots_inp, noteSnapshots_cal, noteScope_sess, noteScope_inp, noteScope_cal]
  exact ⟨rfl, rfl, rfl⟩

/-- Where the action ends with a reply, that reply stands in the session. -/
theorem runRequest_acts_answers {c : Cmd} {q : Request} {s v : State} {st : Nat} {p : List Byte} (h : accepts c q s = true)
    (hc : c.classC = true) (hz : s.sess.length = 32)
    (hv : c.act (acceptedWaiter c q s) q (behindRecord c q s) = reply (acceptedWaiter c q s) st p v)
    (hs : v.sess = (behindRecord c q s).sess) : answers c q st p (runRequest c q s) := by
  have hl : q.sess < s.sess.length := hz ▸ accepts_sess h
  have e : v.sess = (served c q s).sess := hs.trans (behindRecord_sess c q s)
  have e' : v.session q.sess = (served c q s).session q.sess := by simp only [State.session, e]
  refine answers_congr (runRequest_acts h hc).1 ?_
  rw [hv]
  refine reply_answers rfl rfl rfl rfl ?_ ?_ ?_
  · rwa [e, served_sess_length]
  · rw [e', served_session hl]
  · rw [e', served_session hl]; rfl

theorem firstFailure_eq_none : ∀ {l : List Check}, firstFailure l = none → ∀ x ∈ l, x = none
  | [], _ => by simp
  | none :: l, h => by simpa using firstFailure_eq_none (l := l) h
  | some _ :: _, h => by cases h

/-- An accepted request has passed every field check. -/
theorem accepts_checks {c : Cmd} {q : Request} {s : State} (h : accepts c q s = true) :
    ∀ x ∈ c.checks (served c q s) q, x = none := by
  simp only [accepts, Bool.and_eq_true, Option.isNone_iff_eq_none] at h
  exact firstFailure_eq_none h.1.1.2

theorem inputField_eq_none {s : State} {n : Nat} (h : inputField s n = none) : n < 8 := by
  have passed : n ≤ 7 ∧ s.ganged n = false := by simpa [inputField, allowed, failWhen] using h
  omega

theorem within_eq_none {lo hi v : Int} (h : within lo hi v = none) : lo ≤ v ∧ v ≤ hi := by
  simpa [within, failWhen] using h

/-! ### Operations done for every entry of a list -/

/-- What every turn leaves as it is, all of them leave as it is. -/
theorem forAll_same {α β : Type} (p : State → β) {f : α → State → State} (l : List α) (s : State)
    (h : ∀ a t, p (f a t) = p t := by intros; rfl) : p (forAll l f s) = p s :=
  foldl_same p (fun t a => h a t) l s

theorem forAll_induct {α : Type} {P : State → Prop} {f : α → State → State} (h : ∀ a t, P t → P (f a t)) (l : List α)
    {s : State} (hs : P s) : P (forAll l f s) := by
  induction l generalizing s with
  | nil => exact hs
  | cons a l ih => exact ih (h a s hs)

/-! ### Inputs and cores -/

@[simp] theorem advance_input (a : Nat) (s : State) (n : Nat) : (advance a s).input n = s.input n := rfl
@[simp] theorem advance_core (a : Nat) (s : State) (c : Nat) : (advance a s).core c = s.core c := rfl
@[simp] theorem advance_enabled (a : Nat) (s : State) (n : Nat) : (advance a s).enabled n = s.enabled n := rfl

@[simp] theorem advance_sampleLocked (a : Nat) (s : State) : (advance a s).sampleLocked = s.sampleLocked := by
  have pass_st (dt : Nat) (l : Loop) : (l.pass dt).st = l.st := by unfold Loop.pass; split <;> rfl
  cases h : s.clk.loops <;> simp [State.sampleLocked, State.loop, advance, h, pass_st]

/-- A figure of the inputs that an update keeps is as before. -/
theorem updInput_keeps_field {β : Type} (p : Input → β) {f : Input → Input} (n m : Nat) (s : State)
    (h : ∀ x, p (f x) = p x := by intro; rfl) : p ((updInput n f s).input m) = p (s.input m) := by
  rw [input_updInput]; split
  · exact h _
  · rfl

/-- A figure of the cores that an update keeps is as before. -/
theorem updCore_keeps_field {β : Type} (p : Core → β) {f : Core → Core} (c d : Nat) (s : State)
    (h : ∀ x, p (f x) = p x := by intro; rfl) : p ((updCore c f s).core d) = p (s.core d) := by
  rw [core_updCore]; split
  · exact h _
  · rfl

theorem input_congr {s t : State} (h : t.inp.inputs = s.inp.inputs) (n : Nat) : t.input n = s.input n := by
  simp only [State.input, h]

theorem core_congr {s t : State} (h : t.inp.cores = s.inp.cores) (c : Nat) : t.core c = s.core c := by
  simp only [State.core, h]

end Sys2Proof.Machine

/-! The requests of group 0x02: an input goes on or off, a pair is made or broken, a session reads the status. -/

namespace Sys2Proof.Machine

/-! ### Spans without frames -/

/-- Two states that differ in the trigger part alone. -/
def SameButTrg (s t : State) : Prop := ∃ x, t = { s with trg := x }

theorem SameButTrg.refl (s : State) : SameButTrg s s := ⟨s.trg, rfl⟩
theorem SameButTrg.trans {s t u : State} : SameButTrg s t → SameButTrg t u → SameButTrg s u := by
  rintro ⟨x, rfl⟩ ⟨y, rfl⟩; exact ⟨y, rfl⟩

theorem stepComparator_sameButTrg (n c src v tick inst s) : SameButTrg s (stepComparator n c src v tick inst s) := by
  unfold stepComparator; extract_lets x take
  split
  · exact .refl s
  · split
    · exact ⟨_, rfl⟩
    · split
      · exact .refl s
      · exact ⟨_, rfl⟩

theorem flushTail_sameButTrg (n s) : SameButTrg s (flushTail n s) := by
  have step : SameButTrg s (stepTail n (s.spacing n) none s) := by
    unfold stepTail; split
    · exact .refl s
    · exact (stepComparator_sameButTrg ..).trans (stepComparator_sameButTrg ..)
  exact step.trans ⟨_, rfl⟩

theorem loseComparators_sameButTrg (n tick which s) : SameButTrg s (loseComparators n tick which s) :=
  forEach_induct (P := SameButTrg s) (fun c t ht => ht.trans <| by
    dsimp only; split
    · exact ⟨_, rfl⟩
    · exact .refl t) 2 (.refl s)

theorem passGaps_sameButTrg (n s) : SameButTrg s (passGaps n s) := by
  unfold passGaps; extract_lets reached l src v
  split
  · exact .refl s
  · have flushed : SameButTrg s (flushTail n v) := .trans ⟨_, rfl⟩ (flushTail_sameButTrg n v)
    exact forAll_induct (fun t u hu => hu.trans (loseComparators_sameButTrg ..)) l flushed

/-- Forcing an input's conditions false is a matter of the trigger part. -/
theorem forceInput_sameButTrg (n tick s) : SameButTrg s (forceInput n tick s) :=
  .trans ⟨_, rfl⟩ (passGaps_sameButTrg ..)

@[simp] theorem forceInput_inp (n tick s) : (forceInput n tick s).inp = s.inp := by
  obtain ⟨x, h⟩ := forceInput_sameButTrg n tick s; rw [h]
@[simp] theorem forceInput_sess (n tick s) : (forceInput n tick s).sess = s.sess := by
  obtain ⟨x, h⟩ := forceInput_sameButTrg n tick s; rw [h]

/-! ### What a calibration of inputs leaves of them -/

@[simp] theorem syncInputs_inp (l cause tick t0 s) : (syncInputs l cause tick t0 s).inp = s.inp := by
  unfold syncInputs
  rw [record_inp, forAll_same (·.inp), forAll_same (·.inp)]

@[simp] theorem powerCores_sess (n s) : (powerCores n s).sess = s.sess := forAll_same (·.sess) ..

/-- A calibration that starts is under way. -/
theorem startForeground_underWay (f : Foreground) (s : State) :
    ∃ g ∈ (startForeground f s).cal.foregrounds, g.kind = f.kind ∧ g.inputs = f.inputs :=
  ⟨_, List.mem_append_right _ (List.mem_singleton_self _), rfl, rfl⟩

/-- Of the inputs, a calibration that starts changes what concerns a seam alone. -/
theorem startForeground_enabled (f : Foreground) (s : State) (n : Nat) :
    ((startForeground f s).input n).enabled = (s.input n).enabled :=
  forAll_same (fun t => (t.input n).enabled) f.inputs s fun m t => by
    split
    · exact updInput_keeps_field Input.enabled ..
    · rfl

theorem startForeground_pairs (f : Foreground) (s : State) : (startForeground f s).inp.pairs = s.inp.pairs :=
  forAll_same (·.inp.pairs) f.inputs s fun m t => by split <;> rfl

/-! ### INP_SET_ENABLE -/

theorem setEnable_same {w : Waiter} {n : Nat} {on : Bool} {s : State} (h : (s.input n).enabled = on) :
    setEnable w n on s = reply w OK [] s := if_pos h

theorem setEnable_off {w : Waiter} {n : Nat} {s : State} (hn : n < s.inp.inputs.length) (h : (s.input n).enabled = true) :
    ∃ v, setEnable w n false s = reply w OK [] v ∧ v.sess = s.sess ∧ (v.input n).enabled = false := by
  refine ⟨_, if_neg (by simp [h]), by simp, ?_⟩
  rw [input_congr (congrArg _ (forceInput_inp ..)), updInput_keeps_field Input.enabled,
    input_congr ((powerCores_keeps (m := 2 ^ Kind.cores.ctorIdx) n _).kind .inputs rfl), input_updInput_self _ _ _ hn]

theorem setEnable_on {w : Waiter} {n : Nat} {s : State} (hn : n < s.inp.inputs.length) (h : (s.input n).enabled = false) :
    ((setEnable w n true s).input n).enabled = true ∧
      ∃ f ∈ (setEnable w n true s).cal.foregrounds, f.kind = .enable ∧ f.inputs = [n] := by
  rw [show setEnable w n true s = startForeground { kind := .enable, inputs := [n], waiter := some w }
    (syncInput n 4 (updInput n (fun x => { x with enabled := true }) s)) from if_neg (by simp [h])]
  refine ⟨?_, startForeground_underWay ..⟩
  rw [startForeground_enabled, syncInput, input_congr (congrArg _ (syncInputs_inp ..)), input_updInput_self _ _ _ hn]

/-- What INP_SET_ENABLE leads to: the three cases of `setEnable`, on the state behind the request's record (R118, R119). -/
theorem inpSetEnable_sets {q : Request} {s : State} (hz : Sized s) (h : accepts inpSetEnableCmd q s = true) :
    ∃ t, exec (.inpSetEnable q) s = .next t ∧ (t.input (q.u8 0)).enabled = decide (q.u8 1 = 1) ∧
      ((s.input (q.u8 0)).enabled = decide (q.u8 1 = 1) → answers inpSetEnableCmd q OK [] t ∧ t.inp = s.inp) ∧
      ((s.input (q.u8 0)).enabled = true → q.u8 1 = 0 → answers inpSetEnableCmd q OK [] t) ∧
      ((s.input (q.u8 0)).enabled = false → q.u8 1 = 1 →
        ∃ f ∈ t.cal.foregrounds, f.kind = .enable ∧ f.inputs = [q.u8 0]) := by
  obtain ⟨hsess, -, -, hinputs, -⟩ := hz
  obtain ⟨-, ht, hcal⟩ := runRequest_acts h rfl
  have hn : q.u8 0 < (behindRecord inpSetEnableCmd q s).inp.inputs.length := by
    rw [behindRecord_inp, hinputs]
    exact inputField_eq_none (accepts_checks h _ (List.mem_cons_self ..))
  have hs : (behindRecord inpSetEnableCmd q s).input (q.u8 0) = s.input (q.u8 0) := input_congr (by simp) _
  have hact : inpSetEnableCmd.act (acceptedWaiter inpSetEnableCmd q s) q (behindRecord inpSetEnableCmd q s) =
    setEnable (acceptedWaiter inpSetEnableCmd q s) (q.u8 0) (q.u8 1 = 1) (behindRecord inpSetEnableCmd q s) := rfl
  rw [hact] at ht hcal
  refine ⟨_, rfl, ?_⟩
  by_cases same : (s.input (q.u8 0)).enabled = decide (q.u8 1 = 1)
  · have e := setEnable_same (w := acceptedWaiter inpSetEnableCmd q s) (hs ▸ same)
    have ans := runRequest_acts_answers h rfl hsess (hact.trans e) rfl
    have inp : (runRequest inpSetEnableCmd q s).inp = s.inp := by rw [ht, e]; simp
    refine ⟨by rw [input_congr (congrArg _ inp), same], fun _ => ⟨ans, inp⟩, fun _ _ => ans, fun hoff hon => ?_⟩
    simp [hoff, hon] at same
  · by_cases on : q.u8 1 = 1
    · have off : (s.input (q.u8 0)).enabled = false := by simpa [on] using same
      obtain ⟨he, hf⟩ := setEnable_on (w := acceptedWaiter inpSetEnableCmd q s) hn (hs ▸ off)
      simp only [on, decide_true] at ht hcal ⊢
      refine ⟨by rw [input_congr (congrArg _ ht), he], fun e => absurd e (by simp [off]), fun e => absurd e (by simp [off]),
        fun _ _ => by rwa [hcal]⟩
    · have was : (s.input (q.u8 0)).enabled = true := by simpa [on] using same
      obtain ⟨v, hv, hvs, he⟩ := setEnable_off (w := acceptedWaiter inpSetEnableCmd q s) hn (hs ▸ was)
      simp only [on, decide_false] at ht hact ⊢
      refine ⟨by rw [input_congr (congrArg _ ht), hv, input_congr (congrArg _ (reply_inp ..)), he],
        fun e => absurd e (by simp [was]), fun _ _ => runRequest_acts_answers h rfl hsess (hact.trans hv) hvs,
        fun e => absurd e (by simp [was])⟩

/-! ### INP_SET_PAIR -/

theorem paired_congr {s t : State} (h : t.inp.pairs = s.inp.pairs) (k : Nat) : t.paired k = s.paired k := by
  simp only [State.paired, h]

theorem setPair_same {w : Waiter} {k : Nat} {on : Bool} {s : State} (h : s.paired k = on) :
    setPair w k on s = reply w OK [] s := if_pos h

theorem setPair_changed {w : Waiter} {k : Nat} {on : Bool} {s : State} (hk : k < s.inp.pairs.length) (h : s.paired k ≠ on) :
    (setPair w k on s).paired k = on ∧
      ∃ f ∈ (setPair w k on s).cal.foregrounds, f.kind = .enable ∧ f.inputs = [2 * k, 2 * k + 1] := by
  unfold setPair
  rw [if_neg h]
  refine ⟨?_, startForeground_underWay ..⟩
  rw [paired_congr (startForeground_pairs ..), paired_congr (congrArg _ (syncInputs_inp ..))]
  have set : ({ s with inp := { s.inp with pairs := s.inp.pairs.set k on } } : State).paired k = on := by
    simp [State.paired, List.getD, hk]
  split
  · rw [paired_congr (congrArg _ (forceInput_inp ..)), set]
  · exact set

/-- What INP_SET_PAIR leads to: the two cases of `setPair`, on the state behind the request's record (R117, R119). -/
theorem inpSetPair_sets {q : Request} {s : State} (hz : Sized s) (h : accepts inpSetPairCmd q s = true) :
    ∃ t, exec (.inpSetPair q) s = .next t ∧ t.paired (q.u8 0) = decide (q.u8 1 = 1) ∧
      (s.paired (q.u8 0) = decide (q.u8 1 = 1) → answers inpSetPairCmd q OK [] t ∧ t.inp = s.inp) ∧
      (s.paired (q.u8 0) ≠ decide (q.u8 1 = 1) →
        ∃ f ∈ t.cal.foregrounds, f.kind = .enable ∧ f.inputs = [2 * q.u8 0, 2 * q.u8 0 + 1]) := by
  obtain ⟨hsess, -, -, -, -, hpairs, -⟩ := hz
  obtain ⟨-, ht, hcal⟩ := runRequest_acts h rfl
  have hk : q.u8 0 < (behindRecord inpSetPairCmd q s).inp.pairs.length := by
    have := within_eq_none (accepts_checks h _ (List.mem_cons_self ..))
    rw [behindRecord_inp, hpairs]
    omega
  have hs : (behindRecord inpSetPairCmd q s).paired (q.u8 0) = s.paired (q.u8 0) := paired_congr (by simp) _
  have hact : inpSetPairCmd.act (acceptedWaiter inpSetPairCmd q s) q (behindRecord inpSetPairCmd q s) =
    setPair (acceptedWaiter inpSetPairCmd q s) (q.u8 0) (q.u8 1 = 1) (behindRecord inpSetPairCmd q s) := rfl
  rw [hact] at ht hcal
  refine ⟨_, rfl, ?_⟩
  by_cases same : s.paired (q.u8 0) = decide (q.u8 1 = 1)
  · have e := setPair_same (w := acceptedWaiter inpSetPairCmd q s) (hs.trans same)
    have ans := runRequest_acts_answers h rfl hsess (hact.trans e) rfl
    have inp : (runRequest inpSetPairCmd q s).inp = s.inp := by rw [ht, e]; simp
    exact ⟨by rw [paired_congr (congrArg _ inp), same], fun _ => ⟨ans, inp⟩, fun ne => absurd same ne⟩
  · obtain ⟨hp, hf⟩ := setPair_changed (w := acceptedWaiter inpSetPairCmd q s) hk (hs ▸ same)
    exact ⟨by rw [paired_congr (congrArg _ ht), hp], fun e => absurd e same, fun _ => by rwa [hcal]⟩

/-! ### INP_GET_STATUS -/

/-- A figure of the sessions that an update keeps is as before. -/
theorem updSession_keeps_field {β : Type} (p : Session → β) {f : Session → Session} (n m : Nat) (s : State)
    (h : ∀ x, p (f x) = p x := by intro; rfl) : p ((updSession n f s).session m) = p (s.session m) := by
  rw [session_updSession]; split
  · exact h _
  · rfl

theorem session_congr {s t : State} (h : t.sess = s.sess) (n : Nat) : t.session n = s.session n := by
  simp only [State.session, h]

theorem deliver_since (w : Waiter) (st : Nat) (p : List Byte) (s : State) (n : Nat) :
    ((deliver w st p s).session n).since = (s.session n).since := by
  unfold deliver; extract_lets x bytes s1 s2 s3
  have h2 : (s2.session n).since = (s.session n).since := updSession_keeps_field Session.since w.sess n s1
  have h3 : (s3.session n).since = (s.session n).since := by rw [session_congr (setIrq_sess ..), h2]
  split
  · split
    · rw [session_congr (sendMsix_sess ..), h3]
    · exact h3
  · split
    · exact h2
    · exact h2

/-- A reply clears no flags. -/
theorem reply_since {w : Waiter} (hi : w.inner = none) (st : Nat) (p : List Byte) (s : State) (n : Nat) :
    ((reply w st p s).session n).since = (s.session n).since := by
  simp only [reply, protectedDone, hi]
  split
  · exact deliver_since ..
  · rfl

/-- What INP_GET_STATUS leads to: a reply from the state that it finds, and the flags of its session cleared (R137). -/
theorem inpGetStatus_reads {q : Request} {s : State} (hz : Sized s) (h : accepts inpGetStatusCmd q s = true) :
    ∃ t, exec (.inpGetStatus q) s = .next t ∧
      answers inpGetStatusCmd q OK ((List.range 8).flatMap (inputRecord (served inpGetStatusCmd q s) q.sess)) t ∧
      (t.session q.sess).since = { (s.session q.sess).since with
        overrange := List.replicate 8 false, excess := List.replicate 8 false } ∧
      ∀ n, n ≠ q.sess → (t.session n).since = (s.session n).since := by
  obtain ⟨hsess, -⟩ := hz
  have hl : q.sess < s.sess.length := hsess ▸ accepts_sess h
  have since (n : Nat) : ((runRequest inpGetStatusCmd q s).session n).since =
      ((updSession q.sess (fun x => { x with since := { x.since with
        overrange := List.replicate 8 false, excess := List.replicate 8 false } }) (served inpGetStatusCmd q s)).session n).since := by
    rw [runRequest_accepts h, acceptRequest_classR rfl]
    exact reply_since (w := waiterOf inpGetStatusCmd q s) rfl ..
  refine ⟨_, rfl, ?_, ?_, fun n hn => ?_⟩
  · refine runRequest_reads (fun u => (List.range 8).flatMap (inputRecord u q.sess)) h hsess rfl fun w u => ⟨_, rfl, ?_, ?_, ?_⟩
    · exact updSession_keeps_field Session.st ..
    · exact updSession_keeps_field Session.gen ..
    · exact updSession_length ..
  · rw [since, session_updSession_self _ _ _ (by rwa [served_sess_length]), served_session hl]
  · rw [since, session_updSession, if_neg fun e => hn e.1.symm, served_session_ne hn.symm]

/-- Settles O7: each request, by what its action leads to on the state behind its record. -/
theorem inputRequests : Obligations.InputRequests :=
  ⟨fun _ _ hz h => inpSetEnable_sets hz h, fun _ _ hz h => inpSetPair_sets hz h, fun _ _ hz h => inpGetStatus_reads hz h⟩

end Sys2Proof.Machine

/-! The events of the converters: overdrive, the rotation of cores, and seams. -/

namespace Sys2Proof.Machine

theorem Sized.input_lt {s : State} (h : Sized s) {n : Nat} (hn : n < 8) : n < s.inp.inputs.length := by
  obtain ⟨-, -, -, hi, -⟩ := h
  exact hi ▸ hn

theorem Sized.core_lt {s : State} (h : Sized s) {c : Nat} (hc : c < 24) : c < s.inp.cores.length := by
  obtain ⟨-, -, -, -, hi, -⟩ := h
  exact hi ▸ hc

/-! ### Overdrive -/

/-- An interval that covers another: its span, and its excess (R131, R133). -/
def Overdrive.covers (p o : Overdrive) : Prop := p.first ≤ o.first ∧ o.last ≤ p.last ∧ (o.excess = true → p.excess = true)

theorem Overdrive.covers_merge {o p : Overdrive} (h : p.covers o) (r : Overdrive) : (p.merge r).covers o := by
  obtain ⟨hf, hl, he⟩ := h
  refine ⟨Nat.le_trans (Nat.min_le_left ..) hf, Nat.le_trans hl (Nat.le_max_left ..), fun x => ?_⟩
  simp [Overdrive.merge, he x]

theorem foldl_merge_covers {o : Overdrive} (l : List Overdrive) {p : Overdrive} (h : p.covers o) :
    (l.foldl Overdrive.merge p).covers o := by
  induction l generalizing p with
  | nil => exact h
  | cons r l ih => exact ih (Overdrive.covers_merge h r)

/-- An interval that is added is covered, by what it merges into where it merges. -/
theorem addOverdrive_covers (o : Overdrive) (l : List Overdrive) : ∃ p ∈ addOverdrive o l, p.covers o :=
  ⟨_, List.mem_cons_self .., foldl_merge_covers _ ⟨Nat.le_refl _, Nat.le_refl _, id⟩⟩

/-- A seam that is abandoned leaves the intervals of every input. -/
theorem abandonSeam_overdrives (m first last n : Nat) (s : State) :
    ((abandonSeam m first last s).input n).overdrives = (s.input n).overdrives := by
  unfold abandonSeam postponeSeam
  split
  · split
    · exact updInput_keeps_field Input.overdrives ..
    · rfl
  · rfl

theorem noteOverdrive_overdrives {n : Nat} {s : State} (hn : n < s.inp.inputs.length) (o : Overdrive) :
    ((noteOverdrive n o s).input n).overdrives = addOverdrive o (s.liveOverdrives (s.input n).overdrives) := by
  unfold noteOverdrive abandonSeams
  rw [forAll_same (fun t => (t.input n).overdrives) _ _ fun m t => abandonSeam_overdrives .., abandonSeam_overdrives,
    input_updInput_self _ _ _ hn]

/-- OVERDRIVE_DETECTED (R131, R133). -/
theorem overdriveDetected_covered (a : Nat) {n : Nat} (neg : Bool) (first last : Nat) (ex : Bool) {s : State} (hz : Sized s)
    (hn : n < 8) (he : s.enabled n = true) :
    ∃ t, exec (.overdriveDetected a n neg first last ex) s = .next t ∧
      ∃ o ∈ (t.input n).overdrives, o.covers { first := first, last := last, excess := ex } := by
  refine ⟨_, congrArg Host.Outcome.next (if_neg (by simp [he]; omega)), ?_⟩
  have noted : ∃ o ∈ ((noteOverdrive n { first := first, last := last, excess := ex } (advance a s)).input n).overdrives,
      o.covers { first := first, last := last, excess := ex } := by
    rw [noteOverdrive_overdrives (s := advance a s) (hz.input_lt hn)]
    exact addOverdrive_covers ..
  split
  · rwa [input_congr (congrArg _ ((recordLimited_inp ..).trans (updSince_inp ..)))]
  · exact noted

/-! ### Passes -/

/-- Core `c` is in state `k` with phase `phase`. A core that is neither rotating nor ready stays so in whatever a pass does. -/
def holdsCore (c : Nat) (k : CoreState) (phase : Nat) (s : State) : Prop := (s.core c).st = k ∧ (s.core c).phase = phase

theorem updCore_holdsCore {c d phase : Nat} {k : CoreState} {f : Core → Core} {s : State} (h : holdsCore c k phase s)
    (hst : ∀ x, (f x).st = x.st := by intro; rfl) (hph : ∀ x, (f x).phase = x.phase := by intro; rfl) :
    holdsCore c k phase (updCore d f s) :=
  ⟨(updCore_keeps_field Core.st d c s hst).trans h.1, (updCore_keeps_field Core.phase d c s hph).trans h.2⟩

theorem rotateCore_holdsCore {c d phase : Nat} {k : CoreState} {s : State} (h : holdsCore c k phase s) (hd : d ≠ c) :
    holdsCore c k phase (rotateCore d s) := by
  have : (rotateCore d s).core c = s.core c := by
    unfold rotateCore
    rw [core_updCore, if_neg fun e => hd e.1]
  simpa only [holdsCore, this] using h

theorem startPass_holdsCore {c phase : Nat} {k : CoreState} {n : Nat} {b : Bool} {s : State} (hr : k ≠ .rotating) (hk : k ≠ .ready)
    (h : holdsCore c k phase s) : holdsCore c k phase (startPass n b s) := by
  unfold startPass; extract_lets u v
  have hv : holdsCore c k phase v := by
    change holdsCore c k phase u
    unfold u; split
    · exact h
    · exact h
  refine forAll_induct (fun d t ht => ?_) _ hv
  split
  · next moves =>
    have hd : d ≠ c := by
      rintro rfl
      rw [ht.1] at moves
      exact moves.elim hr hk
    exact updCore_holdsCore (rotateCore_holdsCore ht hd)
  · exact updCore_holdsCore ht

theorem endPass_holdsCore {c phase : Nat} {k : CoreState} {n : Nat} {s : State} (h : holdsCore c k phase s) :
    holdsCore c k phase (endPass n s) := by
  unfold endPass; split
  · exact h
  · extract_lets u v
    have hv : holdsCore c k phase v := forAll_induct (fun d t ht => updCore_holdsCore ht) _ h
    simpa only [holdsCore, core_congr (congrArg _ (record_inp ..))] using hv

/-- A pass that closes rotates no core but those in rotation and ready. -/
theorem closePass_holdsCore {c phase : Nat} {k : CoreState} {n : Nat} {s : State} (hr : k ≠ .rotating) (hk : k ≠ .ready)
    (h : holdsCore c k phase s) : holdsCore c k phase (closePass n s) := by
  unfold closePass; split
  · exact h
  · split
    · extract_lets u
      have hu : holdsCore c k phase u := endPass_holdsCore h
      split
      · exact startPass_holdsCore hr hk hu
      · exact hu
    · exact h

theorem closePass_faulty {c n : Nat} {s : State} (h : (s.core c).st = .faulty) : ((closePass n s).core c).st = .faulty :=
  (closePass_holdsCore (by decide) (by decide) ⟨h, rfl⟩).1

theorem closePass_of_none {n : Nat} {s : State} (h : (s.inCal n).pass = none) : closePass n s = s := by
  simp only [closePass, h]

theorem startPass_inputs {n : Nat} {b : Bool} {s : State} (h : (s.input n).seam = none) :
    (startPass n b s).inp.inputs = s.inp.inputs := by
  unfold startPass; extract_lets u v
  have hv : v.inp.inputs = s.inp.inputs := by
    change u.inp.inputs = _
    simp only [u, h]
  rw [forAll_same (·.inp.inputs) _ v fun c t => ?_, hv]
  split
  · rfl
  · rfl

/-- A pass that closes while no seam is in progress leaves the inputs. -/
theorem closePass_inputs {n : Nat} {s : State} (h : (s.input n).seam = none) : (closePass n s).inp.inputs = s.inp.inputs := by
  unfold closePass; split
  · rfl
  · split
    · extract_lets u
      have hu : u.inp.inputs = s.inp.inputs := (endPass_keeps (m := 2 ^ Kind.cores.ctorIdx) n s).kind .inputs rfl
      split
      · rw [startPass_inputs (by rw [input_congr hu, h]), hu]
      · exact hu
    · rfl

/-! ### Rotation -/

/-- ROTATION_SHADOW_START (R120 step 2). -/
theorem rotationShadowStart_shadows (a : Nat) {c : Nat} {s : State} (hz : Sized s) (hc : c < 24)
    (hst : (s.core c).st = .rotating) (hstep : (s.core c).step = 1) (hl : s.sampleLocked = true) :
    ∃ t, exec (.rotationShadowStart a c) s = .next t ∧ (t.core c).step = 2 ∧ (t.core c).st = .rotating := by
  refine ⟨_, congrArg Host.Outcome.next (if_pos (by simp [hst, hstep, hl])), ?_⟩
  rw [core_updCore_self c _ (advance a s) (hz.core_lt hc)]
  exact ⟨rfl, hst⟩

theorem faultCore_faulty {c : Nat} (k : Nat) {s : State} (hc : c < s.inp.cores.length) :
    ((faultCore c k s).core c).st = .faulty := by
  unfold faultCore
  rw [core_congr (congrArg _ ((record_inp ..).trans (assertAlert_inp ..))), core_updCore_self _ _ _ hc]

theorem spareSlice_core {c : Nat} (i : Nat) {s : State} (hc : c < s.inp.cores.length) :
    c < (spareSlice c i s).inp.cores.length ∧ ((spareSlice c i s).core c).st = (s.core c).st ∧
      ((spareSlice c i s).core c).sparesLeft = (s.core c).sparesLeft - 1 := by
  unfold spareSlice
  rw [core_congr (congrArg _ (record_inp ..)), core_updCore_self _ _ _ hc, record_inp, updCore_length]
  exact ⟨hc, rfl, rfl⟩

/-- Each failing slice takes a spare (R128). -/
theorem spareSlices_core {c : Nat} (l : List Nat) {s : State} (hc : c < s.inp.cores.length) :
    c < (forAll l (spareSlice c) s).inp.cores.length ∧ ((forAll l (spareSlice c) s).core c).st = (s.core c).st ∧
      ((forAll l (spareSlice c) s).core c).sparesLeft = (s.core c).sparesLeft - l.length := by
  induction l generalizing s with
  | nil => exact ⟨hc, rfl, rfl⟩
  | cons i l ih =>
    obtain ⟨hlen, hst, hspares⟩ := spareSlice_core i hc
    obtain ⟨hlen', hst', hspares'⟩ := ih hlen
    refine ⟨hlen', hst'.trans hst, hspares'.trans ?_⟩
    rw [hspares, List.length_cons]
    omega

/-- Good figures and slices to spare: the corrections are loaded (R115, R120, R128). -/
theorem trimCore_good {t : CoreTrim} {s : State} (hc : t.core < 24) (hl : t.core < s.inp.cores.length)
    (hst : (s.core t.core).st ≠ .faulty) (hs : t.failing.length ≤ (s.core t.core).sparesLeft) (hf : trimFault t = 0) :
    t.core < (trimCore t s).inp.cores.length ∧ ((trimCore t s).core t.core).st = (s.core t.core).st ∧
      ((trimCore t s).core t.core).loaded = some (t.gain, t.offset, t.tap) ∧
      ((trimCore t s).core t.core).sparesLeft + t.failing.length = (s.core t.core).sparesLeft := by
  obtain ⟨hlen, hkept, hspares⟩ := spareSlices_core t.failing hl
  unfold trimCore
  rw [if_neg (by simp [hst, hc]), if_neg (by omega), if_neg (by simp [hf]), updCore_length, core_updCore_self _ _ _ hlen]
  exact ⟨hlen, hkept, rfl, by rw [hspares]; omega⟩

/-- Otherwise the core is faulty (R128, R129). -/
theorem trimCore_bad {t : CoreTrim} {s : State} (hc : t.core < 24) (hl : t.core < s.inp.cores.length)
    (h : ¬ (t.failing.length ≤ (s.core t.core).sparesLeft ∧ trimFault t = 0)) : ((trimCore t s).core t.core).st = .faulty := by
  by_cases hst : (s.core t.core).st = .faulty
  · unfold trimCore
    rw [if_pos (.inl hst)]
    exact hst
  · unfold trimCore
    rw [if_neg (by simp [hst, hc])]
    by_cases few : (s.core t.core).sparesLeft < t.failing.length
    · rw [if_pos few]
      exact faultCore_faulty _ hl
    · rw [if_neg few, if_pos fun hf => h ⟨by omega, hf⟩]
      exact faultCore_faulty _ (spareSlices_core t.failing hl).1

/-- ROTATION_TRIM (R120 step 3, R128, R129). -/
theorem rotationTrim_loads (a : Nat) {x : CoreTrim} {s : State} (hz : Sized s) (hc : x.core < 24)
    (hst : (s.core x.core).st = .rotating) (hstep : (s.core x.core).step = 2) (hl : s.sampleLocked = true) :
    ∃ t, exec (.rotationTrim a x) s = .next t ∧
      if x.failing.length ≤ (s.core x.core).sparesLeft ∧ trimFault x = 0 then
        (t.core x.core).step = 3 ∧ (t.core x.core).loaded = some (x.gain, x.offset, x.tap) ∧
          (t.core x.core).sparesLeft + x.failing.length = (s.core x.core).sparesLeft
      else (t.core x.core).st = .faulty := by
  have hlen : x.core < (advance a s).inp.cores.length := hz.core_lt hc
  refine ⟨_, congrArg Host.Outcome.next (if_pos (by simp [hst, hstep, hl])), ?_⟩
  split
  · next good =>
    obtain ⟨hlen', hkept, hloaded, hspares⟩ := trimCore_good hc hlen (by simp [hst]) good.1 good.2
    rw [if_neg (by rw [hkept, advance_core, hst]; decide), core_updCore_self _ _ _ hlen']
    exact ⟨rfl, hloaded, hspares⟩
  · next bad =>
    have faulty := trimCore_bad hc hlen bad
    rw [if_pos faulty]
    exact closePass_faulty faulty

/-- CORE_READY (R120 step 4). -/
theorem coreReady_readies (a : Nat) {c : Nat} {s : State} (hz : Sized s) (hc : c < 24) (hst : (s.core c).st = .rotating)
    (hstep : (s.core c).step = 3) (hp : (s.inCal (s.inputOf c)).pass = none) :
    ∃ t, exec (.coreReady a c) s = .next t ∧ (t.core c).st = .ready ∧ (t.core c).step = 0 := by
  refine ⟨_, congrArg Host.Outcome.next (if_pos (by simp [hst, hstep])), ?_⟩
  rw [closePass_of_none (n := (advance a s).inputOf c) (by exact hp), core_updCore_self c _ (advance a s) (hz.core_lt hc)]
  exact ⟨rfl, rfl⟩

/-! ### Seams -/

/-- A seam that is due starts between the ready core and the one that has been live longest (R122). -/
theorem beginSeam_starts {n i o : Nat} {s : State} (hn : n < s.inp.inputs.length) (hi : s.readyCore n = some i)
    (ho : longestLive s n = some o) (hl : s.sampleLocked = true) (hw : s.inWindow n s.time.tick = false) :
    ((beginSeam n s).input n).retry = false ∧
      ((beginSeam n s).input n).seam = some { incoming := i, outgoing := o, f0 := s.nextBoundary } := by
  unfold beginSeam
  simp only [hi, ho]
  rw [if_neg (by simp [hl, hw]), input_updInput_self _ _ _ hn]
  exact ⟨rfl, rfl⟩

/-- SEAM_START (R122, R125). -/
theorem seamStart_begins (a : Nat) {n i o : Nat} {s : State} (hz : Sized s) (hn : n < 8) (he : s.enabled n = true)
    (hs : (s.input n).seam = none) (hr : (s.input n).retry = false)
    (hd : s.passSeams n = true ∨ s.calPath n = 1 ∨ s.calPath n = 2) (hi : s.readyCore n = some i) (ho : longestLive s n = some o)
    (hl : s.sampleLocked = true) (hw : (advance a s).inWindow n (advance a s).time.tick = false) :
    ∃ t, exec (.seamStart a n) s = .next t ∧
      (t.input n).seam = some { incoming := i, outgoing := o, f0 := (advance a s).nextBoundary } :=
  have due : (advance a s).passSeams n = true ∨ (advance a s).calPath n = 1 ∨ (advance a s).calPath n = 2 := hd
  ⟨_, congrArg Host.Outcome.next (if_pos (by simp [hn, he, hs, hr, due])),
    (beginSeam_starts (s := advance a s) (hz.input_lt hn) hi ho ((advance_sampleLocked a s).trans hl) hw).2⟩

/-- SEAM_RETRY (R124, R125). -/
theorem seamRetry_begins (a : Nat) {n i o : Nat} {s : State} (hz : Sized s) (hn : n < 8) (he : s.enabled n = true)
    (hs : (s.input n).seam = none) (hr : (s.input n).retry = true) (hi : s.readyCore n = some i) (ho : longestLive s n = some o)
    (hl : s.sampleLocked = true) (hw : (advance a s).inWindow n (advance a s).time.tick = false) :
    ∃ t, exec (.seamRetry a n) s = .next t ∧ (t.input n).retry = false ∧
      (t.input n).seam = some { incoming := i, outgoing := o, f0 := (advance a s).nextBoundary } :=
  ⟨_, congrArg Host.Outcome.next (if_pos (by simp [hn, he, hs, hr])),
    beginSeam_starts (s := advance a s) (hz.input_lt hn) hi ho ((advance_sampleLocked a s).trans hl) hw⟩

/-- What an input holds of a seam's test: the figures, the seam in progress, the retry and the failures (R123, R124, R137). -/
def Input.seamFigures (x : Input) : Nat × Int × Nat × Option Seam × Bool × Nat :=
  (x.lastRms, x.lastMean, x.lastBound, x.seam, x.retry, x.failed)

/-- A seam that fails is retried; its figures stay (R124). -/
theorem failSeam_seamFigures {n : Nat} (x : Seam) {s : State} (hn : n < s.inp.inputs.length) :
    ((failSeam n x s).input n).seamFigures =
      ((s.input n).lastRms, (s.input n).lastMean, (s.input n).lastBound, none, true, (s.input n).failed + 1) := by
  unfold failSeam; extract_lets t u y v
  have hu : (u.input n).seamFigures =
      ((s.input n).lastRms, (s.input n).lastMean, (s.input n).lastBound, none, true, (s.input n).failed + 1) := by
    simp only [u]
    rw [input_updInput_self n _ t hn]
    rfl
  have hv : (v.input n).seamFigures = (u.input n).seamFigures := by rw [input_congr (congrArg _ (record_inp ..))]
  split
  · rw [input_congr (congrArg _ ((stageBody_inp ..).trans (assertAlert_inp ..))), updInput_keeps_field Input.seamFigures, hv, hu]
  · rw [hv, hu]

theorem failSeam_input {n : Nat} (x : Seam) {s t : State} (hn : n < s.inp.inputs.length) (ht : t = failSeam n x s) :
    (t.input n).lastRms = (s.input n).lastRms ∧ (t.input n).lastMean = (s.input n).lastMean ∧
      (t.input n).lastBound = (s.input n).lastBound ∧ (t.input n).seam = none ∧ (t.input n).retry = true ∧
      (t.input n).failed = (s.input n).failed + 1 := by
  have figures := failSeam_seamFigures x hn
  rw [← ht] at figures
  simpa only [Input.seamFigures, Prod.mk.injEq] using figures

/-- An input that keeps the figures of a test of its seam (R123, R137). Its equations are stated for any figures, so that none
is computed where they are used. -/
def Input.keepTest (rms : Nat) (mean : Int) (bound : Nat) (y : Input) : Input :=
  { y with lastRms := rms, lastMean := mean, lastBound := bound }

theorem keepTest_lastRms (rms mean bound y) : (Input.keepTest rms mean bound y).lastRms = rms := rfl
theorem keepTest_lastMean (rms mean bound y) : (Input.keepTest rms mean bound y).lastMean = mean := rfl
theorem keepTest_lastBound (rms mean bound y) : (Input.keepTest rms mean bound y).lastBound = bound := rfl
theorem keepTest_failed (rms mean bound y) : (Input.keepTest rms mean bound y).failed = y.failed := rfl

/-- The module once the figures of a test on an overlap are kept. -/
def keepFigures (n : Nat) (l : List (Int × Int)) (s : State) : State :=
  updInput n (Input.keepTest (seamRms l) (seamMean l) (seamBound l)) s

theorem exec_seamTest (a : Nat) {n : Nat} (l : List (Int × Int)) {s : State} {x : Seam} (hx : (s.input n).seam = some x) :
    exec (.seamTest a n l) s = .next (if seamPasses (s.overlap x l) = true
      then updInput n (fun y => { y with seam := some { x with passed := true } }) (keepFigures n (s.overlap x l) (advance a s))
      else failSeam n x (keepFigures n (s.overlap x l) (advance a s))) := by
  have ho : (advance a s).overlap x l = s.overlap x l := rfl
  unfold keepFigures Input.keepTest
  simp only [exec, execSeamTest, advance_input, hx, ho]

/-- SEAM_TEST (R123, R124). -/
theorem seamTest_judges (a : Nat) {n : Nat} (l : List (Int × Int)) {s : State} {x : Seam} (hz : Sized s) (hn : n < 8)
    (hx : (s.input n).seam = some x) :
    ∃ t, exec (.seamTest a n l) s = .next t ∧ (t.input n).lastRms = seamRms (s.overlap x l) ∧
      (t.input n).lastMean = seamMean (s.overlap x l) ∧ (t.input n).lastBound = seamBound (s.overlap x l) ∧
      if seamPasses (s.overlap x l) = true then (t.input n).seam = some { x with passed := true }
      else (t.input n).seam = none ∧ (t.input n).retry = true ∧ (t.input n).failed = (s.input n).failed + 1 := by
  refine ⟨_, exec_seamTest a l hx, ?_⟩
  generalize s.overlap x l = v
  have hlen : n < (keepFigures n v (advance a s)).inp.inputs.length := by simpa [keepFigures] using hz.input_lt hn
  have kept : (keepFigures n v (advance a s)).input n = Input.keepTest (seamRms v) (seamMean v) (seamBound v) (s.input n) :=
    input_updInput_self n _ (advance a s) (hz.input_lt hn)
  have rms : ((keepFigures n v (advance a s)).input n).lastRms = seamRms v := by rw [kept, keepTest_lastRms]
  have mean : ((keepFigures n v (advance a s)).input n).lastMean = seamMean v := by rw [kept, keepTest_lastMean]
  have bound : ((keepFigures n v (advance a s)).input n).lastBound = seamBound v := by rw [kept, keepTest_lastBound]
  have fails : ((keepFigures n v (advance a s)).input n).failed = (s.input n).failed := by rw [kept, keepTest_failed]
  split
  · rw [input_updInput_self _ _ _ hlen]
    exact ⟨rms, mean, bound, rfl⟩
  · obtain ⟨hrms, hmean, hbound, hseam, hretry, hfailed⟩ := failSeam_input x hlen rfl
    exact ⟨hrms.trans rms, hmean.trans mean, hbound.trans bound, hseam, hretry, by rw [hfailed, fails]⟩

/-- An input whose seam ends at its seam frame (R122 step 3, R127). -/
def Input.endSeam (x : Seam) (phase : Nat) (y : Input) : Input :=
  { y with seam := none, seams := y.seams + 1, seamFrame := x.f0 + 132, seamPhase := phase, seamCore := x.outgoing
           consecutive := 0, stuck := false }

/-- The change of cores at the seam frame: the incoming core takes the outgoing one's phase under the corrections loaded in it, and
the outgoing core rotates (R122 steps 3 and 4). -/
def changeCores (n : Nat) (x : Seam) (s : State) : State :=
  let phase := (s.core x.outgoing).phase
  rotateCore x.outgoing (updCore x.incoming (fun z => { z with qualityLow := false })
    (goLive x.incoming phase (loadCore x.incoming (updInput n (Input.endSeam x phase) s))))

/-- A seam that passed ends with the change of cores and what follows for the pass. -/
theorem seamDone_of_passed (a : Nat) {n : Nat} {s : State} {x : Seam} (hx : (s.input n).seam = some x) (hp : x.passed = true) :
    ∃ u, exec (.seamDone a n) s = .next (closePass n u) ∧ u.inp = (changeCores n x (advance a s)).inp := by
  simp only [exec, execSeamDone, advance_input, hx]
  refine ⟨_, congrArg Host.Outcome.next (if_neg (by simp [hp])), ?_⟩
  by_cases stuck : (s.input n).stuck = true
  · exact (congrArg State.inp (if_pos stuck)).trans ((releaseAlert_inp ..).trans ((record_inp ..).trans (record_inp ..)))
  · exact (congrArg State.inp (if_neg stuck)).trans (record_inp ..)

theorem changeCores_input {n : Nat} (x : Seam) {s : State} (hn : n < s.inp.inputs.length) :
    (changeCores n x s).input n = Input.endSeam x (s.core x.outgoing).phase (s.input n) := by
  have cores : Keeps (2 ^ Kind.cores.ctorIdx) (updInput n (Input.endSeam x (s.core x.outgoing).phase) s) (changeCores n x s) :=
    (loadCore_keeps ..).trans ((goLive_keeps ..).trans ((updCore_keeps ..).trans (rotateCore_keeps ..)))
  rw [input_congr (cores.kind .inputs rfl), input_updInput_self _ _ _ hn]

theorem goLive_core {c : Nat} (phase : Nat) {s : State} (hc : c < s.inp.cores.length) :
    holdsCore c .live phase (goLive c phase s) := by
  have h : (goLive c phase s).core c = _ := core_updCore_self c _ { s with inp := { s.inp with order := s.inp.order + 1 } } hc
  rw [holdsCore, h]
  exact ⟨rfl, rfl⟩

theorem changeCores_incoming {n : Nat} {x : Seam} {s : State} (hc : x.incoming < s.inp.cores.length)
    (hne : x.incoming ≠ x.outgoing) : holdsCore x.incoming .live (s.core x.outgoing).phase (changeCores n x s) :=
  rotateCore_holdsCore (updCore_holdsCore (goLive_core _ (by rw [loadCore, updCore_length]; exact hc))) hne.symm

/-- SEAM_DONE (R122 steps 3 and 4, R127). -/
theorem seamDone_changesOver (a : Nat) {n : Nat} {s : State} {x : Seam} (hz : Sized s) (hn : n < 8)
    (hx : (s.input n).seam = some x) (hp : x.passed = true) (hi : x.incoming < 24) (hne : x.incoming ≠ x.outgoing) :
    ∃ t, exec (.seamDone a n) s = .next t ∧ (t.input n).seam = none ∧ (t.input n).seams = (s.input n).seams + 1 ∧
      (t.core x.incoming).st = .live ∧ (t.core x.incoming).phase = (s.core x.outgoing).phase := by
  obtain ⟨u, he, hu⟩ := seamDone_of_passed a hx hp
  have hended : u.input n = Input.endSeam x (s.core x.outgoing).phase (s.input n) :=
    (input_congr (congrArg _ hu) n).trans (changeCores_input x (s := advance a s) (hz.input_lt hn))
  have hlive : holdsCore x.incoming .live (s.core x.outgoing).phase u := by
    rw [holdsCore, core_congr (congrArg _ hu)]
    exact changeCores_incoming (s := advance a s) (hz.core_lt hi) hne
  obtain ⟨hst, hphase⟩ := closePass_holdsCore (n := n) (by decide) (by decide) hlive
  have hinputs : (closePass n u).input n = u.input n := input_congr (closePass_inputs (by rw [hended]; rfl)) n
  refine ⟨_, he, ?_, ?_, hst, hphase⟩
  · rw [hinputs, hended]; rfl
  · rw [hinputs, hended]; rfl

/-- Settles O10, event by event. -/
theorem rotationAndSeams : Obligations.RotationAndSeams :=
  ⟨fun a _ neg first last ex _ hz hn he => overdriveDetected_covered a neg first last ex hz hn he,
    fun a _ _ hz hc hst hstep hl => rotationShadowStart_shadows a hz hc hst hstep hl,
    fun a _ _ hz hc hst hstep hl => rotationTrim_loads a hz hc hst hstep hl,
    fun a _ _ hz hc hst hstep hp => coreReady_readies a hz hc hst hstep hp,
    fun a _ _ _ _ hz hn he hs hr hd hi ho hl hw => seamStart_begins a hz hn he hs hr hd hi ho hl hw,
    fun a _ _ _ _ hz hn he hs hr hi ho hl hw => seamRetry_begins a hz hn he hs hr hi ho hl hw,
    fun a _ l _ _ hz hn hx => seamTest_judges a l hz hn hx,
    fun a _ _ _ hz hn hx hp hi hne => seamDone_changesOver a hz hn hx hp hi hne⟩

end Sys2Proof.Machine

/-! The requests of group 0x03: calibrations and their schedule, quality figures, and the calibration image. -/

namespace Sys2Proof.Machine

-- One proof after another: proofs elaborated side by side each hold a stack of their own, and the whole text then needs
-- more memory than its compile may take.
set_option Elab.async false

/-! ### What the action of a request finds -/

@[simp] theorem behindRecord_cal (c q s) : (behindRecord c q s).cal = s.cal := by simp [behindRecord]

theorem behindRecord_session (c : Cmd) (q : Request) (s : State) (n : Nat) :
    (behindRecord c q s).session n = (served c q s).session n := session_congr (behindRecord_sess c q s) n

/-- Serving a request leaves its session's image buffer. -/
theorem served_image (c : Cmd) {q : Request} {s : State} (h : q.sess < s.sess.length) :
    ((served c q s).session q.sess).image = (s.session q.sess).image := by rw [served_session h]

/-- Where the action changes what a session holds, and then replies, that reply stands in the session. -/
theorem runRequest_updates_answers {c : Cmd} {q : Request} {s : State} {f : Session → Session} {n st : Nat} {p : List Byte}
    (h : accepts c q s = true) (hc : c.classC = true) (hz : s.sess.length = 32)
    (hv : c.act (acceptedWaiter c q s) q (behindRecord c q s) =
      reply (acceptedWaiter c q s) st p (updSession n f (behindRecord c q s)))
    (hst : ∀ x, (f x).st = x.st := by intro; rfl) (hgen : ∀ x, (f x).gen = x.gen := by intro; rfl) :
    answers c q st p (runRequest c q s) := by
  have hl : q.sess < s.sess.length := hz ▸ accepts_sess h
  refine answers_congr (runRequest_acts h hc).1 ?_
  rw [hv]
  refine reply_answers rfl rfl rfl rfl ?_ ?_ ?_
  · rwa [updSession_length, behindRecord_sess, served_sess_length]
  · rw [updSession_keeps_field Session.st _ _ _ hst, behindRecord_session, served_session hl]
  · rw [updSession_keeps_field Session.gen _ _ _ hgen, behindRecord_session, served_session hl]; rfl

theorem deliver_image (w : Waiter) (st : Nat) (p : List Byte) (s : State) (n : Nat) :
    ((deliver w st p s).session n).image = (s.session n).image := by
  unfold deliver; extract_lets x bytes s1 s2 s3
  have h2 : (s2.session n).image = (s.session n).image := updSession_keeps_field Session.image w.sess n s1
  have h3 : (s3.session n).image = (s.session n).image := by rw [session_congr (setIrq_sess ..), h2]
  split
  · split
    · rw [session_congr (sendMsix_sess ..), h3]
    · exact h3
  · split
    · exact h2
    · exact h2

/-- A reply leaves the image buffers. -/
theorem reply_image {w : Waiter} (hi : w.inner = none) (st : Nat) (p : List Byte) (s : State) (n : Nat) :
    ((reply w st p s).session n).image = (s.session n).image := by
  simp only [reply, protectedDone, hi]
  split
  · exact deliver_image ..
  · rfl

/-- Where the action changes its session's buffer, and then replies, the session holds the changed buffer. -/
theorem runRequest_updates_image {c : Cmd} {q : Request} {s : State} {f : Session → Session} {st : Nat} {p : List Byte}
    (h : accepts c q s = true) (hc : c.classC = true) (hz : s.sess.length = 32)
    (hv : c.act (acceptedWaiter c q s) q (behindRecord c q s) =
      reply (acceptedWaiter c q s) st p (updSession q.sess f (behindRecord c q s))) :
    ((runRequest c q s).session q.sess).image = (f ((served c q s).session q.sess)).image := by
  have hl : q.sess < (behindRecord c q s).sess.length := by
    rw [behindRecord_sess, served_sess_length, hz]
    exact accepts_sess h
  rw [session_congr (runRequest_acts h hc).1, hv, reply_image rfl, session_updSession_self _ _ _ hl, behindRecord_session]

/-! ### CAL_RUN_FOREGROUND -/

@[simp] theorem nextRoutine_cal (s : State) : (nextRoutine s).cal = s.cal := by
  unfold nextRoutine; split
  · rfl
  · split
    · unfold startSequence; extract_lets; split <;> rfl
    · rfl

/-- The converter's choice of its next conversion leaves the calibrations. -/
@[simp] theorem auxNext_cal (s : State) : (auxNext s).cal = s.cal := by
  unfold auxNext; split
  · rfl
  · split
    · rfl
    · split
      · rfl
      · split
        · rfl
        · exact nextRoutine_cal s

/-- An interruption that begins is that of a calibration under way. -/
theorem beginCommanded_underWay (f : Foreground) (s : State) :
    ∃ g ∈ (beginCommanded f s).cal.foregrounds, g.kind = f.kind ∧ g.inputs = f.inputs := by
  have cal : (beginCommanded f s).cal = (startForeground { f with deferred := false } s).cal :=
    (record_cal ..).trans (auxNext_cal _)
  rw [cal]
  exact startForeground_underWay ..

/-- CAL_RUN_FOREGROUND: the calibration waits for an injected conversion, or begins (R141, R142). -/
theorem calRunForeground_starts {q : Request} {s : State} (h : accepts calRunForegroundCmd q s = true) :
    ∃ t, exec (.calRunForeground q) s = .next t ∧ ∃ f ∈ t.cal.foregrounds, f.kind = .commanded ∧ f.inputs = [q.u8 0] := by
  obtain ⟨-, -, hcal⟩ := runRequest_acts h rfl
  refine ⟨_, rfl, ?_⟩
  rw [hcal]
  by_cases waits : (behindRecord calRunForegroundCmd q s).aux.inject.isSome = true
  · rw [show calRunForegroundCmd.act _ q (behindRecord calRunForegroundCmd q s) = _ from if_pos waits]
    exact ⟨_, List.mem_append_right _ (List.mem_singleton_self _), rfl, rfl⟩
  · rw [show calRunForegroundCmd.act _ q (behindRecord calRunForegroundCmd q s) = _ from if_neg waits]
    exact beginCommanded_underWay ..

/-! ### CAL_SET_SCHEDULE, CAL_GET_QUALITY -/

/-- CAL_SET_SCHEDULE takes its settings, and every input's path follows the mode (R144, R155). -/
theorem calSetSchedule_sets {q : Request} {s : State} (hz : Sized s) (h : accepts calSetScheduleCmd q s = true) :
    ∃ t, exec (.calSetSchedule q) s = .next t ∧ answers calSetScheduleCmd q OK [] t ∧ t.cal.continuous = decide (q.u8 0 = 1) ∧
      t.cal.threshold = q.u16 2 ∧ t.cal.maxInterval = q.u32 4 ∧
      t.cal.inputs = s.cal.inputs.map fun x => { x with continuous := decide (q.u8 0 = 1) } := by
  obtain ⟨hsess, -⟩ := hz
  obtain ⟨-, -, hcal⟩ := runRequest_acts h rfl
  have set : (runRequest calSetScheduleCmd q s).cal = { s.cal with
      continuous := decide (q.u8 0 = 1), threshold := q.u16 2, maxInterval := q.u32 4
      inputs := s.cal.inputs.map fun x => { x with continuous := decide (q.u8 0 = 1) } } := by
    rw [hcal, ← behindRecord_cal calSetScheduleCmd q s]
    exact reply_cal ..
  refine ⟨_, rfl, runRequest_answers h hsess fun w u => ⟨_, rfl, rfl⟩, ?_⟩
  rw [set]
  exact ⟨rfl, rfl, rfl, rfl⟩

/-- CAL_GET_QUALITY answers from the state that it finds (R154, R155). -/
theorem calGetQuality_reads {q : Request} {s : State} (hz : Sized s) (h : accepts calGetQualityCmd q s = true) :
    ∃ t, exec (.calGetQuality q) s = .next t ∧
      answers calGetQualityCmd q OK (qualityPayload (served calGetQualityCmd q s) q) t := by
  obtain ⟨hsess, -⟩ := hz
  exact ⟨_, rfl, runRequest_reads (fun u => qualityPayload u q) h hsess rfl fun w u => ⟨_, rfl, rfl, rfl, rfl⟩⟩

/-! ### The calibration image -/

theorem inCal_congr {s t : State} (h : t.cal.inputs = s.cal.inputs) (n : Nat) : t.inCal n = s.inCal n := by
  simp only [State.inCal, h]

theorem calPath_congr {s t : State} (hi : t.inp.inputs = s.inp.inputs) (hc : t.cal.inputs = s.cal.inputs) (n : Nat) :
    t.calPath n = s.calPath n := by
  unfold State.calPath
  rw [input_congr hi, inCal_congr hc]

/-- The image is one of the inputs, the calibration values, the tables, the core rate, the time and the firmware alone (R159). -/
theorem imageBytes_congr {s t : State} (hinp : t.inp = s.inp) (hcal : t.cal = s.cal) (hedge : t.edge = s.edge)
    (hclk : t.clk = s.clk) (htime : t.time = s.time) (hfw : t.boot.control = s.boot.control) : imageBytes t = imageBytes s := by
  have path (n : Nat) : t.calPath n = s.calPath n := calPath_congr (congrArg _ hinp) (congrArg _ hcal) n
  simp only [imageBytes, path, State.fwMinor, State.imageDigest, State.now, State.inCal, hinp, hcal, hedge, hclk, htime, hfw]

/-- The record of a request leaves the image of the present values. -/
theorem behindRecord_image (c : Cmd) (q : Request) (s : State) : imageBytes (behindRecord c q s) = imageBytes (served c q s) :=
  imageBytes_congr (by simp [behindRecord]) (by simp [behindRecord]) (by simp [behindRecord]) (by simp [behindRecord])
    (by simp [behindRecord]) (by simp [behindRecord])

/-- CAL_SAVE_IMAGE (R158, R159). -/
theorem calSaveImage_saves {q : Request} {s : State} (hz : Sized s) (h : accepts calSaveImageCmd q s = true) :
    ∃ t, exec (.calSaveImage q) s = .next t ∧
      answers calSaveImageCmd q OK (u32 11744 ++ zeros 4 ++ (imageBytes (served calSaveImageCmd q s)).drop 11712) t ∧
      (t.session q.sess).image = imageBytes (served calSaveImageCmd q s) := by
  obtain ⟨hsess, -⟩ := hz
  rw [← behindRecord_image]
  have hact : calSaveImageCmd.act (acceptedWaiter calSaveImageCmd q s) q (behindRecord calSaveImageCmd q s) =
    reply (acceptedWaiter calSaveImageCmd q s) OK
      (u32 11744 ++ zeros 4 ++ (imageBytes (behindRecord calSaveImageCmd q s)).drop 11712)
      (updSession q.sess (fun x => { x with image := imageBytes (behindRecord calSaveImageCmd q s) })
        (behindRecord calSaveImageCmd q s)) := rfl
  exact ⟨_, rfl, runRequest_updates_answers h rfl hsess hact, runRequest_updates_image h rfl hsess hact⟩

/-- CAL_READ_IMAGE (R158). -/
theorem calReadImage_reads {q : Request} {s : State} (hz : Sized s) (h : accepts calReadImageCmd q s = true) :
    ∃ t, exec (.calReadImage q) s = .next t ∧
      answers calReadImageCmd q OK (slice (s.session q.sess).image (q.u16 0) (q.u16 2)) t := by
  obtain ⟨hsess, -⟩ := hz
  rw [← served_image calReadImageCmd (hsess ▸ accepts_sess h)]
  exact ⟨_, rfl, runRequest_reads (fun u => slice (u.session q.sess).image (q.u16 0) (q.u16 2)) h hsess rfl fun w u =>
    ⟨_, rfl, rfl, rfl, rfl⟩⟩

/-- CAL_WRITE_IMAGE (R160). -/
theorem calWriteImage_writes {q : Request} {s : State} (hz : Sized s) (h : accepts calWriteImageCmd q s = true) :
    ∃ t, exec (.calWriteImage q) s = .next t ∧ answers calWriteImageCmd q OK [] t ∧
      (t.session q.sess).image = overlay (s.session q.sess).image (q.u16 0) (q.bytes 8 (q.u16 2)) := by
  obtain ⟨hsess, -⟩ := hz
  have hact : calWriteImageCmd.act (acceptedWaiter calWriteImageCmd q s) q (behindRecord calWriteImageCmd q s) =
    reply (acceptedWaiter calWriteImageCmd q s) OK []
      (updSession q.sess (fun x => { x with image := overlay x.image (q.u16 0) (q.bytes 8 (q.u16 2)) })
        (behindRecord calWriteImageCmd q s)) := rfl
  rw [← served_image calWriteImageCmd (hsess ▸ accepts_sess h)]
  exact ⟨_, rfl, runRequest_updates_answers h rfl hsess hact, runRequest_updates_image h rfl hsess hact⟩

theorem enabledInputs_congr {s t : State} (h : t.inp = s.inp) : t.enabledInputs = s.enabledInputs := by
  have same : t.enabled = s.enabled := by
    funext n
    simp only [State.enabled, State.input, State.ganged, State.paired, h]
  simp only [State.enabledInputs, same]

theorem startForeground_restoring (f : Foreground) (s : State) : (startForeground f s).cal.restoring = s.cal.restoring :=
  forAll_same (·.cal.restoring) f.inputs s fun n t => by split <;> rfl

/-- CAL_RESTORE_IMAGE (R161, R162). -/
theorem calRestoreImage_starts {q : Request} {s : State} (hz : Sized s) (h : accepts calRestoreImageCmd q s = true) :
    ∃ t, exec (.calRestoreImage q) s = .next t ∧ t.cal.restoring = toLen 11744 (s.session q.sess).image ∧
      ∃ f ∈ t.cal.foregrounds, f.kind = .restore ∧ f.inputs = s.enabledInputs := by
  obtain ⟨hsess, -⟩ := hz
  obtain ⟨-, -, hcal⟩ := runRequest_acts h rfl
  have image : ((behindRecord calRestoreImageCmd q s).session q.sess).image = (s.session q.sess).image := by
    rw [behindRecord_session, served_image _ (hsess ▸ accepts_sess h)]
  refine ⟨_, rfl, ?_⟩
  rw [hcal, ← image, ← enabledInputs_congr (behindRecord_inp calRestoreImageCmd q s)]
  exact ⟨startForeground_restoring .., startForeground_underWay ..⟩

/-- Settles O8: each request, by what its action leads to on the state behind its record. -/
theorem calibrationRequests : Obligations.CalibrationRequests :=
  ⟨fun _ _ _ h => calRunForeground_starts h, fun _ _ hz h => calSetSchedule_sets hz h, fun _ _ hz h => calGetQuality_reads hz h,
    fun _ _ hz h => calSaveImage_saves hz h, fun _ _ hz h => calReadImage_reads hz h, fun _ _ hz h => calWriteImage_writes hz h,
    fun _ _ hz h => calRestoreImage_starts hz h⟩

end Sys2Proof.Machine

/-! The events of calibration: the start-up sequence, foreground calibrations that end, and the schedule of the passes. -/

namespace Sys2Proof.Machine

-- One proof after another: proofs elaborated side by side each hold a stack of their own, and the whole text then needs
-- more memory than its compile may take.
set_option Elab.async false

/-! ### What corrections of cores leave as it is -/

/-- What every turn leaves as it is, all of them leave as it is. -/
theorem forEach_same {β : Type} (p : State → β) {f : Nat → State → State} (n : Nat) (s : State)
    (h : ∀ i t, p (f i t) = p t := by intros; rfl) : p (forEach n f s) = p s :=
  foldl_same p (fun t i => h i t) _ s

/-- The calibrations and whether the converters run: measurements on cores and corrections that come into force leave them as
they are. -/
def State.besideCores (s : State) : CalState × Bool := (s.cal, s.inp.running)

theorem cal_of_besideCores {s t : State} (h : t.besideCores = s.besideCores) : t.cal = s.cal := congrArg (·.1) h
theorem running_of_besideCores {s t : State} (h : t.besideCores = s.besideCores) : t.inp.running = s.inp.running :=
  congrArg (·.2) h

theorem record_besideCores (type : Nat) (fs : List RecField) (s : State) : (record type fs s).besideCores = s.besideCores := by
  simp [State.besideCores]

theorem faultCore_besideCores (c k : Nat) (s : State) : (faultCore c k s).besideCores = s.besideCores := by
  unfold faultCore
  rw [record_besideCores]
  simp [State.besideCores, updCore]

theorem trimCore_besideCores (t : CoreTrim) (s : State) : (trimCore t s).besideCores = s.besideCores := by
  have spares : (forAll t.failing (spareSlice t.core) s).besideCores = s.besideCores :=
    forAll_same State.besideCores _ _ fun i u => record_besideCores ..
  unfold trimCore; extract_lets x u
  split
  · rfl
  · split
    · exact faultCore_besideCores ..
    · split
      · exact (faultCore_besideCores ..).trans spares
      · exact spares

theorem removeInput_besideCores (n tick : Nat) (s : State) : (removeInput n tick s).besideCores = s.besideCores :=
  forEach_same State.besideCores _ _ fun g t => by
    dsimp only
    split
    · split <;> rfl
    · rfl

theorem forceInput_besideCores (n tick : Nat) (s : State) : (forceInput n tick s).besideCores = s.besideCores := by
  obtain ⟨x, h⟩ := forceInput_sameButTrg n tick s
  rw [h]
  rfl

theorem updSince_besideCores (f : SinceRead → SinceRead) (s : State) : (updSince f s).besideCores = s.besideCores := rfl

theorem stopInput_besideCores (n cause frame : Nat) (s : State) : (stopInput n cause frame s).besideCores = s.besideCores := by
  unfold stopInput
  rw [updSince_besideCores, removeInput_besideCores, forceInput_besideCores]
  rfl

theorem staffInput_besideCores (n : Nat) (s : State) : (staffInput n s).besideCores = s.besideCores := by
  unfold staffInput
  split
  · exact forAll_same State.besideCores ..
  · extract_lets good p u l v w
    split
    · exact stopInput_besideCores ..
    · rw [forAll_same State.besideCores]
      exact forEach_same State.besideCores _ _ fun i t => by
        dsimp only
        split <;> rfl

theorem applyTrims_besideCores (l : List Nat) (trims : List CoreTrim) (s : State) :
    (applyTrims l trims s).besideCores = s.besideCores := by
  unfold applyTrims; extract_lets cores u v
  calc (forAll l staffInput v).besideCores
    _ = v.besideCores := forAll_same State.besideCores _ _ staffInput_besideCores
    _ = u.besideCores := forAll_same State.besideCores ..
    _ = s.besideCores := forAll_same State.besideCores _ _ trimCore_besideCores

theorem applyTrims_cal (l : List Nat) (trims : List CoreTrim) (s : State) : (applyTrims l trims s).cal = s.cal :=
  cal_of_besideCores (applyTrims_besideCores l trims s)

/-! ### Passes -/

/-- A figure of the inputs' calibrations that an update keeps is as before. -/
theorem updInCal_keeps_field {β : Type} (p : InputCal → β) {f : InputCal → InputCal} (n m : Nat) (s : State)
    (h : ∀ x, p (f x) = p x := by intro; rfl) : p ((updInCal n f s).inCal m) = p (s.inCal m) := by
  rw [inCal_updInCal]; split
  · exact h _
  · rfl

/-- An input's calibration as a pass starts (R146). -/
def InputCal.begin (ps : Nat) (settling : Bool) (x : InputCal) : InputCal :=
  { x with pass := some { start := ps, settling := settling }, lastStart := ps, tRef := x.temperature }

/-- Of the calibrations, a pass that starts changes its input's alone; the converters keep running. -/
theorem startPass_cal (n : Nat) (settling : Bool) (s : State) :
    (startPass n settling s).cal = (updInCal n (InputCal.begin s.time.ps settling) s).cal ∧
      (startPass n settling s).inp.running = s.inp.running := by
  unfold startPass; extract_lets u v
  have hu : u.cal = s.cal ∧ u.time = s.time ∧ u.inp.running = s.inp.running := by
    unfold u; split <;> exact ⟨rfl, rfl, rfl⟩
  obtain ⟨hcal, htime, hrun⟩ := hu
  have hv : v.cal = (updInCal n (InputCal.begin s.time.ps settling) s).cal := by
    simp only [v, updInCal, hcal, htime]
    rfl
  constructor
  · rw [forAll_same State.cal _ v fun c t => by split <;> rfl, hv]
  · rw [forAll_same (·.inp.running) _ v fun c t => by split <;> rfl]
    exact hrun

theorem startPass_inCal (n m : Nat) (settling : Bool) (s : State) :
    (startPass n settling s).inCal m = (updInCal n (InputCal.begin s.time.ps settling) s).inCal m :=
  inCal_congr (congrArg _ (startPass_cal n settling s).1) m

/-- What the module as a whole holds of its calibrations: the generation, the start-up calibration, and whether the converters
run. -/
def State.calSummary (s : State) : Nat × Nat × Bool × Bool := (s.cal.generation, s.cal.startup, s.cal.done, s.inp.running)

theorem startPass_calSummary (n : Nat) (settling : Bool) (s : State) : (startPass n settling s).calSummary = s.calSummary := by
  obtain ⟨hcal, hrun⟩ := startPass_cal n settling s
  simp only [State.calSummary, hcal, hrun]
  rfl

theorem startSettling_calSummary (n : Nat) (s : State) : (startSettling n s).calSummary = s.calSummary := by
  unfold startSettling
  split
  · rfl
  · extract_lets u
    have replaced : (replacePass n u).calSummary = u.calSummary := by unfold replacePass; split <;> rfl
    rw [startPass_calSummary, replaced]
    exact forAll_same State.calSummary ..

theorem settleAll_calSummary (s : State) : (settleAll s).calSummary = s.calSummary :=
  forEach_same State.calSummary _ _ startSettling_calSummary

/-! ### The start-up calibration -/

/-- CAL_STARTUP_STEP (R139, R140). -/
theorem calStartupStep_begins (a : Nat) {n : Nat} (trims : List CoreTrim) {s : State} (hr : s.cal.startup ≠ 0)
    (hn : n = s.cal.startup + 1) (h5 : n ≤ 5) (hl : n ≤ 4 → s.sampleLocked = true) :
    ∃ t, exec (.calStartupStep a n trims) s = .next t ∧ t.cal.startup = n := by
  have due : ¬ ((advance a s).cal.startup = 0 ∨ n ≠ (advance a s).cal.startup + 1 ∨ 5 < n ∨
      (n ≤ 4 ∧ ¬ (advance a s).sampleLocked = true)) := by
    rw [advance_sampleLocked, advance_cal]
    rintro (h | h | h | ⟨h4, h⟩)
    · exact hr h
    · exact h hn
    · omega
    · exact h (hl h4)
  exact ⟨_, congrArg Host.Outcome.next (if_neg due), rfl⟩

/-- Once the corrections of the start-up calibration are in force, the generation is 1 and the converters run (R139 step 6). -/
theorem finishStartup_calSummary (tables : List (List Int)) (s : State) : (finishStartup tables s).calSummary = (1, 0, true, true) := by
  unfold finishStartup
  extract_lets u v inp w faulty spared cal x y z
  have hw : w.inp.running = true :=
    (running_of_besideCores (t := w) (forEach_same State.besideCores 8 _ staffInput_besideCores)).trans rfl
  have hz : z.calSummary = (1, 0, true, true) := by
    simp only [z, y, x, State.calSummary, record_cal, record_inp, releaseAlerts_cal, releaseAlerts_inp, hw]
  clear_value z
  split
  · exact (settleAll_calSummary _).trans hz
  · exact hz

/-- Idle is reached with the calibrations and the converters as they are. -/
theorem reachIdle_reaches (i : Nat) (s : State) :
    (reachIdle i s).boot.st = 4 ∧ (reachIdle i s).cal = s.cal ∧ (reachIdle i s).inp = s.inp := by
  have vcore : (startVcore s).cal = s.cal ∧ (startVcore s).inp = s.inp := by
    unfold startVcore; extract_lets pwr u
    split
    · exact ⟨commandVcore_cal .., commandVcore_inp ..⟩
    · exact ⟨rfl, rfl⟩
  unfold reachIdle endBootState
  simp only [record_boot_st, record_cal, record_inp, setBootState_boot_st, setBootState_cal, setBootState_inp, vcore, and_self]

/-- CAL_STARTUP_DONE (R139). -/
theorem calStartupDone_reachesIdle (e : StartupEnd) {s : State} (hb : s.boot.st = 3) (hs : s.cal.startup = 5)
    (hl : s.sampleLocked = true) (ha : s.awake = true) :
    ∃ t, exec (.calStartupDone e) s = .next t ∧ t.boot.st = 4 ∧ t.cal.generation = 1 ∧ t.cal.done = true ∧
      t.cal.startup = 0 ∧ t.inp.running = true := by
  have due : ¬ ((advance e.at_ s).boot.st ≠ 3 ∨ (advance e.at_ s).cal.startup ≠ 5 ∨ ¬ (advance e.at_ s).sampleLocked = true ∨
      ¬ (advance e.at_ s).awake = true) := by
    have awake : (advance e.at_ s).awake = true := ha
    simp [hb, hs, hl, awake]
  refine ⟨_, congrArg Host.Outcome.next (if_neg due), ?_⟩
  extract_lets u lifted
  have finished : u.calSummary = (1, 0, true, true) := finishStartup_calSummary e.tables (advance e.at_ s)
  clear_value lifted u
  simp only [State.calSummary, Prod.mk.injEq] at finished
  obtain ⟨hgen, hstart, hdone, hrun⟩ := finished
  obtain ⟨hst, hcal, hinp⟩ := reachIdle_reaches 3 { u with trg := { u.trg with lifted := lifted } }
  rw [hst, hcal, hinp]
  exact ⟨rfl, hgen, hdone, hstart, hrun⟩

/-! ### Foreground calibrations that end -/

/-- The module once the foreground calibration `f` is no longer under way. -/
def State.without (s : State) (f : Foreground) : State :=
  { s with cal := { s.cal with foregrounds := s.cal.foregrounds.erase f } }

theorem takeForeground_found {k : ForegroundKind} {f : Foreground} {s : State}
    (h : s.cal.foregrounds.find? (fun f => f.kind = k ∧ ¬ f.deferred) = some f) :
    takeForeground k s = some (f, s.without f) := by
  unfold takeForeground
  rw [h]
  rfl

theorem bumpGeneration_generation (s : State) : (bumpGeneration s).cal.generation = nextGeneration s.cal.generation := rfl
theorem bumpGeneration_foregrounds (s : State) : (bumpGeneration s).cal.foregrounds = s.cal.foregrounds := rfl

/-- CAL_FOREGROUND_DONE (R143, R153). -/
theorem calForegroundDone_ends (a : Nat) (trims : List CoreTrim) {s : State} {f : Foreground}
    (h : s.cal.foregrounds.find? (fun f => f.kind = .commanded ∧ ¬ f.deferred) = some f) :
    ∃ t, exec (.calForegroundDone a trims) s = .next t ∧ t.cal.generation = nextGeneration s.cal.generation ∧
      t.cal.foregrounds = s.cal.foregrounds.erase f := by
  simp only [exec, execCalForegroundDone, takeForeground_found (s := advance a s) h]
  refine ⟨_, rfl, ?_⟩
  rw [replyOpt_cal, record_cal, bumpGeneration_generation, bumpGeneration_foregrounds, applyTrims_cal]
  exact ⟨rfl, rfl⟩

theorem replyOpt_boot_subsystem (w : Option Waiter) (n : Nat) (b : List Byte) (s : State) :
    (replyOpt w n b s).boot.subsystem = s.boot.subsystem := by
  cases w with
  | none => rfl
  | some w => exact reply_boot_subsystem ..

theorem endSubsystem_cal (f : Foreground) (s : State) : (endSubsystem f s).cal = s.cal := by
  unfold endSubsystem; split <;> rfl

theorem endSubsystem_of_asked {f : Foreground} (h : f.subsystem = true) (s : State) : (endSubsystem f s).boot.subsystem = none := by
  unfold endSubsystem
  rw [if_pos h]

/-- INPUT_CALIBRATION_DONE (R119, R539). -/
theorem inputCalibrationDone_ends (a : Nat) (trims : List CoreTrim) {s : State} {f : Foreground}
    (h : s.cal.foregrounds.find? (fun f => f.kind = .enable ∧ ¬ f.deferred) = some f) :
    ∃ t, exec (.inputCalibrationDone a trims) s = .next t ∧ t.cal.foregrounds = s.cal.foregrounds.erase f ∧
      (f.subsystem = true → t.boot.subsystem = none) := by
  simp only [exec, execInputCalibrationDone, takeForeground_found (s := advance a s) h]
  refine ⟨_, rfl, ?_, fun hs => ?_⟩
  · rw [replyOpt_cal, endSubsystem_cal, applyTrims_cal]
    rfl
  · rw [replyOpt_boot_subsystem, endSubsystem_of_asked hs]

/-- What a restore of cores, inputs and tables leaves of the calibrations: the generation and what is under way. -/
def State.underWay (s : State) : Nat × List Foreground := (s.cal.generation, s.cal.foregrounds)

theorem restoreValues_underWay (m : List Byte) (s : State) :
    (forEach 18 (restoreTable m) (forEach 8 (restoreInput m) (forEach 24 (restoreCore m) s))).underWay = s.underWay := by
  rw [forEach_same State.underWay, forEach_same State.underWay, forEach_same State.underWay]

/-- With the alignment of an image in force, the generation rises (R153, R162). -/
theorem bumpGeneration_restoreAlignment {m : List Byte} {s t : State} (h : t.underWay = s.underWay) :
    (bumpGeneration (restoreAlignment m t)).cal.generation = nextGeneration s.cal.generation ∧
      (bumpGeneration (restoreAlignment m t)).cal.foregrounds = s.cal.foregrounds ∧
      (bumpGeneration (restoreAlignment m t)).cal.alignment = (List.range 8).map fun n => fieldInt m (0x950 + 8 * n) 4 := by
  simp only [State.underWay, Prod.mk.injEq] at h
  obtain ⟨hgen, hfore⟩ := h
  exact ⟨congrArg nextGeneration hgen, hfore, rfl⟩

/-- CAL_RESTORED (R153, R162). -/
theorem calRestored_ends (a : Nat) {s : State} {f : Foreground}
    (h : s.cal.foregrounds.find? (fun f => f.kind = .restore ∧ ¬ f.deferred) = some f) :
    ∃ t, exec (.calRestored a) s = .next t ∧ t.cal.generation = nextGeneration s.cal.generation ∧
      t.cal.foregrounds = s.cal.foregrounds.erase f ∧
      t.cal.alignment = (List.range 8).map fun n => fieldInt s.cal.restoring (0x950 + 8 * n) 4 := by
  simp only [exec, execCalRestored, takeForeground_found (s := advance a s) h]
  refine ⟨_, rfl, ?_⟩
  rw [replyOpt_cal, record_cal]
  exact bumpGeneration_restoreAlignment (s := (advance a s).without f) (restoreValues_underWay ..)

/-! ### The schedule -/

/-- Where no pass runs on the background path, a condition of R145 starts one. -/
theorem passDue_starts {n : Nat} {s : State} (hp : s.calPath n = 0) (he : s.enabled n = true) (hr : s.inp.running = true)
    (hn : (s.inCal n).pass = none) : passDue n s = startPass n false s := by
  unfold passDue
  rw [if_neg (by simp [hp, he, hr]), hn]

theorem passDue_readings (n : Nat) (s : State) : ((passDue n s).inCal n).readings = (s.inCal n).readings := by
  unfold passDue
  split
  · rfl
  · split
    · exact updInCal_keeps_field InputCal.readings ..
    · rw [startPass_inCal]
      exact updInCal_keeps_field InputCal.readings ..

theorem sensorFault_readings (n : Nat) (s : State) : ((sensorFault n s).inCal n).readings = (s.inCal n).readings := by
  unfold sensorFault
  split
  · rfl
  · rw [inCal_congr (congrArg _ ((record_cal ..).trans (assertAlert_cal ..)))]
    exact updInCal_keeps_field InputCal.readings ..

theorem checkQuality_cal (n : Nat) (temp : Int) (s : State) : (checkQuality n temp s).cal = s.cal :=
  forAll_same State.cal _ _ fun c t => by
    dsimp only
    split
    · exact record_cal ..
    · rfl

theorem Sized.inCal_lt {s : State} (h : Sized s) {n : Nat} (hn : n < 8) : n < s.cal.inputs.length := by
  obtain ⟨-, -, -, -, -, -, hc, -⟩ := h
  exact hc ▸ hn

/-- TEMPERATURE_READING (R145, R148). -/
theorem temperatureReading_joins (a : Nat) {n : Nat} (temp : Int) {s : State} (hz : Sized s) (hn : n < 8) :
    ∃ t, exec (.temperatureReading a n temp) s = .next t ∧
      (t.inCal n).readings = (temp :: (s.inCal n).readings).take 100 := by
  refine ⟨_, congrArg Host.Outcome.next (if_neg (by omega)), ?_⟩
  extract_lets bad u v w x
  have hu : (u.inCal n).readings = (temp :: (s.inCal n).readings).take 100 := by
    rw [inCal_updInCal_self n _ (advance a s) (hz.inCal_lt hn)]
    rfl
  have hv : (v.inCal n).readings = (u.inCal n).readings := by
    unfold v; split
    · exact sensorFault_readings n u
    · rfl
  have hw : (w.inCal n).readings = (v.inCal n).readings := by rw [inCal_congr (congrArg _ (checkQuality_cal ..))]
  have all : (w.inCal n).readings = (temp :: (s.inCal n).readings).take 100 := hw.trans (hv.trans hu)
  split
  · exact (passDue_readings n w).trans all
  · exact all

/-- CAL_MAX_INTERVAL (R145). -/
theorem calMaxInterval_starts (a : Nat) {n : Nat} {s : State} (hz : Sized s) (hn : n < 8)
    (hi : (s.inCal n).lastStart + s.cal.maxInterval * psPerS ≤ max s.time.ps a) (hp : s.calPath n = 0)
    (he : s.enabled n = true) (hr : s.inp.running = true) (hnone : (s.inCal n).pass = none) :
    ∃ t, exec (.calMaxInterval a n) s = .next t ∧ (t.inCal n).pass.isSome = true ∧ (t.inCal n).lastStart = max s.time.ps a := by
  refine ⟨_, congrArg Host.Outcome.next (if_pos ⟨hn, hi⟩), ?_⟩
  rw [passDue_starts (s := advance a s) hp he hr hnone, startPass_inCal,
    inCal_updInCal_self n _ (advance a s) (hz.inCal_lt hn)]
  exact ⟨rfl, rfl⟩

/-- Settles O9, event by event. -/
theorem calibrationEvents : Obligations.CalibrationEvents :=
  ⟨fun a _ trims _ hr hn h5 hl => calStartupStep_begins a trims hr hn h5 hl,
    fun e _ _ hb hs hl ha => calStartupDone_reachesIdle e hb hs hl ha,
    fun a trims _ _ h => calForegroundDone_ends a trims h,
    fun a trims _ _ h => inputCalibrationDone_ends a trims h,
    fun a _ _ h => calRestored_ends a h,
    fun a _ temp _ hz hn => temperatureReading_joins a temp hz hn,
    fun a _ _ hz hn hi hp he hr hnone => calMaxInterval_starts a hz hn hi hp he hr hnone⟩

end Sys2Proof.Machine

/-! The requests of group 0x04: the chain's settings, its start and stop, synchronising resets, and the status. -/

namespace Sys2Proof.Machine

-- One proof after another: proofs elaborated side by side each hold a stack of their own, and the whole text then needs
-- more memory than its compile may take.
set_option Elab.async false

/-! ### What the action of a request finds, and what it leaves -/

@[simp] theorem behindRecord_flt (c q s) : (behindRecord c q s).flt = s.flt := by simp [behindRecord]
@[simp] theorem behindRecord_time (c q s) : (behindRecord c q s).time = (served c q s).time := by simp [behindRecord]

theorem fin_congr {s t : State} (h : t.flt.inputs = s.flt.inputs) (n : Nat) : t.fin n = s.fin n := by
  simp only [State.fin, h]

theorem enabled_congr {s t : State} (h : t.inp = s.inp) (n : Nat) : t.enabled n = s.enabled n := by
  simp only [State.enabled, State.input, State.ganged, State.paired, h]

theorem nextBoundary_congr {s t : State} (h : t.time = s.time) : t.nextBoundary = s.nextBoundary := by
  simp only [State.nextBoundary, h]

theorem behindRecord_fin (c q s) (n : Nat) : (behindRecord c q s).fin n = s.fin n :=
  fin_congr (congrArg _ (behindRecord_flt c q s)) n
theorem behindRecord_enabled (c q s) (n : Nat) : (behindRecord c q s).enabled n = s.enabled n :=
  enabled_congr (behindRecord_inp c q s) n
theorem behindRecord_nextBoundary (c q s) : (behindRecord c q s).nextBoundary = (served c q s).nextBoundary :=
  nextBoundary_congr (behindRecord_time c q s)

/-- What follows the action of an accepted class C command leaves the chain and the lanes. -/
theorem runRequest_acts_flt {c : Cmd} {q : Request} {s : State} (h : accepts c q s = true) (hc : c.classC = true) :
    (runRequest c q s).flt = (c.act (acceptedWaiter c q s) q (behindRecord c q s)).flt := by
  rw [runRequest_accepts h, acceptRequest_classC hc]
  simp only [noteSnapshots_flt, noteScope_flt]
  rfl

/-- Where the action ends with a reply, the chain and the lanes are as before that reply. -/
theorem runRequest_replies_flt {c : Cmd} {q : Request} {s v : State} {st : Nat} {p : List Byte} (h : accepts c q s = true)
    (hc : c.classC = true)
    (hv : c.act (acceptedWaiter c q s) q (behindRecord c q s) = reply (acceptedWaiter c q s) st p v) :
    (runRequest c q s).flt = v.flt := by
  rw [runRequest_acts_flt h hc, hv, reply_flt]

/-! ### Synchronising resets -/

/-- What the lanes of a list of inputs take, each by its number. -/
theorem fin_forAll_updFin (F : Nat → FilterInput → FilterInput) {l : List Nat} (hl : l.Nodup) (s : State) (n : Nat) :
    (forAll l (fun m => updFin m (F m)) s).fin n =
      if n ∈ l ∧ n < s.flt.inputs.length then F n (s.fin n) else s.fin n := by
  induction l generalizing s with
  | nil => simp [forAll]
  | cons a l ih =>
    obtain ⟨ha, hl⟩ := List.nodup_cons.mp hl
    change (forAll l (fun m => updFin m (F m)) (updFin a (F a) s)).fin n = _
    rw [ih hl, updFin_length, fin_updFin]
    by_cases e : a = n
    · subst e
      simp [ha]
    · simp [e, Ne.symm e]

/-- The lanes of the inputs of a reset expect it, and no others (R182). -/
theorem syncInputs_fin {l : List Nat} (hl : l.Nodup) (cause tick t0 : Nat) (s : State) (n : Nat) :
    (syncInputs l cause tick t0 s).fin n = if n ∈ l ∧ n < s.flt.inputs.length then
      FilterInput.expect (s.enabled n) tick t0 (decide (cause = 0)) (s.fin n) else s.fin n := by
  rw [← fin_forAll_updFin (fun m => FilterInput.expect (s.enabled m) tick t0 (decide (cause = 0))) hl]
  unfold syncInputs
  exact fin_congr (congrArg _ ((record_flt ..).trans (forAll_same State.flt ..))) n

/-- A figure of the chain is as before a reset of lanes. -/
theorem syncInputs_keeps_chain {β : Type} (p : FilterState → β) (l : List Nat) (cause tick t0 : Nat) (s : State)
    (h : ∀ x ins, p { x with inputs := ins } = p x := by intros; rfl) :
    p (syncInputs l cause tick t0 s).flt = p s.flt := by
  unfold syncInputs
  rw [record_flt, forAll_same State.flt]
  exact forAll_same (fun t => p t.flt) _ _ fun m t => h ..

/-- A figure of the sessions other than their "since last read" copies is as before an update of these. -/
theorem updSince_keeps_field {β : Type} (p : Session → β) (f : SinceRead → SinceRead) (n : Nat) (s : State)
    (h : ∀ x z, p { x with since := z } = p x := by intros; rfl) : p ((updSince f s).session n) = p (s.session n) := by
  simp only [State.session, updSince, List.getD, List.getElem?_map]
  cases s.sess[n]? with
  | none => rfl
  | some x => exact h ..

theorem syncInputs_sess_length (l : List Nat) (cause tick t0 : Nat) (s : State) :
    (syncInputs l cause tick t0 s).sess.length = s.sess.length := by
  unfold syncInputs
  rw [record_sess, forAll_same (·.sess.length) _ _ fun m t => List.length_map .., forAll_same State.sess]

/-- A reset marks the "since last read" copies, and nothing else of the sessions. -/
theorem syncInputs_keeps_field {β : Type} (p : Session → β) (l : List Nat) (cause tick t0 : Nat) (s : State) (n : Nat)
    (h : ∀ x z, p { x with since := z } = p x := by intros; rfl) :
    p ((syncInputs l cause tick t0 s).session n) = p (s.session n) := by
  unfold syncInputs
  rw [session_congr (record_sess ..), forAll_same (fun t => p (t.session n)) _ _ fun m t => updSince_keeps_field p _ n t h,
    forAll_same (fun t => p (t.session n))]

/-- Where the action is a reset, and then a reply, that reply stands in the session. -/
theorem runRequest_resets_answers {c : Cmd} {q : Request} {s v : State} {l : List Nat} {cause tick t0 st : Nat} {p : List Byte}
    (h : accepts c q s = true) (hc : c.classC = true) (hz : s.sess.length = 32)
    (hv : c.act (acceptedWaiter c q s) q (behindRecord c q s) =
      reply (acceptedWaiter c q s) st p (syncInputs l cause tick t0 v))
    (hs : v.sess = (behindRecord c q s).sess) : answers c q st p (runRequest c q s) := by
  have hq : q.sess < s.sess.length := hz ▸ accepts_sess h
  have session : v.session q.sess = (served c q s).session q.sess := (session_congr hs _).trans (behindRecord_session ..)
  refine answers_congr (runRequest_acts h hc).1 ?_
  rw [hv]
  refine reply_answers rfl rfl rfl rfl ?_ ?_ ?_
  · rwa [syncInputs_sess_length, hs, behindRecord_sess, served_sess_length]
  · rw [syncInputs_keeps_field Session.st, session, served_session hq]
  · rw [syncInputs_keeps_field Session.gen, session, served_session hq]; rfl

/-- A chain-wide reset puts its anchor in force. -/
theorem syncChain_anchor (cause t0 : Nat) (s : State) : (syncChain cause t0 s).flt.anchor = t0 :=
  syncInputs_keeps_chain FilterState.anchor ..

/-- The lane of every input expects a chain-wide reset with its anchor (R182). -/
theorem syncChain_fin (cause t0 : Nat) {s : State} (hz : s.flt.inputs.length = 8) {n : Nat} (hn : n < 8) :
    (syncChain cause t0 s).fin n = FilterInput.expect (s.enabled n) t0 t0 (decide (cause = 0)) (s.fin n) := by
  unfold syncChain
  rw [syncInputs_fin List.nodup_range, if_pos ⟨List.mem_range.mpr hn, hz ▸ hn⟩]
  rfl

theorem Sized.flt_inputs {s : State} (h : Sized s) : s.flt.inputs.length = 8 := by
  obtain ⟨-, -, -, -, -, -, -, hf, -⟩ := h
  exact hf

/-! ### FLT_CONFIGURE_CHAIN, FLT_LOAD_FIR, FLT_STOP -/

theorem presetStages_eq (n : Nat) : presetStages n = if n = 0 then 0 else if n = 1 then 1 else 2 := by
  match n with
  | 0 | 1 | _ + 2 => simp [presetStages]

/-- FLT_CONFIGURE_CHAIN (R175, R179). -/
theorem fltConfigureChain_sets {q : Request} {s : State} (hz : Sized s) (h : accepts fltConfigureChainCmd q s = true) :
    ∃ t, exec (.fltConfigureChain q) s = .next t ∧ answers fltConfigureChainCmd q OK [] t ∧
      t.flt = { s.flt with config := q.u8 0, period := q.u32 4,
                           stages := if q.u8 0 = 4 then q.u8 1 else if q.u8 0 = 0 then 0 else if q.u8 0 = 1 then 1 else 2
                           shifts := [q.u8 8, q.u8 9, q.u8 10, q.u8 11] } := by
  refine ⟨_, rfl, runRequest_answers h hz.1 fun w u => ⟨_, rfl, rfl⟩, ?_⟩
  rw [runRequest_replies_flt h rfl rfl]
  simp only [behindRecord_flt, presetStages_eq]

/-- FLT_LOAD_FIR (R180). -/
theorem fltLoadFir_sets {q : Request} {s : State} (hz : Sized s) (h : accepts fltLoadFirCmd q s = true) :
    ∃ t, exec (.fltLoadFir q) s = .next t ∧ answers fltLoadFirCmd q OK [] t ∧
      t.flt = { s.flt with coefs := (List.range 96).map fun i => q.i32 (4 * i) } := by
  refine ⟨_, rfl, runRequest_answers h hz.1 fun w u => ⟨_, rfl, rfl⟩, ?_⟩
  rw [runRequest_replies_flt h rfl rfl]
  simp only [behindRecord_flt]

/-- FLT_STOP (R177). -/
theorem fltStop_stops {q : Request} {s : State} (hz : Sized s) (h : accepts fltStopCmd q s = true) :
    ∃ t, exec (.fltStop q) s = .next t ∧ answers fltStopCmd q OK [] t ∧
      t.flt = { s.flt with running := false, inputs := s.flt.inputs.map FilterInput.stop } := by
  refine ⟨_, rfl, runRequest_answers h hz.1 fun w u => ⟨_, rfl, rfl⟩, ?_⟩
  rw [runRequest_replies_flt h rfl rfl]
  simp only [behindRecord_flt]

/-! ### FLT_SET_INPUT -/

/-- The setting that FLT_SET_INPUT gives an input (R181). -/
def FilterInput.withSetting (mode factor : Nat) (x : FilterInput) : FilterInput := { x with mode := mode, factor := factor }

/-- The lanes after FLT_SET_INPUT: that of its input takes the setting and expects a reset on the present grid (R181, R182). -/
theorem fltSetInput_fin {q : Request} {s : State} (hz : Sized s) (h : accepts fltSetInputCmd q s = true) (n : Nat) :
    (runRequest fltSetInputCmd q s).fin n = if n = q.u8 0 then
      FilterInput.expect (s.enabled n) (128 * (served fltSetInputCmd q s).nextBoundary) s.flt.anchor false
        ((s.fin n).withSetting (q.u8 1) (q.u32 4)) else s.fin n := by
  have hlt : q.u8 0 < s.flt.inputs.length := by
    rw [hz.flt_inputs]
    exact inputField_eq_none (accepts_checks h _ (List.mem_cons_self ..))
  let u := behindRecord fltSetInputCmd q s
  let v := updFin (q.u8 0) (FilterInput.withSetting (q.u8 1) (q.u32 4)) u
  have taken : (runRequest fltSetInputCmd q s).fin n = (syncInputs [q.u8 0] 3 (128 * u.nextBoundary) u.flt.anchor v).fin n :=
    fin_congr (congrArg _ (runRequest_replies_flt h rfl rfl)) n
  have enabled : v.enabled n = s.enabled n := behindRecord_enabled ..
  have fin : v.fin n = if q.u8 0 = n then (s.fin n).withSetting (q.u8 1) (q.u32 4) else s.fin n := by
    rw [fin_updFin, behindRecord_fin, behindRecord_flt]
    simp [hlt]
  rw [taken, syncInputs_fin (List.pairwise_singleton _ _), fin, enabled, behindRecord_nextBoundary, updFin_length, behindRecord_flt]
  by_cases e : n = q.u8 0
  · subst e
    simp [hlt]
  · simp [e, Ne.symm e]

/-- FLT_SET_INPUT (R181, R182). -/
theorem fltSetInput_sets {q : Request} {s : State} (hz : Sized s) (h : accepts fltSetInputCmd q s = true) :
    ∃ t, exec (.fltSetInput q) s = .next t ∧ answers fltSetInputCmd q OK [] t ∧
      t.fin (q.u8 0) = FilterInput.expect (s.enabled (q.u8 0)) (128 * (served fltSetInputCmd q s).nextBoundary) s.flt.anchor false
        { s.fin (q.u8 0) with mode := q.u8 1, factor := q.u32 4 } ∧
      ∀ n, n ≠ q.u8 0 → t.fin n = s.fin n := by
  refine ⟨_, rfl, runRequest_resets_answers h rfl hz.1 rfl rfl, ?_, fun n hn => ?_⟩
  · exact (fltSetInput_fin hz h _).trans (if_pos rfl)
  · exact (fltSetInput_fin hz h n).trans (if_neg hn)

/-! ### FLT_START -/

/-- FLT_START: the chain runs from the next frame on, where every lane takes it up (R177, R182). -/
theorem fltStart_starts {q : Request} {s : State} (hz : Sized s) (h : accepts fltStartCmd q s = true) :
    ∃ t, exec (.fltStart q) s = .next t ∧ answers fltStartCmd q OK [] t ∧ t.flt.running = true ∧
      let f := (served fltStartCmd q s).nextBoundary
      t.flt.anchor = 128 * f ∧ ∀ n, n < 8 → t.fin n = FilterInput.expect (s.enabled n) (128 * f) (128 * f) true (s.fin n) := by
  let u := behindRecord fltStartCmd q s
  let v : State := { u with flt := { u.flt with running := true } }
  have flt : (runRequest fltStartCmd q s).flt = (syncChain 0 (128 * u.nextBoundary) v).flt := runRequest_replies_flt h rfl rfl
  have size : v.flt.inputs.length = 8 := by rw [← hz.flt_inputs, ← behindRecord_flt fltStartCmd q s]
  refine ⟨_, rfl, runRequest_resets_answers h rfl hz.1 rfl rfl, ?_, ?_, fun n hn => ?_⟩
  · rw [flt]
    exact syncInputs_keeps_chain FilterState.running ..
  · rw [flt, syncChain_anchor, behindRecord_nextBoundary]
  · have enabled : v.enabled n = s.enabled n := behindRecord_enabled ..
    have fin : v.fin n = s.fin n := behindRecord_fin ..
    rw [fin_congr (congrArg _ flt), syncChain_fin 0 _ size hn, enabled, fin, behindRecord_nextBoundary]
    rfl

/-! ### FLT_SYNC, FILTER_SYNC -/

theorem syncTick_congr {s t : State} (h : t.time = s.time) (q : Request) : syncTick t q = syncTick s q := by
  simp only [syncTick, nextBoundary_congr h]

/-- FLT_SYNC: its reply waits for the reset that it schedules (R183). -/
theorem fltSync_schedules {q : Request} {s : State} (hz : Sized s) (h : accepts fltSyncCmd q s = true) :
    ∃ t, exec (.fltSync q) s = .next t ∧ (t.session q.sess).st = .running ∧
      ∃ w, w.sess = q.sess ∧ w.tag = q.tag ∧ t.flt.scheduled = some (syncTick (served fltSyncCmd q s) q, w) := by
  have hq : q.sess < s.sess.length := hz.1 ▸ accepts_sess h
  have session : (runRequest fltSyncCmd q s).session q.sess = (behindRecord fltSyncCmd q s).session q.sess :=
    session_congr (runRequest_acts h rfl).1 _
  refine ⟨_, rfl, ?_, acceptedWaiter fltSyncCmd q s, rfl, rfl, ?_⟩
  · rw [session, behindRecord_session, served_session hq]
  · rw [runRequest_acts_flt h rfl, ← syncTick_congr (behindRecord_time fltSyncCmd q s)]
    rfl

/-- FILTER_SYNC, once its tick has come (R182, R183). -/
theorem filterSync_resets (a : Nat) {s : State} {t0 : Nat} {w : Waiter} (hz : Sized s) (hs : s.flt.scheduled = some (t0, w))
    (ht : t0 ≤ (advance a s).time.tick) :
    ∃ t, exec (.filterSync a) s = .next t ∧ t.flt.scheduled = none ∧ t.flt.anchor = t0 ∧
      ∀ n, n < 8 → t.fin n = FilterInput.expect (s.enabled n) t0 t0 false (s.fin n) := by
  let v : State := { advance a s with flt := { s.flt with scheduled := none } }
  have e : exec (.filterSync a) s = .next (reply w OK [] (syncChain 1 t0 v)) := by
    simp only [exec, execFilterSync, advance_flt, hs]
    rw [if_neg (Nat.not_lt.mpr ht)]
  refine ⟨_, e, ?_, ?_, fun n hn => ?_⟩
  · rw [reply_flt]
    exact syncInputs_keeps_chain FilterState.scheduled ..
  · rw [reply_flt, syncChain_anchor]
  · rw [fin_congr (congrArg _ (reply_flt ..)), syncChain_fin 1 t0 (s := v) hz.flt_inputs hn]
    rfl

/-! ### FLT_GET_STATUS -/

/-- A read whose action clears "since last read" copies of its own session, and then replies, clears them there alone. -/
theorem runRequest_clears_since {c : Cmd} {q : Request} {s : State} {f : SinceRead → SinceRead} (h : accepts c q s = true)
    (hz : s.sess.length = 32) (hc : c.classC = false) (ha : ∀ w u, ∃ st p v, c.act w q u = reply w st p v ∧
      v.sess = (updSession q.sess (fun x => { x with since := f x.since }) u).sess) :
    ((runRequest c q s).session q.sess).since = f (s.session q.sess).since ∧
      ∀ n, n ≠ q.sess → ((runRequest c q s).session n).since = (s.session n).since := by
  have hq : q.sess < s.sess.length := hz ▸ accepts_sess h
  have since (n : Nat) : ((runRequest c q s).session n).since =
      ((updSession q.sess (fun x => { x with since := f x.since }) (served c q s)).session n).since := by
    obtain ⟨st, p, v, hv, hsess⟩ := ha (waiterOf c q s) { served c q s with evt := { (served c q s).evt with carrying := true } }
    rw [runRequest_accepts h, acceptRequest_classR hc]
    change ((c.act _ q _).session n).since = _
    rw [hv, reply_since rfl, session_congr hsess]
    rfl
  refine ⟨?_, fun n hn => ?_⟩
  · rw [since, session_updSession_self _ _ _ (by rwa [served_sess_length]), served_session hq]
  · rw [since, session_updSession, if_neg fun e => hn e.1.symm, served_session_ne hn.symm]

theorem dcGainDb_evt (e : EventState) (s : State) : ({ s with evt := e } : State).dcGainDb = s.dcGainDb := by
  have gain : ({ s with evt := e } : State).dcGain = s.dcGain := rfl
  simp only [State.dcGainDb, gain]

/-- The event records have no part in the status. -/
theorem filterPayload_evt (e : EventState) (s : State) (q : Request) : filterPayload { s with evt := e } q = filterPayload s q := by
  unfold filterPayload
  rw [dcGainDb_evt]
  rfl

/-- FLT_GET_STATUS answers from the state that it finds, and clears its session's flags (R187, R189). -/
theorem fltGetStatus_reads {q : Request} {s : State} (hz : Sized s) (h : accepts fltGetStatusCmd q s = true) :
    ∃ t, exec (.fltGetStatus q) s = .next t ∧
      answers fltGetStatusCmd q OK (filterPayload (served fltGetStatusCmd q s) q) t ∧
      (t.session q.sess).since = { (s.session q.sess).since with
        fltSat := List.replicate 8 false, fltSync := List.replicate 8 false } ∧
      ∀ n, n ≠ q.sess → (t.session n).since = (s.session n).since := by
  refine ⟨_, rfl, ?_, runRequest_clears_since (f := fun z => { z with
    fltSat := List.replicate 8 false, fltSync := List.replicate 8 false }) h hz.1 rfl fun w u => ⟨_, _, _, rfl, rfl⟩⟩
  rw [← filterPayload_evt]
  refine runRequest_reads (fun u => filterPayload u q) h hz.1 rfl fun w u => ⟨_, rfl, ?_, ?_, ?_⟩
  · exact updSession_keeps_field Session.st ..
  · exact updSession_keeps_field Session.gen ..
  · exact updSession_length ..

/-- Settles O12: each request, by what its action leads to on the state behind its record. -/
theorem filterRequests : Obligations.FilterRequests :=
  ⟨fun _ _ hz h => fltConfigureChain_sets hz h, fun _ _ hz h => fltLoadFir_sets hz h, fun _ _ hz h => fltSetInput_sets hz h,
    fun _ _ hz h => fltStart_starts hz h, fun _ _ hz h => fltStop_stops hz h, fun _ _ hz h => fltSync_schedules hz h,
    fun a _ _ _ hz hs ht => filterSync_resets a hz hs ht, fun _ _ hz h => fltGetStatus_reads hz h⟩

end Sys2Proof.Machine

/-! The requests of group 0x06: the setting, the gate and the angle reference of a tach input, and its stamps and results. -/

namespace Sys2Proof.Machine

-- One proof after another, as for group 0x04: proofs elaborated side by side need more memory than the compile may take.
set_option Elab.async false

/-! ### Tach inputs -/

theorem tach_updTach (n m : Nat) (f : Tach → Tach) (s : State) :
    (updTach n f s).tach m = if n = m ∧ n < s.edge.tachs.length then f (s.tach m) else s.tach m := getD_updAt ..

@[simp] theorem tach_updTach_self (n : Nat) (f : Tach → Tach) (s : State) (h : n < s.edge.tachs.length) :
    (updTach n f s).tach n = f (s.tach n) := by simp [tach_updTach, h]

@[simp] theorem updTach_length (n : Nat) (f : Tach → Tach) (s : State) :
    (updTach n f s).edge.tachs.length = s.edge.tachs.length := updAt_length ..

theorem tach_congr {s t : State} (h : t.edge.tachs = s.edge.tachs) (n : Nat) : t.tach n = s.tach n := by
  simp only [State.tach, h]

theorem updTach_tachs_congr {s t : State} (h : t.edge.tachs = s.edge.tachs) (n : Nat) (f : Tach → Tach) :
    (updTach n f t).edge.tachs = (updTach n f s).edge.tachs := congrArg (updAt · n f) h

theorem Sized.tachs {s : State} (h : Sized s) : s.edge.tachs.length = 8 := by
  obtain ⟨-, -, -, -, -, -, -, -, -, -, -, -, -, ht, -⟩ := h
  exact ht

/-! ### An offer to a pigeonhole and data for the engines leave the sessions and the tach inputs -/

@[simp] theorem placeOffer_sess (n : Nat) (o : Offer) (s : State) : (placeOffer n o s).sess = s.sess :=
  forAll_same (·.sess) _ _ fun b t => by unfold placeEntry; split <;> rfl

@[simp] theorem droppingRecord_sess (n p c : Nat) (s : State) : (droppingRecord n p c s).sess = s.sess := by
  unfold droppingRecord; extract_lets recent; split
  · rfl
  · exact record_sess ..

@[simp] theorem noteDrops_sess (n new old : Nat) (s : State) : (noteDrops n new old s).sess = s.sess := by
  unfold noteDrops; split
  · rfl
  · extract_lets quiet v
    split
    · exact droppingRecord_sess ..
    · rfl

@[simp] theorem applyPolicy_sess (n : Nat) (o : Offer) (p : Pigeonhole) (s : State) : (applyPolicy n o p s).sess = s.sess := by
  unfold applyPolicy; split
  · rfl
  · exact (placeOffer_sess ..).trans (noteDrops_sess ..)
  · exact noteDrops_sess ..

@[simp] theorem offer_sess (n : Nat) (o : Offer) (s : State) : (offer n o s).sess = s.sess := by
  unfold offer; split
  · rfl
  · split
    · exact recordLimited_sess ..
    · split
      · exact placeOffer_sess ..
      · exact applyPolicy_sess ..

theorem offerBound_sess (source kind count ph : Nat) (entry : List Byte) (s : State) :
    (offerBound source kind count ph entry s).sess = s.sess := by
  unfold offerBound; extract_lets drops t; split <;> exact offer_sess ..

theorem drainTap_sess (e kind source : Nat) (s : State) : (drainTap e kind source s).sess = s.sess := by
  unfold drainTap; extract_lets t; split <;> rfl

theorem tapData_sess (kind source : Nat) (d : Datum) (l : List Datum) (e : Nat) (s : State) :
    (tapData kind source d l e s).sess = s.sess := by
  unfold tapData; extract_lets v t; split
  · exact drainTap_sess ..
  · split
    · exact (drainTap_sess ..).trans (drainTap_sess ..)
    · exact drainTap_sess ..

theorem pushData_sess (kind source : Nat) (l : List Datum) (s : State) : (pushData kind source l s).sess = s.sess := by
  unfold pushData; split
  · rfl
  · exact forAll_same (·.sess) _ _ fun e t => tapData_sess ..

theorem offerBound_tachs (source kind count ph : Nat) (entry : List Byte) (s : State) :
    (offerBound source kind count ph entry s).edge.tachs = s.edge.tachs :=
  (offerBound_keeps (m := 292057776128) source kind count ph entry s).kind .tachs rfl

theorem pushData_tachs (kind source : Nat) (l : List Datum) (s : State) :
    (pushData kind source l s).edge.tachs = s.edge.tachs := (pushData_keeps (m := 0) kind source l s).kind .tachs rfl

/-! ### Results of gates -/

/-- A gate's result joins the latest 16 of its input (R457). -/
def Tach.withResult (b : List Byte) (x : Tach) : Tach := { x with gate := { x.gate with results := (b :: x.gate.results).take 16 } }

/-- The result that the gate of input `n` yields now (R244). -/
def State.gateYields (s : State) (n : Nat) (aborted : Bool) : List Byte :=
  gateResult (takeFree s).2 (s.tach n).gate aborted (takeFree s).1

theorem deliverGate_sess (n : Nat) (aborted : Bool) (s : State) : (deliverGate n aborted s).sess = s.sess := by
  unfold deliverGate; extract_lets g; split
  extract_lets bytes u v
  have offered : v.sess = u.sess := by
    unfold v; split
    · exact offerBound_sess ..
    · rfl
  rename_i e
  exact (pushData_sess ..).trans (offered.trans (by cases e; rfl))

/-- Of the tach inputs, only that of the gate takes the result. -/
theorem deliverGate_tachs (n : Nat) (aborted : Bool) (s : State) : (deliverGate n aborted s).edge.tachs =
    (updTach n (Tach.withResult (s.gateYields n aborted)) s).edge.tachs := by
  unfold deliverGate; extract_lets g; split
  extract_lets bytes u v
  have offered : v.edge.tachs = u.edge.tachs := by
    unfold v; split
    · exact offerBound_tachs ..
    · rfl
  rename_i e
  exact (pushData_tachs ..).trans (offered.trans (by cases e; rfl))

/-- A gate whose end is at most the present tick: what an abort leaves of its span (R245). -/
def Tach.cutAt (tick : Nat) (x : Tach) : Tach := { x with gate := { x.gate with end_ := min x.gate.end_ tick } }

/-- A gate that no longer runs. -/
def Tach.stopped (x : Tach) : Tach := { x with gate := { x.gate with running := false } }

/-- The result that an abort of the gate of input `n` yields: aborted, over the span up to the present tick (R245). -/
def State.abortYields (s : State) (n : Nat) : List Byte := (updTach n (Tach.cutAt s.time.tick) s).gateYields n true

theorem abortGate_sess (n : Nat) (s : State) : (abortGate n s).sess = s.sess := by
  unfold abortGate; extract_lets g; split
  · exact deliverGate_sess ..
  · rfl

/-- An abort of a gate that does not run does nothing. -/
theorem abortGate_still {n : Nat} {s : State} (h : (s.tach n).gate.running = false) : abortGate n s = s := by
  simp [abortGate, h]

/-- An abort of a running gate cuts its span, yields its aborted result and ends it (R245). -/
theorem abortGate_running {n : Nat} {s : State} (hn : n < s.edge.tachs.length) (h : (s.tach n).gate.running = true) :
    (abortGate n s).tach n = (((s.tach n).cutAt s.time.tick).withResult (s.abortYields n)).stopped := by
  have delivered : (abortGate n s).edge.tachs = (updTach n Tach.stopped
      (updTach n (Tach.withResult (s.abortYields n)) (updTach n (Tach.cutAt s.time.tick) s))).edge.tachs := by
    unfold abortGate; extract_lets g
    rw [if_pos h]
    exact updTach_tachs_congr (deliverGate_tachs ..) ..
  rw [tach_congr delivered]
  simp [hn]

theorem abortGate_length (n : Nat) (s : State) : (abortGate n s).edge.tachs.length = s.edge.tachs.length := by
  unfold abortGate; extract_lets g; split
  · exact (updTach_length ..).trans ((congrArg _ (deliverGate_tachs ..)).trans (by simp))
  · rfl

/-- After an abort the gate does not run, whether it did or not. -/
theorem abortGate_ends {n : Nat} {s : State} (hn : n < s.edge.tachs.length) : ((abortGate n s).tach n).gate.running = false := by
  cases h : (s.tach n).gate.running with
  | false => rwa [abortGate_still h]
  | true => rw [abortGate_running hn h]; rfl

/-! ### What the action of a request finds, and what it leaves -/

@[simp] theorem behindRecord_edge (c q s) : (behindRecord c q s).edge = s.edge := by simp [behindRecord]

theorem behindRecord_tach (c q s) (n : Nat) : (behindRecord c q s).tach n = s.tach n :=
  tach_congr (congrArg _ (behindRecord_edge c q s)) n

/-- Where the action of an accepted class C command ends with a reply, edge timing is as before that reply. -/
theorem runRequest_replies_edge {c : Cmd} {q : Request} {s v : State} {st : Nat} {p : List Byte} (h : accepts c q s = true)
    (hc : c.classC = true)
    (hv : c.act (acceptedWaiter c q s) q (behindRecord c q s) = reply (acceptedWaiter c q s) st p v) :
    (runRequest c q s).edge = v.edge := by
  rw [runRequest_accepts h, acceptRequest_classC hc, noteSnapshots_edge, noteScope_edge, ← reply_edge _ st p v, ← hv]
  rfl

/-- Where the action sets one tach input, and then replies, that input is as set and the others are as before. -/
theorem runRequest_sets_tach {c : Cmd} {q : Request} {s : State} {n st : Nat} {p : List Byte} {f : Tach → Tach}
    (h : accepts c q s = true) (hc : c.classC = true) (hn : n < s.edge.tachs.length)
    (hv : c.act (acceptedWaiter c q s) q (behindRecord c q s) =
      reply (acceptedWaiter c q s) st p (updTach n f (behindRecord c q s))) :
    (runRequest c q s).tach n = f (s.tach n) ∧ ∀ m, m ≠ n → (runRequest c q s).tach m = s.tach m := by
  have taken (m : Nat) : (runRequest c q s).tach m = (updTach n f (behindRecord c q s)).tach m :=
    tach_congr (congrArg _ (runRequest_replies_edge h hc hv)) m
  refine ⟨?_, fun m hm => ?_⟩
  · rw [taken, tach_updTach_self _ _ _ (by rwa [behindRecord_edge]), behindRecord_tach]
  · rw [taken, tach_updTach, if_neg fun e => hm e.1.symm, behindRecord_tach]

/-- A request whose first field check is that of its tach input names one. -/
theorem tachField_lt {c : Cmd} {q : Request} {s : State} (hz : Sized s) (h : accepts c q s = true)
    (hf : within 0 7 (q.u8 0) ∈ c.checks (served c q s) q) : q.u8 0 < s.edge.tachs.length := by
  have range := within_eq_none (accepts_checks h _ hf)
  rw [hz.tachs]
  omega

/-! ### EDGE_SET_INPUT -/

/-- EDGE_SET_INPUT leaves its setting to take effect (R232, R233). -/
theorem edgeSetInput_waits {q : Request} {s : State} (hz : Sized s) (h : accepts edgeSetInputCmd q s = true) :
    ∃ t, exec (.edgeSetInput q) s = .next t ∧ answers edgeSetInputCmd q OK [] t ∧
      t.tach (q.u8 0) = { s.tach (q.u8 0) with
        waits := some { enable := q.bit 1 0, terminate := q.bit 1 1, threshold := q.i16 2, hysteresis := q.u8 4 } } ∧
      ∀ n, n ≠ q.u8 0 → t.tach n = s.tach n :=
  ⟨_, rfl, runRequest_answers h hz.1 fun _ _ => ⟨_, rfl, rfl⟩,
    runRequest_sets_tach h rfl (tachField_lt hz h (List.mem_cons_self ..)) rfl⟩

/-! ### EDGE_SET_GATE -/

/-- A gate that neither waits nor restarts, of mode 0 (R242). -/
def Tach.gateOff (x : Tach) : Tach := { x with gate := { x.gate with waits := false, restart := false, mode := 0 } }

/-- The gate that EDGE_SET_GATE sets to wait for its start at a tick (R241). -/
def Tach.gateSet (q : Request) (start : Nat) (x : Tach) : Tach := { x with gate := { x.gate with
  mode := q.u8 1, direction := q.u8 2, lengthUs := q.u32 4, stride := q.u16 8, waits := true, restart := false, start := start } }

theorem edgeSetGate_act_off {q : Request} (h : q.u8 1 = 0) (w : Waiter) (u : State) : edgeSetGateCmd.act w q u =
    reply w OK [] (updTach (q.u8 0) Tach.gateOff (abortGate (q.u8 0) u)) :=
  congrArg (reply w OK []) (if_pos h)

theorem edgeSetGate_act_set {q : Request} (h : q.u8 1 ≠ 0) (w : Waiter) (u : State) : edgeSetGateCmd.act w q u =
    reply w OK [] (updTach (q.u8 0) (Tach.gateSet q (if q.bit 3 0 then 128 * u.nextBoundary else q.u64 16)) u) :=
  congrArg (reply w OK []) (if_neg h)

theorem edgeSetGate_field {q : Request} {s : State} (hz : Sized s) (h : accepts edgeSetGateCmd q s = true) :
    q.u8 0 < s.edge.tachs.length := by
  refine tachField_lt hz h ?_
  change _ ∈ gateFields _ q
  unfold gateFields; split <;> exact List.mem_cons_self ..

theorem edgeSetGate_answers {q : Request} {s : State} (hz : Sized s) (h : accepts edgeSetGateCmd q s = true) :
    answers edgeSetGateCmd q OK [] (runRequest edgeSetGateCmd q s) := by
  refine runRequest_answers h hz.1 fun _ _ => ?_
  by_cases off : q.u8 1 = 0
  · exact ⟨_, edgeSetGate_act_off off .., abortGate_sess ..⟩
  · exact ⟨_, edgeSetGate_act_set off .., rfl⟩

/-- EDGE_SET_GATE with mode 0: the gate is off behind an abort (R242, R245). -/
theorem edgeSetGate_off {q : Request} {s : State} (hz : Sized s) (h : accepts edgeSetGateCmd q s = true) (off : q.u8 1 = 0) :
    (runRequest edgeSetGateCmd q s).tach (q.u8 0) =
      ((abortGate (q.u8 0) (behindRecord edgeSetGateCmd q s)).tach (q.u8 0)).gateOff := by
  have hn := edgeSetGate_field hz h
  rw [tach_congr (congrArg _ (runRequest_replies_edge h rfl (edgeSetGate_act_off off ..))),
    tach_updTach_self _ _ _ (by rwa [abortGate_length, behindRecord_edge])]

/-- EDGE_SET_GATE with mode 0 leaves no gate that waits, runs or restarts; a running one yields an aborted result, over its
span up to the present tick (R242, R245). -/
theorem edgeSetGate_ends {q : Request} {s : State} (hz : Sized s) (h : accepts edgeSetGateCmd q s = true) (off : q.u8 1 = 0) :
    let g := ((runRequest edgeSetGateCmd q s).tach (q.u8 0)).gate
    g.waits = false ∧ g.restart = false ∧ g.mode = 0 ∧ g.running = false ∧
      ((s.tach (q.u8 0)).gate.running = true → g.results =
        ((behindRecord edgeSetGateCmd q s).abortYields (q.u8 0) :: (s.tach (q.u8 0)).gate.results).take 16) := by
  have hn : q.u8 0 < (behindRecord edgeSetGateCmd q s).edge.tachs.length := by
    rw [behindRecord_edge]; exact edgeSetGate_field hz h
  rw [edgeSetGate_off hz h off]
  refine ⟨rfl, rfl, rfl, abortGate_ends hn, fun running => ?_⟩
  rw [← behindRecord_tach edgeSetGateCmd q s] at running ⊢
  rw [abortGate_running hn running]
  rfl

/-- EDGE_SET_GATE with another mode leaves a gate that waits for its start (R241). -/
theorem edgeSetGate_sets {q : Request} {s : State} (hz : Sized s) (h : accepts edgeSetGateCmd q s = true) (on : q.u8 1 ≠ 0) :
    (runRequest edgeSetGateCmd q s).tach (q.u8 0) = (s.tach (q.u8 0)).gateSet q
      (if q.bit 3 0 = true then 128 * (served edgeSetGateCmd q s).nextBoundary else q.u64 16) := by
  rw [← behindRecord_nextBoundary]
  exact (runRequest_sets_tach h rfl (edgeSetGate_field hz h) (edgeSetGate_act_set on ..)).1

/-! ### EDGE_SET_ANGLE -/

/-- EDGE_SET_ANGLE puts its reference at its start (R246). -/
theorem edgeSetAngle_starts {q : Request} {s : State} (hz : Sized s) (h : accepts edgeSetAngleCmd q s = true) :
    ∃ t, exec (.edgeSetAngle q) s = .next t ∧ answers edgeSetAngleCmd q OK [] t ∧
      (t.tach (q.u8 0)).angle = (if q.u8 1 = 0 then {} else
        { on := true, direction := q.u8 2, index := q.u8 3, indexDir := (if q.u8 3 = 0xFF then 1 else q.u8 4), teeth := q.u16 6 }) ∧
      ∀ n, n ≠ q.u8 0 → t.tach n = s.tach n := by
  have field : within 0 7 (q.u8 0) ∈ angleFields q := by
    unfold angleFields; split <;> exact List.mem_cons_self ..
  obtain ⟨taken, others⟩ := runRequest_sets_tach h rfl (tachField_lt hz h field) rfl
  exact ⟨_, rfl, runRequest_answers h hz.1 fun w u => ⟨_, rfl, rfl⟩, congrArg Tach.angle taken, others⟩

/-- Settles O18: each request, by what its action leads to on the state behind its record. -/
theorem edgeRequests : Obligations.EdgeRequests := by
  refine ⟨fun _ _ hz h => edgeSetInput_waits hz h, fun q s hz h => ⟨_, rfl, edgeSetGate_answers hz h, fun off => ?_, fun on => ?_⟩,
    fun _ _ hz h => edgeSetAngle_starts hz h, fun q s hz h => ⟨_, rfl, ?_⟩, fun q s hz h => ⟨_, rfl, ?_⟩⟩
  · obtain ⟨waits, restart, mode, running, results⟩ := edgeSetGate_ends hz h off
    exact ⟨waits, restart, mode, running, fun run => ⟨_, results run⟩⟩
  · exact congrArg Tach.gate (edgeSetGate_sets hz h on)
  · exact runRequest_reads (fun u => newestFirst 16 (u.edgeSource (q.u8 0)).stamps) h hz.1 rfl fun w u => ⟨_, rfl, rfl, rfl, rfl⟩
  · exact runRequest_reads (fun u => newestFirst 64 (u.tach (q.u8 0)).gate.results) h hz.1 rfl fun w u => ⟨_, rfl, rfl, rfl, rfl⟩

end Sys2Proof.Machine

/-! Where bytes of acquisition memory stand: what a read finds behind a store, behind a clearing, and behind the stores of
pigeonholes, strands and postmarks. -/

namespace Sys2Proof.Machine

-- One proof after another, as for group 0x04: proofs elaborated side by side need more memory than the compile may take.
set_option Elab.async false

/-! ### Reads of a list of cells -/

theorem readCell_append_right {m n : List Host.Cell} {b : Nat} (h : ∀ c ∈ m, c.1 ≠ b) : readCell (m ++ n) b = readCell n b := by
  have none_left : m.find? (fun c => decide (c.1 = b)) = none := List.find?_eq_none.2 (by simpa using h)
  simp [readCell, List.find?_append, none_left]

theorem readCell_append_left {m n : List Host.Cell} {b : Nat} (h : ∀ c ∈ n, c.1 ≠ b) : readCell (m ++ n) b = readCell m b := by
  have none_right : n.find? (fun c => decide (c.1 = b)) = none := List.find?_eq_none.2 (by simpa using h)
  simp [readCell, List.find?_append, none_right]

/-- A byte that no cell lists reads 0. -/
theorem readCell_unlisted {m : List Host.Cell} {b : Nat} (h : ∀ c ∈ m, c.1 ≠ b) : readCell m b = 0 := by
  simpa [readCell] using readCell_append_right (n := []) h

/-- Cells let go elsewhere do not change what an address reads. -/
theorem readCell_filter {m : List Host.Cell} {p : Host.Cell → Bool} {b : Nat} (h : ∀ c : Host.Cell, c.1 = b → p c = true) :
    readCell (m.filter p) b = readCell m b := by
  have same (c : Host.Cell) : decide (p c = true ∧ decide (c.1 = b) = true) = decide (c.1 = b) := by
    simpa using h c
  simp only [readCell, List.find?_filter, same]

theorem cellsOf_cons (a : Nat) (x : Byte) (bs : List Byte) :
    cellsOf a (x :: bs) = (if x = 0 then [] else [(a, x)]) ++ cellsOf (a + 1) bs := by
  rw [cellsOf]; split <;> rfl

/-- The cell of one byte, if it lists any, is at that byte's address. -/
theorem mem_singleCell {a : Nat} {x : Byte} {c : Host.Cell} (h : c ∈ if x = 0 then [] else [(a, x)]) : c.1 = a := by
  split at h
  · cases h
  · rw [List.mem_singleton.1 h]

theorem readCell_singleCell (a : Nat) (x : Byte) : readCell (if x = 0 then [] else [(a, x)]) a = x := by
  split
  · next zero => exact zero.symm
  · simp [readCell]

theorem le_of_mem_cellsOf : ∀ (a : Nat) (bs : List Byte), ∀ c ∈ cellsOf a bs, a ≤ c.1
  | _, [], _, h => by cases h
  | a, x :: bs, c, h => by
    rw [cellsOf_cons] at h
    rcases List.mem_append.1 h with first | later
    · exact Nat.le_of_eq (mem_singleCell first).symm
    · exact Nat.le_of_succ_le (le_of_mem_cellsOf (a + 1) bs c later)

/-- The cells of bytes read as those bytes. -/
theorem readCell_cellsOf : ∀ (bs : List Byte) (a b : Nat), a ≤ b → readCell (cellsOf a bs) b = bs.getD (b - a) 0
  | [], _, _, _ => rfl
  | x :: bs, a, b, h => by
    rw [cellsOf_cons]
    rcases Nat.eq_or_lt_of_le h with rfl | later
    · have above := le_of_mem_cellsOf (a + 1) bs
      rw [readCell_append_left fun c hc => by have := above c hc; omega, readCell_singleCell, Nat.sub_self, List.getD_cons_zero]
    · rw [readCell_append_right fun c hc => by have := mem_singleCell hc; omega, readCell_cellsOf bs (a + 1) b later,
        show b - a = (b - (a + 1)) + 1 by omega, List.getD_cons_succ]

/-- Behind a write, its addresses read its bytes and the others what they did. -/
theorem readCell_writeCells (m : List Host.Cell) (a : Nat) (bs : List Byte) (b : Nat) :
    readCell (writeCells m a bs) b = if a ≤ b ∧ b < a + bs.length then bs.getD (b - a) 0 else readCell m b := by
  have below (c : Host.Cell) (h : c ∈ m.filter fun c => decide (c.1 < a)) : c.1 < a := by simpa using (List.mem_filter.1 h).2
  have above (c : Host.Cell) (h : c ∈ m.filter fun c => decide (a + bs.length ≤ c.1)) : a + bs.length ≤ c.1 := by
    simpa using (List.mem_filter.1 h).2
  have least := le_of_mem_cellsOf a bs
  have most := cellsOf_lt a bs
  unfold writeCells
  rcases Nat.lt_or_ge b a with before | from_
  · rw [if_neg (by omega), readCell_append_left (fun c hc => by have := above c hc; omega),
      readCell_append_left (fun c hc => by have := least c hc; omega)]
    exact readCell_filter fun c hc => by simpa [hc] using before
  · rw [List.append_assoc, readCell_append_right (fun c hc => by have := below c hc; omega)]
    rcases Nat.lt_or_ge b (a + bs.length) with inside | behind
    · rw [if_pos ⟨from_, inside⟩, readCell_append_left (fun c hc => by have := above c hc; omega)]
      exact readCell_cellsOf bs a b from_
    · rw [if_neg (by omega), readCell_append_right (fun c hc => by have := most c hc; omega)]
      exact readCell_filter fun c hc => by simpa [hc] using behind

/-! ### Stores and clearings (R393) -/

/-- A store reaches as many of its bytes as lie in the user region; reading them gives them back. -/
theorem readCell_memWrite (a : Nat) (bs : List Byte) (s : State) (b : Nat) : readCell (memWrite a bs s).mem.cells b =
    (let n := min bs.length (min s.userSize addressSpace - a)
     if a ≤ b ∧ b < a + n then bs.getD (b - a) 0 else readCell s.mem.cells b) := by
  change readCell (writeCells s.mem.cells a (bs.take (min s.userSize addressSpace - a))) b = _
  rw [readCell_writeCells, List.length_take, Nat.min_comm]
  dsimp only
  split
  · next inside =>
    have kept : b - a < min s.userSize addressSpace - a := by omega
    simp only [List.getD_eq_getElem?_getD, List.getElem?_take_of_lt kept]
  · rfl

theorem readCell_memWrite_outside {a : Nat} {bs : List Byte} {b : Nat} (s : State) (h : b < a ∨ a + bs.length ≤ b) :
    readCell (memWrite a bs s).mem.cells b = readCell s.mem.cells b := by
  rw [readCell_memWrite]
  exact if_neg (by omega)

theorem readCell_memZero (a n : Nat) (s : State) (b : Nat) :
    readCell (memZero a n s).mem.cells b = if a ≤ b ∧ b < a + n then 0 else readCell s.mem.cells b := by
  unfold memZero
  split
  · next inside =>
    refine readCell_unlisted fun c hc at_b => ?_
    have outside := (List.mem_filter.1 hc).2
    simp [at_b, inside] at outside
  · next outside => exact readCell_filter fun c hc => by simpa only [hc, decide_eq_true_eq] using outside

theorem readCell_memZero_outside {a n b : Nat} (s : State) (h : b < a ∨ a + n ≤ b) :
    readCell (memZero a n s).mem.cells b = readCell s.mem.cells b := by
  rw [readCell_memZero]
  exact if_neg (by omega)

/-- Several bytes are read one by one. -/
theorem memBytes_eq (s : State) (a n : Nat) : s.memBytes a n = (List.range n).map fun i => readCell s.mem.cells (a + i) := by
  refine List.map_congr_left fun i hi => readCell_filter fun c hc => ?_
  have := List.mem_range.1 hi
  simp only [decide_eq_true_eq]
  omega

theorem memBytes_memZero (a n : Nat) (s : State) : (memZero a n s).memBytes a n = zeros n := by
  have cleared (i : Nat) (hi : i ∈ List.range n) : readCell (memZero a n s).mem.cells (a + i) = 0 := by
    have := List.mem_range.1 hi
    rw [readCell_memZero, if_pos (by omega)]
  rw [memBytes_eq, List.map_congr_left cleared, List.map_const', List.length_range]
  rfl

/-! ### Entries and strands (R361, R267) -/

/-- One entry of a pigeonhole goes to its storage cell, and to no other address. -/
theorem readCell_placeEntry_outside {n : Nat} {bs : List Byte} {s : State} {p : Pigeonhole} {b : Nat} (hp : s.ph n = some p)
    (h : b < p.base + freeCell p.entries p.entries.length 0 * p.entrySize ∨
      p.base + freeCell p.entries p.entries.length 0 * p.entrySize + bs.length ≤ b) :
    readCell (placeEntry n bs s).mem.cells b = readCell s.mem.cells b := by
  simp only [placeEntry, hp]
  exact readCell_memWrite_outside s h

/-- One strand goes to its 24 bytes and to the byte of its nibble. -/
theorem readCell_writeStrand_outside {c : SegConfig} {slot rank u : Nat} {r : List Byte × Nat} {s : State} {b : Nat}
    (hr : r.1.length = 24)
    (strand : b < c.blockAt slot + 24 * c.strands * rank + 24 * (u % c.strands) ∨
      c.blockAt slot + 24 * c.strands * rank + 24 * (u % c.strands) + 24 ≤ b)
    (nibble : b ≠ c.blockAt slot + c.sideBase + rank * c.sideSize + u % c.strands / 2) :
    readCell (writeStrand c slot rank u r s).mem.cells b = readCell s.mem.cells b := by
  unfold writeStrand
  extract_lets j block side v
  rw [readCell_memWrite_outside v (by simp only [List.length_singleton]; omega)]
  exact readCell_memWrite_outside s (by rwa [hr])

end Sys2Proof.Machine

/-! What the shared operations of segmented capture do to the capture groups, and which operations leave them as they are. -/

namespace Sys2Proof.Machine

-- One proof after another, as for group 0x04: proofs elaborated side by side need more memory than the compile may take.
set_option Elab.async false

/-! ### Capture groups -/

theorem sg_congr {s t : State} (h : t.seg = s.seg) (g : Nat) : t.sg g = s.sg g := by
  simp only [State.sg, h]

theorem Sized.sg_lt {s : State} (h : Sized s) {g : Nat} (hg : g < 4) : g < s.seg.length := by
  obtain ⟨-, -, -, -, -, -, -, -, -, -, -, -, length, -⟩ := h
  omega

/-- A group that differs from the power-on state is one of the module's. -/
theorem sg_lt_of_ne {s : State} {g : Nat} (h : s.sg g ≠ {}) : g < s.seg.length := by
  refine Nat.lt_of_not_le fun beyond => h ?_
  simp only [State.sg, List.getD_eq_getElem?_getD, List.getElem?_eq_none beyond, Option.getD_none]

theorem updSg_seg_congr {s t : State} (h : t.seg = s.seg) (g : Nat) (f : SegGroup → SegGroup) :
    (updSg g f t).seg = (updSg g f s).seg := congrArg (updAt · g f) h

/-- A figure of the groups that an update keeps is as before. -/
theorem updSg_keeps_field {β : Type} (p : SegGroup → β) {f : SegGroup → SegGroup} (g h : Nat) (s : State)
    (hp : ∀ x, p (f x) = p x := by intro; rfl) : p ((updSg g f s).sg h) = p (s.sg h) := by
  rw [sg_updSg]; split
  · exact hp _
  · rfl

@[simp] theorem advance_sg (a : Nat) (s : State) (g : Nat) : (advance a s).sg g = s.sg g := rfl
@[simp] theorem advance_memServes (a : Nat) (s : State) : (advance a s).memServes = s.memServes := rfl

/-! ### Operations that leave the groups: the laws of these name the kinds of state that they may change -/

@[simp] theorem markReady_seg (g : Nat) (b : Bool) (s : State) : (markReady g b s).seg = s.seg :=
  (markReady_keeps (m := 268435456) g b s).kind .segments rfl
@[simp] theorem startTrigger_seg (g tick : Nat) (s : State) : (startTrigger g tick s).seg = s.seg :=
  (startTrigger_keeps (m := 402653184) g tick s).kind .segments rfl
@[simp] theorem rejoinInput_seg (n : Nat) (s : State) : (rejoinInput n s).seg = s.seg :=
  (rejoinInput_keeps (m := 17301504) n s).kind .segments rfl
@[simp] theorem noteAccumulators_seg (p : Accumulator → Bool) (s : State) : (noteAccumulators p s).seg = s.seg :=
  (noteAccumulators_keeps (m := 4294967296) p s).kind .segments rfl
@[simp] theorem reviewStops_seg (s : State) : (reviewStops s).seg = s.seg :=
  (reviewStops_keeps (m := 4294967296) s).kind .segments rfl
@[simp] theorem toEngines_seg (g q : Nat) (f : Segment) (s : State) : (toEngines g q f s).seg = s.seg :=
  (toEngines_keeps (m := 0) g q f s).kind .segments rfl
@[simp] theorem offer_seg (n : Nat) (o : Offer) (s : State) : (offer n o s).seg = s.seg :=
  (offer_keeps (m := 292057776128) n o s).kind .segments rfl
@[simp] theorem writeSegment_seg (g n : Nat) (f : Segment) (s : State) : (writeSegment g n f s).seg = s.seg :=
  (writeSegment_keeps (m := 274877906944) g n f s).kind .segments rfl

/-! ### The end of Fill (R209) -/

/-- With no segment in Fill, none ends. -/
theorem endFill_idle {g tick : Nat} {s : State} (h : (s.sg g).filling = none) : endFill g tick s = s := by
  simp only [endFill, h]

/-- The end of Fill hands the segment on to be written, and starts the next store; the rest of the group is as before. -/
theorem endFill_keeps_field {β : Type} (p : SegGroup → β) (g tick : Nat) (s : State) (h : Nat)
    (hp : ∀ (x : SegGroup) f w l fr b,
      p { x with filling := f, writing := w, landed := l, storeFrame := fr, filled := b } = p x := by intros; rfl) :
    p ((endFill g tick s).sg h) = p (s.sg h) := by
  unfold endFill
  split
  · rfl
  · split
    · rfl
    · exact updSg_keeps_field p g h s fun x => hp x ..

@[simp] theorem endFill_sess (g tick : Nat) (s : State) : (endFill g tick s).sess = s.sess := by
  unfold endFill; split
  · rfl
  · split <;> rfl
@[simp] theorem endFill_mem (g tick : Nat) (s : State) : (endFill g tick s).mem = s.mem := by
  unfold endFill; split
  · rfl
  · split <;> rfl
@[simp] theorem endFill_boot (g tick : Nat) (s : State) : (endFill g tick s).boot = s.boot := by
  unfold endFill; split
  · rfl
  · split <;> rfl
@[simp] theorem endFill_seg_length (g tick : Nat) (s : State) : (endFill g tick s).seg.length = s.seg.length := by
  unfold endFill; split
  · rfl
  · split
    · rfl
    · exact updSg_length ..
@[simp] theorem endFill_memServes (g tick : Nat) (s : State) : (endFill g tick s).memServes = s.memServes := by
  simp only [State.memServes, endFill_boot, endFill_mem]

/-! ### A segment that is discarded (R265) -/

/-- A segment in Fill is let go, and its number noted; the rest of the group is as before. -/
theorem discardFill_keeps_field {β : Type} (p : SegGroup → β) (g : Nat) (s : State) (h : Nat)
    (hp : ∀ (x : SegGroup) d, p { x with filling := none, discarded := d } = p x := by intros; rfl) :
    p ((discardFill g s).sg h) = p (s.sg h) := by
  unfold discardFill
  split
  · rfl
  · exact updSg_keeps_field p g h s fun x => hp x _

theorem discardFill_filling (g : Nat) (s : State) : ((discardFill g s).sg g).filling = none := by
  unfold discardFill
  split
  · assumption
  · next f full =>
    have group : g < s.seg.length := sg_lt_of_ne fun e => by simp [e] at full
    exact congrArg SegGroup.filling (sg_updSg_self g _ s group)

@[simp] theorem discardFill_sess (g : Nat) (s : State) : (discardFill g s).sess = s.sess := by
  unfold discardFill; split <;> rfl
@[simp] theorem discardFill_seg_length (g : Nat) (s : State) : (discardFill g s).seg.length = s.seg.length := by
  unfold discardFill; split
  · rfl
  · exact updSg_length ..

/-! ### The end of a capture (R265, R266) -/

/-- A group whose capture has ended. -/
def SegGroup.ended (x : SegGroup) : SegGroup := { x with
  state := .disarmed, lastReason := x.reason, filling := none, writing := [], stopTick := none, abortTick := none
  stopWaiters := [], positions := List.replicate 8 [] }

theorem forAll_reply_seg (l : List Waiter) (status : Nat) (payload : List Byte) (s : State) :
    (forAll l (fun w => reply w status payload) s).seg = s.seg := forAll_same State.seg l s fun _ _ => reply_seg ..

/-- Of the capture groups, the end of a capture changes its own. -/
theorem endCapture_seg (g frame : Nat) (s : State) : (endCapture g frame s).seg = (updSg g SegGroup.ended s).seg := by
  unfold endCapture
  extract_lets s1 x t s2 forced s3 s4 s5 s6
  have recorded : s2.seg = s.seg := record_seg ..
  calc (forAll x.stopWaiters (fun w => reply w OK []) s6).seg
    _ = s6.seg := forAll_reply_seg ..
    _ = s5.seg := forAll_reply_seg ..
    _ = s4.seg := markReady_seg ..
    _ = (updSg g SegGroup.ended s).seg := updSg_seg_congr recorded ..

/-- What may be reviewed of a stop: the group goes on as it is, or its capture ends at its stop frame. -/
theorem reviewStop_cases (g : Nat) (s : State) :
    reviewStop g s = s ∨ (s.sg g).state = .stopping ∧ reviewStop g s = endCapture g (s.stopFrame g) s := by
  unfold reviewStop
  extract_lets x
  split
  · next stopping =>
    split
    · exact .inl rfl
    · exact .inr ⟨stopping, rfl⟩
  · exact .inl rfl

/-- A figure that the end of a capture keeps is as before a review. -/
theorem reviewStop_keeps_field {β : Type} (p : SegGroup → β) (g : Nat) (s : State) (hp : ∀ x, p (SegGroup.ended x) = p x := by
    intro; rfl) : p ((reviewStop g s).sg g) = p (s.sg g) := by
  obtain same | ⟨-, ends⟩ := reviewStop_cases g s
  · rw [same]
  · rw [ends, sg_congr (endCapture_seg ..)]
    exact updSg_keeps_field p g g s hp

/-- A stopping group with nothing in hand ends its capture. -/
theorem reviewStop_ends {g : Nat} {s : State} (stopping : (s.sg g).state = .stopping) (filling : (s.sg g).filling = none)
    (writing : (s.sg g).writing = []) (classified : s.allClassified g (s.stopFrame g) = true) :
    (reviewStop g s).sg g = (s.sg g).ended := by
  have ends : reviewStop g s = endCapture g (s.stopFrame g) s := by
    simp [reviewStop, stopping, filling, writing, classified]
  rw [ends, sg_congr (endCapture_seg ..), sg_updSg_self _ _ _ (sg_lt_of_ne fun e => by simp [e] at stopping)]

end Sys2Proof.Machine

/-! POSTMARK_FILL, and where stores reach acquisition memory. -/

namespace Sys2Proof.Machine

-- One proof after another, as for group 0x04: proofs elaborated side by side need more memory than the compile may take.
set_option Elab.async false

/-! ### POSTMARK_FILL (R275) -/

/-- The module as an event of a group's segments finds it: at the event's time, the end of Fill noted. -/
def State.atEvent (s : State) (a g : Nat) : State := endFill g (advance a s).time.tick (advance a s)

theorem atEvent_cells (s : State) (a g : Nat) : (s.atEvent a g).mem.cells = s.mem.cells :=
  congrArg MemState.cells (endFill_mem ..)

theorem atEvent_memServes (s : State) (a g : Nat) : (s.atEvent a g).memServes = s.memServes := endFill_memServes ..

/-- With no segment in Fill, an event finds the module as time leaves it. -/
theorem atEvent_idle {s : State} {g : Nat} (a : Nat) (h : (s.sg g).filling = none) : s.atEvent a g = advance a s := endFill_idle h

/-- The postmark of the segment of a sequence number has been filled with 0. -/
def SegGroup.postmarkFilled (sequence : Nat) (x : SegGroup) : SegGroup :=
  { x with writing := x.writing.map fun h => if h.sequence = sequence then { h with filled := true } else h }

/-- POSTMARK_FILL takes the oldest segment that waits for it, once no earlier segment of its slot waits for its own
postmark (R274, R275). -/
theorem postmarkFill_waiting {a g : Nat} {s : State} {f : Segment} (serves : s.memServes = true)
    (waits : ((s.atEvent a g).sg g).writing.find? (fun f => ! f.filled) = some f) :
    exec (.postmarkFill a g) s = .next (if ((s.atEvent a g).sg g).slotBusy f.slot f.sequence then s.atEvent a g else
      updSg g (SegGroup.postmarkFilled f.sequence)
        (memZero (((s.atEvent a g).sg g).config.postmarkAt f.slot) 64 (s.atEvent a g))) := by
  rw [← atEvent_memServes s a g] at serves
  change execPostmarkFill a g s = _
  unfold execPostmarkFill
  extract_lets _ u x slot
  change u.memServes = true at serves
  change x.writing.find? _ = some f at waits
  rw [if_neg (not_not_intro serves), waits]
  rfl

/-- The slot of the segment in Fill, or of the one to come. -/
def SegGroup.presentSlot (x : SegGroup) : Nat :=
  match x.filling with
  | some f => f.slot
  | none => x.config.slotOf (x.nextSeq - x.firstSeq)

/-- With no segment that waits for it, POSTMARK_FILL fills at most the postmark of the slot of the segment in Fill or to come
(R275). -/
theorem postmarkFill_present {a g : Nat} {s : State} (serves : s.memServes = true)
    (none_waits : ((s.atEvent a g).sg g).writing.find? (fun f => ! f.filled) = none) :
    ∃ t, exec (.postmarkFill a g) s = .next t ∧ (t = s.atEvent a g ∨ t = updSg g (fun x => { x with filled := true })
      (memZero (((s.atEvent a g).sg g).config.postmarkAt ((s.atEvent a g).sg g).presentSlot) 64 (s.atEvent a g))) := by
  rw [← atEvent_memServes s a g] at serves
  change ∃ t, execPostmarkFill a g s = .next t ∧ _
  unfold execPostmarkFill
  extract_lets _ u x slot
  refine ⟨_, rfl, ?_⟩
  change u.memServes = true at serves
  change x.writing.find? _ = none at none_waits
  rw [if_neg (not_not_intro serves), none_waits]
  dsimp only
  split
  · exact .inl rfl
  · exact iteInduction (motive := fun t => t = u ∨ t = _) (fun _ => .inl rfl) fun _ => .inr rfl

/-! ### Where bytes reach memory (R267, R275, R361, R387, R393) -/

/-- POSTMARK_FILL for a segment that waits leaves every byte but those of its slot's postmark. -/
theorem postmarkFill_waiting_outside {a g : Nat} {s : State} {f : Segment} {b : Nat} (serves : s.memServes = true)
    (waits : ((s.atEvent a g).sg g).writing.find? (fun f => ! f.filled) = some f)
    (outside : b < ((s.atEvent a g).sg g).config.postmarkAt f.slot ∨ ((s.atEvent a g).sg g).config.postmarkAt f.slot + 64 ≤ b) :
    ∃ t, exec (.postmarkFill a g) s = .next t ∧ readCell t.mem.cells b = readCell s.mem.cells b := by
  refine ⟨_, postmarkFill_waiting serves waits, ?_⟩
  rw [← atEvent_cells s a g]
  split
  · rfl
  · exact readCell_memZero_outside _ outside

/-- POSTMARK_FILL with no segment that waits leaves every byte but those of the present slot's postmark. -/
theorem postmarkFill_present_outside {a g : Nat} {s : State} {b : Nat} (serves : s.memServes = true)
    (none_waits : ((s.atEvent a g).sg g).writing.find? (fun f => ! f.filled) = none)
    (outside : b < ((s.atEvent a g).sg g).config.postmarkAt ((s.atEvent a g).sg g).presentSlot ∨
      ((s.atEvent a g).sg g).config.postmarkAt ((s.atEvent a g).sg g).presentSlot + 64 ≤ b) :
    ∃ t, exec (.postmarkFill a g) s = .next t ∧ readCell t.mem.cells b = readCell s.mem.cells b := by
  obtain ⟨t, ht, rfl | rfl⟩ := postmarkFill_present serves none_waits
  · exact ⟨_, ht, by rw [atEvent_cells]⟩
  · refine ⟨_, ht, ?_⟩
    rw [← atEvent_cells s a g]
    exact readCell_memZero_outside _ outside

/-- Settles O60: what a read finds behind each kind of store, at its own addresses and at every other. -/
theorem storesStayInPlace : Obligations.StoresStayInPlace :=
  ⟨readCell_memWrite, readCell_memZero, fun _ _ _ _ _ hp h => readCell_placeEntry_outside hp h,
    fun _ _ _ _ _ _ _ hr strand nibble => readCell_writeStrand_outside hr strand nibble,
    fun _ _ _ _ _ serves h => postmarkFill_waiting_outside serves h.1 h.2,
    fun _ _ _ _ serves h => postmarkFill_present_outside serves h.1 h.2⟩

end Sys2Proof.Machine

/-! The events of segmented capture: the arm frame, the end of a hold, strands, postmarks, and the disarm. -/

namespace Sys2Proof.Machine

-- One proof after another, as for group 0x04: proofs elaborated side by side need more memory than the compile may take.
set_option Elab.async false

/-! ### ARM_FRAME, ARM_HOLD_TIMEOUT (R264, R459, R493) -/

/-- A group whose capture begins at a frame with the inputs of a mask. -/
def SegGroup.begun (mask frame : Nat) (shifts : List Int) (x : SegGroup) : SegGroup := { x with
  state := .capturing, armFrame := frame, everArmed := true, active := mask, removed := [], stopTick := none
  abortTick := none, captures := x.captures + 1
  firstSeq := x.nextSeq, written := 0, lastWritten := 0, discarded := none, reason := 0, storeFrame := frame
  landed := List.replicate 8 0
  shifts := shifts
  positions := List.replicate 8 [], filling := none, writing := [], filled := true, armWaiter := none
  stopWaiters := [] }

/-- Of the capture groups, an arm that takes effect changes its own. -/
theorem armGroup_seg (g : Nat) (s : State) : ∃ shifts,
    (armGroup g s).seg = (updSg g (SegGroup.begun (s.sg g).config.mask (s.sg g).armNext shifts) s).seg := by
  refine ⟨?shifts, ?holds⟩
  case' holds => simp only [armGroup, noteAccumulators_seg, apply_ite State.seg, record_seg, ite_self, startTrigger_seg]
  case holds => exact updSg_seg_congr (forAll_same State.seg _ _ rejoinInput_seg) ..

/-- At its arm frame a scheduled group captures (R264). -/
theorem armFrame_begins {a g : Nat} {s : State} (hz : Sized s) (hg : g < 4) (scheduled : (s.sg g).state = .scheduled)
    (due : 128 * (s.sg g).armNext ≤ (advance a s).time.tick) : ∃ t shifts, exec (.armFrame a g) s = .next t ∧
      t.sg g = (s.sg g).begun (s.sg g).config.mask (s.sg g).armNext shifts := by
  obtain ⟨shifts, armed⟩ := armGroup_seg g (advance a s)
  refine ⟨_, shifts, rfl, ?_⟩
  have comes : ¬ (((advance a s).sg g).state ≠ .scheduled ∨ (advance a s).time.tick < 128 * ((advance a s).sg g).armNext) :=
    not_or.2 ⟨not_not_intro scheduled, Nat.not_lt_of_le due⟩
  extract_lets
  rw [if_neg comes, sg_congr (replyOpt_seg ..), sg_congr armed]
  exact sg_updSg_self _ _ _ (hz.sg_lt hg)

/-- A pending group whose hold does not lift in time is disarmed (R459, R493). -/
theorem armHoldTimeout_disarms (a : Nat) {g : Nat} {s : State} (hz : Sized s) (hg : g < 4) (pending : (s.sg g).state = .pending) :
    ∃ t, exec (.armHoldTimeout a g) s = .next t ∧ t.sg g = { s.sg g with state := .disarmed, armWaiter := none } := by
  refine ⟨_, rfl, ?_⟩
  have ends : endPending g (advance a s) = replyOpt (s.sg g).armWaiter SYSTEM_DISAGREE (armFailed 0xFF 0xFF)
      (updSg g (fun x => { x with state := .disarmed, armWaiter := none }) (advance a s)) := by
    simp only [endPending, advance_sg, pending]
  rw [ends, sg_congr (replyOpt_seg ..)]
  exact sg_updSg_self _ _ _ (hz.sg_lt hg)

/-! ### STRAND_WRITTEN (R263, R275) -/

/-- The strands of an input are in memory, in the segment of a sequence number. -/
def SegGroup.strandsWritten (n sequence : Nat) (x : SegGroup) : SegGroup :=
  { x with writing := x.writing.map fun f => if f.sequence = sequence then { f with written := n :: f.written } else f }

/-- The oldest segment that lacks an input's strands gets them, once they are in hand and the hold has passed (R263). -/
theorem strandWritten_marks {a g n : Nat} {s : State} {f : Segment} (hz : Sized s) (hg : g < 4) (serves : s.memServes = true)
    (input : (s.sg g).config.mask.testBit n = true) (armed : (s.sg g).armed = true) (idle : (s.sg g).filling = none)
    (lacks : (s.sg g).lacking n = some f) (filled : f.filled = true) (held : f.fillEnd + s.holdTicks g ≤ (advance a s).time.tick)
    (ready : s.strandsReady g n f = true) :
    ∃ t, exec (.strandWritten a g n) s = .next t ∧ t.sg g = (s.sg g).strandsWritten n f.sequence := by
  have writes : execStrandWritten a g n s = .next (markWritten g n f.sequence (writeSegment g n f (advance a s))) := by
    unfold execStrandWritten
    extract_lets _ u x
    have found : u = advance a s := endFill_idle idle
    have group : x = s.sg g := sg_congr (congrArg State.seg found) g
    clear_value x u
    subst found group
    rw [if_neg (by simp [serves, input, armed]), lacks]
    exact congrArg _ (if_pos (by simp only [filled, Bool.true_and, Bool.and_eq_true, decide_eq_true_eq]; exact ⟨held, ready⟩))
  refine ⟨_, writes, ?_⟩
  have groups : (writeSegment g n f (advance a s)).seg = s.seg := writeSegment_seg ..
  rw [← sg_congr groups]
  exact sg_updSg_self g _ _ (by rw [groups]; exact hz.sg_lt hg)

/-! ### POSTMARK_FILL (R275) -/

/-- A segment that waits for it gets its postmark filled with 0, once its slot is free. -/
theorem postmarkFill_fills (a : Nat) {g : Nat} {s : State} {f : Segment} (hz : Sized s) (hg : g < 4) (serves : s.memServes = true)
    (idle : (s.sg g).filling = none) (waits : (s.sg g).writing.find? (fun f => ! f.filled) = some f)
    (free : (s.sg g).slotBusy f.slot f.sequence = false) :
    ∃ t, exec (.postmarkFill a g) s = .next t ∧ t.memBytes ((s.sg g).config.postmarkAt f.slot) 64 = zeros 64 ∧
      (t.sg g).writing = ((s.sg g).postmarkFilled f.sequence).writing := by
  have group : (s.atEvent a g).sg g = s.sg g := by rw [atEvent_idle a idle, advance_sg]
  have filled := postmarkFill_waiting (a := a) serves (group.symm ▸ waits)
  rw [group, free, if_neg Bool.false_ne_true, atEvent_idle a idle] at filled
  exact ⟨_, filled, memBytes_memZero .., congrArg SegGroup.writing (sg_updSg_self _ _ _ (hz.sg_lt hg))⟩

/-! ### POSTMARK_WRITTEN (R274) -/

/-- The oldest segment has its postmark. -/
def SegGroup.postmarked (f : Segment) (rest : List Segment) (x : SegGroup) : SegGroup :=
  { x with writing := rest, written := x.written + 1, lastWritten := f.sequence }

/-- Pruning outputs keeps every other figure of the groups. -/
theorem prunePositions_keeps_field {β : Type} (p : SegGroup → β) (g : Nat) (s : State) (h : Nat)
    (hp : ∀ (x : SegGroup) l, p { x with positions := l } = p x := by intros; rfl) :
    p ((prunePositions g s).sg h) = p (s.sg h) := updSg_keeps_field p g h s fun x => hp x _

theorem copied_seg (b : Bool) (n : Nat) (o : Offer) (s : State) : (if b then offer n o s else s).seg = s.seg := by
  cases b
  · rfl
  · exact offer_seg n o s

/-- The hamper, where it has not taken the segment yet, and the engines take it. -/
theorem handedOn_seg (g q : Nat) (f : Segment) (s : State) :
    (toEngines g q f (if f.handed then s else toHamper g q f s)).seg = s.seg := by
  rw [toEngines_seg]; split <;> rfl

/-- With all its strands in memory, the oldest segment gets its postmark; outputs are pruned and stops reviewed behind it
(R274, R275). -/
theorem postmarkWritten_leads (a : Nat) {g : Nat} {s : State} {f : Segment} {rest : List Segment} (hz : Sized s) (hg : g < 4)
    (serves : s.memServes = true) (idle : (s.sg g).filling = none) (oldest : (s.sg g).writing = f :: rest)
    (filled : f.filled = true) (strands : ∀ n ∈ inputsIn f.mask, f.written.contains n = true) :
    ∃ v, exec (.postmarkWritten a g) s = .next (reviewStops (reviewStop g (prunePositions g v))) ∧
      v.sg g = (s.sg g).postmarked f rest := by
  change ∃ v, execPostmarkWritten a g s = .next _ ∧ _
  unfold execPostmarkWritten
  extract_lets _ u x c
  have found : u = advance a s := endFill_idle idle
  have group : x = s.sg g := sg_congr (congrArg State.seg found) g
  clear_value x u
  subst found group
  rw [oldest]
  refine ⟨_, congrArg Host.Outcome.next (if_neg (by simpa [serves, filled] using strands)), ?_⟩
  rw [sg_congr ((capture_seg ..).trans (copied_seg ..)), sg_congr (updSg_seg_congr (handedOn_seg ..) ..)]
  exact sg_updSg_self _ _ _ (hz.sg_lt hg)

/-- What the postmark of the oldest segment leaves of its group (R274, R275). -/
theorem postmarkWritten_counts (a : Nat) {g : Nat} {s : State} {f : Segment} {rest : List Segment} (hz : Sized s) (hg : g < 4)
    (serves : s.memServes = true) (idle : (s.sg g).filling = none) (oldest : (s.sg g).writing = f :: rest)
    (filled : f.filled = true) (strands : ∀ n ∈ inputsIn f.mask, f.written.contains n = true) :
    ∃ t, exec (.postmarkWritten a g) s = .next t ∧ (t.sg g).written = (s.sg g).written + 1 ∧
      (t.sg g).lastWritten = f.sequence ∧ ((s.sg g).state = .capturing → (t.sg g).writing = rest) := by
  obtain ⟨v, written, group⟩ := postmarkWritten_leads a hz hg serves idle oldest filled strands
  refine ⟨_, written, ?_, ?_, fun capturing => ?_⟩
  all_goals rw [sg_congr (reviewStops_seg _)]
  · rw [reviewStop_keeps_field SegGroup.written, prunePositions_keeps_field SegGroup.written, group]
    rfl
  · rw [reviewStop_keeps_field SegGroup.lastWritten, prunePositions_keeps_field SegGroup.lastWritten, group]
    rfl
  · obtain goes_on | ⟨stopping, -⟩ := reviewStop_cases g (prunePositions g v)
    · rw [goes_on, prunePositions_keeps_field SegGroup.writing, group]
      rfl
    · rw [prunePositions_keeps_field SegGroup.state, group] at stopping
      cases capturing.symm.trans stopping

/-! ### GROUP_DISARM (R265) -/

/-- A stopping group with nothing in hand is disarmed behind its stop frame, once every trigger before it is classified. -/
theorem groupDisarm_ends {a g : Nat} {s u : State} (hu : u = evaluate (advance a s)) (stopping : (u.sg g).state = .stopping)
    (filling : (u.sg g).filling = none) (writing : (u.sg g).writing = []) (past : 128 * u.stopFrame g ≤ u.time.tick)
    (classified : u.allClassified g (u.stopFrame g) = true) :
    ∃ t, exec (.groupDisarm a g) s = .next t ∧ t.sg g = (u.sg g).ended := by
  have ends : execGroupDisarm a g s = .next (reviewStops (reviewStop g u)) := by
    unfold execGroupDisarm
    rw [← hu]
    extract_lets _ v
    have found : v = u := endFill_idle filling
    rw [found, if_neg (Nat.not_lt_of_le past)]
  exact ⟨_, ends, by rw [sg_congr (reviewStops_seg _), reviewStop_ends stopping filling writing classified]⟩

/-- Settles O17: each event, by what it does to the group that it is of. -/
theorem segmentEvents : Obligations.SegmentEvents := by
  refine ⟨fun a g s hz hg scheduled due => ?_, fun a g s hz hg pending => armHoldTimeout_disarms a hz hg pending,
    fun a g n s f hz hg serves input armed idle lacks filled held ready => ?_,
    fun a g s f hz hg serves idle waits free => ?_,
    fun a g s f rest hz hg serves idle oldest filled strands =>
      postmarkWritten_counts a hz hg serves idle oldest filled strands,
    fun a g s u _ _ hu stopping filling writing past classified => ?_⟩
  · obtain ⟨t, shifts, ht, begun⟩ := armFrame_begins hz hg scheduled due
    exact ⟨t, ht, by simp [begun, SegGroup.begun]⟩
  · obtain ⟨t, ht, written⟩ := strandWritten_marks hz hg serves input armed idle lacks filled held ready
    exact ⟨t, ht, congrArg SegGroup.writing written⟩
  · exact postmarkFill_fills a hz hg serves idle waits free
  · obtain ⟨t, ht, ended⟩ := groupDisarm_ends hu stopping filling writing past classified
    exact ⟨t, ht, by simp [ended, SegGroup.ended]⟩

end Sys2Proof.Machine

/-! The requests of group 0x07: the configuration, the arm and the stop of a capture group, and the status. -/

namespace Sys2Proof.Machine

-- One proof after another, as for group 0x04: proofs elaborated side by side need more memory than the compile may take.
set_option Elab.async false

/-! ### What the action of a request finds, and what it leaves -/

@[simp] theorem behindRecord_seg (c q s) : (behindRecord c q s).seg = s.seg := by simp [behindRecord]
@[simp] theorem behindRecord_sync (c q s) : (behindRecord c q s).sync = s.sync := by simp [behindRecord]

theorem behindRecord_sg (c q s) (g : Nat) : (behindRecord c q s).sg g = s.sg g := sg_congr (behindRecord_seg c q s) g

/-- What follows the action of an accepted class C command leaves the capture groups. -/
theorem runRequest_acts_seg {c : Cmd} {q : Request} {s : State} (h : accepts c q s = true) (hc : c.classC = true) :
    (runRequest c q s).seg = (c.act (acceptedWaiter c q s) q (behindRecord c q s)).seg := by
  rw [runRequest_accepts h, acceptRequest_classC hc, noteSnapshots_seg, noteScope_seg]
  rfl

theorem runRequest_acts_sg {c : Cmd} {q : Request} {s v : State} (h : accepts c q s = true) (hc : c.classC = true)
    (hv : c.act (acceptedWaiter c q s) q (behindRecord c q s) = v) (g : Nat) : (runRequest c q s).sg g = v.sg g := by
  subst hv
  exact sg_congr (runRequest_acts_seg h hc) g

/-- A session whose request is accepted, and whose action leaves the sessions, waits for its reply. -/
theorem runRequest_acts_running {c : Cmd} {q : Request} {s v : State} (h : accepts c q s = true) (hc : c.classC = true)
    (hz : s.sess.length = 32) (hv : c.act (acceptedWaiter c q s) q (behindRecord c q s) = v)
    (hs : v.sess = (behindRecord c q s).sess) : ((runRequest c q s).session q.sess).st = .running := by
  have sessions : (runRequest c q s).sess = (served c q s).sess := by
    rw [(runRequest_acts h hc).1, hv, hs, behindRecord_sess]
  rw [session_congr sessions, served_session (hz ▸ accepts_sess h)]

/-- A request whose first field check is that of its group names one. -/
theorem groupField_lt {c : Cmd} {q : Request} {s : State} (hz : Sized s) (h : accepts c q s = true)
    (hf : within 0 3 (q.u8 0) ∈ c.checks (served c q s) q) : q.u8 0 < s.seg.length := by
  have range := within_eq_none (accepts_checks h _ hf)
  exact hz.sg_lt (by omega)

/-! ### SEG_CONFIGURE (R253, R254) -/

/-- SEG_CONFIGURE sets its group's configuration and leaves the other groups alone. -/
theorem segConfigure_sets {q : Request} {s : State} (hz : Sized s) (h : accepts segConfigureCmd q s = true) :
    ∃ t, exec (.segConfigure q) s = .next t ∧ answers segConfigureCmd q OK [] t ∧
      t.sg (q.u8 0) = { s.sg (q.u8 0) with config := segRequest q } ∧ ∀ g, g ≠ q.u8 0 → t.sg g = s.sg g := by
  have group := groupField_lt hz h (List.mem_cons_self ..)
  have configured (g : Nat) : (runRequest segConfigureCmd q s).sg g =
      (updSg (q.u8 0) (fun x => { x with config := segRequest q }) (behindRecord segConfigureCmd q s)).sg g :=
    (runRequest_acts_sg h rfl rfl g).trans (sg_congr (reply_seg ..) g)
  refine ⟨_, rfl, runRequest_answers h hz.1 fun _ _ => ⟨_, rfl, rfl⟩, ?_, fun g other => ?_⟩
  · rw [configured, sg_updSg_self _ _ _ (by rwa [behindRecord_seg]), behindRecord_sg]
  · rw [configured, sg_updSg, if_neg fun e => other e.1.symm, behindRecord_sg]

/-! ### SEG_ARM (R262 to R264, R489) -/

/-- A group whose arm waits, scheduled for a frame or pending under the system. -/
def SegGroup.waiting (state : CaptureState) (frame : Nat) (w : Waiter) (x : SegGroup) : SegGroup :=
  { x with state := state, armNext := frame, armWaiter := some w }

/-- Of the capture groups and the sessions, the action of SEG_ARM changes its own group alone. -/
theorem segArm_act (w : Waiter) (q : Request) (s : State) : (segArmCmd.act w q s).sess = s.sess ∧
    (segArmCmd.act w q s).seg = (updSg (q.u8 0) (fun x => if s.sync.st = 0 then x.waiting .scheduled (s.armFrameOf q) w
      else x.waiting .pending x.armNext w) s).seg := by
  by_cases alone : s.sync.st = 0 <;> simp only [segArmCmd, alone, if_true, if_false] <;> exact ⟨rfl, rfl⟩

/-- SEG_ARM schedules its group for its arm frame, or leaves it pending where the module has a role in a system. -/
theorem segArm_waits {q : Request} {s : State} (hz : Sized s) (h : accepts segArmCmd q s = true) :
    ∃ t, exec (.segArm q) s = .next t ∧ (t.session q.sess).st = .running ∧
      t.sg (q.u8 0) = (if s.sync.st = 0 then
          (s.sg (q.u8 0)).waiting .scheduled ((served segArmCmd q s).armFrameOf q) (acceptedWaiter segArmCmd q s)
        else (s.sg (q.u8 0)).waiting .pending (s.sg (q.u8 0)).armNext (acceptedWaiter segArmCmd q s)) ∧
      ∀ g, g ≠ q.u8 0 → t.sg g = s.sg g := by
  have group := groupField_lt hz h (List.mem_cons_self ..)
  obtain ⟨sessions, groups⟩ := segArm_act (acceptedWaiter segArmCmd q s) q (behindRecord segArmCmd q s)
  have frame : (behindRecord segArmCmd q s).armFrameOf q = (served segArmCmd q s).armFrameOf q := by
    simp only [State.armFrameOf, behindRecord_nextBoundary]
  rw [behindRecord_sync, frame] at groups
  refine ⟨_, rfl, runRequest_acts_running h rfl hz.1 rfl sessions, ?_, fun g other => ?_⟩
  · rw [runRequest_acts_sg h rfl rfl, sg_congr groups, sg_updSg_self _ _ _ (by rwa [behindRecord_seg]), behindRecord_sg]
  · rw [runRequest_acts_sg h rfl rfl, sg_congr groups, sg_updSg, if_neg fun e => other e.1.symm, behindRecord_sg]

/-! ### SEG_STOP (R265) -/

/-- One more waits for the end of the capture. -/
def SegGroup.awaitedBy (w : Waiter) (x : SegGroup) : SegGroup := { x with stopWaiters := x.stopWaiters ++ [w] }

theorem segStop_act_capturing {w : Waiter} {q : Request} {s : State} (h : (s.sg (q.u8 0)).state = .capturing) :
    segStopCmd.act w q s = updSg (q.u8 0) (SegGroup.awaitedBy w) (stopCapture (q.u8 0) (q.bit 1 0) s) := by
  simp only [segStopCmd, h]
  rfl

theorem segStop_act_stopping {w : Waiter} {q : Request} {s : State} (h : (s.sg (q.u8 0)).state = .stopping) :
    segStopCmd.act w q s =
      updSg (q.u8 0) (SegGroup.awaitedBy w) (if q.bit 1 0 then abortStop (q.u8 0) s else s) := by
  simp only [segStopCmd, h]
  rfl

/-- A capturing group stops with its reason from a tick on. -/
theorem stopGroup_capturing {g reason tick : Nat} {s : State} (h : (s.sg g).state = .capturing) :
    (stopGroup g reason tick s).sg g = { s.sg g with state := .stopping, reason := reason, stopTick := some tick } := by
  rw [stopGroup, sg_updSg_self _ _ _ (sg_lt_of_ne fun e => by simp [e] at h), h]

/-- The first SEG_STOP with abort is noted; the rest of the group is as before. -/
theorem noteAbort_keeps_field {β : Type} (p : SegGroup → β) (g : Nat) (s : State) (h : Nat)
    (hp : ∀ (x : SegGroup) a, p { x with abortTick := a } = p x := by intros; rfl) : p ((noteAbort g s).sg h) = p (s.sg h) :=
  updSg_keeps_field p g h s fun x => hp x _

/-- What a stop decides of a group: its state, its reason, from when it counts triggers as in Fill, and who waits. -/
def SegGroup.stop (x : SegGroup) : CaptureState × Nat × Option Nat × List Waiter := (x.state, x.reason, x.stopTick, x.stopWaiters)

theorem SegGroup.awaitedBy_filling (w : Waiter) (x : SegGroup) : (x.awaitedBy w).filling = x.filling := rfl

theorem SegGroup.awaitedBy_stop (w : Waiter) (x : SegGroup) :
    (x.awaitedBy w).stop = (x.stop.1, x.stop.2.1, x.stop.2.2.1, x.stop.2.2.2 ++ [w]) := rfl

theorem stopGroup_stop {g reason tick : Nat} {s u : State} (capturing : (s.sg g).state = .capturing)
    (state : (u.sg g).state = (s.sg g).state) (waiters : (u.sg g).stopWaiters = (s.sg g).stopWaiters) :
    ((stopGroup g reason tick u).sg g).stop = (.stopping, reason, some tick, (s.sg g).stopWaiters) := by
  rw [stopGroup_capturing (state.trans capturing), ← waiters]
  rfl

/-- The segment that fills is completed under a stop. -/
def SegGroup.completing (x : SegGroup) : SegGroup := { x with filling := x.filling.map fun f => { f with underStop := true } }

theorem stopCapture_plain (g : Nat) (s : State) : stopCapture g false s =
    updSg g SegGroup.completing (stopGroup g 1 s.time.tick (endFill g s.time.tick s)) := rfl

theorem stopCapture_abort (g : Nat) (s : State) : stopCapture g true s =
    discardFill g (stopGroup g 2 s.time.tick (endFill g s.time.tick (noteAbort g s))) := rfl

/-- A capturing group stops at the present tick: with reason 1, or with abort with reason 2 (R265). -/
theorem stopCapture_stop {g : Nat} {s : State} (abort : Bool) (capturing : (s.sg g).state = .capturing) :
    ((stopCapture g abort s).sg g).stop =
      (.stopping, if abort then 2 else 1, some s.time.tick, (s.sg g).stopWaiters) := by
  cases abort
  · rw [stopCapture_plain, updSg_keeps_field SegGroup.stop]
    refine stopGroup_stop capturing ?_ ?_
    · exact endFill_keeps_field SegGroup.state ..
    · exact endFill_keeps_field SegGroup.stopWaiters ..
  · rw [stopCapture_abort, discardFill_keeps_field SegGroup.stop]
    refine stopGroup_stop capturing ?_ ?_
    · exact (endFill_keeps_field SegGroup.state ..).trans (noteAbort_keeps_field SegGroup.state ..)
    · exact (endFill_keeps_field SegGroup.stopWaiters ..).trans (noteAbort_keeps_field SegGroup.stopWaiters ..)

theorem stopCapture_abort_filling (g : Nat) (s : State) : ((stopCapture g true s).sg g).filling = none := by
  rw [stopCapture_abort, discardFill_filling]

theorem stopCapture_sess (g : Nat) (abort : Bool) (s : State) : (stopCapture g abort s).sess = s.sess := by
  cases abort
  · rw [stopCapture_plain, updSg_sess, stopGroup, updSg_sess, endFill_sess]
  · rw [stopCapture_abort, discardFill_sess, stopGroup, updSg_sess, endFill_sess, noteAbort, updSg_sess]

theorem stopCapture_seg_length (g : Nat) (abort : Bool) (s : State) : (stopCapture g abort s).seg.length = s.seg.length := by
  cases abort
  · rw [stopCapture_plain, updSg_length, stopGroup, updSg_length, endFill_seg_length]
  · rw [stopCapture_abort, discardFill_seg_length, stopGroup, updSg_length, endFill_seg_length, noteAbort, updSg_length]

/-- An abort of a group that stops already takes the segment that fills away. -/
theorem abortStop_filling (g : Nat) (s : State) : ((abortStop g s).sg g).filling = none := by
  unfold abortStop; extract_lets v; split
  · exact discardFill_filling ..
  · next idle => exact Option.not_isSome_iff_eq_none.1 idle

/-- Such an abort leaves the state, and who waits. -/
theorem abortStop_keeps_field {β : Type} (p : SegGroup → β) (g : Nat) (s : State) (h : Nat)
    (hp : ∀ (x : SegGroup) f w l fr b a r t d, p { x with
      filling := f, writing := w, landed := l, storeFrame := fr, filled := b, abortTick := a, reason := r, stopTick := t
      discarded := d } = p x := by intros; rfl) : p ((abortStop g s).sg h) = p (s.sg h) := by
  have noted : p ((noteAbort g (endFill g s.time.tick s)).sg h) = p (s.sg h) :=
    (noteAbort_keeps_field p g _ h fun x a => hp x _ _ _ _ _ a _ _ _).trans
      (endFill_keeps_field p g _ s h fun x f w l fr b => hp x f w l fr b _ _ _ _)
  unfold abortStop; extract_lets v; split
  · exact ((discardFill_keeps_field p g _ h fun x d => hp x _ _ _ _ _ _ _ _ d).trans
      (updSg_keeps_field p g h v fun x => hp x _ _ _ _ _ _ _ _ _)).trans noted
  · exact noted

theorem abortStop_sess (g : Nat) (s : State) : (abortStop g s).sess = s.sess := by
  unfold abortStop; extract_lets v; split
  · exact (discardFill_sess ..).trans (endFill_sess ..)
  · exact endFill_sess ..

theorem abortStop_seg_length (g : Nat) (s : State) : (abortStop g s).seg.length = s.seg.length := by
  have noted : (noteAbort g (endFill g s.time.tick s)).seg.length = s.seg.length :=
    (updSg_length ..).trans (endFill_seg_length ..)
  unfold abortStop; extract_lets v; split
  · exact (discardFill_seg_length ..).trans ((updSg_length ..).trans noted)
  · exact noted

/-- SEG_STOP on a capturing group: it stops at the present tick, and the reply waits (R265). -/
theorem segStop_capturing {q : Request} {s : State} (hz : Sized s) (h : accepts segStopCmd q s = true)
    (capturing : (s.sg (q.u8 0)).state = .capturing) :
    ∃ t, exec (.segStop q) s = .next t ∧ (t.session q.sess).st = .running ∧
      (t.sg (q.u8 0)).stop = (.stopping, if q.bit 1 0 then 2 else 1, some (served segStopCmd q s).time.tick,
        (s.sg (q.u8 0)).stopWaiters ++ [acceptedWaiter segStopCmd q s]) ∧
      (q.bit 1 0 = true → (t.sg (q.u8 0)).filling = none) := by
  let u := behindRecord segStopCmd q s
  have group := groupField_lt hz h (List.mem_cons_self ..)
  have found : (u.sg (q.u8 0)).state = .capturing := by rw [behindRecord_sg, capturing]
  have acts := segStop_act_capturing (w := acceptedWaiter segStopCmd q s) (q := q) found
  have stopped : (runRequest segStopCmd q s).sg (q.u8 0) =
      ((stopCapture (q.u8 0) (q.bit 1 0) u).sg (q.u8 0)).awaitedBy (acceptedWaiter segStopCmd q s) :=
    (runRequest_acts_sg h rfl acts _).trans
      (sg_updSg_self _ _ _ (by rwa [stopCapture_seg_length, behindRecord_seg]))
  have stop := stopCapture_stop (q.bit 1 0) found
  rw [behindRecord_sg, behindRecord_time] at stop
  refine ⟨_, rfl, runRequest_acts_running h rfl hz.1 acts (stopCapture_sess ..), ?_, fun abort => ?_⟩
  · rw [stopped, SegGroup.awaitedBy_stop, stop]
  · rw [stopped, SegGroup.awaitedBy_filling, abort, stopCapture_abort_filling]

/-- SEG_STOP on a group that stops already: without abort it only waits, and with abort the segment that fills is taken
away (R265). -/
theorem segStop_stopping {q : Request} {s : State} (hz : Sized s) (h : accepts segStopCmd q s = true)
    (stopping : (s.sg (q.u8 0)).state = .stopping) :
    ∃ t x, exec (.segStop q) s = .next t ∧ (t.session q.sess).st = .running ∧
      t.sg (q.u8 0) = x.awaitedBy (acceptedWaiter segStopCmd q s) ∧ x.state = .stopping ∧
      x.stopWaiters = (s.sg (q.u8 0)).stopWaiters ∧ (q.bit 1 0 = false → x = s.sg (q.u8 0)) ∧
      (q.bit 1 0 = true → x.filling = none) := by
  let u := behindRecord segStopCmd q s
  have same : u.sg (q.u8 0) = s.sg (q.u8 0) := behindRecord_sg ..
  have group : q.u8 0 < u.seg.length := by rw [behindRecord_seg]; exact groupField_lt hz h (List.mem_cons_self ..)
  have acts := segStop_act_stopping (w := acceptedWaiter segStopCmd q s) (q := q) (same.symm ▸ stopping)
  cases abort : q.bit 1 0 <;> rw [abort] at acts
  case false =>
    exact ⟨_, _, rfl, runRequest_acts_running h rfl hz.1 acts rfl,
      (runRequest_acts_sg h rfl acts _).trans (sg_updSg_self _ _ _ group), same ▸ stopping, congrArg _ same, fun _ => same, nofun⟩
  case true =>
    refine ⟨_, _, rfl, runRequest_acts_running h rfl hz.1 acts (abortStop_sess ..),
      (runRequest_acts_sg h rfl acts _).trans (sg_updSg_self _ _ _ (by rwa [if_pos rfl, abortStop_seg_length])), ?_, ?_, nofun,
      fun _ => abortStop_filling ..⟩
    · exact (abortStop_keeps_field SegGroup.state ..).trans (same ▸ stopping)
    · exact (abortStop_keeps_field SegGroup.stopWaiters ..).trans (congrArg _ same)

/-- Settles O16: each request, by what its action leads to on the state behind its record. -/
theorem segmentRequests : Obligations.SegmentRequests := by
  refine ⟨fun _ _ hz h => segConfigure_sets hz h, fun q s hz h => ?_, fun q s hz h capturing => ?_, fun q s hz h stopping => ?_,
    fun q s hz h => ⟨_, rfl, runRequest_reads (fun u => (List.range 4).flatMap (segRecord u)) h hz.1 rfl fun w u =>
      ⟨_, rfl, rfl, rfl, rfl⟩⟩⟩
  · obtain ⟨t, ht, running, arm, others⟩ := segArm_waits hz h
    refine ⟨t, ht, running, fun alone => ?_, fun system => ?_, ⟨acceptedWaiter segArmCmd q s, ?_, rfl, rfl⟩, others⟩
    · rw [arm, if_pos alone]
      exact ⟨rfl, rfl⟩
    · rw [arm, if_neg system]
      rfl
    · rw [arm]
      split <;> rfl
  · obtain ⟨t, ht, running, stop, filling⟩ := segStop_capturing hz h capturing
    simp only [SegGroup.stop, Prod.mk.injEq] at stop
    obtain ⟨state, reason, tick, waiters⟩ := stop
    exact ⟨t, ht, running, state, reason, filling, tick, _, waiters, rfl, rfl⟩
  · obtain ⟨t, x, ht, running, group, state, waiters, same, filling⟩ := segStop_stopping hz h stopping
    refine ⟨t, ht, running, ?_, acceptedWaiter segStopCmd q s, rfl, rfl, ?_, fun stays => ?_, fun abort => ?_⟩
    all_goals rw [group]
    · exact state
    · rw [← waiters]; rfl
    · rw [same stays]; rfl
    · exact filling abort

end Sys2Proof.Machine

/-! What the shared operations of the hamper do to the accumulators: updates of one of them, stops, and the review of stops. -/

namespace Sys2Proof.Machine

-- One proof after another, as for group 0x04: proofs elaborated side by side need more memory than the compile may take.
set_option Elab.async false

/-! ### Accumulators -/

theorem acc_updAcc (a b : Nat) (f : Accumulator → Accumulator) (s : State) :
    (updAcc a f s).acc b = if a = b ∧ a < s.ham.accs.length then f (s.acc b) else s.acc b := getD_updAt ..

@[simp] theorem acc_updAcc_self (a : Nat) (f : Accumulator → Accumulator) (s : State) (h : a < s.ham.accs.length) :
    (updAcc a f s).acc a = f (s.acc a) := by simp [acc_updAcc, h]

theorem acc_updAcc_ne {a b : Nat} (h : b ≠ a) (f : Accumulator → Accumulator) (s : State) : (updAcc a f s).acc b = s.acc b := by
  rw [acc_updAcc, if_neg fun e => h e.1.symm]

@[simp] theorem updAcc_length (a : Nat) (f : Accumulator → Accumulator) (s : State) :
    (updAcc a f s).ham.accs.length = s.ham.accs.length := updAt_length ..

/-- A figure of the accumulators that an update keeps is as before. -/
theorem updAcc_keeps_field {β : Type} (p : Accumulator → β) {f : Accumulator → Accumulator} (a b : Nat) (s : State)
    (hp : ∀ x, p (f x) = p x := by intro; rfl) : p ((updAcc a f s).acc b) = p (s.acc b) := by
  rw [acc_updAcc]; split
  · exact hp _
  · rfl

theorem acc_congr {s t : State} (h : t.ham = s.ham) (a : Nat) : t.acc a = s.acc a := by
  simp only [State.acc, h]

theorem updAcc_ham_congr {s t : State} (h : t.ham = s.ham) (a : Nat) (f : Accumulator → Accumulator) :
    (updAcc a f t).ham = (updAcc a f s).ham := by simp only [updAcc, h]

@[simp] theorem advance_acc (a : Nat) (s : State) (n : Nat) : (advance a s).acc n = s.acc n := rfl

theorem Sized.acc_lt {s : State} (h : Sized s) {a : Nat} (ha : a < 64) : a < s.ham.accs.length := by
  obtain ⟨-, -, -, -, -, -, -, -, -, -, -, -, -, -, -, -, -, length, -⟩ := h
  omega

/-! ### Stops (R286) -/

/-- An accumulator that a stop has made Idle, with its reason. -/
def Accumulator.stopped (reason : Nat) (x : Accumulator) : Accumulator :=
  { x with st := .idle, stopping := none, waiting := [], cut := none, held := [], lastReason := reason }

/-- Of the hamper, a stop changes its own accumulator. -/
theorem stopAcc_ham (a reason : Nat) (s : State) : (stopAcc a reason s).ham = (updAcc a (Accumulator.stopped reason) s).ham := by
  unfold stopAcc; extract_lets
  exact (replyOpt_ham ..).trans (stageBody_ham ..)

/-- Who waits for the stop gets OK. -/
theorem stopAcc_replies {a stop : Nat} {succ : Option Nat} {w : Waiter} {s : State} (reason : Nat)
    (h : (s.acc a).stopping = some (stop, succ, w)) : ∃ v, stopAcc a reason s = reply w OK [] v ∧ v.sess = s.sess := by
  unfold stopAcc; extract_lets x succ waiter u v
  have waits : waiter = some w := by simp only [waiter, x, h, Option.map_some]
  exact ⟨v, by rw [waits]; rfl, stageBody_sess ..⟩

/-- A review of the stops, at one accumulator. -/
def reviewAcc (a : Nat) (s : State) : State :=
  match (s.acc a).stopping with
  | some (stop, succ, _) => if s.stopComplete (s.acc a) stop then stopAcc a (if succ.isSome then 2 else 1) s else s
  | none => s

/-- A review of the stops is one of each accumulator in turn. -/
theorem reviewStops_eq (s : State) : reviewStops s = forEach 64 reviewAcc s := rfl

theorem reviewAcc_of_none {a : Nat} {s : State} (h : (s.acc a).stopping = none) : reviewAcc a s = s := by
  simp only [reviewAcc, h]

theorem reviewAcc_of_some {a stop : Nat} {succ : Option Nat} {w : Waiter} {s : State}
    (h : (s.acc a).stopping = some (stop, succ, w)) : reviewAcc a s =
      if s.stopComplete (s.acc a) stop then stopAcc a (if succ.isSome then 2 else 1) s else s := by
  simp only [reviewAcc, h]

theorem reviewAcc_acc_ne {a b : Nat} (h : b ≠ a) (s : State) : (reviewAcc a s).acc b = s.acc b := by
  unfold reviewAcc; split
  · split
    · rw [acc_congr (stopAcc_ham ..), acc_updAcc_ne h]
    · rfl
  · rfl

/-- A review leaves an accumulator that does not stop. -/
theorem reviewStops_acc_of_none {a : Nat} {s : State} (h : (s.acc a).stopping = none) : (reviewStops s).acc a = s.acc a := by
  rw [reviewStops_eq]
  refine forEach_induct (P := fun t => t.acc a = s.acc a) (fun b t same => ?_) 64 rfl
  by_cases own : a = b
  · subst own
    rwa [reviewAcc_of_none (same ▸ h)]
  · rw [reviewAcc_acc_ne own, same]

/-- Where only the turn of `a` does anything, all of them do what it does. -/
theorem forEach_once {a : Nat} {f : Nat → State → State} {s : State} (before : ∀ b, b ≠ a → f b s = s)
    (after : ∀ b, b ≠ a → f b (f a s) = f a s) (n : Nat) : forEach n f s = if a < n then f a s else s := by
  induction n with
  | zero => rfl
  | succ n ih =>
    rw [forEach_succ, ih]
    rcases Nat.lt_trichotomy a n with earlier | rfl | later
    · rw [if_pos earlier, if_pos (by omega), after n (by omega)]
    · rw [if_neg (Nat.lt_irrefl a), if_pos (Nat.lt_succ_self a)]
    · rw [if_neg (by omega), if_neg (by omega), before n (by omega)]

/-- Where only one accumulator stops, a review of the stops is a review of that one. -/
theorem reviewStops_of_one {a : Nat} {s : State} (ha : a < 64) (only : ∀ b, b ≠ a → (s.acc b).stopping = none) :
    reviewStops s = reviewAcc a s := by
  have once := forEach_once (fun b other => reviewAcc_of_none (only b other))
    (fun b other => reviewAcc_of_none (by rw [reviewAcc_acc_ne other]; exact only b other)) 64
  rw [reviewStops_eq, once, if_pos ha]

/-- Whether a stop is complete depends on capture, the trigger and time. -/
theorem stopComplete_congr {s t : State} (hseg : t.seg = s.seg) (htrg : t.trg = s.trg) (htime : t.time = s.time)
    (hclk : t.clk = s.clk) (x : Accumulator) (stop : Nat) : t.stopComplete x stop = s.stopComplete x stop := by
  cases s
  cases t
  dsimp only at hseg htrg htime hclk
  subst hseg htrg htime hclk
  rfl

end Sys2Proof.Machine

/-! The requests of group 0x08: an accumulator is configured, released, started and stopped, a spill begins, and the status. -/

namespace Sys2Proof.Machine

-- One proof after another, as for group 0x04: proofs elaborated side by side need more memory than the compile may take.
set_option Elab.async false

/-! ### What the action of a request finds, and what it leaves -/

@[simp] theorem behindRecord_ham (c q s) : (behindRecord c q s).ham = s.ham := by simp [behindRecord]
@[simp] theorem behindRecord_trg (c q s) : (behindRecord c q s).trg = s.trg := by simp [behindRecord]
@[simp] theorem behindRecord_dmx (c q s) : (behindRecord c q s).dmx = s.dmx := by simp [behindRecord]
@[simp] theorem behindRecord_clk (c q s) : (behindRecord c q s).clk = (served c q s).clk := by simp [behindRecord]

theorem behindRecord_acc (c q s) (a : Nat) : (behindRecord c q s).acc a = s.acc a := acc_congr (behindRecord_ham c q s) a

theorem behindRecord_stopComplete (c : Cmd) (q : Request) (s : State) (x : Accumulator) (stop : Nat) :
    (behindRecord c q s).stopComplete x stop = (served c q s).stopComplete x stop :=
  stopComplete_congr (s := served c q s) (t := behindRecord c q s) (behindRecord_seg ..) (behindRecord_trg ..)
    (behindRecord_time ..) (behindRecord_clk ..) ..

/-- What follows the action of an accepted class C command leaves the hamper. -/
theorem runRequest_acts_ham {c : Cmd} {q : Request} {s : State} (h : accepts c q s = true) (hc : c.classC = true) :
    (runRequest c q s).ham = (c.act (acceptedWaiter c q s) q (behindRecord c q s)).ham := by
  rw [runRequest_accepts h, acceptRequest_classC hc, noteSnapshots_ham, noteScope_ham]
  rfl

/-- Where the action changes one accumulator, that one is as changed and the others are as before. -/
theorem runRequest_sets_acc {c : Cmd} {q : Request} {s : State} {a : Nat} {f : Accumulator → Accumulator}
    (h : accepts c q s = true) (hc : c.classC = true) (ha : a < s.ham.accs.length)
    (hv : (c.act (acceptedWaiter c q s) q (behindRecord c q s)).ham = (updAcc a f (behindRecord c q s)).ham) :
    (runRequest c q s).acc a = f (s.acc a) ∧ ∀ b, b ≠ a → (runRequest c q s).acc b = s.acc b := by
  have taken (b : Nat) : (runRequest c q s).acc b = (updAcc a f (behindRecord c q s)).acc b :=
    acc_congr ((runRequest_acts_ham h hc).trans hv) b
  refine ⟨?_, fun b other => ?_⟩
  · rw [taken, acc_updAcc_self _ _ _ (by rwa [behindRecord_ham]), behindRecord_acc]
  · rw [taken, acc_updAcc_ne other, behindRecord_acc]

/-- A request whose first field check is that of its accumulator names one. -/
theorem accField_lt {c : Cmd} {q : Request} {s : State} (h : accepts c q s = true)
    (hf : within 0 63 (q.u8 0) ∈ c.checks (served c q s) q) : q.u8 0 < 64 := by
  have range := within_eq_none (accepts_checks h _ hf)
  omega

theorem firstRejection_eq_none : ∀ {l : List Rejection}, firstRejection l = none → ∀ x ∈ l, x = none
  | [], _ => by simp
  | none :: l, h => by simpa using firstRejection_eq_none (l := l) h
  | some _ :: _, h => by cases h

/-- An accepted request has passed its command's own checks. -/
theorem accepts_reject {c : Cmd} {q : Request} {s : State} (h : accepts c q s = true) : c.reject (served c q s) q = none := by
  simp only [accepts, Bool.and_eq_true, Option.isNone_iff_eq_none] at h
  obtain ⟨-, checks⟩ := h
  unfold stateChecks at checks
  split at checks
  · cases checks
  · exact checks

/-! ### HAM_CONFIGURE (R282 to R284) -/

theorem accSnapshot_congr {s t : State} (hseg : t.seg = s.seg) (hflt : t.flt = s.flt) (hinp : t.inp = s.inp) (hdmx : t.dmx = s.dmx)
    (c : AccConfig) : t.accSnapshot c = s.accSnapshot c := by
  have format : t.inputFormat = s.inputFormat := by funext n; simp only [State.inputFormat, State.weave, hflt, hinp]
  simp only [State.accSnapshot, format, State.head, State.port, hseg, hdmx]

theorem accFormat_congr {s t : State} (hseg : t.seg = s.seg) (hflt : t.flt = s.flt) (c : AccConfig) :
    t.accFormat c = s.accFormat c := by
  simp only [State.accFormat, State.fin, State.groupLow, State.sg, hseg, hflt]

theorem pagesFree_congr {s t : State} (h : t.ham = s.ham) : t.pagesFree = s.pagesFree := by simp only [State.pagesFree, h]

/-- An accumulator as HAM_CONFIGURE leaves it: Idle, with what its source fixes, and nothing else. -/
def State.configuredAcc (s : State) (c : AccConfig) : Accumulator :=
  let g := (s.sg c.group).config
  { st := .idle, config := c, snapshot := s.accSnapshot c, mask := if c.kind = 0 then g.mask else 0
    span := if c.kind = 0 then g.span else c.headSpan, format := s.accFormat c, pages := accPages c g }

theorem behindRecord_configuredAcc (k : Cmd) (q : Request) (s : State) (c : AccConfig) :
    (behindRecord k q s).configuredAcc c = s.configuredAcc c := by
  simp only [State.configuredAcc, behindRecord_sg, accFormat_congr (behindRecord_seg k q s) (behindRecord_flt k q s),
    accSnapshot_congr (behindRecord_seg k q s) (behindRecord_flt k q s) (behindRecord_inp k q s) (behindRecord_dmx k q s)]

/-- HAM_CONFIGURE leaves its accumulator as configured, and answers with its pages and those free. -/
theorem hamConfigure_sets {q : Request} {s : State} (hz : Sized s) (h : accepts hamConfigureCmd q s = true) :
    ∃ t, exec (.hamConfigure q) s = .next t ∧ t.acc (q.u8 0) = s.configuredAcc (accRequest q) ∧
      answers hamConfigureCmd q OK
        (u16 (s.configuredAcc (accRequest q)).pages ++ u16 t.pagesFree ++ zeros 4) t ∧
      ∀ a, a ≠ q.u8 0 → t.acc a = s.acc a := by
  let u := behindRecord hamConfigureCmd q s
  let v := updAcc (q.u8 0) (fun _ => u.configuredAcc (accRequest q)) u
  have acts : hamConfigureCmd.act (acceptedWaiter hamConfigureCmd q s) q u = reply (acceptedWaiter hamConfigureCmd q s) OK
      (u16 (u.configuredAcc (accRequest q)).pages ++ u16 v.pagesFree ++ zeros 4) v := rfl
  have leaves : (hamConfigureCmd.act (acceptedWaiter hamConfigureCmd q s) q u).ham = v.ham := by rw [acts, reply_ham]
  obtain ⟨taken, others⟩ := runRequest_sets_acc h rfl (hz.acc_lt (accField_lt h (List.mem_cons_self ..))) leaves
  refine ⟨_, rfl, taken.trans (behindRecord_configuredAcc ..), ?_, others⟩
  rw [pagesFree_congr ((runRequest_acts_ham h rfl).trans leaves), ← behindRecord_configuredAcc hamConfigureCmd q s]
  exact runRequest_acts_answers h rfl hz.1 acts rfl

/-! ### HAM_RELEASE, HAM_START (R284, R285) -/

/-- HAM_RELEASE leaves its accumulator Free. -/
theorem hamRelease_frees {q : Request} {s : State} (hz : Sized s) (h : accepts hamReleaseCmd q s = true) :
    ∃ t, exec (.hamRelease q) s = .next t ∧ answers hamReleaseCmd q OK [] t ∧ t.acc (q.u8 0) = {} ∧
      ∀ a, a ≠ q.u8 0 → t.acc a = s.acc a :=
  ⟨_, rfl, runRequest_answers h hz.1 fun _ _ => ⟨_, rfl, rfl⟩,
    runRequest_sets_acc h rfl (hz.acc_lt (accField_lt h (List.mem_cons_self ..))) (reply_ham ..)⟩

/-- An accumulator whose clearing has begun: empty, and for whom. -/
def Accumulator.clearingFor (standby : Bool) (w : Waiter) (x : Accumulator) : Accumulator := { x with
  segments := 0, sums := [], envelope := [], bins := [], firstSeq := 0, lastSeq := 0, skipped := [0, 0, 0, 0, 0]
  saturated := 0, sumSaturated := false, binSaturated := false, overrange := false, suspectIn := false
  unsettledIn := false, byCount := false, noSuccessor := false, clearing := some (standby, w) }

/-- HAM_START begins a clearing. -/
theorem hamStart_clears {q : Request} {s : State} (hz : Sized s) (h : accepts hamStartCmd q s = true) :
    ∃ t, exec (.hamStart q) s = .next t ∧ (t.session q.sess).st = .running ∧
      t.acc (q.u8 0) = (s.acc (q.u8 0)).clearingFor (q.bit 1 0) (acceptedWaiter hamStartCmd q s) ∧
      ∀ a, a ≠ q.u8 0 → t.acc a = s.acc a :=
  ⟨_, rfl, runRequest_acts_running h rfl hz.1 rfl rfl,
    runRequest_sets_acc h rfl (hz.acc_lt (accField_lt h (List.mem_cons_self ..))) rfl⟩

/-! ### HAM_STOP (R286) -/

/-- An accumulator that runs from a tick on. -/
def Accumulator.runFrom (tick : Nat) (x : Accumulator) : Accumulator := { x with st := .running, from_ := tick * 65536 }

/-- An accumulator that stops at a tick, with its successor and who waits. -/
def Accumulator.stopsAt (tick : Nat) (succ : Option Nat) (w : Waiter) (x : Accumulator) : Accumulator :=
  { x with stopping := some (tick, succ, w) }

/-- The successor that HAM_STOP names, if any. -/
def successorOf (q : Request) : Option Nat := if q.bit 1 0 then some (q.u8 2) else none

/-- The stop frame is noted, and the successor runs from there on. -/
def noteStop (w : Waiter) (q : Request) (s : State) : State :=
  let stop := 128 * s.nextBoundary
  let t := updAcc (q.u8 0) (Accumulator.stopsAt stop (successorOf q) w) s
  if q.bit 1 0 then updAcc (q.u8 2) (Accumulator.runFrom stop) t else t

/-- HAM_STOP notes the stop, and a review of the stops follows. -/
theorem hamStop_act (w : Waiter) (q : Request) (s : State) : hamStopCmd.act w q s = reviewStops (noteStop w q s) := by
  dsimp only [hamStopCmd]
  exact congrArg reviewStops rfl

theorem noteStop_sess (w : Waiter) (q : Request) (s : State) : (noteStop w q s).sess = s.sess := by
  unfold noteStop; extract_lets; split <;> rfl

theorem noteStop_length (w : Waiter) (q : Request) (s : State) : (noteStop w q s).ham.accs.length = s.ham.accs.length := by
  unfold noteStop; extract_lets; split
  · exact (updAcc_length ..).trans (updAcc_length ..)
  · exact updAcc_length ..

theorem noteStop_stopComplete (w : Waiter) (q : Request) (s : State) (x : Accumulator) (stop : Nat) :
    (noteStop w q s).stopComplete x stop = s.stopComplete x stop := by
  unfold noteStop; extract_lets; split <;> exact stopComplete_congr rfl rfl rfl rfl ..

theorem noteStop_acc_own {w : Waiter} {q : Request} {s : State} (ha : q.u8 0 < s.ham.accs.length)
    (apart : q.bit 1 0 = true → q.u8 0 ≠ q.u8 2) :
    (noteStop w q s).acc (q.u8 0) = (s.acc (q.u8 0)).stopsAt (128 * s.nextBoundary) (successorOf q) w := by
  unfold noteStop; extract_lets; split
  case isTrue names => rw [acc_updAcc_ne (apart names), acc_updAcc_self _ _ _ ha]
  case isFalse => exact acc_updAcc_self _ _ _ ha

theorem noteStop_acc_successor {w : Waiter} {q : Request} {s : State} (names : q.bit 1 0 = true)
    (hb : q.u8 2 < s.ham.accs.length) (apart : q.u8 0 ≠ q.u8 2) :
    (noteStop w q s).acc (q.u8 2) = (s.acc (q.u8 2)).runFrom (128 * s.nextBoundary) := by
  unfold noteStop; extract_lets
  rw [if_pos names, acc_updAcc_self _ _ _ (by rwa [updAcc_length]), acc_updAcc_ne apart.symm]

theorem noteStop_acc_other {w : Waiter} {q : Request} {s : State} {a : Nat} (own : a ≠ q.u8 0)
    (successor : q.bit 1 0 = true → a ≠ q.u8 2) : (noteStop w q s).acc a = s.acc a := by
  unfold noteStop; extract_lets; split
  case isTrue names => rw [acc_updAcc_ne (successor names), acc_updAcc_ne own]
  case isFalse => exact acc_updAcc_ne own ..

/-- Beside its own accumulator, HAM_STOP makes none stop. -/
theorem noteStop_stopping {w : Waiter} {q : Request} {s : State} {a : Nat} (own : a ≠ q.u8 0) :
    ((noteStop w q s).acc a).stopping = (s.acc a).stopping := by
  unfold noteStop; extract_lets; split
  · rw [updAcc_keeps_field Accumulator.stopping, acc_updAcc_ne own]
  · rw [acc_updAcc_ne own]

/-- Where no other accumulator stops, HAM_STOP leads to a review of its own. -/
theorem hamStop_act_alone (w : Waiter) {q : Request} {s : State} (in_range : q.u8 0 < 64)
    (alone : ∀ a, a ≠ q.u8 0 → (s.acc a).stopping = none) :
    hamStopCmd.act w q s = reviewAcc (q.u8 0) (noteStop w q s) := by
  rw [hamStop_act, reviewStops_of_one in_range fun a other => ?_]
  rw [noteStop_stopping other]
  exact alone a other

/-- The stop just noted takes effect at once where it is complete, and waits for its stop frame where it is not. -/
theorem reviewAcc_noteStop {w : Waiter} {q : Request} {s : State} (ha : q.u8 0 < s.ham.accs.length)
    (apart : q.bit 1 0 = true → q.u8 0 ≠ q.u8 2) : reviewAcc (q.u8 0) (noteStop w q s) =
      if s.stopComplete (s.acc (q.u8 0)) (128 * s.nextBoundary) then
        stopAcc (q.u8 0) (if q.bit 1 0 then 2 else 1) (noteStop w q s)
      else noteStop w q s := by
  have own := noteStop_acc_own (w := w) ha apart
  rw [reviewAcc_of_some (congrArg Accumulator.stopping own), noteStop_stopComplete, own]
  cases names : q.bit 1 0 <;> simp only [successorOf, names] <;> rfl

/-- The successor that an accepted HAM_STOP names is another accumulator. -/
theorem hamStop_successor {q : Request} {s : State} (h : accepts hamStopCmd q s = true) (names : q.bit 1 0 = true) :
    q.u8 2 < 64 ∧ q.u8 0 ≠ q.u8 2 := by
  constructor
  · have field := accepts_checks h (within 0 63 (q.u8 2)) (by simp [hamStopCmd, names])
    have range := within_eq_none field
    omega
  · have passed := firstRejection_eq_none (accepts_reject h)
    intro same
    have ready := passed (rejectWhen (q.bit 1 0 ∧ ¬ (served hamStopCmd q s).successorOk (q.u8 0) (q.u8 2)) WRONG_STATE)
      (List.mem_cons_of_mem _ (List.mem_cons_self ..))
    simp [rejectWhen, names, State.successorOk, same] at ready

/-- HAM_STOP with no other accumulator that stops: the accumulator is Idle at once where its stop is complete, else it runs on
to its stop frame. -/
theorem hamStop_stops {q : Request} {s : State} (hz : Sized s) (h : accepts hamStopCmd q s = true)
    (alone : ∀ a, a ≠ q.u8 0 → (s.acc a).stopping = none) :
    let stop := 128 * (served hamStopCmd q s).nextBoundary
    let complete := (served hamStopCmd q s).stopComplete (s.acc (q.u8 0)) stop
    ∃ t, exec (.hamStop q) s = .next t ∧
      (complete = true → answers hamStopCmd q OK [] t ∧
        t.acc (q.u8 0) = (s.acc (q.u8 0)).stopped (if q.bit 1 0 then 2 else 1)) ∧
      (complete = false → (t.session q.sess).st = .running ∧
        t.acc (q.u8 0) = (s.acc (q.u8 0)).stopsAt stop (successorOf q) (acceptedWaiter hamStopCmd q s)) ∧
      (q.bit 1 0 = true → t.acc (q.u8 2) = (s.acc (q.u8 2)).runFrom stop) ∧
      ∀ a, a ≠ q.u8 0 → (q.bit 1 0 = true → a ≠ q.u8 2) → t.acc a = s.acc a := by
  intro stop complete
  let w := acceptedWaiter hamStopCmd q s
  let u := behindRecord hamStopCmd q s
  let v := noteStop w q u
  have in_range : q.u8 0 < 64 := accField_lt h (List.mem_cons_self ..)
  have listed {a : Nat} (ha : a < 64) : a < u.ham.accs.length := by rw [behindRecord_ham]; exact hz.acc_lt ha
  have found (a : Nat) : u.acc a = s.acc a := behindRecord_acc ..
  have apart (names : q.bit 1 0 = true) : q.u8 0 ≠ q.u8 2 := (hamStop_successor h names).2
  have boundary : 128 * u.nextBoundary = stop := by rw [behindRecord_nextBoundary]
  have own : v.acc (q.u8 0) = (s.acc (q.u8 0)).stopsAt stop (successorOf q) w := by
    rw [← found, ← boundary]
    exact noteStop_acc_own (listed in_range) apart
  have acts : hamStopCmd.act w q u = reviewAcc (q.u8 0) v :=
    hamStop_act_alone w in_range fun a other => by rw [found]; exact alone a other
  have decided : reviewAcc (q.u8 0) v = if complete then stopAcc (q.u8 0) (if q.bit 1 0 then 2 else 1) v else v := by
    rw [reviewAcc_noteStop (listed in_range) apart, found, boundary, behindRecord_stopComplete]
  have leaves (a : Nat) : (runRequest hamStopCmd q s).acc a = (reviewAcc (q.u8 0) v).acc a :=
    acc_congr ((runRequest_acts_ham h rfl).trans (congrArg State.ham acts)) a
  refine ⟨_, rfl, fun ended => ?_, fun incomplete => ?_, fun names => ?_, fun a other successor => ?_⟩
  · rw [if_pos ended] at decided
    obtain ⟨x, replies, sessions⟩ := stopAcc_replies (if q.bit 1 0 then 2 else 1) (congrArg Accumulator.stopping own)
    refine ⟨runRequest_acts_answers h rfl hz.1 (acts.trans (decided.trans replies)) (sessions.trans (noteStop_sess ..)), ?_⟩
    rw [leaves, decided, acc_congr (stopAcc_ham ..), acc_updAcc_self _ _ _ (by rw [noteStop_length]; exact listed in_range), own]
    rfl
  · rw [incomplete, if_neg Bool.false_ne_true] at decided
    refine ⟨runRequest_acts_running h rfl hz.1 (acts.trans decided) (noteStop_sess ..), ?_⟩
    rw [leaves, decided, own]
  · rw [leaves, reviewAcc_acc_ne (apart names).symm, ← found, ← boundary]
    exact noteStop_acc_successor names (listed (hamStop_successor h names).1) (apart names)
  · rw [leaves, reviewAcc_acc_ne other, ← found]
    exact noteStop_acc_other other successor

/-! ### HAM_SPILL, HAM_GET_STATUS (R295, R300) -/

/-- HAM_SPILL begins a spill. -/
theorem hamSpill_begins {q : Request} {s : State} (hz : Sized s) (h : accepts hamSpillCmd q s = true) :
    ∃ t, exec (.hamSpill q) s = .next t ∧ (t.session q.sess).st = .running ∧
      t.ham = { s.ham with spill := some { acc := q.u8 0, sections := q.u8 1, dest := q.u64 8, size := q.u64 16
                                           waiter := acceptedWaiter hamSpillCmd q s } } := by
  refine ⟨_, rfl, runRequest_acts_running h rfl hz.1 rfl rfl, ?_⟩
  rw [runRequest_acts_ham h rfl, ← behindRecord_ham hamSpillCmd q s]
  rfl

/-- HAM_GET_STATUS answers with the pages and the accumulators, and changes none of them. -/
theorem hamGetStatus_reads {q : Request} {s : State} (hz : Sized s) (h : accepts hamGetStatusCmd q s = true) :
    ∃ t, exec (.hamGetStatus q) s = .next t ∧ answers hamGetStatusCmd q OK (hamPayload s q) t ∧ t.ham = s.ham := by
  refine ⟨_, rfl, runRequest_reads (fun u => hamPayload u q) h hz.1 rfl fun w u => ⟨_, rfl, rfl, rfl, rfl⟩, ?_⟩
  rw [runRequest_accepts h, acceptRequest_classR rfl]
  exact reply_ham ..

/-- Settles O20: each request, by what its action leads to on the state behind its record. -/
theorem hamperRequests : Obligations.HamperRequests := by
  refine ⟨fun _ _ hz h => hamConfigure_sets hz h, fun _ _ hz h => hamRelease_frees hz h, fun q s hz h => ?_,
    fun q s hz h alone => ?_, fun q s hz h => ?_, fun _ _ hz h => hamGetStatus_reads hz h⟩
  · obtain ⟨t, ht, running, taken, others⟩ := hamStart_clears hz h
    exact ⟨t, _, ht, running, rfl, rfl, taken, others⟩
  · obtain ⟨t, ht, leads⟩ := hamStop_stops hz h alone
    exact ⟨t, _, ht, rfl, rfl, leads⟩
  · obtain ⟨t, ht, running, hamper⟩ := hamSpill_begins hz h
    exact ⟨t, _, ht, running, rfl, rfl, hamper⟩

end Sys2Proof.Machine

/-! The events of the hamper: the end of a clearing, segments that are skipped or combined, and the end of a spill. -/

namespace Sys2Proof.Machine

-- One proof after another, as for group 0x04: proofs elaborated side by side need more memory than the compile may take.
set_option Elab.async false

/-! ### HAMPER_CLEARING_END (R285) -/

/-- An accumulator whose clearing has ended: Ready, or Running from a tick on. -/
def Accumulator.cleared (standby : Bool) (tick : Nat) (x : Accumulator) : Accumulator :=
  { x with clearing := none, st := if standby = true then .ready else .running, from_ := tick * 65536 }

/-- The end of a clearing makes its accumulator Ready or Running from the next frame. -/
theorem hamperClearingEnd_starts (a : Nat) {n : Nat} {s : State} {standby : Bool} {w : Waiter} (hz : Sized s) (hn : n < 64)
    (clears : (s.acc n).clearing = some (standby, w)) :
    ∃ t, exec (.hamperClearingEnd a n) s = .next t ∧
      t.acc n = (s.acc n).cleared standby (128 * (advance a s).nextBoundary) := by
  have ends : exec (.hamperClearingEnd a n) s = .next (reply w OK []
      (updAcc n (Accumulator.cleared standby (128 * (advance a s).nextBoundary)) (advance a s))) := by
    change execHamperClearingEnd a n s = _
    simp only [execHamperClearingEnd, advance_acc, clears]
    rfl
  exact ⟨_, ends, (acc_congr (reply_ham ..) n).trans (acc_updAcc_self _ _ _ (hz.acc_lt hn))⟩

/-! ### The combine (R288 to R290, R294) -/

/-- An accumulator without its cells, and without what the combine notes of their limits. -/
def Accumulator.besideCells (x : Accumulator) : Accumulator := { x with
  sums := [], envelope := [], bins := [], saturated := 0, sumSaturated := false, binSaturated := false, overrange := false }

theorem addSum_besideCells (i : Nat) (v : Int) (c : CombineAcc) : (addSum i v c).acc.besideCells = c.acc.besideCells := by
  unfold addSum; extract_lets
  split
  · rfl
  · split <;> rfl

theorem addBin_besideCells (i : Nat) (c : CombineAcc) : (addBin i c).acc.besideCells = c.acc.besideCells := by
  unfold addBin; extract_lets
  split
  · rfl
  · split <;> rfl

theorem combinePosition_besideCells (rank k : Nat) (vs : List Int) (c : CombineAcc) :
    (combinePosition rank k vs c).acc.besideCells = c.acc.besideCells := by
  unfold combinePosition; extract_lets x i v summed widened bin binned
  have hs : summed.acc.besideCells = c.acc.besideCells := by
    unfold summed; split
    · exact addSum_besideCells ..
    · rfl
  have hw : widened.acc.besideCells = summed.acc.besideCells := by
    unfold widened; split <;> rfl
  have hb : binned.acc.besideCells = widened.acc.besideCells := by
    unfold binned; split
    · exact List.foldlRecOn vs _ (motive := fun c : CombineAcc => c.acc.besideCells = widened.acc.besideCells) rfl
        fun c hc v _ => (addBin_besideCells ..).trans hc
    · rfl
  refine Eq.trans ?_ (hb.trans (hw.trans hs))
  split <;> rfl

/-- What counts a segment taken: the segment count, the sequence numbers and the flags of what it brought (R288, R297). -/
def Accumulator.counted (f : HamSegment) (x : Accumulator) : Accumulator := { x with
  segments := x.segments + 1, lastSeq := f.sequence, firstSeq := if x.segments = 0 then f.sequence else x.firstSeq
  suspectIn := x.suspectIn || f.suspect, unsettledIn := x.unsettledIn || f.unsettled }

/-- Beside the cells, a combine counts its segment and no more. -/
theorem combineSegment_besideCells (f : HamSegment) (x : Accumulator) :
    (combineSegment f x).acc.besideCells = (x.counted f).besideCells := by
  unfold combineSegment; extract_lets c d
  have filled : d.acc.besideCells = x.besideCells := by
    unfold d
    refine List.foldlRecOn _ _ (motive := fun c : CombineAcc => c.acc.besideCells = x.besideCells) rfl fun c hc r _ => ?_
    exact List.foldlRecOn _ _ (motive := fun c : CombineAcc => c.acc.besideCells = x.besideCells) hc
      fun c hc p _ => (combinePosition_besideCells ..).trans hc
  exact congrArg (fun y : Accumulator => { y with
    segments := x.segments + 1, lastSeq := f.sequence, firstSeq := if x.segments = 0 then f.sequence else x.firstSeq
    suspectIn := x.suspectIn || f.suspect, unsettledIn := x.unsettledIn || f.unsettled }) filled

/-- A figure of an accumulator beside its cells is as a combine counts it. -/
theorem combineSegment_field {β : Type} (p : Accumulator → β) (f : HamSegment) (x : Accumulator)
    (hp : ∀ y, p y.besideCells = p y := by intro; rfl) : p (combineSegment f x).acc = p (x.counted f) := by
  rw [← hp, combineSegment_besideCells, hp]

/-! ### One segment is taken (R287 to R290) -/

/-- A segment skipped counts under its reason. -/
def Accumulator.skipping (r : Nat) (x : Accumulator) : Accumulator := { x with skipped := updAt x.skipped r (satInc 32) }

theorem takeSegment_skips {n r : Nat} {f : HamSegment} {s : State} (skips : skipReason f (s.acc n) = some r) :
    takeSegment n f s = updAcc n (Accumulator.skipping r) s := by
  simp only [takeSegment, skips]
  rfl

/-- A segment that is not skipped is combined; the accumulator that then has its count finishes. -/
theorem takeSegment_combines {n : Nat} {f : HamSegment} {s : State} (takes : skipReason f (s.acc n) = none) :
    ∃ u, u.ham = (updAcc n (fun _ => (combineSegment f (s.acc n)).acc) s).ham ∧ takeSegment n f s =
      if (s.acc n).config.count ≠ 0 ∧ (s.acc n).config.count ≤ (s.acc n).segments + 1 then finishCount n f u else u := by
  unfold takeSegment; extract_lets x c u v
  have segments : c.acc.segments = x.segments + 1 := combineSegment_field Accumulator.segments f x
  have found : skipReason f x = none := takes
  simp only [found, segments]
  refine ⟨v, ?_, rfl⟩
  unfold v; split
  · exact record_ham ..
  · rfl

/-- An accumulator that has its count, with or without a successor. -/
def Accumulator.finished (noSuccessor : Bool) (x : Accumulator) : Accumulator :=
  { x with st := .idle, lastReason := 4, byCount := true, noSuccessor := noSuccessor, waiting := [], stopping := none, cut := none
           held := [] }

/-- The successor of an accumulator `x` that finishes with a segment runs from behind its trigger on, with what waits. -/
def Accumulator.takenOver (y : Accumulator) (f : HamSegment) (x : Accumulator) : Accumulator :=
  { y with st := .running, from_ := f.instant + 1, waiting := x.waiting, cut := x.cut
           held := if x.cut.isSome then x.held else y.held }

/-- With a Ready successor of equal configuration, the end of the count hands over to it (R287). -/
theorem finishCount_handsOver {n c : Nat} {f : HamSegment} {s : State} (chain : (s.acc n).config.chain = c) (hc : c < 64)
    (ready : (s.acc c).st = .ready) (same : sameConfig (s.acc n).config (s.acc c).config = true) :
    (finishCount n f s).ham =
      (updAcc c (·.takenOver f (s.acc n)) (updAcc n (Accumulator.finished false) s)).ham := by
  unfold finishCount; extract_lets x t ok u v w
  have follows : ok = true := by
    have named : c ≠ 0xFF := by omega
    simp [ok, t, x, chain, ready, same, named]
  refine ((replyOpt_ham ..).trans (stageBody_ham ..)).trans ?_
  unfold v u
  rw [if_pos follows, follows]
  simp only [t, x, chain]
  rfl

/-! ### SEGMENT_COMBINED (R287 to R292) -/

/-- An accumulator with segments that wait. -/
def Accumulator.holding (l : List HamSegment) (x : Accumulator) : Accumulator := { x with waiting := l }

/-- The oldest segment that an accumulator holds is in hand. -/
def State.inHand (s : State) (a n : Nat) (rest : List HamSegment) : State := updAcc n (Accumulator.holding rest) (advance a s)

theorem inHand_length (s : State) (a n : Nat) (rest : List HamSegment) :
    (s.inHand a n rest).ham.accs.length = s.ham.accs.length := updAcc_length ..

theorem inHand_acc_self (a : Nat) {n : Nat} {s : State} (rest : List HamSegment) (hz : Sized s) (hn : n < 64) :
    (s.inHand a n rest).acc n = (s.acc n).holding rest := acc_updAcc_self _ _ _ (hz.acc_lt hn)

theorem inHand_acc_ne (a : Nat) {n c : Nat} (s : State) (rest : List HamSegment) (other : c ≠ n) :
    (s.inHand a n rest).acc c = s.acc c := acc_updAcc_ne other ..

/-- A running accumulator takes the oldest segment that it holds; a review of the stops follows. -/
theorem exec_segmentCombined (a : Nat) {n : Nat} {s : State} {f : HamSegment} {rest : List HamSegment}
    (holds : (s.acc n).waiting = f :: rest) (runs : (s.acc n).st = .running) :
    exec (.segmentCombined a n) s = .next (reviewStops (takeSegment n f (s.inHand a n rest))) := by
  change execSegmentCombined a n s = _
  simp only [execSegmentCombined, advance_acc, holds, runs, if_true]
  rfl

/-- A segment is skipped and counts under its reason. -/
theorem segmentCombined_skips (a : Nat) {n r : Nat} {s : State} {f : HamSegment} {rest : List HamSegment} (hz : Sized s)
    (hn : n < 64) (holds : (s.acc n).waiting = f :: rest) (runs : (s.acc n).st = .running)
    (goes_on : (s.acc n).stopping = none) (skips : skipReason f (s.acc n) = some r) :
    ∃ t, exec (.segmentCombined a n) s = .next t ∧ t.acc n = ((s.acc n).holding rest).skipping r := by
  refine ⟨_, exec_segmentCombined a holds runs, ?_⟩
  have own := inHand_acc_self a rest hz hn
  have taken : (takeSegment n f (s.inHand a n rest)).acc n = ((s.acc n).holding rest).skipping r := by
    rw [takeSegment_skips (r := r) (by rw [own]; exact skips),
      acc_updAcc_self _ _ _ (by rw [inHand_length]; exact hz.acc_lt hn), own]
  rw [reviewStops_acc_of_none (by rw [taken]; exact goes_on), taken]

/-- A segment that is not skipped is combined, and the accumulator with its count finishes (R287). -/
theorem segmentCombined_takes (a : Nat) {n : Nat} {s : State} {f : HamSegment} {rest : List HamSegment} (hz : Sized s)
    (hn : n < 64) (holds : (s.acc n).waiting = f :: rest) (runs : (s.acc n).st = .running)
    (takes : skipReason f (s.acc n) = none) :
    ∃ u, exec (.segmentCombined a n) s = .next (reviewStops
        (if (s.acc n).config.count ≠ 0 ∧ (s.acc n).config.count ≤ (s.acc n).segments + 1 then finishCount n f u else u)) ∧
      u.ham.accs.length = s.ham.accs.length ∧ u.acc n = (combineSegment f ((s.acc n).holding rest)).acc ∧
      ∀ c, c ≠ n → u.acc c = s.acc c := by
  have own := inHand_acc_self a rest hz hn
  obtain ⟨u, hamper, combines⟩ := takeSegment_combines (n := n) (f := f) (s := s.inHand a n rest) (by rw [own]; exact takes)
  rw [own] at hamper combines
  refine ⟨u, (exec_segmentCombined a holds runs).trans (by rw [combines]; rfl), ?_, ?_, fun c other => ?_⟩
  · rw [hamper, updAcc_length, inHand_length]
  · rw [acc_congr hamper, acc_updAcc_self _ _ _ (by rw [inHand_length]; exact hz.acc_lt hn)]
  · rw [acc_congr hamper, acc_updAcc_ne other, inHand_acc_ne a s rest other]

/-- Short of its count, an accumulator combines a segment and runs on. -/
theorem segmentCombined_combines (a : Nat) {n : Nat} {s : State} {f : HamSegment} {rest : List HamSegment} (hz : Sized s)
    (hn : n < 64) (holds : (s.acc n).waiting = f :: rest) (runs : (s.acc n).st = .running)
    (goes_on : (s.acc n).stopping = none)
    (short : (s.acc n).config.count = 0 ∨ (s.acc n).segments + 1 < (s.acc n).config.count)
    (takes : skipReason f (s.acc n) = none) :
    ∃ t, exec (.segmentCombined a n) s = .next t ∧ t.acc n = (combineSegment f ((s.acc n).holding rest)).acc := by
  obtain ⟨u, runs_on, -, taken, -⟩ := segmentCombined_takes a hz hn holds runs takes
  rw [if_neg (by omega)] at runs_on
  refine ⟨_, runs_on, ?_⟩
  rw [reviewStops_acc_of_none, taken]
  rw [taken, combineSegment_field Accumulator.stopping]
  exact goes_on

/-- With the segment that brings the count, a Ready successor of equal configuration takes over. -/
theorem segmentCombined_handsOver (a : Nat) {n c : Nat} {s : State} {f : HamSegment} {rest : List HamSegment} (hz : Sized s)
    (hn : n < 64) (holds : (s.acc n).waiting = f :: rest) (runs : (s.acc n).st = .running)
    (brings : (s.acc n).config.count = (s.acc n).segments + 1) (takes : skipReason f (s.acc n) = none) (hc : c < 64)
    (chain : c = (s.acc n).config.chain) (ready : (s.acc c).st = .ready) (stays : (s.acc c).stopping = none)
    (same : sameConfig (s.acc n).config (s.acc c).config = true) :
    let x := (combineSegment f ((s.acc n).holding rest)).acc
    ∃ t, exec (.segmentCombined a n) s = .next t ∧ t.acc n = x.finished false ∧ t.acc c = (s.acc c).takenOver f x := by
  intro x
  have apart : c ≠ n := by rintro rfl; simp [ready] at runs
  obtain ⟨u, ends, length, own, others⟩ := segmentCombined_takes a hz hn holds runs takes
  rw [if_pos (by omega)] at ends
  have successor : u.acc c = s.acc c := others c apart
  have config : (u.acc n).config = (s.acc n).config := by rw [own]; exact combineSegment_field Accumulator.config ..
  have hamper := finishCount_handsOver (n := n) (c := c) (f := f) (s := u) (by rw [config, chain]) hc (by rw [successor, ready])
    (by rw [config, successor, same])
  have finishes : (finishCount n f u).acc n = x.finished false := by
    rw [acc_congr hamper, acc_updAcc_ne apart.symm, acc_updAcc_self _ _ _ (by rw [length]; exact hz.acc_lt hn), own]
  have begins : (finishCount n f u).acc c = (s.acc c).takenOver f x := by
    rw [acc_congr hamper, acc_updAcc_self _ _ _ (by rw [updAcc_length, length]; exact hz.acc_lt hc), acc_updAcc_ne apart,
      successor, own]
  refine ⟨_, ends, ?_, ?_⟩
  · rw [reviewStops_acc_of_none (by rw [finishes]; rfl), finishes]
  · rw [reviewStops_acc_of_none (by rw [begins]; exact stays), begins]

/-! ### SPILL_DONE (R295, R297) -/

/-- Bytes stored in the user region are read back. -/
theorem memBytes_memWrite {a : Nat} {bs : List Byte} {s : State} (fits : a + bs.length ≤ min s.userSize addressSpace) :
    (memWrite a bs s).memBytes a bs.length = bs := by
  rw [memBytes_eq]
  refine List.ext_getElem (by simp) fun i _ hi => ?_
  rw [List.getElem_map, List.getElem_range, readCell_memWrite]
  dsimp only
  rw [if_pos (by omega), Nat.add_sub_cancel_left, List.getD_eq_getElem?_getD, List.getElem?_eq_getElem hi, Option.getD_some]

theorem memBytes_congr {s t : State} (h : t.mem = s.mem) (a n : Nat) : t.memBytes a n = s.memBytes a n := by
  simp only [State.memBytes, h]

theorem spillHeader_length (p : Spill) (x : Accumulator) : (spillHeader p x).length = 64 := by
  simp [spillHeader]

/-- A spill ends with the store of its header; what it stores before leaves the hamper and the size of the user region. -/
theorem writeSpill_eq (p : Spill) (x : Accumulator) (s : State) : ∃ v, writeSpill p x s = memWrite p.dest (spillHeader p x) v ∧
    v.ham = s.ham ∧ v.userSize = s.userSize := by
  unfold writeSpill; extract_lets size u v
  refine ⟨v, rfl, ?_, ?_⟩
  · unfold v; split
    · exact forAll_same State.ham ..
    · rfl
  · unfold v; split
    · exact forAll_same State.userSize ..
    · rfl

/-- SPILL_DONE: the spill is over, and its header stands in memory. -/
theorem spillDone_ends (a : Nat) {s : State} {p : Spill} (spills : s.ham.spill = some p) (serves : s.memServes = true)
    (fits : p.dest + spillSize (s.acc p.acc) p.sections ≤ s.userSize) (small : s.userSize ≤ addressSpace) :
    ∃ t, exec (.spillDone a) s = .next t ∧ t.ham.spill = none ∧ t.memBytes p.dest 64 = spillHeader p (s.acc p.acc) := by
  let u : State := { advance a s with ham := { s.ham with spill := none } }
  have ends : exec (.spillDone a) s = .next (reply p.waiter OK (u64 (spillSize (s.acc p.acc) p.sections))
      (writeSpill p (s.acc p.acc) u)) := by
    change execSpillDone a s = _
    simp only [execSpillDone, advance_ham, spills, advance_memServes, serves]
    rfl
  obtain ⟨v, stores, hamper, size⟩ := writeSpill_eq p (s.acc p.acc) u
  have room : p.dest + (spillHeader p (s.acc p.acc)).length ≤ min v.userSize addressSpace := by
    have region : v.userSize = s.userSize := size
    rw [spillHeader_length, region]
    unfold spillSize at fits
    omega
  refine ⟨_, ends, ?_, ?_⟩
  · rw [reply_ham, stores]
    exact congrArg HamState.spill hamper
  · rw [memBytes_congr (reply_mem ..), stores, ← spillHeader_length p (s.acc p.acc)]
    exact memBytes_memWrite room

/-- Settles O21: each event, by what it does to the accumulators that it is of. -/
theorem hamperEvents : Obligations.HamperEvents := by
  refine ⟨fun a n s standby w hz hn clears => hamperClearingEnd_starts a hz hn clears,
    fun a n s f rest hz hn holds runs goes_on short => ?_,
    fun a n s f rest c hz hn holds runs goes_on brings takes hc chain ready stays same => ?_,
    fun a s p _ spills serves fits small => spillDone_ends a spills serves fits small⟩
  · split
    case h_1 r skips =>
      obtain ⟨t, ht, skipped⟩ := segmentCombined_skips a hz hn holds runs goes_on skips
      exact ⟨t, ht, congrArg Accumulator.waiting skipped, (congrArg Accumulator.st skipped).trans runs, skipped⟩
    case h_2 takes =>
      obtain ⟨t, ht, combined⟩ := segmentCombined_combines a hz hn holds runs goes_on short takes
      refine ⟨t, ht, ?_⟩
      rw [combined, combineSegment_field Accumulator.waiting, combineSegment_field Accumulator.st,
        combineSegment_field Accumulator.segments, combineSegment_field Accumulator.lastSeq,
        combineSegment_field Accumulator.skipped]
      exact ⟨rfl, runs, rfl, rfl, rfl, rfl⟩
  · obtain ⟨t, ht, ends, begins⟩ := segmentCombined_handsOver a hz hn holds runs brings takes hc chain ready stays same
    refine ⟨t, ht, ?_⟩
    rw [ends, begins]
    exact ⟨rfl, rfl, rfl, (combineSegment_field Accumulator.segments f ((s.acc n).holding rest)).trans brings.symm,
      combineSegment_field Accumulator.lastSeq f ((s.acc n).holding rest), rfl, rfl, rfl,
      combineSegment_field Accumulator.waiting ..⟩

end Sys2Proof.Machine
